-- ==== Sys2Proof/Word.lean ====
section
/-! DEFINITION. The word of the register map, the byte, and the place of a field in a register
(the Bits column of the spec's field tables, 00_scope.md R7). -/

namespace Sys2Proof

/-- A 32-bit register or DWX word. -/
abbrev Word := BitVec 32

/-- A byte of a memory, a ring or a message. -/
abbrev Byte := BitVec 8

/-- The place of a field in a register: its lowest bit and its width. -/
structure Fld where
  lo : Nat
  width : Nat
  deriving DecidableEq, Repr

/-- A port number, P00 to P95. -/
abbrev PortId := Fin 96

/-- An engine number, SE0 to SE12. -/
abbrev EngId := Fin 13

/-- A DWX core: 0 to 12 are SE0 to SE12, 13 is the control pair. -/
abbrev CoreId := Fin 14

/-- A front die, F0 to F3. -/
abbrev DieId := Fin 4

end Sys2Proof
end

