-- ==== Sys2Proof/Syntax.lean ====
section
/-! DEFINITION. The commands of the block: one constructor per row of spec/opcode_table.json, with
the row's operands. A row of a host command carries the entry's header (08 Table HST-5) and the
payload's fields (09); a row of a hardware event carries what the event brings from outside. -/

namespace Sys2Proof

/-- Header of a host command entry (08 Table HST-5): TAG, PORT (255: names no port) and FENCE. -/
structure Hdr where
  tag : Nat
  port : Nat
  fence : Bool
  deriving DecidableEq, Repr

/-- The feeds of 05 R153. -/
inductive Feed where
  | a | b | p
  deriving DecidableEq, Repr

/-- The form of a DWX instruction (13 R344 to R346): wide, compact short, compact long. -/
inductive Form where
  | wide | short | long
  deriving DecidableEq, Repr

/-- The timers a row acts on: the control-die block (14 R375) or an engine's four (14 R376). -/
inductive TmrBlk where
  | control
  | engine (e : EngId)
  deriving DecidableEq, Repr

/-- What a two-wire controller finds on its bus before a START (15 R386): free; SDA held and first high
after so many clock pulses; SCL held low for 25 ms. -/
inductive BusCheck where
  | free
  | sdaHeld (pulses : Nat)
  | sclLow
  deriving DecidableEq, Repr

/-- What the SD host brings (17 R419): an error, a file not found, or the next bytes of the file. -/
inductive CardRead where
  | error
  | notFound
  | data (bytes : List Byte)
  deriving DecidableEq, Repr

/-- The commands of the block. -/
inductive Instr where

  /-- HELLO: Host command that negotiates a mailbox protocol version and opens a session, closing any open one first. (R225) -/
  | hello (h : Hdr) (minver maxver : Nat)
  /-- GOODBYE: Host command that closes the open session, acting with FENCE set. (R226) -/
  | goodbye (h : Hdr)
  /-- IDENTIFY: Host command that returns the firmware version, class, lifecycle, slots and fused anti-rollback level. (R247) -/
  | identify (h : Hdr)
  /-- ECHO: Host command that returns the first 16 payload bytes. (R247) -/
  | echo (h : Hdr) (payload : List Byte)
  /-- TIME_SYNC: Host command that returns the device times at which the entry was consumed and the completion was written. (R247) -/
  | timeSync (h : Hdr) (consumed : Nat)
  /-- PORT_CONFIG: Host command that writes port role, Type-C timer and flag fields, each taking effect at once, at the next DETACHED entry, or only in PARKED. (R249) -/
  | portConfig (h : Hdr) (mask : Nat) (fields : List Byte)
  /-- PORT_ENABLE: Host command that moves a PARKED port to DETACHED, or that is kept for the end of a bind-off. (R250) -/
  | portEnable (h : Hdr)
  /-- PORT_DISABLE: Host command that moves a port to PARKED, directly, through a bind-off, or after VBUS falls below vSafe0V. (R250) -/
  | portDisable (h : Hdr)
  /-- PORT_STATUS: Host command that returns the port's state, identity or a kept received VDM page. (R251) -/
  | portStatus (h : Hdr) (page sopt vdmnum boff : Nat)
  /-- PORT_SWAP: Host command that asks the engine to initiate a PR_Swap, DR_Swap or VCONN_Swap. (R252) -/
  | portSwap (h : Hdr) (kind : Nat)
  /-- PORT_CAPS: Host command that replaces the port's offered power data objects, optionally sending them at once. (R253) -/
  | portCaps (h : Hdr) (spr epr : List Word) (apply : Bool)
  /-- PORT_HARD_RESET: Host command that sends a Hard Reset or a Cable Reset on the port. (R254) -/
  | portHardReset (h : Hdr) (kind : Nat)
  /-- PORT_CLEAR_RETRY: Host command that clears the port's retry state and ends any retry interval or hold. (R255) -/
  | portClearRetry (h : Hdr)
  /-- PORT_CAPTIVE: Host command that writes captive-mode fields and may clear the identity record. (R256) -/
  | portCaptive (h : Hdr) (captEn prearmEn : Bool) (captDeb : Nat) (clearRec : Bool)
  /-- VDM_SEND: Host command that sends a VDM on SOP, SOP' or SOP'' and completes from the partner's response. (R119) -/
  | vdmSend (h : Hdr) (sopt : Nat) (objs : List Word) (rboff : Nat)
  /-- VDM_RESPOND: Host command that answers a structured VDM routed to the host. (R258) -/
  | vdmRespond (h : Hdr) (sopt vdmnum : Nat) (objs : List Word)
  /-- MSG_SEND: Host command that sends one of the permitted PD messages and completes on its answer or GoodCRC. (R259) -/
  | msgSend (h : Hdr) (sopt msg : Nat) (data : List Byte) (rboff : Nat)
  /-- AUTH_CHALLENGE: Host command that runs the Type-C Authentication digests, certificate and challenge exchange as initiator. (R120) -/
  | authChallenge (h : Hdr) (sopt slot rboff : Nat)
  /-- DISCOVER: Host command that sends Discover Identity, SVIDs or Modes and returns the answer. (R257) -/
  | discover (h : Hdr) (sopt kind svid rboff : Nat)
  /-- CADDY_FEEDS: Host command that writes feed limits and the efficiency table, effective at the next row boundary. (R262) -/
  | caddyFeeds (h : Hdr) (mask lima limb limp : Nat) (eff : List Word)
  /-- CADDY_CLASS: Host command that writes a port's class, reservation level and PMIN. (R262) -/
  | caddyClass (h : Hdr) (cls v5 pmin : Nat)
  /-- CADDY_STATUS: Host command that returns ledger state and optionally writes a snapshot copied at one row boundary. (R262) -/
  | caddyStatus (h : Hdr) (boff : Nat)
  /-- CADDY_ROW: Host command that writes the row length and ROW_SYNC configuration. (R262) -/
  | caddyRow (h : Hdr) (rowcfg : Word)
  /-- CADDY_SHED: Host command that writes the shed deadline, least limit, pool size and upgrade hold. (R262) -/
  | caddyShed (h : Hdr) (mask : Nat) (shed : Word) (poolsz hold : Nat)
  /-- PATH_CURVE: Host command that writes breaker curve points and commits them. (R264) -/
  | pathCurve (h : Hdr) (npts cool : Nat) (points : List Word)
  /-- PATH_LIMITS: Host command that writes path limits, rating percentage, retry maximum and converter calibration. (R263) -/
  | pathLimits (h : Hdr) (mask : Nat) (fields : List Nat)
  /-- PATH_STATUS: Host command that returns path status and optionally clears the cause bits. (R261) -/
  | pathStatus (h : Hdr) (clear : Bool)
  /-- FEED_PRIORITY: Host command that writes the feed order, windows and FEED_P port, acting on the feed logic at once. (R262) -/
  | feedPriority (h : Hdr) (mask : Nat) (ctl wina winb winp : Word) (pport : Nat)
  /-- TEL_CONFIG: Host command that writes a port's or the system's telemetry enables, k and thresholds. (R266) -/
  | telConfig (h : Hdr) (mask : Nat) (words : List Word)
  /-- TEL_START: Host command that starts telemetry streaming at the next frame boundary. (R266) -/
  | telStart (h : Hdr)
  /-- TEL_STOP: Host command that stops streaming at the next boundary and completes after the STOP marker. (R202) -/
  | telStop (h : Hdr)
  /-- TEL_SNAPSHOT: Host command that returns the latest sample codes of a port or of the system channels. (R265) -/
  | telSnapshot (h : Hdr)
  /-- EVT_ROUTE: Host command that writes the vector of a range of event sources. (R266) -/
  | evtRoute (h : Hdr) (first count vec : Nat)
  /-- EVT_MASK: Host command that writes the enable of a range of event sources, source 1,152 staying enabled. (R266) -/
  | evtMask (h : Hdr) (first count : Nat) (en : Bool)
  /-- UPD_FROM_CARD: Host command that reads an image from the SD card into the other slot and optionally activates it. (R420) -/
  | updFromCard (h : Hdr) (act : Nat) (name : List Byte)
  /-- UPD_BEGIN: Host command that checks an image header, erases the target header sector and opens a streamed update. (R418) -/
  | updBegin (h : Hdr) (len boff : Nat)
  /-- UPD_BLOCK: Host command that checks and writes one image block in sequence. (R269) `verified`: the read-back of the written block matches. -/
  | updBlock (h : Hdr) (index boff blen : Nat) (verified : Bool)
  /-- UPD_END: Host command that verifies the image signature and writes the header, making the slot ready. (R418) `verified`: the read-back of the written header matches. -/
  | updEnd (h : Hdr) (verified : Bool)
  /-- UPD_ACTIVATE: Host command that writes the boot table for trial and restarts into the ready image, hitless or cold. (R422) -/
  | updActivate (h : Hdr) (mode : Nat)
  /-- UPD_STATE: Host command that returns the update state, slot, next block and trial time. (R418) -/
  | updState (h : Hdr)
  /-- UPD_ABORT: Host command that cancels an outstanding update and marks an unactivated update abandoned. (R269) -/
  | updAbort (h : Hdr)
  /-- SYS_RESTART: Host command that completes and then makes a warm or cold start 1 ms later. (R270) -/
  | sysRestart (h : Hdr) (kind : Nat)
  /-- SYS_HEALTH: Host command that returns degraded conditions, ECC and lockstep counts, temperatures and uptime. (R267) -/
  | sysHealth (h : Hdr)
  /-- SYS_SETTINGS_SAVE: Host command that writes the running configuration to both flash settings copies. (R278) `okOld` and `okNew`: the older and the newer copy verify after they are written. -/
  | sysSettingsSave (h : Hdr) (okOld okNew : Bool)
  /-- SYS_SETTINGS_DEFAULT: Host command that writes the default settings to both flash copies without changing the running configuration. (R278) `okOld` and `okNew`: the older and the newer copy verify after they are written. -/
  | sysSettingsDefault (h : Hdr) (okOld okNew : Bool)
  /-- SYS_LOG_READ: Host command that copies bytes of the flash log area to the bulk area. (R267) -/
  | sysLogRead (h : Hdr) (offset boff blen : Nat)
  /-- SYS_PERF: Host command that reports load and rates and optionally sets the fabric arbitration mode. (R238) -/
  | sysPerf (h : Hdr) (set mode : Nat)
  /-- OTP_READ: Host command that reads up to three fuse words with their ECC status. (R267) -/
  | otpRead (h : Hdr) (word count : Nat)
  /-- OTP_PROGRAM: Host command that checks and programs or reburns one fuse word by pulse and verify. (R398) -/
  | otpProgram (h : Hdr) (word : Nat) (value : Word)
  /-- OTP_MARGIN_SCAN: Host command that starts a margin scan of the fuse array or reports the last one. (R402) -/
  | otpMarginScan (h : Hdr) (action : Nat)
  /-- OTP_LOCK: Host command that programs the three fuses of a region's write or read lock. (R403) -/
  | otpLock (h : Hdr) (region kind : Nat)
  /-- BUS_XFER: Host command that carries out a two-wire transfer on BC0 or BC1. (R389) -/
  | busXfer (h : Hdr) (bus addr wlen rlen : Nat) (rstart : Bool) (boff : Nat) (wdata : List Byte) (check : BusCheck)
  /-- READ: QSPI READ instruction that returns host-window bytes, each aligned word as one snapshot. (R211) -/
  | read (addr len : Nat)
  /-- WRITE: QSPI WRITE instruction that writes host-window bytes in order, discarding writes to read-only regions. (R212) -/
  | write (addr : Nat) (data : List Byte)
  /-- READ_STATUS: QSPI instruction that repeats the link status byte while HQ_CS_N is low. (R210) -/
  | readStatus
  /-- ENTER_QUAD: QSPI instruction that switches the link to quad I/O from the next transaction. (R210) -/
  | enterQuad
  /-- EXIT_QUAD: QSPI instruction that switches the link to single I/O from the next transaction. (R210) -/
  | exitQuad
  /-- RESET_ENABLE: QSPI instruction that arms the link reset for the next transaction. (R210) -/
  | resetEnable
  /-- RESET_LINK: QSPI instruction that, after RESET_ENABLE, returns the link to the strap mode and clears ERRCNT. (R210) -/
  | resetLink
  /-- UNKNOWN_LINK_INSTRUCTION: A transaction whose first byte is not a known instruction is ignored and counted in ERRCNT. (R210) -/
  | unknownLinkInstruction (code : Byte)
  /-- DB_CMD_TAIL_WRITE: A host write of the command producer index raises the control pair's doorbell so it consumes the new entries in order. (R217) -/
  | dbCmdTailWrite (v : Word)
  /-- DB_CPL_HEAD_WRITE: A host write of the completion consumer index frees completion entries. (R217) -/
  | dbCplHeadWrite (v : Word)
  /-- DB_EVT_HEAD_WRITE: A host write of the event consumer index frees event entries. (R217) -/
  | dbEvtHeadWrite (v : Word)
  /-- DB_TEL_ROFF_WRITE: A host write of the telemetry read offset frees ring space and may end a drop. (R204) -/
  | dbTelRoffWrite (v : Word)
  /-- DB_VPEND_CLEAR: A host write of 1 to a pending-vector bit clears it and may release its alert pin. (R234) -/
  | dbVpendClear (hi : Bool) (v : Word)
  /-- ALERT_HOLDOFF_EXPIRY: A vector pending for HOLDn µs drives its ALERTn_N pin low. (R234) -/
  | alertHoldoffExpiry (v : Fin 64)
  /-- REGISTER_WRITE: A write to a register field without behaviour of its own takes effect by the field's access code. (R7) -/
  | registerWrite (addr : Nat) (v : Word)
  /-- MT_ADDRESS_MATCH: A START and address on the management target that matches ADDR1, ADDR2 or the mask begins a transaction. (R378) -/
  | mtAddressMatch (addr : Fin 128) (read : Bool)
  /-- MT_DATA_BYTE: A data byte on the management target sets the pointer, writes a register at its highest byte, or is sent from a snapshot. (R379) -/
  | mtDataByte (b : Byte)
  /-- MT_TRANSACTION_TIMEOUT: A management-target transaction that has not advanced for 25 ms is ended and the lines released. (R382) -/
  | mtTransactionTimeout
  /-- MT_STANDBY_MATCH: An address match in standby is acknowledged, SCL is stretched and the device is woken. (R381) -/
  | mtStandbyMatch (addr : Fin 128) (read : Bool)
  /-- MT_RECOVER_LINK_RESET: A keyed MT_RECOVER write with action link reset resets the QSPI link as RESET_LINK. (R230) -/
  | mtRecoverLinkReset
  /-- MT_RECOVER_WARM_START: A keyed MT_RECOVER write with action warm start makes a warm start in STATUS 000 or 111. (R230) -/
  | mtRecoverWarmStart
  /-- MT_RECOVER_COLD_START: A keyed MT_RECOVER write with action cold start makes a cold start except in STATUS 101 and 110. (R230) -/
  | mtRecoverColdStart
  /-- EVENT_QUEUE_SPACE: When a port's event queue has room again, the engine moves held events into it in order. (R236) -/
  | eventQueueSpace (p : PortId)
  /-- FABRIC_TRANSFER_GRANT: The fabric arbiter grants one pending port transfer toward the control pair by round robin or deficit. (R237) -/
  | fabricTransferGrant
  /-- CMP_STRAINER_SAMPLE: A comparator slot's strainer takes a sample, updates its strained output and decoded CC pattern. (R58) -/
  | cmpStrainerSample (p : PortId) (slot : Fin 8) (raw : Bool)
  /-- DEB_DONE: The attach debounce count completes, and the port casts on, waits for discharge or waits for a retry. (R68) -/
  | debDone (p : PortId)
  /-- PDDEB_EXPIRY: A non-attach pattern lasting PDDEB returns an ATTACH_WAIT port to DETACHED and returns any pre-arm reservation. (R67) -/
  | pddebExpiry (p : PortId)
  /-- TRIPPED_DETACH: A non-attach pattern lasting PDDEB in TRIPPED or RETRY_WAIT moves the port to DETACHED once VBUS is below vSafe0V. (R148) -/
  | trippedDetach (p : PortId)
  /-- HARDWARE_DETACH: The watched HI slot raw output holding 1 for TDETACH makes the front die open the path, discharge and enter BINDING_OFF. (R72) -/
  | hardwareDetach (p : PortId)
  /-- DRP_PHASE_TOGGLE: Hardware DRP alternation switches both pins between Rp and Rd by DUTY of TDRP. (R69) -/
  | drpPhaseToggle (p : PortId)
  /-- TDRPTRY_EXPIRY: tDRPTry expires in a Try state and the port moves to its TryWait state or resumes alternation. (R69) -/
  | tdrptryExpiry (p : PortId)
  /-- TTRYDEB_EXPIRY: A pattern lasting tTryCCDebounce in a Try or TryWait state attaches the port. (R69) -/
  | ttrydebExpiry (p : PortId)
  /-- CC_CTL_WRITE: A CC_CTL write changes terminations and, with AUTO_THR, loads the CC slot thresholds. (R74) -/
  | ccCtlWrite (p : PortId) (v : Word)
  /-- CMP_STR_WRITE: A CMP_STRn write sets the strainer and fills its history with the present strained output. (R58) -/
  | cmpStrWrite (p : PortId) (slot : Fin 8) (v : Word)
  /-- VCONN_CTL_WRITE: A VCONN_CTL write switches VCONN, refused when the pin equals the oriented pin. (R73) -/
  | vconnCtlWrite (p : PortId) (v : Word)
  /-- VCONN_OCP: The VCONN current limit active for 1 ms opens the switch and sets OCP. (R73) -/
  | vconnOcp (p : PortId)
  /-- VCONN_AGG_OFF: Die VCONN current above 2.0 A for 100 µs opens the highest-current switch and sets AGG_OFF. (R73) -/
  | vconnAggOff (p : PortId)
  /-- VCONN_REV: The VCONN pin above VCN_Fn by 0.3 V for 10 µs opens the switch and sets REV. (R73) -/
  | vconnRev (p : PortId)
  /-- VCONN_DISCHARGE_DONE: The VCONN pin falls below 0.4 V, the discharge ends and the pin's termination returns. (R73) -/
  | vconnDischargeDone (p : PortId)
  /-- REQUEST_RECEIVED: A valid Request is submitted to the caddy, or rejected when it does not match an offered object. (R105) `rev` is the Specification Revision code of the message header. -/
  | requestReceived (p : PortId) (rdo : Word) (rev : Nat)
  /-- EPR_REQUEST_RECEIVED: An EPR_Request is submitted to the caddy, or accepted without a row on a pre-armed match. (R109) -/
  | eprRequestReceived (p : PortId) (rdo pdo : Word)
  /-- SOFT_RESET_RECEIVED: A received Soft_Reset resets the context's MessageIDs, ends its transmission and restarts negotiation. (R98) -/
  | softResetReceived (p : PortId) (ctx : Fin 3)
  /-- HARD_RESET_RECEIVED: A received Hard Reset ordered set resets all three contexts and starts the source Hard Reset sequence. (R99) -/
  | hardResetReceived (p : PortId)
  /-- CABLE_RESET_RECEIVED: A received Cable Reset has no effect and is not counted. (R84) -/
  | cableResetReceived (p : PortId)
  /-- GOODCRC_RECEIVED: A GoodCRC with the matching MessageID ends the transmission with RESULT sent and advances TX_ID. (R91) -/
  | goodcrcReceived (p : PortId) (ctx : Fin 3) (msgid : Nat)
  /-- PD_MESSAGE_RECEIVED: An accepted PD message is stored, counted as duplicate, or refused for lack of a buffer, and handed to policy. (R94) -/
  | pdMessageReceived (p : PortId) (ctx : Fin 3) (msg : List Byte) (crcOk : Bool)
  /-- CHUNK_RECEIVED: A chunk of an extended message is reassembled and answered with a Chunk Request for the next. (R97) -/
  | chunkReceived (p : PortId) (ctx : Fin 3) (msg : List Byte)
  /-- CHUNK_REQUEST_RECEIVED: A partner's Chunk Request makes the hardware send the next chunk. (R97) -/
  | chunkRequestReceived (p : PortId) (ctx : Fin 3) (chunk : Nat)
  /-- EPR_MODE_ENTER: EPR_Mode (Enter) is acknowledged and answered Succeeded or Failed after four checks. (R110) -/
  | eprModeEnter (p : PortId)
  /-- EPR_MODE_EXIT: EPR_Mode (Exit) makes the engine send SPR Source_Capabilities and clear EPR. (R111) -/
  | eprModeExit (p : PortId)
  /-- EPR_KEEPALIVE: An EPR_KeepAlive restarts the keep-alive timer and is answered, by hardware when KA_ACK is set and the engine is not running. (R111) -/
  | eprKeepalive (p : PortId)
  /-- PR_SWAP: A received PR_Swap is admitted or refused and, once accepted, runs the power-role swap sequence. (R116) -/
  | prSwap (p : PortId)
  /-- DR_SWAP: A received DR_Swap is admitted, refused or answered with Hard Reset while a mode is entered. (R117) -/
  | drSwap (p : PortId)
  /-- VCONN_SWAP: A received VCONN_Swap turns VCONN on or off after admission. (R117) -/
  | vconnSwap (p : PortId)
  /-- PS_RDY_RECEIVED: The partner's PS_RDY advances a PR_Swap or VCONN_Swap, or records a sink contract. (R116) -/
  | psRdyReceived (p : PortId)
  /-- VENDOR_DEFINED_RECEIVED: A received VDM is answered by the engine or routed to the host. (R118) -/
  | vendorDefinedReceived (p : PortId) (ctx : Fin 3) (objs : List Word)
  /-- CABLE_DISCOVER_IDENTITY_REPLY: The cable's reply on SOP' records its current, voltage and EPR capability. (R113) `curr` in 100 mA, `volt` in V, `rev` the byte that PD_REV takes. -/
  | cableDiscoverIdentityReply (p : PortId) (curr volt : Nat) (epr : Bool) (rev : Nat)
  /-- GET_REVISION_REPLY: The partner's Revision reply, or Not_Supported, is recorded in PD_REV.PARTNER. (R102) -/
  | getRevisionReply (p : PortId) (rev : Option Nat)
  /-- BIST_CARRIER_MODE: A BIST Carrier Mode message at vSafe5V makes the PHY send the carrier for tBISTContMode. (R121) -/
  | bistCarrierMode (p : PortId)
  /-- BIST_TEST_DATA: A BIST Test Data message makes the hardware acknowledge and discard later SOP messages until a Hard Reset. (R121) -/
  | bistTestData (p : PortId)
  /-- SECURITY_REQUEST_RECEIVED: A Security_Request from the partner is answered with Not_Supported. (R120) -/
  | securityRequestReceived (p : PortId) (ctx : Fin 3)
  /-- FR_SWAP_RECEIVED: An FR_Swap message is answered with Not_Supported. (R5) -/
  | frSwapReceived (p : PortId)
  /-- ALERT_RECEIVED: A received Alert message is posted to the host as ALERT_RX. (R273) -/
  | alertReceived (p : PortId) (ado : Word)
  /-- CTX_TXCMD_SEND: An engine SEND write starts a transmission with the next MessageID, or is refused with OVR. (R90) -/
  | ctxTxcmdSend (p : PortId) (ctx : Fin 3) (buf : Fin 2) (ams : Bool)
  /-- LINE_IDLE_TRANSMIT: The line becomes idle and the PHY sends the waiting frame on the oriented pin. (R85) -/
  | lineIdleTransmit (p : PortId)
  /-- PD_SIGNAL_HARD_RESET: An engine write of HARD_RESET sends the Hard Reset ordered set when the line is idle. (R100) -/
  | pdSignalHardReset (p : PortId)
  /-- PD_SIGNAL_CABLE_RESET: An engine write of CABLE_RESET sends Cable Reset and cycles VCONN. (R98) -/
  | pdSignalCableReset (p : PortId)
  /-- PD_SIGNAL_BIST_CM: An engine write of BIST_CM starts the BIST carrier on a port in test use. (R121) -/
  | pdSignalBistCm (p : PortId)
  /-- PD_RXREL_WRITE: An engine write of PD_RXREL frees receive buffers. (R88) -/
  | pdRxrelWrite (p : PortId) (v : Word)
  /-- PD_TMRSTART_WRITE: An engine write of PD_TMRSTART starts or restarts engine timer slots. (R122) -/
  | pdTmrstartWrite (p : PortId) (v : Word)
  /-- PD_TMRSTOP_WRITE: An engine write of PD_TMRSTOP stops engine timer slots. (R123) -/
  | pdTmrstopWrite (p : PortId) (v : Word)
  /-- AMS_END: An engine write of AMS_END restores Rp to the SinkTxOk level. (R92) -/
  | amsEnd (p : PortId)
  /-- CRC_RECEIVE_TIMER_EXPIRY: CRCReceiveTimer expires and the hardware retransmits or ends with RESULT failed. (R91) -/
  | crcReceiveTimerExpiry (p : PortId) (ctx : Fin 3)
  /-- TSINKTX_EXPIRY: tSinkTx passes and the hardware sends the waiting first message of an AMS. (R92) -/
  | tsinktxExpiry (p : PortId)
  /-- TCHUNK_SENDER_REQUEST_EXPIRY: No Chunk Request arrives within tChunkSenderRequest and the transmission ends with RESULT 0x7. (R97) -/
  | tchunkSenderRequestExpiry (p : PortId) (ctx : Fin 3)
  /-- TCHUNK_SENDER_RESPONSE_EXPIRY: No next chunk within tChunkSenderResponse discards the partial message and frees its buffer. (R97) -/
  | tchunkSenderResponseExpiry (p : PortId)
  /-- THARD_RESET_COMPLETE_EXPIRY: A Hard Reset not sent within tHardResetComplete sets HR_FAIL and is treated as sent. (R100) -/
  | thardResetCompleteExpiry (p : PortId)
  /-- TBIST_CONT_MODE_EXPIRY: tBISTContMode expires and the carrier ends, the port returning to its previous state. (R121) -/
  | tbistContModeExpiry (p : PortId)
  /-- TSENDER_RESPONSE_EXPIRY: No Request within tSenderResponse after acknowledged capabilities makes the engine send Hard Reset. (R107) -/
  | tsenderResponseExpiry (p : PortId)
  /-- TTYPEC_SEND_SOURCE_CAP_EXPIRY: tTypeCSendSourceCap expires and the engine repeats unanswered Source_Capabilities. (R107) -/
  | ttypecSendSourceCapExpiry (p : PortId)
  /-- TSRC_TRANSITION_EXPIRY: tSrcTransition after Accept starts the ramp or sends PS_RDY, or opens the path in a PR_Swap. (R106) -/
  | tsrcTransitionExpiry (p : PortId)
  /-- TPS_HARD_RESET_EXPIRY: tPSHardReset expires and the source drives VBUS to vSafe0V and turns VCONN off. (R99) -/
  | tpsHardResetExpiry (p : PortId)
  /-- TSRC_RECOVER_EXPIRY: tSrcRecover expires and the source restores VCONN and vSafe5V and negotiates again. (R99) -/
  | tsrcRecoverExpiry (p : PortId)
  /-- TPS_SOURCE_ON_EXPIRY: tPSSourceOn expires during a PR_Swap and starts error recovery. (R116) -/
  | tpsSourceOnExpiry (p : PortId)
  /-- TPS_SOURCE_OFF_EXPIRY: tPSSourceOff expires during a PR_Swap and starts error recovery. (R116) -/
  | tpsSourceOffExpiry (p : PortId)
  /-- TPS_TRANSITION_EXPIRY: tPSTransition expires on a sink port, which sends Hard Reset. (R122) -/
  | tpsTransitionExpiry (p : PortId)
  /-- TSWAP_SOURCE_START_EXPIRY: tSwapSourceStart expires after a swap to source and Source_Capabilities are sent. (R116) -/
  | tswapSourceStartExpiry (p : PortId)
  /-- TVDM_SENDER_RESPONSE_EXPIRY: No VDM response within tVDMSenderResponse completes VDM_SEND with PARTNER_TIMEOUT. (R119) -/
  | tvdmSenderResponseExpiry (p : PortId)
  /-- HOST_VDM_BUDGET_EXPIRY: No host answer within the VDM budget makes the engine send a BUSY response. (R118) -/
  | hostVdmBudgetExpiry (p : PortId)
  /-- TDISCOVER_IDENTITY_EXPIRY: tDiscoverIdentity expires and an unanswered cable Discover Identity is repeated, up to 20 attempts. (R113) -/
  | tdiscoverIdentityExpiry (p : PortId)
  /-- TVCONN_STABLE_EXPIRY: tVCONNStable expires and cable discovery starts or a VCONN source sends PS_RDY. (R113) -/
  | tvconnStableExpiry (p : PortId)
  /-- TVCONN_SOURCE_TIMEOUT_EXPIRY: No partner PS_RDY within tVCONNSourceTimeout makes the engine send Hard Reset and keep VCONN. (R117) -/
  | tvconnSourceTimeoutExpiry (p : PortId)
  /-- TSOURCE_EPR_KEEPALIVE_EXPIRY: tSourceEPRKeepAlive expires and the engine sends Hard Reset. (R111) -/
  | tsourceEprKeepaliveExpiry (p : PortId)
  /-- TSINK_EPR_KEEPALIVE_EXPIRY: tSinkEPRKeepAlive expires on a sink port, which sends Hard Reset. (R122) -/
  | tsinkEprKeepaliveExpiry (p : PortId)
  /-- TENTER_EPR_EXPIRY: tEnterEPR expires, releasing held pre-arm units on a source or sending Soft_Reset on a sink. (R112) -/
  | tenterEprExpiry (p : PortId)
  /-- TPPS_TIMEOUT_EXPIRY: tPPSTimeout expires on a PPS contract and the engine sends Hard Reset. (R108) -/
  | tppsTimeoutExpiry (p : PortId)
  /-- TNO_RESPONSE_EXPIRY: tNoResponse expires and the engine sends Hard Reset or keeps a silent partner at vSafe5V with NOPD. (R107) -/
  | tnoResponseExpiry (p : PortId)
  /-- TERROR_RECOVERY_EXPIRY: tErrorRecovery expires and the port returns its terminations and enters DETACHED. (R99) -/
  | terrorRecoveryExpiry (p : PortId)
  /-- SWAP_FLAG_TIMEOUT: The front die clears PD_PHYCFG.SWAP 1,000 ms after it was set. (R116) -/
  | swapFlagTimeout (p : PortId)
  /-- REQUEST_OUTCOME_TIMEOUT: No caddy outcome within 20 ms of a Request makes the engine send Wait or Reject. (R105) -/
  | requestOutcomeTimeout (p : PortId)
  /-- PPS_TARGET_STEP: Each millisecond on a PPS contract the FBS target moves 20 mV toward current limiting or recovery. (R108) `curr` is the operating current in mA. -/
  | ppsTargetStep (p : PortId) (curr : Nat)
  /-- GATE_RAMP_START: A PATH_EN write from 0 to 1 starts a gate ramp from 0 V toward TARGET. (R130) -/
  | gateRampStart (p : PortId)
  /-- TARGET_WRITE: A write of PTH_STEEP.TARGET starts a converter ramp from the present REF, or is refused above CEIL. (R130) -/
  | targetWrite (p : PortId) (target : Nat)
  /-- CEN_EN_WRITE: A CEN_EN write raises or lowers Pnn_CEN within 5 µs. (R127) -/
  | cenEnWrite (p : PortId) (en : Bool)
  /-- RAMP_DONE: REF reaches TARGET with eight VBUS samples in the window, AT_TARGET is set and the gate fully enhanced. (R132) -/
  | rampDone (p : PortId)
  /-- FALLING_RAMP_DISCHARGE: VBUS more than 0.5 V above REF in a falling ramp switches the discharge sink on until VBUS reaches REF. (R133) -/
  | fallingRampDischarge (p : PortId) (on : Bool)
  /-- FBS_TRIM_STEP: Every 100 µs at target the FBS code moves one step toward VBUS within ±20 mV of TARGET. (R128) `vbus` is the VBUS sample in mV. -/
  | fbsTrimStep (p : PortId) (vbus : Nat)
  /-- PASS_SHORT_DETECTED: VBUS and VCV close together above vSafe0V with the gate off for 20 ms fence the port. (R137) -/
  | passShortDetected (p : PortId)
  /-- GATE_FAULT_DETECTED: The gate not above 2.0 V within 2 ms of PATH_EN fences the port. (R137) -/
  | gateFaultDetected (p : PortId)
  /-- VBUS_OV_DETECTED: VBUS above the overvoltage threshold trips the port, or only flags it while the gate is off. (R138) -/
  | vbusOvDetected (p : PortId)
  /-- CV_OV_DETECTED: VCV above the converter overvoltage threshold trips the port. (R137) -/
  | cvOvDetected (p : PortId)
  /-- FAST_TRIP: Shunt current above FT_THR starts a gate pull-down within 1 µs and trips the port. (R137) -/
  | fastTrip (p : PortId)
  /-- REVERSE_CURRENT_DETECTED: Reverse current above REV_THR opens the path within 10 µs and trips the port. (R137) -/
  | reverseCurrentDetected (p : PortId)
  /-- RAMP_TRACK_FAULT: VBUS more than 1.5 V below REF for 16 µs while limiting trips the port with cause RAMP. (R135) -/
  | rampTrackFault (p : PortId)
  /-- CURVE_INTEGRATOR_SAMPLE: Each IBUS sample heats or cools the port's breaker integrator. (R141) `ibus` is the sample in mA. -/
  | curveIntegratorSample (p : PortId) (ibus : Nat)
  /-- CURVE_TRIP: The integrator's heat reaching 1 trips the port with cause CURVE. (R141) -/
  | curveTrip (p : PortId)
  /-- FALLBACK_TRIP: With the ADC failed, current above 1.5 times the rating strained for 20 ms trips the port. (R144) -/
  | fallbackTrip (p : PortId)
  /-- CV_TMO: Slot 6 not strained 1 within CV_TMO of CEN rising trips the port. (R129) -/
  | cvTmo (p : PortId)
  /-- ENH_FAULT: The gate not above 8.0 V within 2 ms of AT_TARGET trips the port. (R137) -/
  | enhFault (p : PortId)
  /-- DIS_DONE: VBUS falls below vSafe0V, the sink switches off and the bind-off, trip or reset sequence continues. (R151) -/
  | disDone (p : PortId)
  /-- DIS_TMO: VBUS still above vSafe0V after DIS_TMO switches the sink off and waits without it. (R151) -/
  | disTmo (p : PortId)
  /-- RETRY_DUE: The retry interval ends and the engine begins a new cast-on with COUNT raised. (R147) -/
  | retryDue (p : PortId)
  /-- RETRY_CLR: The detach-hold clock reaching 500 ms clears the port's retry state. (R148) -/
  | retryClr (p : PortId)
  /-- PTH_RETRY_CLR_WRITE: A write of PTH_RETRY.CLR clears the retry state. (R150) -/
  | pthRetryClrWrite (p : PortId)
  /-- CURVE_COMMIT: A write of PTH_CCFG.COMMIT checks the written curve and applies it or sets ERR. (R143) -/
  | curveCommit (p : PortId)
  /-- FEED_QUALIFIED: A feed within its window for QUAL becomes qualified and may become or return as the active feed. (R153) -/
  | feedQualified (f : Feed)
  /-- FEED_LOST: UV, OV or reverse current on the active feed makes its die open it and begins a switch. (R154) -/
  | feedLost (f : Feed)
  /-- FEED_BBM_DONE: The old feed gate below 1.0 V and BBM passed lets the feed logic select and raise the new feed. (R154) -/
  | feedBbmDone
  /-- FEED_SWITCHED: The new feed gate is fully on and SWITCHED is set; the budget changes at the next row boundary. (R154) -/
  | feedSwitched
  /-- FEED_NONE: No feed qualified for 1 ms binds off every source port. (R155) -/
  | feedNone
  /-- FEED_DEGRADED_TIMEOUT: A named feed not qualified within 10 s sets the FEED degraded condition. (R338) -/
  | feedDegradedTimeout (f : Feed)
  /-- RESERVE: An engine RESERVE submission draws the vSafe5V reservation from the pool at once or sets WAIT5. (R163) -/
  | reserve (p : PortId)
  /-- PREARM: An engine PREARM submission enters the remembered contract's power into the present row. (R78) `volt` in 100 mV, `pout` in 10 mW. -/
  | prearm (p : PortId) (volt pout : Nat)
  /-- CADDY_REQUEST: An engine REQUEST submission enters a port's request into the present row, replacing earlier ones. (R167) `volt` in 100 mV, `pout` in 10 mW. -/
  | caddyRequest (p : PortId) (volt pout : Nat)
  /-- DONE: An engine DONE submission lowers the holding to the contract in force at the next boundary. (R166) `volt` in 100 mV, `pout` in 10 mW. -/
  | done (p : PortId) (volt pout : Nat)
  /-- WITHDRAW: An engine WITHDRAW submission returns the holding to the contract in force or the floor at the next boundary. (R166) -/
  | withdraw (p : PortId)
  /-- ROW_BOUNDARY: At a row boundary the caddy applies DONE and WITHDRAW, resolves the sorted requests, writes results and refills the pool. (R171) -/
  | rowBoundary
  /-- ROW_SYNC_EDGE: An accepted ROW_SYNC edge makes a row boundary, or is ignored with SYNC_EARLY. (R169) `sincePrev` is the time since the previous boundary in µs. -/
  | rowSyncEdge (rising : Bool) (sincePrev : Nat)
  /-- SYNC_LOST: No ROW_SYNC edge within SYNC_TMO makes the caddy create the boundary itself. (R169) -/
  | syncLost
  /-- SHED_DEADLINE: At the deadline boundary unsettled victims get a lowered CAD_LIM or are bound off. (R182) -/
  | shedDeadline
  /-- UPGRADE_HOLD_END: HOLD rows without a Request return the held units above the contract in force. (R174) -/
  | upgradeHoldEnd (p : PortId)
  /-- CAD_ROWLO_READ: A read of CAD_ROWLO latches CAD_ROWHI in the same cycle. (R168) -/
  | cadRowloRead
  /-- ADC_CONVERSION: An ADC slot converts a channel's sample, updating the latest code and the block in progress. (R191) -/
  | adcConversion (ch : Fin 297) (code : BitVec 12)
  /-- ADC_FAILURE: An ADC's reference or conversion failure makes its channels absent and its ports use the fallback trip. (R193) -/
  | adcFailure (a : Fin 16)
  /-- FRAME_BOUNDARY: At each telemetry frame boundary the codec writes markers and completed blocks to the ring. (R202) -/
  | frameBoundary
  /-- TEL_FRAMELO_READ: A read of TEL_FRAMELO latches TEL_FRAMEHI. (R208) -/
  | telFrameloRead
  /-- HID_TIMELO_READ: A read of HID_TIMELO latches HID_TIMEHI in the same cycle. (R214) -/
  | hidTimeloRead
  /-- LED_FRAME: Every 10 ms in the running states the device shifts a 192-bit LED frame. (R48) -/
  | ledFrame
  /-- UPDATE_BTN_PRESS: A press of UPDATE_BTN_N stable for 20 ms is accepted in the running states. (R45) -/
  | updateBtnPress
  /-- SD_CD_N_CHANGE: A change of the card-detect pin posts CARD. (R419) -/
  | sdCdNChange (present : Bool)
  /-- RST_N_ASSERT: RST_N low for 1 µs or more resets the device for at least 10 µs. (R44) -/
  | rstNAssert
  /-- RST_N_RELEASE: The release of RST_N, or the end of the 10 µs hold, begins a cold start. (R44) `straps` are the levels RST_STRAP latches; bit n of `bist` set: engine n fails its self-test in the start. -/
  | rstNRelease (straps bist : Word)
  /-- RUN: A firmware write of RST_BOOT.RUN ends a start successfully, setting READY and STATUS. (R309) -/
  | run
  /-- START_TIMER_EXPIRY: The 2 s start timer expires without RUN and the start has failed, escalating per Table RST-5. (R310) -/
  | startTimerExpiry
  /-- FLASH_BUSY_TIMEOUT: The flash busy for 3 s at a start is reset and the start fails. (R314) -/
  | flashBusyTimeout
  /-- RST_REQ_WARM: A keyed RST_REQ write of kind warm makes a warm start. (R317) -/
  | rstReqWarm
  /-- RST_REQ_HITLESS: A keyed RST_REQ write of kind hitless activation makes a warm start of the named slot. (R317) -/
  | rstReqHitless (slot : Fin 2)
  /-- RST_REQ_COLD: A keyed RST_REQ write of kind cold makes a cold start. (R317) -/
  | rstReqCold
  /-- RST_CNT_CLR_A: A write of RST_CNT.CLR_A clears slot A's failed cold-start count. (R317) -/
  | rstCntClrA
  /-- RST_CNT_CLR_B: A write of RST_CNT.CLR_B clears slot B's failed cold-start count. (R317) -/
  | rstCntClrB
  /-- XIN_QUALIFIED: Four consecutive accepted LPO windows qualify XIN. (R284) -/
  | xinQualified
  /-- XIN_QUALIFY_TIMEOUT: XIN not qualified within 100 ms drives STATUS 110 while qualification continues. (R284) -/
  | xinQualifyTimeout
  /-- PLL_LOCK: The PLL locks and the root moves from bypass to the PLL without a glitch. (R285) -/
  | pllLock
  /-- PLL_LOCK_TIMEOUT: No lock within 20 ms powers the PLL down and retries, STATUS 110 after three failures. (R285) -/
  | pllLockTimeout
  /-- CLOCK_LOSS: A lost XIN, root, LPO or spread lock drives every port to its safe state and holds the control die in reset. (R297) -/
  | clockLoss
  /-- LPO_LOSS: Missing or out-of-tolerance LPO edges counted on XIN declare an LPO loss. (R296) -/
  | lpoLoss
  /-- SPREAD_LOCK_FAILURE: Two failing lock windows with spread on are a clock failure. (R287) -/
  | spreadLockFailure
  /-- CLOCK_RECOVERY: In STATUS 110 the root locks again and the device makes a cold start. (R298) -/
  | clockRecovery
  /-- CRU_DVFS_WRITE: A write of CRU_DVFS.TARGET starts a raise or lower sequence of the operating point. (R290) -/
  | cruDvfsWrite (v : Word)
  /-- PGOOD_STABLE: PGOOD_CORE high for 50 µs lets a raise continue to its divider steps. (R290) -/
  | pgoodStable
  /-- DIVIDER_STEP: After 64 CPUCLK cycles the divider moves one step toward the target point. (R290) -/
  | dividerStep
  /-- PG_TMO: PGOOD_CORE not stable within PG_TMO abandons the raise and restores VSEL. (R291) -/
  | pgTmo
  /-- PG_LOST: PGOOD_CORE low for 2 µs while running sets the divider to /16 and OP0. (R291) -/
  | pgLost
  /-- CRU_PLLCTL_WRITE: A spread change takes effect at the start of the next modulation period. (R287) -/
  | cruPllctlWrite (v : Word)
  /-- CRU_GATE_WRITE: A CRU_GATE write is applied as a whole or refused with GATE_REF. (R293) -/
  | cruGateWrite (v : Word)
  /-- STANDBY_ENTER: A write of CRU_STBY.ENTER stops the fast clocks and powers the PLL down. (R294) -/
  | standbyEnter
  /-- WAKE: A wake source relocks the PLL, raises to OP3 and records the cause. (R295) -/
  | wake (cause : Fin 5)
  /-- SUPPLY_DETECTOR_FALL: A control-die rail below its detector puts the control die into reset at once. (R281) `aon`: the rail is VDD_AON. -/
  | supplyDetectorFall (aon : Bool)
  /-- FRONT_DIE_JOIN: A front die with its rails up joins, its link comes up and its enabled ports leave PARKED. (R282) -/
  | frontDieJoin (d : DieId)
  /-- FRONT_DIE_SUPPLY_LOSS: VFR_Fn or VDRV_Fn below its detector for 10 µs turns the die's ports off and drops its link. (R283) -/
  | frontDieSupplyLoss (d : DieId)
  /-- VCN_SUPPLY_LOSS: VCN_Fn below its detector opens every VCONN switch of the die. (R283) -/
  | vcnSupplyLoss (d : DieId)
  /-- STITCH_LINK_LOSS: No valid stitch frame for 50 µs puts the die into a die-level hold and parks its ports on the control die. (R324) -/
  | stitchLinkLoss (d : DieId)
  /-- STITCH_LINK_TRAINED: A link trained again ends the die-level hold and the die rejoins. (R324) -/
  | stitchLinkTrained (d : DieId)
  /-- OVER_TEMPERATURE: A die junction above TRIP for 500 µs enters a die-level hold with every port off. (R325) -/
  | overTemperature (d : DieId)
  /-- TEMPERATURE_RELEASE: The junction below TRIP minus 15 °C for 100 ms ends the thermal hold. (R325) -/
  | temperatureRelease (d : DieId)
  /-- RIDE_THROUGH_EXPIRY: The 50 ms ride-through ends and the port takes the off safe state. (R322) -/
  | rideThroughExpiry (p : PortId)
  /-- LOCKSTEP_MISMATCH: A lockstep difference blocks the pair's outputs and makes a warm start with cause 3. (R327) -/
  | lockstepMismatch
  /-- ECC_UNCORRECTABLE: A double-bit error on access returns a bus error and triggers the memory's reaction. (R328) `mem` is the code of Table SAF-3, `addr` the word's address, `who` the engine or port concerned. -/
  | eccUncorrectable (mem : Fin 7) (addr who : Nat)
  /-- SCRUB_READ: The scrubber reads an ECC word, correcting single-bit errors and reporting double-bit errors. (R329) `mem`, `addr`, `who` as for ECC_UNCORRECTABLE; `wrong`: how many bits of the word are wrong. -/
  | scrubRead (mem : Fin 7) (addr who : Nat) (wrong : Fin 3)
  /-- ECC_HOUR_ROLL: The hourly interval ends and SAF_ECCCNT.DAY drops the oldest hour, updating the ECC condition. (R329) -/
  | eccHourRoll
  /-- LOCKSTEP_AGE_OUT: A mismatch leaving the 24 h window may clear the LOCKSTEP degraded condition. (R338) -/
  | lockstepAgeOut
  /-- WDG_CTL_WRITE: A write of WDG_CTL enables the watchdog or sets LOCK. (R330) -/
  | wdgCtlWrite (v : Word)
  /-- WDG_KEY_WRITE: A WDG_KEY write forms a service, or expires the watchdog as EARLY or KEY. (R331) -/
  | wdgKeyWrite (v : Word)
  /-- WDG_CHKIN: A task check-in adds one to the task's count. (R332) -/
  | wdgChkin (task : Fin 16)
  /-- WDG_WINDOW_OPEN: OPEN % of the period passes and the service window opens. (R330) -/
  | wdgWindowOpen
  /-- WDG_PERIOD_END: The period ends without a valid service and the watchdog expires as LATE. (R330) -/
  | wdgPeriodEnd
  /-- WDO_PULSE_END: The WDO pulse of WIDTH ms ends. (R334) -/
  | wdoPulseEnd
  /-- SEW_KICK: An engine write of SEW_KICK restarts its task watchdog timeout. (R336) -/
  | sewKick (e : EngId)
  /-- TASK_WATCHDOG_EXPIRY: An engine's task watchdog expires and the engine is stopped. (R336) -/
  | taskWatchdogExpiry (e : EngId)
  /-- SE_CTL_RUN: A write of SE_CTL.RUN releases, resumes or stops an engine. (R360) -/
  | seCtlRun (e : EngId) (run : Bool)
  /-- SE_CTL_CLR: A write of SE_CTL.CLR zeroes a stopped or faulted engine's state and sets its PC to 0. (R360) -/
  | seCtlClr (e : EngId)
  /-- SE_PMDATA_WRITE: A write of SE_PMDATA stores a program word at ADDR in a stopped engine and advances ADDR. (R360) -/
  | sePmdataWrite (e : EngId) (v : Word)
  /-- SE_CYCLO_READ: A read of SE_CYCLO latches SE_CYCHI. (R360) -/
  | seCycloRead (e : EngId)
  /-- ADD: DWX instruction that adds two registers. (R347) -/
  | add (c : CoreId) (f : Form) (gd : Fin 8) (d s t : Fin 16)
  /-- SUB: DWX instruction that subtracts two registers. (R347) -/
  | sub (c : CoreId) (f : Form) (gd : Fin 8) (d s t : Fin 16)
  /-- AND: DWX instruction that ands two registers. (R347) -/
  | and (c : CoreId) (f : Form) (gd : Fin 8) (d s t : Fin 16)
  /-- OR: DWX instruction that ors two registers. (R347) -/
  | or (c : CoreId) (f : Form) (gd : Fin 8) (d s t : Fin 16)
  /-- XOR: DWX instruction that exclusive-ors two registers. (R347) -/
  | xor (c : CoreId) (f : Form) (gd : Fin 8) (d s t : Fin 16)
  /-- SHL: DWX instruction that shifts left by a register count. (R347) -/
  | shl (c : CoreId) (f : Form) (gd : Fin 8) (d s t : Fin 16)
  /-- SHR: DWX instruction that shifts right with zero fill by a register count. (R347) -/
  | shr (c : CoreId) (f : Form) (gd : Fin 8) (d s t : Fin 16)
  /-- SAR: DWX instruction that shifts right with sign fill by a register count. (R347) -/
  | sar (c : CoreId) (f : Form) (gd : Fin 8) (d s t : Fin 16)
  /-- MUL: DWX instruction that forms the low 32 bits of a product. (R347) -/
  | mul (c : CoreId) (f : Form) (gd : Fin 8) (d s t : Fin 16)
  /-- MULHU: DWX instruction that forms the high 32 bits of an unsigned product. (R347) -/
  | mulhu (c : CoreId) (f : Form) (gd : Fin 8) (d s t : Fin 16)
  /-- MULHS: DWX instruction that forms the high 32 bits of a signed product. (R347) -/
  | mulhs (c : CoreId) (f : Form) (gd : Fin 8) (d s t : Fin 16)
  /-- MIN: DWX instruction that takes the signed minimum. (R347) -/
  | min (c : CoreId) (f : Form) (gd : Fin 8) (d s t : Fin 16)
  /-- MAX: DWX instruction that takes the signed maximum. (R347) -/
  | max (c : CoreId) (f : Form) (gd : Fin 8) (d s t : Fin 16)
  /-- MINU: DWX instruction that takes the unsigned minimum. (R347) -/
  | minu (c : CoreId) (f : Form) (gd : Fin 8) (d s t : Fin 16)
  /-- MAXU: DWX instruction that takes the unsigned maximum. (R347) -/
  | maxu (c : CoreId) (f : Form) (gd : Fin 8) (d s t : Fin 16)
  /-- ADDI: DWX instruction that adds a signed immediate. (R347) -/
  | addi (c : CoreId) (f : Form) (gd : Fin 8) (d s : Fin 16) (imm : Int)
  /-- ANDI: DWX instruction that ands a zero-extended immediate. (R347) -/
  | andi (c : CoreId) (f : Form) (gd : Fin 8) (d s : Fin 16) (imm : Nat)
  /-- ORI: DWX instruction that ors a zero-extended immediate. (R347) -/
  | ori (c : CoreId) (f : Form) (gd : Fin 8) (d s : Fin 16) (imm : Nat)
  /-- XORI: DWX instruction that exclusive-ors a zero-extended immediate. (R347) -/
  | xori (c : CoreId) (f : Form) (gd : Fin 8) (d s : Fin 16) (imm : Nat)
  /-- SHLI: DWX instruction that shifts left by a constant. (R347) -/
  | shli (c : CoreId) (f : Form) (gd : Fin 8) (d s : Fin 16) (n : Fin 32)
  /-- SHRI: DWX instruction that shifts right with zero fill by a constant. (R347) -/
  | shri (c : CoreId) (f : Form) (gd : Fin 8) (d s : Fin 16) (n : Fin 32)
  /-- SARI: DWX instruction that shifts right with sign fill by a constant. (R347) -/
  | sari (c : CoreId) (f : Form) (gd : Fin 8) (d s : Fin 16) (n : Fin 32)
  /-- CEQ: DWX compare for equality of two registers into a predicate. (R349) -/
  | ceq (c : CoreId) (f : Form) (gd : Fin 8) (mode pd : Fin 4) (s t : Fin 16)
  /-- CNE: DWX compare for inequality of two registers into a predicate. (R349) -/
  | cne (c : CoreId) (f : Form) (gd : Fin 8) (mode pd : Fin 4) (s t : Fin 16)
  /-- CLT: DWX signed less-than compare of two registers. (R349) -/
  | clt (c : CoreId) (f : Form) (gd : Fin 8) (mode pd : Fin 4) (s t : Fin 16)
  /-- CGE: DWX signed greater-or-equal compare of two registers. (R349) -/
  | cge (c : CoreId) (f : Form) (gd : Fin 8) (mode pd : Fin 4) (s t : Fin 16)
  /-- CLTU: DWX unsigned less-than compare of two registers. (R349) -/
  | cltu (c : CoreId) (f : Form) (gd : Fin 8) (mode pd : Fin 4) (s t : Fin 16)
  /-- CGEU: DWX unsigned greater-or-equal compare of two registers. (R349) -/
  | cgeu (c : CoreId) (f : Form) (gd : Fin 8) (mode pd : Fin 4) (s t : Fin 16)
  /-- CEQI: DWX compare for equality with an immediate. (R349) -/
  | ceqi (c : CoreId) (f : Form) (gd : Fin 8) (mode pd : Fin 4) (s : Fin 16) (imm : Int)
  /-- CNEI: DWX compare for inequality with an immediate. (R349) -/
  | cnei (c : CoreId) (f : Form) (gd : Fin 8) (mode pd : Fin 4) (s : Fin 16) (imm : Int)
  /-- CLTI: DWX signed less-than compare with an immediate. (R349) -/
  | clti (c : CoreId) (f : Form) (gd : Fin 8) (mode pd : Fin 4) (s : Fin 16) (imm : Int)
  /-- CGEI: DWX signed greater-or-equal compare with an immediate. (R349) -/
  | cgei (c : CoreId) (f : Form) (gd : Fin 8) (mode pd : Fin 4) (s : Fin 16) (imm : Int)
  /-- CLTUI: DWX unsigned less-than compare with a sign-extended immediate. (R349) -/
  | cltui (c : CoreId) (f : Form) (gd : Fin 8) (mode pd : Fin 4) (s : Fin 16) (imm : Int)
  /-- CGEUI: DWX unsigned greater-or-equal compare with a sign-extended immediate. (R349) -/
  | cgeui (c : CoreId) (f : Form) (gd : Fin 8) (mode pd : Fin 4) (s : Fin 16) (imm : Int)
  /-- MOVL: DWX instruction that loads a zero-extended 16-bit constant. (R347) -/
  | movl (c : CoreId) (f : Form) (gd : Fin 8) (d : Fin 16) (imm : BitVec 16)
  /-- MOVH: DWX instruction that sets the high 16 bits of a register. (R347) -/
  | movh (c : CoreId) (f : Form) (gd : Fin 8) (d : Fin 16) (imm : BitVec 16)
  /-- LDB: DWX load of a zero-extended byte. (R350) -/
  | ldb (c : CoreId) (f : Form) (gd : Fin 8) (d s : Fin 16) (off : Int)
  /-- LDBS: DWX load of a sign-extended byte. (R350) -/
  | ldbs (c : CoreId) (f : Form) (gd : Fin 8) (d s : Fin 16) (off : Int)
  /-- LDH: DWX load of a zero-extended half-word. (R350) -/
  | ldh (c : CoreId) (f : Form) (gd : Fin 8) (d s : Fin 16) (off : Int)
  /-- LDHS: DWX load of a sign-extended half-word. (R350) -/
  | ldhs (c : CoreId) (f : Form) (gd : Fin 8) (d s : Fin 16) (off : Int)
  /-- LDW: DWX load of a word. (R350) -/
  | ldw (c : CoreId) (f : Form) (gd : Fin 8) (d s : Fin 16) (off : Int)
  /-- STB: DWX posted store of a byte. (R350) -/
  | stb (c : CoreId) (f : Form) (gd : Fin 8) (d s : Fin 16) (off : Int)
  /-- STH: DWX posted store of a half-word. (R350) -/
  | sth (c : CoreId) (f : Form) (gd : Fin 8) (d s : Fin 16) (off : Int)
  /-- STW: DWX posted store of a word. (R350) -/
  | stw (c : CoreId) (f : Form) (gd : Fin 8) (d s : Fin 16) (off : Int)
  /-- BR: DWX branch by a parcel offset. (R347) -/
  | br (c : CoreId) (f : Form) (gd : Fin 8) (off : Int)
  /-- CALL: DWX branch that writes the return address to g15. (R347) -/
  | call (c : CoreId) (f : Form) (gd : Fin 8) (off : Int)
  /-- JR: DWX jump to a register plus offset. (R347) -/
  | jr (c : CoreId) (f : Form) (gd : Fin 8) (s : Fin 16) (off : Int)
  /-- CALLR: DWX jump to a register plus offset that writes the return address to g15. (R347) -/
  | callr (c : CoreId) (f : Form) (gd : Fin 8) (s : Fin 16) (off : Int)
  /-- RET: DWX compact return through g15. (R348) -/
  | ret (c : CoreId) (f : Form) (gd : Fin 8)
  /-- MOV: DWX compact register copy. (R348) -/
  | mov (c : CoreId) (f : Form) (gd : Fin 8) (d s : Fin 16)
  /-- MOVI: DWX compact load of a constant from 0 to 7. (R348) -/
  | movi (c : CoreId) (f : Form) (gd : Fin 8) (d : Fin 16) (n : Fin 8)
  /-- NOT: DWX compact bitwise complement. (R348) -/
  | not (c : CoreId) (f : Form) (gd : Fin 8) (d : Fin 16)
  /-- NEG: DWX compact negation. (R348) -/
  | neg (c : CoreId) (f : Form) (gd : Fin 8) (d : Fin 16)
  /-- SEXTB: DWX compact sign extension of a byte. (R348) -/
  | sextb (c : CoreId) (f : Form) (gd : Fin 8) (d : Fin 16)
  /-- SEXTH: DWX compact sign extension of a half-word. (R348) -/
  | sexth (c : CoreId) (f : Form) (gd : Fin 8) (d : Fin 16)
  /-- ZEXTH: DWX compact zero extension of a half-word. (R348) -/
  | zexth (c : CoreId) (f : Form) (gd : Fin 8) (d : Fin 16)
  /-- NOP: DWX system function that does nothing. (R347) -/
  | nop (c : CoreId) (f : Form) (gd : Fin 8)
  /-- MFS: DWX read of a special register, latching high halves on low reads. (R351) -/
  | mfs (c : CoreId) (f : Form) (gd : Fin 8) (d : Fin 16) (sr : Fin 32)
  /-- MTS: DWX write of a special register such as EVCLR. (R351) -/
  | mts (c : CoreId) (f : Form) (gd : Fin 8) (sr : Fin 32) (s : Fin 16)
  /-- WFE: DWX wait for masked event lines. (R353) -/
  | wfe (c : CoreId) (f : Form) (gd : Fin 8) (d s : Fin 16)
  /-- WFE_WAKE: A masked event line becomes pending and WFE writes the snapshot and clears latched lines. (R353) -/
  | wfeWake (c : CoreId)
  /-- WUNTIL: DWX wait for masked event lines or a cycle-counter deadline. (R354) -/
  | wuntil (c : CoreId) (f : Form) (gd : Fin 8) (d s : Fin 16)
  /-- WUNTIL_WAKE: An event or the deadline ends WUNTIL with its snapshot. (R354) -/
  | wuntilWake (c : CoreId)
  /-- SEV: DWX fence and setting of the issuing core's SEV line on the named cores. (R355) -/
  | sev (c : CoreId) (f : Form) (gd : Fin 8) (s : Fin 16)
  /-- PGET: DWX copy of the predicates into a register. (R347) -/
  | pget (c : CoreId) (f : Form) (gd : Fin 8) (d : Fin 16)
  /-- PPUT: DWX write of p1 to p3 from a register. (R347) -/
  | pput (c : CoreId) (f : Form) (gd : Fin 8) (s : Fin 16)
  /-- FENCE: DWX wait until every earlier store has reached its target. (R350) -/
  | fence (c : CoreId) (f : Form) (gd : Fin 8)
  /-- TMR_ENSET: A TMR_ENSET write starts timers, loading CNT from RELOAD. (R362) -/
  | tmrEnset (b : TmrBlk) (v : Word)
  /-- TMR_ENCLR: A TMR_ENCLR write stops timers with CNT held. (R362) -/
  | tmrEnclr (b : TmrBlk) (v : Word)
  /-- TMR_RELNOW: A TMR_RELNOW write reloads the named timers in the next cycle. (R363) -/
  | tmrRelnow (b : TmrBlk) (v : Word)
  /-- TMR_CMP_WRITE: A write of TMR_CMPn arms the compare, which may fire in the next cycle. (R365) -/
  | tmrCmpWrite (b : TmrBlk) (n : Fin 16) (v : Word)
  /-- TMR_UNDERFLOW: A timer underflows, reloads, sets UF, applies ACT_U and rearms its compare. (R362) -/
  | tmrUnderflow (b : TmrBlk) (n : Fin 16)
  /-- TMR_MATCH: An armed compare fires when CNT reaches CMP, setting MATCH and applying ACT_M. (R365) -/
  | tmrMatch (b : TmrBlk) (n : Fin 16)
  /-- TMR_CAPTURE: A selected pin edge copies CNT into CAP and sets CAPF or OVR. (R369) -/
  | tmrCapture (n : Fin 16) (rising : Bool)
  /-- TMR_CNT_READ: A read of a chained low timer's CNT latches the high timer's CNT. (R371) -/
  | tmrCntRead (b : TmrBlk) (n : Fin 16)
  /-- TWC_GO: A write of TWC_XADDR.GO starts a two-wire transfer after the bus check. (R384) -/
  | twcGo (b : Fin 2) (check : BusCheck)
  /-- TWC_NACK: A NACK ends the transfer with a STOP and sets NACK. (R385) -/
  | twcNack (b : Fin 2) (wdone : Nat)
  /-- TWC_SCL_TIMEOUT: A target holding SCL for 25 ms ends the transfer with TMO. (R385) -/
  | twcSclTimeout (b : Fin 2) (wdone rdone : Nat)
  /-- TWC_ARBITRATION_LOSS: SDA read 0 on a released 1 loses arbitration and releases both lines. (R387) -/
  | twcArbitrationLoss (b : Fin 2) (byte bit : Nat)
  /-- TWC_RETRY: After a loss and a free bus the controller repeats the transfer, or sets ARBL after the last attempt. (R388) -/
  | twcRetry (b : Fin 2)
  /-- TWC_TXD_WRITE: A TWC_TXD write appends a byte and releases a hold on an empty FIFO. (R384) -/
  | twcTxdWrite (b : Fin 2) (v : Word)
  /-- TWC_RXD_READ: A TWC_RXD read removes the oldest byte and releases a hold on a full FIFO. (R384) -/
  | twcRxdRead (b : Fin 2)
  /-- TWC_CMD_RECOVER: A TWC_CMD.RECOVER write runs bus recovery now. (R386) -/
  | twcCmdRecover (b : Fin 2) (check : BusCheck)
  /-- TWC_CMD_ABORT: A TWC_CMD.ABORT write ends the transfer after the present byte with a STOP. (R385) -/
  | twcCmdAbort (b : Fin 2) (wdone rdone : Nat)
  /-- OTP_CMD_READ: OTP_CMD read operation that reads a fuse word at the normal reference. (R409) -/
  | otpCmdRead
  /-- OTP_CMD_READ_HIGH: OTP_CMD operation that reads a fuse word at the high reference. (R409) -/
  | otpCmdReadHigh
  /-- OTP_CMD_READ_LOW: OTP_CMD operation that reads a fuse word at the low reference. (R409) -/
  | otpCmdReadLow
  /-- OTP_CMD_PROGRAM: OTP_CMD operation that checks and programs a fuse word. (R398) -/
  | otpCmdProgram
  /-- OTP_CMD_WRITE_LOCK: OTP_CMD operation that programs a region's write lock after the seal check. (R403) -/
  | otpCmdWriteLock
  /-- OTP_CMD_READ_LOCK: OTP_CMD operation that programs a region's read lock. (R406) -/
  | otpCmdReadLock
  /-- OTP_CMD_SCAN_START: OTP_CMD operation that starts a margin scan. (R402) -/
  | otpCmdScanStart
  /-- OTP_CMD_SCAN_STOP: OTP_CMD operation that stops a running margin scan. (R402) -/
  | otpCmdScanStop
  /-- OTP_PULSE_DONE: A 20 µs fuse pulse ends and the word is verified at both references, ending or repeating the program. (R398) `hi`, `nrm` and `lo` are the bits of the codeword that read wrong at the three references after the pulse; for a lock fuse, zero where it reads programmed. -/
  | otpPulseDone (hi nrm lo : Nat)
  /-- OTP_SCAN_WORD: Each millisecond the scan reads one word at three references and records weak words. (R402) -/
  | otpScanWord
  /-- FLC_CMD_READ: Flash controller operation that reads flash to SRAM. (R430) -/
  | flcCmdRead
  /-- FLC_CMD_PROGRAM: Flash controller operation that programs a page from SRAM, refused inside the running slot or unkeyed boot table. (R417) -/
  | flcCmdProgram (key : Nat)
  /-- FLC_CMD_ERASE: Flash controller operation that erases a 64 KiB sector, refused inside protected areas. (R417) -/
  | flcCmdErase (key : Nat)
  /-- FLC_CMD_RESET: Flash controller operation that sends the flash reset sequence. (R430) -/
  | flcCmdReset
  /-- FLC_CMD_STATUS: Flash controller operation that reads the flash status register. (R430) -/
  | flcCmdStatus
  /-- FLC_OPERATION_DONE: A flash operation ends and sets DONE. (R430) -/
  | flcOperationDone (ok : Bool) (fsr : Byte)
  /-- FLC_TRIAL_COMMIT: A keyed COMMIT write stops the trial window. (R424) -/
  | flcTrialCommit
  /-- TRIAL_WINDOW_EXPIRY: The trial window expires without commit and the device falls back to the previous slot by warm start. (R425) -/
  | trialWindowExpiry
  /-- LOADER_PING: Loader command that returns identity, lifecycle and counters. (R429) -/
  | loaderPing
  /-- LOADER_BAUD: Loader command that changes the UART divider 1 ms after its response. (R429) -/
  | loaderBaud (div : Nat)
  /-- LOADER_BAUD_REVERT: No valid frame within 2 s at the new rate returns the loader to DIV 104. (R429) -/
  | loaderBaudRevert
  /-- LOADER_BEGIN: Loader command that checks a header and opens an update of a slot. (R429) -/
  | loaderBegin (slot : Nat) (hdr : List Byte)
  /-- LOADER_BLOCK: Loader command that checks and writes one image block. (R429) `verified`: the read-back of the written block matches. -/
  | loaderBlock (index : Nat) (block : List Byte) (verified : Bool)
  /-- LOADER_END: Loader command that verifies the signature, writes the header and boot table and clears the slot's count. (R429) `verified`: the read-back of the written header matches. -/
  | loaderEnd (verified : Bool)
  /-- LOADER_ERASE: Loader command that erases a whole slot. (R429) -/
  | loaderErase (slot : Nat)
  /-- LOADER_READ: Loader command that returns flash bytes. (R429) -/
  | loaderRead (addr count : Nat)
  /-- LOADER_RESTART: Loader command that makes a cold start 1 ms after its response. (R429) -/
  | loaderRestart
  /-- LOADER_FRAME_GAP: A gap of more than 100 ms between frame bytes discards the frame. (R428) -/
  | loaderFrameGap
  /-- LOADER_BAD_FRAME: A frame with a bad CRC or unknown command is answered with STATUS 0xF0 or 0xF1. (R428) -/
  | loaderBadFrame (unknown : Bool)
  /-- POWER_UP: The control-die rails rise above their detectors and PGOOD_CORE rises, releasing the control die from reset into a cold start with cause 5. (R281) `straps` are the levels RST_STRAP latches; bit n of `bist` set: engine n fails its self-test in the start. -/
  | powerUp (straps bist : Word)
  /-- CRYPTO_DONE: The crypto block finishes an ECDSA P-256 verification or SHA-256 computation and raises its event flags. (R120) -/
  | cryptoDone (ok : Bool)
  /-- SD_TRANSFER_DONE: The SD host finishes a card command or block read and raises its event flags. (R419) -/
  | sdTransferDone (r : CardRead)
  /-- TWC_TRANSFER_DONE: A two-wire controller transfer ends normally with a STOP and sets DONE. (R385) -/
  | twcTransferDone (b : Fin 2) (rdata : List Byte)
  /-- MT_STOP: A STOP condition on the management-target bus ends the transaction, discarding incomplete register bytes and setting TWT_EVT.WRITE for a write. (R390) -/
  | mtStop
  deriving DecidableEq, Repr

end Sys2Proof
end

