-- ==== Sys2Proof/Config.lean ====
section
/-! DEFINITION. The values the spec leaves open. A free value is an opaque constant applied to a
plain counter of State (log entry 1): no proof can see what it is. -/

namespace Sys2Proof.Config

/-- A bit the spec calls unpredictable (log entry 1). -/
opaque freeBit : Nat → Bool

/-- A number the spec calls unpredictable or does not state (log entry 1). -/
opaque freeNat : Nat → Nat

/-- A word the spec calls unpredictable or does not state (log entry 1). -/
opaque freeWord : Nat → Word

/-- Bytes the spec calls unpredictable or does not state (log entry 1). -/
opaque freeBytes : Nat → List Byte

/-- The seven SECDED check bits of a fuse word's data (16 R392: the spec gives no code; log entry 1). -/
opaque secded : Word → Nat

/-- What the fuse decoder makes of a codeword with three or more wrong bits, by its data and the wrong bits: the word,
and whether it counts as corrected (16 Table OTP-4 states neither; log entry 1). -/
opaque eccMiss : Word → Nat → Word × Bool

/-- The efficiency entry used for a voltage while the table's VMAX do not rise (06 R160; log
entry 1), by the free-value counter and the voltage. -/
opaque effPick : Nat → Nat → Nat

/-- The trip time in µs between two curve points at a multiple of the rating: the log-log line of
05 R141, whose value is irrational in general (log entry 2). -/
opaque curveTime : Rat → Nat × Nat → Nat × Nat → Rat

end Sys2Proof.Config
end

