-- ==== Sys2Proof/Machine/Bits.lean ====
section
/-! DEFINITION. Reading and writing a field of a register, the access codes of Table SCP-4
(00_scope.md R7), and byte-order helpers. -/

namespace Sys2Proof

/-- The bits of the register that the field occupies. -/
def Fld.mask (f : Fld) : Word := BitVec.ofNat 32 ((2 ^ f.width - 1) * 2 ^ f.lo)

/-- The field's value as a number. -/
def Fld.get (f : Fld) (w : Word) : Nat := w.toNat / 2 ^ f.lo % 2 ^ f.width

/-- The field's value as a two's-complement number. -/
def Fld.getInt (f : Fld) (w : Word) : Int :=
  let v := f.get w
  if v < 2 ^ (f.width - 1) then (v : Int) else (v : Int) - 2 ^ f.width

/-- The field is not zero. -/
def Fld.on (f : Fld) (w : Word) : Bool := f.get w != 0

/-- The register with the field holding `v` (its low bits, when `v` is wider than the field). -/
def Fld.put (f : Fld) (v : Nat) (w : Word) : Word :=
  (w &&& ~~~f.mask) ||| (BitVec.ofNat 32 (v % 2 ^ f.width * 2 ^ f.lo))

/-- The field with a value, or with its highest when the value does not fit. -/
def Fld.cap (f : Fld) (v : Nat) (w : Word) : Word := f.put (min v (2 ^ f.width - 1)) w

/-- The register with the field holding the low bits of a signed value. -/
def Fld.putInt (f : Fld) (v : Int) (w : Word) : Word := f.put (v % (2 ^ f.width : Nat)).toNat w

/-- The register with every bit of the field 1. -/
def Fld.set (f : Fld) (w : Word) : Word := w ||| f.mask

/-- The register with every bit of the field 0. -/
def Fld.clr (f : Fld) (w : Word) : Word := w &&& ~~~f.mask

/-- The register with the field set or cleared. -/
def Fld.setTo (f : Fld) (b : Bool) (w : Word) : Word := if b then f.set w else f.clr w

/-- Bit `n` of a register. -/
def bitOf (w : Word) (n : Nat) : Bool := w.getLsbD n

/-- A register with bit `n` set. -/
def setBit (n : Nat) (w : Word) : Word := w ||| BitVec.ofNat 32 (2 ^ n)

/-- A register with bit `n` cleared. -/
def clrBit (n : Nat) (w : Word) : Word := w &&& ~~~(BitVec.ofNat 32 (2 ^ n))

/-- A register with bit `n` set to `b`. -/
def putBit (n : Nat) (b : Bool) (w : Word) : Word := if b then setBit n w else clrBit n w

/-- Which bits of a register a bus write reaches, by access code (Table SCP-4): RW, W1C, W1S and
RWL. Every other bit is RO, WO or reserved, and a write leaves it. -/
structure Access where
  rw : Word := 0
  w1c : Word := 0
  w1s : Word := 0
  rwl : Word := 0
  deriving DecidableEq, Repr

/-- The register after a bus write of `v`, by Table SCP-4; `locked` says whether the governing
lock of RWL fields is set. -/
def Access.write (a : Access) (locked : Bool) (old v : Word) : Word :=
  let rw := if locked then a.rw else a.rw ||| a.rwl
  let w := (old &&& ~~~rw) ||| (v &&& rw)
  (w &&& ~~~(v &&& a.w1c)) ||| (v &&& a.w1s)

/-- The four bytes of a word, the least significant first. -/
def wordBytes (w : Word) : List Byte :=
  [w.extractLsb' 0 8, w.extractLsb' 8 8, w.extractLsb' 16 8, w.extractLsb' 24 8]

/-- The two low bytes of a number, the least significant first. -/
def bytes2 (n : Nat) : List Byte := [BitVec.ofNat 8 n, BitVec.ofNat 8 (n / 256)]

/-- The four low bytes of a number, the least significant first. -/
def bytes4 (n : Nat) : List Byte := bytes2 n ++ bytes2 (n / 65536)

/-- The eight low bytes of a number, the least significant first. -/
def bytes8 (n : Nat) : List Byte := bytes4 n ++ bytes4 (n / 4294967296)

/-- Bits 63:32 of a count. -/
def highWord (n : Nat) : Word := BitVec.ofNat 32 (n / 4294967296)

/-- The number a little-endian list of bytes spells. -/
def leNat : List Byte → Nat
  | [] => 0
  | b :: t => b.toNat + 256 * leNat t

/-- A list cut or zero-filled to exactly `n` bytes. -/
def padTo (n : Nat) (l : List Byte) : List Byte :=
  (l ++ List.replicate n 0).take n

/-- A buffer with bytes written at its beginning. -/
def overlay (m buf : List Byte) : List Byte := m ++ buf.drop m.length

/-- `n` kept within `lo` and `hi`: a value outside acts as the nearer end. -/
def clampNat (lo hi n : Nat) : Nat := max lo (min hi n)

/-- An integer kept within `lo` and `hi`. -/
def clampInt (lo hi n : Int) : Int := max lo (min hi n)

end Sys2Proof
end

