-- ==== Sys2Proof/Machine/Fields.lean ====
section
/-! DEFINITION. The fields of every register, from the field tables of the spec (Bits column). -/

namespace Sys2Proof

/-! PRT_STATE: 03_attach_and_orientation.md R80. -/
def F.PRT_STATE.DEBUG : Fld := ⟨15, 1⟩
def F.PRT_STATE.NOPD : Fld := ⟨14, 1⟩
def F.PRT_STATE.ORIENT : Fld := ⟨12, 2⟩
def F.PRT_STATE.TC_STATE : Fld := ⟨4, 5⟩
def F.PRT_STATE.STATE : Fld := ⟨0, 4⟩

/-! PRT_CFG: 03_attach_and_orientation.md R80. -/
def F.PRT_CFG.DBGACC_EN : Fld := ⟨6, 1⟩
def F.PRT_CFG.TRY : Fld := ⟨2, 2⟩
def F.PRT_CFG.ROLE : Fld := ⟨0, 2⟩

/-! PRT_CAPT: 03_attach_and_orientation.md R80. -/
def F.PRT_CAPT.CAPT_DEB : Fld := ⟨8, 8⟩
def F.PRT_CAPT.CABLED : Fld := ⟨4, 1⟩
def F.PRT_CAPT.FORCED : Fld := ⟨3, 1⟩
def F.PRT_CAPT.PREARM_EN : Fld := ⟨2, 1⟩
def F.PRT_CAPT.CAPT_EN : Fld := ⟨0, 1⟩

/-! PRT_EVT: 03_attach_and_orientation.md R80. -/
def F.PRT_EVT.HW_STATE : Fld := ⟨8, 1⟩
def F.PRT_EVT.CC_TMR : Fld := ⟨7, 1⟩
def F.PRT_EVT.CMP7 : Fld := ⟨6, 1⟩
def F.PRT_EVT.CMP6 : Fld := ⟨5, 1⟩
def F.PRT_EVT.VCONN_FLT : Fld := ⟨4, 1⟩
def F.PRT_EVT.VBUS_CHG : Fld := ⟨3, 1⟩
def F.PRT_EVT.DETACH_HW : Fld := ⟨2, 1⟩
def F.PRT_EVT.DEB_DONE : Fld := ⟨1, 1⟩
def F.PRT_EVT.CC_CHG : Fld := ⟨0, 1⟩

/-! CC_CTL: 03_attach_and_orientation.md R81. -/
def F.CC_CTL.CC2_TERM : Fld := ⟨6, 2⟩
def F.CC_CTL.CC1_TERM : Fld := ⟨4, 2⟩
def F.CC_CTL.RP_LVL : Fld := ⟨2, 2⟩
def F.CC_CTL.AUTO_THR : Fld := ⟨1, 1⟩
def F.CC_CTL.HW_DRP : Fld := ⟨0, 1⟩

/-! CC_STAT: 03_attach_and_orientation.md R81. -/
def F.CC_STAT.CC2_DEC : Fld := ⟨10, 2⟩
def F.CC_STAT.CC1_DEC : Fld := ⟨8, 2⟩
def F.CC_STAT.DEB_RUN : Fld := ⟨1, 1⟩
def F.CC_STAT.DRP_PHASE : Fld := ⟨0, 1⟩

/-! CC_TICK: 03_attach_and_orientation.md R81. -/
def F.CC_TICK.DET_CLASS : Fld := ⟨6, 2⟩
def F.CC_TICK.SMP_TICK : Fld := ⟨0, 3⟩

/-! CC_DEB: 03_attach_and_orientation.md R81. -/
def F.CC_DEB.TDETACH : Fld := ⟨24, 4⟩
def F.CC_DEB.PDDEB : Fld := ⟨16, 8⟩
def F.CC_DEB.ATT_DEB : Fld := ⟨0, 8⟩

/-! CC_DRP: 03_attach_and_orientation.md R81. -/
def F.CC_DRP.TDRPTRY : Fld := ⟨24, 8⟩
def F.CC_DRP.TTRYDEB : Fld := ⟨16, 8⟩
def F.CC_DRP.TDRP : Fld := ⟨8, 8⟩
def F.CC_DRP.DUTY : Fld := ⟨0, 7⟩

/-! VCONN_CTL: 03_attach_and_orientation.md R81. -/
def F.VCONN_CTL.VCONN_RES : Fld := ⟨8, 8⟩
def F.VCONN_CTL.VCONN_PIN : Fld := ⟨1, 1⟩
def F.VCONN_CTL.VCONN_EN : Fld := ⟨0, 1⟩

/-! VCONN_STAT: 03_attach_and_orientation.md R81. -/
def F.VCONN_STAT.AGG_OFF : Fld := ⟨4, 1⟩
def F.VCONN_STAT.REV : Fld := ⟨3, 1⟩
def F.VCONN_STAT.OCP : Fld := ⟨2, 1⟩
def F.VCONN_STAT.DENIED : Fld := ⟨1, 1⟩
def F.VCONN_STAT.ON : Fld := ⟨0, 1⟩

/-! CMP_LATCH: 03_attach_and_orientation.md R81. -/
def F.CMP_LATCH.LATCH : Fld := ⟨0, 8⟩

/-! CMP_OUT: 03_attach_and_orientation.md R81. -/
def F.CMP_OUT.STRAINED : Fld := ⟨8, 8⟩
def F.CMP_OUT.RAW : Fld := ⟨0, 8⟩

/-! CMP_CFG: 03_attach_and_orientation.md R81. -/
def F.CMP_CFG.CLASS : Fld := ⟨14, 2⟩
def F.CMP_CFG.THR : Fld := ⟨0, 10⟩

/-! CMP_STR: 03_attach_and_orientation.md R81. -/
def F.CMP_STR.INT : Fld := ⟨8, 8⟩
def F.CMP_STR.M : Fld := ⟨4, 4⟩
def F.CMP_STR.N : Fld := ⟨0, 4⟩

/-! CTX_CTL: 04_pd_protocol_engine.md R124. -/
def F.CTX_CTL.REV : Fld := ⟨6, 2⟩
def F.CTX_CTL.UNCHUNK : Fld := ⟨5, 1⟩
def F.CTX_CTL.KA_ACK : Fld := ⟨4, 1⟩
def F.CTX_CTL.EN : Fld := ⟨0, 1⟩

/-! CTX_ID: 04_pd_protocol_engine.md R124. -/
def F.CTX_ID.RX_VALID : Fld := ⟨7, 1⟩
def F.CTX_ID.RX_ID : Fld := ⟨4, 3⟩
def F.CTX_ID.TX_ID : Fld := ⟨0, 3⟩

/-! CTX_TXCMD: 04_pd_protocol_engine.md R124. -/
def F.CTX_TXCMD.BUF : Fld := ⟨2, 1⟩
def F.CTX_TXCMD.AMS : Fld := ⟨1, 1⟩
def F.CTX_TXCMD.SEND : Fld := ⟨0, 1⟩

/-! CTX_TXSTAT: 04_pd_protocol_engine.md R124. -/
def F.CTX_TXSTAT.OVR : Fld := ⟨9, 1⟩
def F.CTX_TXSTAT.DONE : Fld := ⟨8, 1⟩
def F.CTX_TXSTAT.TRIES : Fld := ⟨4, 2⟩
def F.CTX_TXSTAT.RESULT : Fld := ⟨0, 4⟩

/-! CTX_RXCNT: 04_pd_protocol_engine.md R124. -/
def F.CTX_RXCNT.DUP : Fld := ⟨16, 16⟩
def F.CTX_RXCNT.CRC_ERR : Fld := ⟨0, 16⟩

/-! CTX_XFER: 04_pd_protocol_engine.md R124. -/
def F.CTX_XFER.TX_CHUNK : Fld := ⟨12, 4⟩
def F.CTX_XFER.RX_CHUNK : Fld := ⟨8, 4⟩
def F.CTX_XFER.RX_ACT : Fld := ⟨1, 1⟩
def F.CTX_XFER.TX_ACT : Fld := ⟨0, 1⟩

/-! PD_PHYCFG: 04_pd_protocol_engine.md R125. -/
def F.PD_PHYCFG.SWAP : Fld := ⟨11, 1⟩
def F.PD_PHYCFG.EPR : Fld := ⟨10, 1⟩
def F.PD_PHYCFG.DATA_ROLE : Fld := ⟨9, 1⟩
def F.PD_PHYCFG.PWR_ROLE : Fld := ⟨8, 1⟩
def F.PD_PHYCFG.AMS_END : Fld := ⟨5, 1⟩
def F.PD_PHYCFG.CA_EN : Fld := ⟨4, 1⟩
def F.PD_PHYCFG.SOPPP_RX : Fld := ⟨2, 1⟩
def F.PD_PHYCFG.SOPP_RX : Fld := ⟨1, 1⟩
def F.PD_PHYCFG.SOP_RX : Fld := ⟨0, 1⟩

/-! PD_PHYSTAT: 04_pd_protocol_engine.md R125. -/
def F.PD_PHYSTAT.SINKTXOK : Fld := ⟨3, 1⟩
def F.PD_PHYSTAT.LINE_BUSY : Fld := ⟨2, 1⟩
def F.PD_PHYSTAT.RXING : Fld := ⟨1, 1⟩
def F.PD_PHYSTAT.TXING : Fld := ⟨0, 1⟩

/-! PD_SIGNAL: 04_pd_protocol_engine.md R125. -/
def F.PD_SIGNAL.BIST_CM : Fld := ⟨2, 1⟩
def F.PD_SIGNAL.CABLE_RESET : Fld := ⟨1, 1⟩
def F.PD_SIGNAL.HARD_RESET : Fld := ⟨0, 1⟩

/-! PD_SIGSTAT: 04_pd_protocol_engine.md R125. -/
def F.PD_SIGSTAT.BIST_END : Fld := ⟨4, 1⟩
def F.PD_SIGSTAT.HR_FAIL : Fld := ⟨3, 1⟩
def F.PD_SIGSTAT.CR_SENT : Fld := ⟨2, 1⟩
def F.PD_SIGSTAT.HR_SENT : Fld := ⟨1, 1⟩
def F.PD_SIGSTAT.HR_RCVD : Fld := ⟨0, 1⟩

/-! PD_REV: 04_pd_protocol_engine.md R125. -/
def F.PD_REV.CABLE : Fld := ⟨8, 8⟩
def F.PD_REV.PARTNER : Fld := ⟨0, 8⟩

/-! PD_EVT: 04_pd_protocol_engine.md R125. -/
def F.PD_EVT.BIST_END : Fld := ⟨10, 1⟩
def F.PD_EVT.CR_SENT : Fld := ⟨9, 1⟩
def F.PD_EVT.KA_AUTO : Fld := ⟨8, 1⟩
def F.PD_EVT.RX_FULL : Fld := ⟨7, 1⟩
def F.PD_EVT.TMR : Fld := ⟨6, 1⟩
def F.PD_EVT.HR_SENT : Fld := ⟨5, 1⟩
def F.PD_EVT.HR_RCVD : Fld := ⟨4, 1⟩
def F.PD_EVT.TX_DONE : Fld := ⟨1, 3⟩
def F.PD_EVT.RX : Fld := ⟨0, 1⟩

/-! PD_RXHEAD: 04_pd_protocol_engine.md R125. -/
def F.PD_RXHEAD.PEND : Fld := ⟨4, 4⟩
def F.PD_RXHEAD.HEAD : Fld := ⟨0, 2⟩

/-! PD_TMRV: 04_pd_protocol_engine.md R125. -/
def F.PD_TMRV.REMAIN : Fld := ⟨16, 16⟩
def F.PD_TMRV.VALUE : Fld := ⟨0, 16⟩

/-! PD_RXDESC: 04_pd_protocol_engine.md R125. -/
def F.PD_RXDESC.VALID : Fld := ⟨31, 1⟩
def F.PD_RXDESC.SOP : Fld := ⟨29, 2⟩
def F.PD_RXDESC.SEQ : Fld := ⟨16, 8⟩
def F.PD_RXDESC.LEN : Fld := ⟨0, 9⟩

/-! PD_TXDESC: 04_pd_protocol_engine.md R125. -/
def F.PD_TXDESC.LEN : Fld := ⟨0, 9⟩

/-! PD_TXWIN: 04_pd_protocol_engine.md R125. -/
def F.PD_TXWIN.SEL : Fld := ⟨0, 1⟩

/-! PTH_CTL: 05_power_path_and_breaker.md R156. -/
def F.PTH_CTL.TRIM_EN : Fld := ⟨3, 1⟩
def F.PTH_CTL.DIS_EN : Fld := ⟨2, 1⟩
def F.PTH_CTL.CEN_EN : Fld := ⟨1, 1⟩
def F.PTH_CTL.PATH_EN : Fld := ⟨0, 1⟩

/-! PTH_STAT: 05_power_path_and_breaker.md R156. -/
def F.PTH_STAT.CAUSE : Fld := ⟨12, 4⟩
def F.PTH_STAT.VSAFE0 : Fld := ⟨7, 1⟩
def F.PTH_STAT.CV_RDY : Fld := ⟨6, 1⟩
def F.PTH_STAT.DIS_ON : Fld := ⟨5, 1⟩
def F.PTH_STAT.LIMIT : Fld := ⟨4, 1⟩
def F.PTH_STAT.AT_TARGET : Fld := ⟨3, 1⟩
def F.PTH_STAT.CNV : Fld := ⟨2, 1⟩
def F.PTH_STAT.LIN : Fld := ⟨1, 1⟩
def F.PTH_STAT.GATE_ON : Fld := ⟨0, 1⟩

/-! PTH_STEEP: 05_power_path_and_breaker.md R156. -/
def F.PTH_STEEP.TARGET : Fld := ⟨16, 12⟩
def F.PTH_STEEP.RATE : Fld := ⟨0, 7⟩

/-! PTH_REF: 05_power_path_and_breaker.md R156. -/
def F.PTH_REF.REF : Fld := ⟨16, 12⟩

/-! PTH_CEIL: 05_power_path_and_breaker.md R156. -/
def F.PTH_CEIL.CEIL : Fld := ⟨0, 10⟩

/-! PTH_RATING: 05_power_path_and_breaker.md R156. -/
def F.PTH_RATING.CAD_LIM : Fld := ⟨16, 10⟩
def F.PTH_RATING.RATING : Fld := ⟨0, 10⟩

/-! PTH_INRUSH: 05_power_path_and_breaker.md R156. -/
def F.PTH_INRUSH.ILIM : Fld := ⟨0, 7⟩

/-! PTH_FAST: 05_power_path_and_breaker.md R156. -/
def F.PTH_FAST.FT_THR : Fld := ⟨0, 8⟩

/-! PTH_OV: 05_power_path_and_breaker.md R156. -/
def F.PTH_OV.OV_ABS : Fld := ⟨16, 6⟩
def F.PTH_OV.CVOV_PCT : Fld := ⟨8, 5⟩
def F.PTH_OV.OV_PCT : Fld := ⟨0, 5⟩

/-! PTH_REV: 05_power_path_and_breaker.md R156. -/
def F.PTH_REV.REV_THR : Fld := ⟨0, 5⟩

/-! PTH_SENSE: 05_power_path_and_breaker.md R156. -/
def F.PTH_SENSE.SHUNT : Fld := ⟨0, 10⟩

/-! PTH_FBCAL: 05_power_path_and_breaker.md R156. -/
def F.PTH_FBCAL.FB_OFS : Fld := ⟨16, 16⟩
def F.PTH_FBCAL.FB_GAIN : Fld := ⟨0, 16⟩

/-! PTH_FBS: 05_power_path_and_breaker.md R156. -/
def F.PTH_FBS.CODE : Fld := ⟨0, 13⟩

/-! PTH_CNV: 05_power_path_and_breaker.md R156. -/
def F.PTH_CNV.CV_TMO : Fld := ⟨0, 5⟩

/-! PTH_DIS: 05_power_path_and_breaker.md R156. -/
def F.PTH_DIS.DIS_I : Fld := ⟨8, 2⟩
def F.PTH_DIS.DIS_TMO : Fld := ⟨0, 8⟩

/-! PTH_RETRY: 05_power_path_and_breaker.md R156. -/
def F.PTH_RETRY.CLR : Fld := ⟨31, 1⟩
def F.PTH_RETRY.MAX : Fld := ⟨24, 3⟩
def F.PTH_RETRY.COUNT : Fld := ⟨20, 3⟩
def F.PTH_RETRY.EXH : Fld := ⟨19, 1⟩
def F.PTH_RETRY.DUE : Fld := ⟨18, 1⟩
def F.PTH_RETRY.ABS : Fld := ⟨17, 1⟩
def F.PTH_RETRY.REMAIN : Fld := ⟨0, 16⟩

/-! PTH_EVT: 05_power_path_and_breaker.md R156. -/
def F.PTH_EVT.RETRY_CLR : Fld := ⟨19, 1⟩
def F.PTH_EVT.DIS_DONE : Fld := ⟨18, 1⟩
def F.PTH_EVT.RETRY_DUE : Fld := ⟨17, 1⟩
def F.PTH_EVT.RAMP_DONE : Fld := ⟨16, 1⟩
def F.PTH_EVT.DIS_TMO : Fld := ⟨12, 1⟩
def F.PTH_EVT.CEIL_REF : Fld := ⟨11, 1⟩
def F.PTH_EVT.CAUSES : Fld := ⟨0, 11⟩

/-! PTH_HEAT: 05_power_path_and_breaker.md R156. -/
def F.PTH_HEAT.HEAT : Fld := ⟨0, 16⟩

/-! PTH_CPT: 05_power_path_and_breaker.md R157. -/
def F.PTH_CPT.MULT : Fld := ⟨16, 10⟩
def F.PTH_CPT.UNIT : Fld := ⟨14, 2⟩
def F.PTH_CPT.TIME : Fld := ⟨0, 14⟩

/-! PTH_CCFG: 05_power_path_and_breaker.md R157. -/
def F.PTH_CCFG.COMMIT : Fld := ⟨31, 1⟩
def F.PTH_CCFG.COOL : Fld := ⟨16, 8⟩
def F.PTH_CCFG.NPTS : Fld := ⟨0, 5⟩

/-! PTH_CSTAT: 05_power_path_and_breaker.md R157. -/
def F.PTH_CSTAT.ACTIVE : Fld := ⟨4, 5⟩
def F.PTH_CSTAT.ERR : Fld := ⟨1, 1⟩
def F.PTH_CSTAT.BUSY : Fld := ⟨0, 1⟩

/-! FED_CTL: 05_power_path_and_breaker.md R158. -/
def F.FED_CTL.RETURN : Fld := ⟨31, 1⟩
def F.FED_CTL.QUAL : Fld := ⟨16, 8⟩
def F.FED_CTL.BBM : Fld := ⟨8, 8⟩
def F.FED_CTL.THIRD : Fld := ⟨4, 2⟩
def F.FED_CTL.SECOND : Fld := ⟨2, 2⟩
def F.FED_CTL.FIRST : Fld := ⟨0, 2⟩

/-! FED_STAT: 05_power_path_and_breaker.md R158. -/
def F.FED_STAT.SWITCHING : Fld := ⟨8, 1⟩
def F.FED_STAT.QUAL_P : Fld := ⟨6, 1⟩
def F.FED_STAT.QUAL_B : Fld := ⟨5, 1⟩
def F.FED_STAT.QUAL_A : Fld := ⟨4, 1⟩
def F.FED_STAT.ACTIVE : Fld := ⟨0, 2⟩

/-! FED_EVT: 05_power_path_and_breaker.md R158. -/
def F.FED_EVT.BBM_WAIT : Fld := ⟨5, 1⟩
def F.FED_EVT.NONE : Fld := ⟨4, 1⟩
def F.FED_EVT.SWITCHED : Fld := ⟨3, 1⟩
def F.FED_EVT.LOST_P : Fld := ⟨2, 1⟩
def F.FED_EVT.LOST_B : Fld := ⟨1, 1⟩
def F.FED_EVT.LOST_A : Fld := ⟨0, 1⟩

/-! FED_PPORT: 05_power_path_and_breaker.md R158. -/
def F.FED_PPORT.VALID : Fld := ⟨7, 1⟩
def F.FED_PPORT.PORT : Fld := ⟨0, 7⟩

/-! FED_WIN: 05_power_path_and_breaker.md R158. -/
def F.FED_WIN.OV : Fld := ⟨16, 10⟩
def F.FED_WIN.UV : Fld := ⟨0, 10⟩

/-! CAD_CTL: 06_caddy_power_ledger.md R187. -/
def F.CAD_CTL.HOLD : Fld := ⟨8, 8⟩
def F.CAD_CTL.EN : Fld := ⟨0, 1⟩

/-! CAD_ROWCFG: 06_caddy_power_ledger.md R187. -/
def F.CAD_ROWCFG.SYNC_TMO : Fld := ⟨16, 6⟩
def F.CAD_ROWCFG.SYNC_EDGE : Fld := ⟨9, 1⟩
def F.CAD_ROWCFG.SYNC_EN : Fld := ⟨8, 1⟩
def F.CAD_ROWCFG.LEN : Fld := ⟨0, 6⟩

/-! CAD_STAT: 06_caddy_power_ledger.md R187. -/
def F.CAD_STAT.PAUSED : Fld := ⟨31, 1⟩
def F.CAD_STAT.SHEDDING : Fld := ⟨30, 1⟩
def F.CAD_STAT.OVER : Fld := ⟨29, 1⟩
def F.CAD_STAT.SOURCE : Fld := ⟨0, 2⟩

/-! CAD_EVT: 06_caddy_power_ledger.md R187. -/
def F.CAD_EVT.BUDGET_CHG : Fld := ⟨6, 1⟩
def F.CAD_EVT.POOL_EMPTY : Fld := ⟨5, 1⟩
def F.CAD_EVT.SHED_END : Fld := ⟨4, 1⟩
def F.CAD_EVT.SHED_START : Fld := ⟨3, 1⟩
def F.CAD_EVT.BINDOFF : Fld := ⟨2, 1⟩
def F.CAD_EVT.SYNC_EARLY : Fld := ⟨1, 1⟩
def F.CAD_EVT.SYNC_LOST : Fld := ⟨0, 1⟩

/-! CAD_BUDGET: 06_caddy_power_ledger.md R187. -/
def F.CAD_BUDGET.VALUE : Fld := ⟨0, 20⟩

/-! CAD_COMMIT: 06_caddy_power_ledger.md R187. -/
def F.CAD_COMMIT.VALUE : Fld := ⟨0, 20⟩

/-! CAD_DEFICIT: 06_caddy_power_ledger.md R187. -/
def F.CAD_DEFICIT.VALUE : Fld := ⟨0, 20⟩

/-! CAD_POOL: 06_caddy_power_ledger.md R187. -/
def F.CAD_POOL.BAL : Fld := ⟨16, 16⟩
def F.CAD_POOL.POOLSZ : Fld := ⟨0, 16⟩

/-! CAD_SHED: 06_caddy_power_ledger.md R187. -/
def F.CAD_SHED.LIMMIN : Fld := ⟨16, 8⟩
def F.CAD_SHED.DEADLINE : Fld := ⟨0, 8⟩

/-! CAD_LIM: 06_caddy_power_ledger.md R187. -/
def F.CAD_LIM.LIM : Fld := ⟨0, 20⟩

/-! CAD_EFF: 06_caddy_power_ledger.md R187. -/
def F.CAD_EFF.VMAX : Fld := ⟨16, 10⟩
def F.CAD_EFF.EFF : Fld := ⟨0, 10⟩

/-! CAD_PCFG: 06_caddy_power_ledger.md R187. -/
def F.CAD_PCFG.PMIN : Fld := ⟨8, 8⟩
def F.CAD_PCFG.V5 : Fld := ⟨4, 2⟩
def F.CAD_PCFG.CLASS : Fld := ⟨0, 2⟩

/-! CAD_PHOLD: 06_caddy_power_ledger.md R187. -/
def F.CAD_PHOLD.SHED : Fld := ⟨31, 1⟩
def F.CAD_PHOLD.SETTLED : Fld := ⟨30, 1⟩
def F.CAD_PHOLD.LIMITED : Fld := ⟨29, 1⟩
def F.CAD_PHOLD.WAIT5 : Fld := ⟨28, 1⟩
def F.CAD_PHOLD.HOLD : Fld := ⟨0, 16⟩

/-! CAD_PREQ: 06_caddy_power_ledger.md R187. -/
def F.CAD_PREQ.VALID : Fld := ⟨31, 1⟩
def F.CAD_PREQ.UPG : Fld := ⟨30, 1⟩
def F.CAD_PREQ.AGE : Fld := ⟨16, 8⟩
def F.CAD_PREQ.UNITS : Fld := ⟨0, 16⟩

/-! CAD_WREQ: 06_caddy_power_ledger.md R188. -/
def F.CAD_WREQ.KIND : Fld := ⟨29, 3⟩
def F.CAD_WREQ.VOLT : Fld := ⟨18, 10⟩
def F.CAD_WREQ.POUT : Fld := ⟨0, 16⟩

/-! CAD_WRES: 06_caddy_power_ledger.md R188. -/
def F.CAD_WRES.VALID : Fld := ⟨31, 1⟩
def F.CAD_WRES.OUTCOME : Fld := ⟨28, 3⟩
def F.CAD_WRES.ROW : Fld := ⟨16, 8⟩
def F.CAD_WRES.GOUT : Fld := ⟨0, 16⟩

/-! TEL_PCFG: 07_telemetry_codec.md R207. -/
def F.TEL_PCFG.K_VCV : Fld := ⟨12, 3⟩
def F.TEL_PCFG.K_IBUS : Fld := ⟨8, 3⟩
def F.TEL_PCFG.K_VBUS : Fld := ⟨4, 3⟩
def F.TEL_PCFG.VCV_EN : Fld := ⟨2, 1⟩
def F.TEL_PCFG.IBUS_EN : Fld := ⟨1, 1⟩
def F.TEL_PCFG.VBUS_EN : Fld := ⟨0, 1⟩

/-! TEL_PSTAT: 07_telemetry_codec.md R207. -/
def F.TEL_PSTAT.ADC : Fld := ⟨4, 2⟩
def F.TEL_PSTAT.FAIL : Fld := ⟨3, 1⟩
def F.TEL_PSTAT.VCV_ON : Fld := ⟨2, 1⟩
def F.TEL_PSTAT.IBUS_ON : Fld := ⟨1, 1⟩
def F.TEL_PSTAT.VBUS_ON : Fld := ⟨0, 1⟩

/-! TEL_PVBUS: 07_telemetry_codec.md R207. -/
def F.TEL_PVBUS.LAST : Fld := ⟨0, 12⟩

/-! TEL_PIBUS: 07_telemetry_codec.md R207. -/
def F.TEL_PIBUS.LAST : Fld := ⟨0, 12⟩

/-! TEL_PVCV: 07_telemetry_codec.md R207. -/
def F.TEL_PVCV.LAST : Fld := ⟨0, 12⟩

/-! TEL_PTHV: 07_telemetry_codec.md R207. -/
def F.TEL_PTHV.HI_EN : Fld := ⟨31, 1⟩

/-! TEL_PTHI: 07_telemetry_codec.md R207. -/
def F.TEL_PTHI.HI_EN : Fld := ⟨31, 1⟩

/-! TEL_PTHC: 07_telemetry_codec.md R207. -/
def F.TEL_PTHC.HI_EN : Fld := ⟨31, 1⟩

/-! TEL_PTHV: 07_telemetry_codec.md R207. -/
def F.TEL_PTHV.HI : Fld := ⟨16, 12⟩

/-! TEL_PTHI: 07_telemetry_codec.md R207. -/
def F.TEL_PTHI.HI : Fld := ⟨16, 12⟩

/-! TEL_PTHC: 07_telemetry_codec.md R207. -/
def F.TEL_PTHC.HI : Fld := ⟨16, 12⟩

/-! TEL_PTHV: 07_telemetry_codec.md R207. -/
def F.TEL_PTHV.LO_EN : Fld := ⟨15, 1⟩

/-! TEL_PTHI: 07_telemetry_codec.md R207. -/
def F.TEL_PTHI.LO_EN : Fld := ⟨15, 1⟩

/-! TEL_PTHC: 07_telemetry_codec.md R207. -/
def F.TEL_PTHC.LO_EN : Fld := ⟨15, 1⟩

/-! TEL_PTHV: 07_telemetry_codec.md R207. -/
def F.TEL_PTHV.LO : Fld := ⟨0, 12⟩

/-! TEL_PTHI: 07_telemetry_codec.md R207. -/
def F.TEL_PTHI.LO : Fld := ⟨0, 12⟩

/-! TEL_PTHC: 07_telemetry_codec.md R207. -/
def F.TEL_PTHC.LO : Fld := ⟨0, 12⟩

/-! TEL_PEVT: 07_telemetry_codec.md R207. -/
def F.TEL_PEVT.FAIL : Fld := ⟨3, 1⟩
def F.TEL_PEVT.THR_VCV : Fld := ⟨2, 1⟩
def F.TEL_PEVT.THR_IBUS : Fld := ⟨1, 1⟩
def F.TEL_PEVT.THR_VBUS : Fld := ⟨0, 1⟩

/-! TEL_CTL: 07_telemetry_codec.md R208. -/
def F.TEL_CTL.HYST : Fld := ⟨8, 8⟩
def F.TEL_CTL.EN : Fld := ⟨0, 1⟩

/-! TEL_STAT: 07_telemetry_codec.md R208. -/
def F.TEL_STAT.RUN : Fld := ⟨31, 1⟩
def F.TEL_STAT.DROPPING : Fld := ⟨30, 1⟩

/-! TEL_WOFF: 07_telemetry_codec.md R208. -/
def F.TEL_WOFF.OFFSET : Fld := ⟨0, 19⟩

/-! TEL_ROFF: 07_telemetry_codec.md R208. -/
def F.TEL_ROFF.OFFSET : Fld := ⟨0, 19⟩

/-! TEL_FREE: 07_telemetry_codec.md R208. -/
def F.TEL_FREE.BYTES : Fld := ⟨0, 19⟩

/-! TEL_DROPS: 07_telemetry_codec.md R208. -/
def F.TEL_DROPS.COUNT : Fld := ⟨0, 32⟩

/-! TEL_GAPS: 07_telemetry_codec.md R208. -/
def F.TEL_GAPS.COUNT : Fld := ⟨0, 32⟩

/-! TEL_BLOCKS: 07_telemetry_codec.md R208. -/
def F.TEL_BLOCKS.COUNT : Fld := ⟨0, 32⟩

/-! TEL_FRAMEHI: 07_telemetry_codec.md R208. -/
def F.TEL_FRAMEHI.FRAME : Fld := ⟨0, 23⟩

/-! TEL_SYSEN: 07_telemetry_codec.md R208. -/
def F.TEL_SYSEN.EN : Fld := ⟨0, 9⟩

/-! TEL_SYSK: 07_telemetry_codec.md R208. -/
def F.TEL_SYSK.K : Fld := ⟨0, 27⟩

/-! TEL_ADCFAIL: 07_telemetry_codec.md R208. -/
def F.TEL_ADCFAIL.FAIL : Fld := ⟨0, 16⟩

/-! TEL_EVT: 07_telemetry_codec.md R208. -/
def F.TEL_EVT.SYS_THR : Fld := ⟨3, 1⟩
def F.TEL_EVT.ADC_FAIL : Fld := ⟨2, 1⟩
def F.TEL_EVT.DROP_END : Fld := ⟨1, 1⟩
def F.TEL_EVT.DROP_START : Fld := ⟨0, 1⟩

/-! TEL_SYSLAST: 07_telemetry_codec.md R208. -/
def F.TEL_SYSLAST.LAST : Fld := ⟨0, 12⟩

/-! HID_CLASS: 08_host_link_and_mailboxes.md R214. -/
def F.HID_CLASS.LAYOUT : Fld := ⟨16, 16⟩
def F.HID_CLASS.CLASS : Fld := ⟨0, 16⟩

/-! HID_FWVER: 08_host_link_and_mailboxes.md R214. -/
def F.HID_FWVER.MAJOR : Fld := ⟨24, 8⟩
def F.HID_FWVER.MINOR : Fld := ⟨16, 8⟩
def F.HID_FWVER.PATCH : Fld := ⟨0, 16⟩

/-! HID_PROTO: 08_host_link_and_mailboxes.md R214. -/
def F.HID_PROTO.MAX : Fld := ⟨16, 16⟩
def F.HID_PROTO.MIN : Fld := ⟨0, 16⟩

/-! HID_SESSION: 08_host_link_and_mailboxes.md R214. -/
def F.HID_SESSION.CUR : Fld := ⟨16, 16⟩
def F.HID_SESSION.SESSION : Fld := ⟨0, 16⟩

/-! HID_STATE: 08_host_link_and_mailboxes.md R214. -/
def F.HID_STATE.WARMS : Fld := ⟨24, 8⟩
def F.HID_STATE.SLOT : Fld := ⟨9, 1⟩
def F.HID_STATE.READY : Fld := ⟨8, 1⟩
def F.HID_STATE.STATUS : Fld := ⟨0, 3⟩

/-! DB_CMD_TAIL: 08_host_link_and_mailboxes.md R215. -/
def F.DB_CMD_TAIL.INDEX : Fld := ⟨0, 10⟩

/-! DB_CMD_HEAD: 08_host_link_and_mailboxes.md R215. -/
def F.DB_CMD_HEAD.INDEX : Fld := ⟨0, 10⟩

/-! DB_CPL_TAIL: 08_host_link_and_mailboxes.md R215. -/
def F.DB_CPL_TAIL.INDEX : Fld := ⟨0, 10⟩

/-! DB_CPL_HEAD: 08_host_link_and_mailboxes.md R215. -/
def F.DB_CPL_HEAD.INDEX : Fld := ⟨0, 10⟩

/-! DB_EVT_TAIL: 08_host_link_and_mailboxes.md R215. -/
def F.DB_EVT_TAIL.INDEX : Fld := ⟨0, 13⟩

/-! DB_EVT_HEAD: 08_host_link_and_mailboxes.md R215. -/
def F.DB_EVT_HEAD.INDEX : Fld := ⟨0, 13⟩

/-! DB_EVT_LOST: 08_host_link_and_mailboxes.md R215. -/
def F.DB_EVT_LOST.COUNT : Fld := ⟨0, 32⟩

/-! DB_VPENDLO: 08_host_link_and_mailboxes.md R215. -/
def F.DB_VPENDLO.PEND : Fld := ⟨0, 32⟩

/-! DB_VPENDHI: 08_host_link_and_mailboxes.md R215. -/
def F.DB_VPENDHI.PEND : Fld := ⟨0, 32⟩

/-! DB_VENLO: 08_host_link_and_mailboxes.md R215. -/
def F.DB_VENLO.EN : Fld := ⟨0, 32⟩

/-! DB_VENHI: 08_host_link_and_mailboxes.md R215. -/
def F.DB_VENHI.EN : Fld := ⟨0, 32⟩

/-! DB_ALERTCFG: 08_host_link_and_mailboxes.md R215. -/
def F.DB_ALERTCFG.HOLD3 : Fld := ⟨24, 8⟩
def F.DB_ALERTCFG.HOLD2 : Fld := ⟨16, 8⟩
def F.DB_ALERTCFG.HOLD1 : Fld := ⟨8, 8⟩
def F.DB_ALERTCFG.HOLD0 : Fld := ⟨0, 8⟩

/-! DB_CPLVEC: 08_host_link_and_mailboxes.md R215. -/
def F.DB_CPLVEC.EN : Fld := ⟨7, 1⟩
def F.DB_CPLVEC.VEC : Fld := ⟨0, 6⟩

/-! MT_STATE: 08_host_link_and_mailboxes.md R229. -/
def F.MT_STATE.SESSION : Fld := ⟨16, 16⟩
def F.MT_STATE.READY : Fld := ⟨8, 1⟩
def F.MT_STATE.STATUS : Fld := ⟨0, 3⟩

/-! MT_ALERT: 08_host_link_and_mailboxes.md R229. -/
def F.MT_ALERT.PEND : Fld := ⟨4, 4⟩
def F.MT_ALERT.PIN : Fld := ⟨0, 4⟩

/-! MT_HEALTH: 08_host_link_and_mailboxes.md R229. -/
def F.MT_HEALTH.REPLACE : Fld := ⟨31, 1⟩
def F.MT_HEALTH.FLASH_SLOT : Fld := ⟨6, 1⟩
def F.MT_HEALTH.LOCKSTEP : Fld := ⟨5, 1⟩
def F.MT_HEALTH.ECC : Fld := ⟨4, 1⟩
def F.MT_HEALTH.ADC : Fld := ⟨3, 1⟩
def F.MT_HEALTH.FEED : Fld := ⟨2, 1⟩
def F.MT_HEALTH.FENCED : Fld := ⟨1, 1⟩
def F.MT_HEALTH.SPARE : Fld := ⟨0, 1⟩

/-! MT_LINK: 08_host_link_and_mailboxes.md R229. -/
def F.MT_LINK.ERRCNT : Fld := ⟨16, 16⟩
def F.MT_LINK.QUAD : Fld := ⟨1, 1⟩
def F.MT_LINK.STRAP : Fld := ⟨0, 1⟩

/-! MT_RECOVER: 08_host_link_and_mailboxes.md R229. -/
def F.MT_RECOVER.KEY : Fld := ⟨24, 8⟩
def F.MT_RECOVER.ACTION : Fld := ⟨0, 2⟩

/-! EVR_ROUTE: 08_host_link_and_mailboxes.md R236. -/
def F.EVR_ROUTE.EN : Fld := ⟨7, 1⟩
def F.EVR_ROUTE.VEC : Fld := ⟨0, 6⟩

/-! CRU_STAT: 10_clock_root_and_supplies.md R299. -/
def F.CRU_STAT.OP : Fld := ⟨10, 2⟩
def F.CRU_STAT.DVFS_BUSY : Fld := ⟨9, 1⟩
def F.CRU_STAT.SS_ON : Fld := ⟨5, 1⟩
def F.CRU_STAT.ROOT_PLL : Fld := ⟨4, 1⟩
def F.CRU_STAT.PLL_LOCK : Fld := ⟨3, 1⟩
def F.CRU_STAT.XIN_OK : Fld := ⟨2, 1⟩
def F.CRU_STAT.LPO_OK : Fld := ⟨1, 1⟩
def F.CRU_STAT.PGOOD : Fld := ⟨0, 1⟩

/-! CRU_EVT: 10_clock_root_and_supplies.md R299. -/
def F.CRU_EVT.GATE_REF : Fld := ⟨5, 1⟩
def F.CRU_EVT.PG_LOST : Fld := ⟨4, 1⟩
def F.CRU_EVT.PG_TMO : Fld := ⟨3, 1⟩
def F.CRU_EVT.DVFS_DONE : Fld := ⟨2, 1⟩
def F.CRU_EVT.WAKE : Fld := ⟨1, 1⟩
def F.CRU_EVT.SS_APPLIED : Fld := ⟨0, 1⟩

/-! CRU_XCNT: 10_clock_root_and_supplies.md R299. -/
def F.CRU_XCNT.ROOT : Fld := ⟨16, 16⟩
def F.CRU_XCNT.XIN : Fld := ⟨0, 16⟩

/-! CRU_PLLCTL: 10_clock_root_and_supplies.md R299. -/
def F.CRU_PLLCTL.SS_RATE : Fld := ⟨8, 8⟩
def F.CRU_PLLCTL.SS_DEPTH : Fld := ⟨4, 4⟩
def F.CRU_PLLCTL.SS_EN : Fld := ⟨0, 1⟩

/-! CRU_DVFS: 10_clock_root_and_supplies.md R299. -/
def F.CRU_DVFS.PG_TMO : Fld := ⟨16, 8⟩
def F.CRU_DVFS.TARGET : Fld := ⟨0, 2⟩

/-! CRU_OPV: 10_clock_root_and_supplies.md R299. -/
def F.CRU_OPV.OP3 : Fld := ⟨6, 2⟩
def F.CRU_OPV.OP2 : Fld := ⟨4, 2⟩
def F.CRU_OPV.OP1 : Fld := ⟨2, 2⟩
def F.CRU_OPV.OP0 : Fld := ⟨0, 2⟩

/-! CRU_GATE: 10_clock_root_and_supplies.md R299. -/
def F.CRU_GATE.PER_EN : Fld := ⟨31, 1⟩
def F.CRU_GATE.STITCH_EN : Fld := ⟨30, 1⟩
def F.CRU_GATE.ST : Fld := ⟨24, 4⟩
def F.CRU_GATE.LED : Fld := ⟨20, 1⟩
def F.CRU_GATE.TMR : Fld := ⟨19, 1⟩
def F.CRU_GATE.CRYPTO : Fld := ⟨18, 1⟩
def F.CRU_GATE.SD : Fld := ⟨17, 1⟩
def F.CRU_GATE.UART : Fld := ⟨16, 1⟩
def F.CRU_GATE.BC1 : Fld := ⟨15, 1⟩
def F.CRU_GATE.BC0 : Fld := ⟨14, 1⟩
def F.CRU_GATE.SE : Fld := ⟨0, 13⟩

/-! CRU_STBY: 10_clock_root_and_supplies.md R299. -/
def F.CRU_STBY.ENTER : Fld := ⟨31, 1⟩
def F.CRU_STBY.CAUSE : Fld := ⟨0, 5⟩

/-! RST_CAUSE: 11_cold_warm_restarts.md R317. -/
def F.RST_CAUSE.CLKFAIL : Fld := ⟨31, 1⟩
def F.RST_CAUSE.WDG2 : Fld := ⟨30, 1⟩
def F.RST_CAUSE.WFAILED : Fld := ⟨29, 1⟩
def F.RST_CAUSE.CFAILED : Fld := ⟨28, 1⟩
def F.RST_CAUSE.SLOTSW : Fld := ⟨27, 1⟩
def F.RST_CAUSE.CAUSE : Fld := ⟨8, 4⟩
def F.RST_CAUSE.KIND : Fld := ⟨0, 2⟩

/-! RST_REQ: 11_cold_warm_restarts.md R317. -/
def F.RST_REQ.KEY : Fld := ⟨16, 16⟩
def F.RST_REQ.SLOT : Fld := ⟨8, 1⟩
def F.RST_REQ.KIND : Fld := ⟨0, 2⟩

/-! RST_BOOT: 11_cold_warm_restarts.md R317. -/
def F.RST_BOOT.RUN : Fld := ⟨31, 1⟩
def F.RST_BOOT.SLOT : Fld := ⟨9, 1⟩
def F.RST_BOOT.NEW : Fld := ⟨8, 1⟩
def F.RST_BOOT.SUMV : Fld := ⟨1, 1⟩

/-! RST_CNT: 11_cold_warm_restarts.md R317. -/
def F.RST_CNT.CLR_B : Fld := ⟨31, 1⟩
def F.RST_CNT.CLR_A : Fld := ⟨30, 1⟩
def F.RST_CNT.CFAIL_B : Fld := ⟨8, 3⟩
def F.RST_CNT.CFAIL_A : Fld := ⟨4, 3⟩
def F.RST_CNT.WFAIL : Fld := ⟨0, 2⟩

/-! RST_RETSUM: 11_cold_warm_restarts.md R317. -/
def F.RST_RETSUM.SUM : Fld := ⟨0, 32⟩

/-! RST_RETVER: 11_cold_warm_restarts.md R317. -/
def F.RST_RETVER.VERSION : Fld := ⟨0, 32⟩

/-! RST_TMR: 11_cold_warm_restarts.md R317. -/
def F.RST_TMR.REMAIN : Fld := ⟨0, 16⟩

/-! RST_FUSE: 11_cold_warm_restarts.md R317. -/
def F.RST_FUSE.CORR : Fld := ⟨16, 12⟩
def F.RST_FUSE.UNCORR : Fld := ⟨0, 12⟩

/-! RST_STRAP: 11_cold_warm_restarts.md R317. -/
def F.RST_STRAP.SVC_RX : Fld := ⟨4, 1⟩
def F.RST_STRAP.TMR3 : Fld := ⟨3, 1⟩
def F.RST_STRAP.TMR2 : Fld := ⟨2, 1⟩
def F.RST_STRAP.TMR1 : Fld := ⟨1, 1⟩
def F.RST_STRAP.TMR0 : Fld := ⟨0, 1⟩

/-! WDG_CTL: 12_safety_watchdog_degraded.md R339. -/
def F.WDG_CTL.LOCK : Fld := ⟨31, 1⟩
def F.WDG_CTL.EN : Fld := ⟨0, 1⟩

/-! WDG_CFG: 12_safety_watchdog_degraded.md R339. -/
def F.WDG_CFG.OPEN : Fld := ⟨16, 8⟩
def F.WDG_CFG.PERIOD : Fld := ⟨0, 16⟩

/-! WDG_KEY: 12_safety_watchdog_degraded.md R339. -/
def F.WDG_KEY.KEY : Fld := ⟨0, 16⟩

/-! WDG_STAT: 12_safety_watchdog_degraded.md R339. -/
def F.WDG_STAT.REMAIN : Fld := ⟨16, 16⟩
def F.WDG_STAT.KEY1 : Fld := ⟨3, 1⟩
def F.WDG_STAT.WOPEN : Fld := ⟨2, 1⟩
def F.WDG_STAT.RECENT : Fld := ⟨1, 1⟩

/-! WDG_TASKEN: 12_safety_watchdog_degraded.md R339. -/
def F.WDG_TASKEN.EN : Fld := ⟨0, 16⟩

/-! WDG_EXP: 12_safety_watchdog_degraded.md R339. -/
def F.WDG_EXP.EXP : Fld := ⟨0, 32⟩

/-! WDG_CHKIN: 12_safety_watchdog_degraded.md R339. -/
def F.WDG_CHKIN.TASK : Fld := ⟨0, 4⟩

/-! WDG_CNTLO: 12_safety_watchdog_degraded.md R339. -/
def F.WDG_CNTLO.CNT : Fld := ⟨0, 32⟩

/-! WDG_CNTHI: 12_safety_watchdog_degraded.md R339. -/
def F.WDG_CNTHI.CNT : Fld := ⟨0, 32⟩

/-! WDG_FAIL: 12_safety_watchdog_degraded.md R339. -/
def F.WDG_FAIL.MANY : Fld := ⟨16, 16⟩
def F.WDG_FAIL.FEW : Fld := ⟨0, 16⟩

/-! WDG_CAUSE: 12_safety_watchdog_degraded.md R339. -/
def F.WDG_CAUSE.KIND : Fld := ⟨0, 3⟩

/-! WDO_CFG: 12_safety_watchdog_degraded.md R339. -/
def F.WDO_CFG.WIDTH : Fld := ⟨0, 8⟩

/-! SAF_STAT: 12_safety_watchdog_degraded.md R339. -/
def F.SAF_STAT.SAFE : Fld := ⟨31, 1⟩
def F.SAF_STAT.HOLD : Fld := ⟨8, 4⟩
def F.SAF_STAT.HOT : Fld := ⟨4, 4⟩
def F.SAF_STAT.LINK : Fld := ⟨0, 4⟩

/-! SAF_EVT: 12_safety_watchdog_degraded.md R339. -/
def F.SAF_EVT.LOCKSTEP : Fld := ⟨5, 1⟩
def F.SAF_EVT.UNCORR : Fld := ⟨4, 1⟩
def F.SAF_EVT.ECC_THR : Fld := ⟨3, 1⟩
def F.SAF_EVT.HOT : Fld := ⟨2, 1⟩
def F.SAF_EVT.LINK_DOWN : Fld := ⟨1, 1⟩
def F.SAF_EVT.HOLD_END : Fld := ⟨0, 1⟩

/-! SAF_TTRIP: 12_safety_watchdog_degraded.md R339. -/
def F.SAF_TTRIP.HYST : Fld := ⟨8, 8⟩
def F.SAF_TTRIP.TRIP : Fld := ⟨0, 8⟩

/-! SAF_ECCTHR: 12_safety_watchdog_degraded.md R339. -/
def F.SAF_ECCTHR.THR : Fld := ⟨0, 16⟩

/-! SAF_ECCCNT: 12_safety_watchdog_degraded.md R339. -/
def F.SAF_ECCCNT.TOTAL : Fld := ⟨16, 16⟩
def F.SAF_ECCCNT.DAY : Fld := ⟨0, 16⟩

/-! SAF_LSCNT: 12_safety_watchdog_degraded.md R339. -/
def F.SAF_LSCNT.TOTAL : Fld := ⟨16, 16⟩
def F.SAF_LSCNT.DAY : Fld := ⟨0, 8⟩

/-! SAF_RT: 12_safety_watchdog_degraded.md R339. -/
def F.SAF_RT.RT : Fld := ⟨0, 32⟩

/-! SAF_ERRADDR: 12_safety_watchdog_degraded.md R339. -/
def F.SAF_ERRADDR.ADDR : Fld := ⟨0, 32⟩

/-! SAF_ERRMEM: 12_safety_watchdog_degraded.md R339. -/
def F.SAF_ERRMEM.VALID : Fld := ⟨31, 1⟩
def F.SAF_ERRMEM.MEM : Fld := ⟨0, 4⟩

/-! SAF_ENGMAP: 12_safety_watchdog_degraded.md R339. -/
def F.SAF_ENGMAP.VALID : Fld := ⟨31, 1⟩
def F.SAF_ENGMAP.SKEIN : Fld := ⟨24, 4⟩
def F.SAF_ENGMAP.FAILED : Fld := ⟨0, 13⟩

/-! SEW_CTL: 12_safety_watchdog_degraded.md R340. -/
def F.SEW_CTL.TMO : Fld := ⟨8, 8⟩
def F.SEW_CTL.EN : Fld := ⟨0, 1⟩

/-! SEW_STAT: 12_safety_watchdog_degraded.md R340. -/
def F.SEW_STAT.EXP : Fld := ⟨31, 1⟩
def F.SEW_STAT.REMAIN : Fld := ⟨0, 8⟩

/-! SE_CTL: 13_dwx_instruction_set.md R360. -/
def F.SE_CTL.CLR : Fld := ⟨1, 1⟩
def F.SE_CTL.RUN : Fld := ⟨0, 1⟩

/-! SE_STAT: 13_dwx_instruction_set.md R360. -/
def F.SE_STAT.PMERR : Fld := ⟨8, 1⟩
def F.SE_STAT.FAULT : Fld := ⟨4, 4⟩
def F.SE_STAT.ENC : Fld := ⟨3, 1⟩
def F.SE_STAT.STATE : Fld := ⟨0, 3⟩

/-! SE_FPC: 13_dwx_instruction_set.md R360. -/
def F.SE_FPC.PC : Fld := ⟨0, 16⟩

/-! SE_PMADDR: 13_dwx_instruction_set.md R360. -/
def F.SE_PMADDR.ADDR : Fld := ⟨0, 15⟩

/-! SE_PMDATA: 13_dwx_instruction_set.md R360. -/
def F.SE_PMDATA.WORD : Fld := ⟨0, 28⟩

/-! SE_EVPEND: 13_dwx_instruction_set.md R360. -/
def F.SE_EVPEND.PEND : Fld := ⟨0, 32⟩

/-! SE_MAP: 13_dwx_instruction_set.md R360. -/
def F.SE_MAP.SKEIN : Fld := ⟨0, 4⟩

/-! SE_CYCLO: 13_dwx_instruction_set.md R360. -/
def F.SE_CYCLO.COUNT : Fld := ⟨0, 32⟩

/-! SE_CYCHI: 13_dwx_instruction_set.md R360. -/
def F.SE_CYCHI.COUNT : Fld := ⟨0, 32⟩

/-! TMR_CTL: 14_timers_and_counters.md R375. -/
def F.TMR_CTL.PRE : Fld := ⟨20, 8⟩
def F.TMR_CTL.CLK : Fld := ⟨18, 2⟩
def F.TMR_CTL.CHAIN : Fld := ⟨17, 1⟩
def F.TMR_CTL.ONESHOT : Fld := ⟨16, 1⟩
def F.TMR_CTL.GATE : Fld := ⟨14, 2⟩
def F.TMR_CTL.EDGE : Fld := ⟨12, 2⟩
def F.TMR_CTL.OUTEN : Fld := ⟨11, 1⟩
def F.TMR_CTL.LEVEL : Fld := ⟨10, 1⟩
def F.TMR_CTL.ACT_U : Fld := ⟨8, 2⟩
def F.TMR_CTL.ACT_M : Fld := ⟨6, 2⟩
def F.TMR_CTL.PIN : Fld := ⟨0, 4⟩

/-! TMR_CNT: 14_timers_and_counters.md R375. -/
def F.TMR_CNT.VALUE : Fld := ⟨0, 32⟩

/-! TMR_RELOAD: 14_timers_and_counters.md R375. -/
def F.TMR_RELOAD.VALUE : Fld := ⟨0, 32⟩

/-! TMR_CMP: 14_timers_and_counters.md R375. -/
def F.TMR_CMP.VALUE : Fld := ⟨0, 32⟩

/-! TMR_CAP: 14_timers_and_counters.md R375. -/
def F.TMR_CAP.VALUE : Fld := ⟨0, 32⟩

/-! TMR_EVT: 14_timers_and_counters.md R375. -/
def F.TMR_EVT.OVR : Fld := ⟨3, 1⟩
def F.TMR_EVT.CAPF : Fld := ⟨2, 1⟩
def F.TMR_EVT.MATCH : Fld := ⟨1, 1⟩
def F.TMR_EVT.UF : Fld := ⟨0, 1⟩

/-! TMR_ENSET: 14_timers_and_counters.md R375. -/
def F.TMR_ENSET.T : Fld := ⟨0, 16⟩

/-! TMR_ENCLR: 14_timers_and_counters.md R375. -/
def F.TMR_ENCLR.T : Fld := ⟨0, 16⟩

/-! TMR_RELNOW: 14_timers_and_counters.md R375. -/
def F.TMR_RELNOW.T : Fld := ⟨0, 16⟩

/-! TMR_ENSTAT: 14_timers_and_counters.md R375. -/
def F.TMR_ENSTAT.T : Fld := ⟨0, 16⟩

/-! TMR_PEND: 14_timers_and_counters.md R375. -/
def F.TMR_PEND.T : Fld := ⟨0, 16⟩

/-! TWT_ADDR: 15_two_wire_buses.md R390. -/
def F.TWT_ADDR.MASK : Fld := ⟨24, 7⟩
def F.TWT_ADDR.ADDR2 : Fld := ⟨16, 7⟩
def F.TWT_ADDR.MODE : Fld := ⟨8, 2⟩
def F.TWT_ADDR.ADDR1 : Fld := ⟨0, 7⟩

/-! TWT_STAT: 15_two_wire_buses.md R390. -/
def F.TWT_STAT.TMOCNT : Fld := ⟨16, 16⟩
def F.TWT_STAT.LAST : Fld := ⟨8, 1⟩
def F.TWT_STAT.STRETCH : Fld := ⟨1, 1⟩
def F.TWT_STAT.ACTIVE : Fld := ⟨0, 1⟩

/-! TWT_EVT: 15_two_wire_buses.md R390. -/
def F.TWT_EVT.WAKE : Fld := ⟨2, 1⟩
def F.TWT_EVT.TMO : Fld := ⟨1, 1⟩
def F.TWT_EVT.WRITE : Fld := ⟨0, 1⟩

/-! TWC_CTL: 15_two_wire_buses.md R391. -/
def F.TWC_CTL.RETRY : Fld := ⟨8, 3⟩
def F.TWC_CTL.MULTI : Fld := ⟨3, 1⟩
def F.TWC_CTL.SPEED : Fld := ⟨1, 2⟩
def F.TWC_CTL.EN : Fld := ⟨0, 1⟩

/-! TWC_XADDR: 15_two_wire_buses.md R391. -/
def F.TWC_XADDR.GO : Fld := ⟨31, 1⟩
def F.TWC_XADDR.RSTART : Fld := ⟨8, 1⟩
def F.TWC_XADDR.ADDR : Fld := ⟨0, 7⟩

/-! TWC_XLEN: 15_two_wire_buses.md R391. -/
def F.TWC_XLEN.WLEN : Fld := ⟨16, 13⟩
def F.TWC_XLEN.RLEN : Fld := ⟨0, 13⟩

/-! TWC_TXD: 15_two_wire_buses.md R391. -/
def F.TWC_TXD.DATA : Fld := ⟨0, 8⟩

/-! TWC_RXD: 15_two_wire_buses.md R391. -/
def F.TWC_RXD.EMPTY : Fld := ⟨31, 1⟩
def F.TWC_RXD.DATA : Fld := ⟨0, 8⟩

/-! TWC_STAT: 15_two_wire_buses.md R391. -/
def F.TWC_STAT.BUSY : Fld := ⟨31, 1⟩
def F.TWC_STAT.BUSBUSY : Fld := ⟨30, 1⟩
def F.TWC_STAT.STUCK : Fld := ⟨29, 1⟩
def F.TWC_STAT.SDA : Fld := ⟨28, 1⟩
def F.TWC_STAT.SCL : Fld := ⟨27, 1⟩
def F.TWC_STAT.RXLVL : Fld := ⟨16, 6⟩
def F.TWC_STAT.TXLVL : Fld := ⟨8, 6⟩

/-! TWC_EVT: 15_two_wire_buses.md R391. -/
def F.TWC_EVT.RXHIGH : Fld := ⟨7, 1⟩
def F.TWC_EVT.TXLOW : Fld := ⟨6, 1⟩
def F.TWC_EVT.STUCK : Fld := ⟨5, 1⟩
def F.TWC_EVT.RECOV : Fld := ⟨4, 1⟩
def F.TWC_EVT.ARBL : Fld := ⟨3, 1⟩
def F.TWC_EVT.TMO : Fld := ⟨2, 1⟩
def F.TWC_EVT.NACK : Fld := ⟨1, 1⟩
def F.TWC_EVT.DONE : Fld := ⟨0, 1⟩

/-! TWC_ARB: 15_two_wire_buses.md R391. -/
def F.TWC_ARB.TRIES : Fld := ⟨24, 3⟩
def F.TWC_ARB.BIT : Fld := ⟨16, 4⟩
def F.TWC_ARB.BYTE : Fld := ⟨0, 13⟩

/-! TWC_CMD: 15_two_wire_buses.md R391. -/
def F.TWC_CMD.ABORT : Fld := ⟨1, 1⟩
def F.TWC_CMD.RECOVER : Fld := ⟨0, 1⟩

/-! TWC_DONE: 15_two_wire_buses.md R391. -/
def F.TWC_DONE.WDONE : Fld := ⟨16, 13⟩
def F.TWC_DONE.RDONE : Fld := ⟨0, 13⟩

/-! OTP_CMD: 16_fuses_keys_lifecycle.md R409. -/
def F.OTP_CMD.KEY : Fld := ⟨16, 16⟩
def F.OTP_CMD.OP : Fld := ⟨0, 4⟩

/-! OTP_ADDR: 16_fuses_keys_lifecycle.md R409. -/
def F.OTP_ADDR.WORD : Fld := ⟨0, 11⟩

/-! OTP_WDATA: 16_fuses_keys_lifecycle.md R409. -/
def F.OTP_WDATA.DATA : Fld := ⟨0, 32⟩

/-! OTP_RDATA: 16_fuses_keys_lifecycle.md R409. -/
def F.OTP_RDATA.DATA : Fld := ⟨0, 32⟩

/-! OTP_STAT: 16_fuses_keys_lifecycle.md R409. -/
def F.OTP_STAT.BUSY : Fld := ⟨31, 1⟩
def F.OTP_STAT.SCANNING : Fld := ⟨30, 1⟩
def F.OTP_STAT.ECC : Fld := ⟨28, 2⟩
def F.OTP_STAT.OP : Fld := ⟨24, 4⟩
def F.OTP_STAT.PULSES : Fld := ⟨20, 4⟩
def F.OTP_STAT.MLOW : Fld := ⟨19, 1⟩
def F.OTP_STAT.MHIGH : Fld := ⟨18, 1⟩
def F.OTP_STAT.REASON : Fld := ⟨8, 8⟩

/-! OTP_EVT: 16_fuses_keys_lifecycle.md R409. -/
def F.OTP_EVT.WEAK : Fld := ⟨2, 1⟩
def F.OTP_EVT.SCAN_DONE : Fld := ⟨1, 1⟩
def F.OTP_EVT.DONE : Fld := ⟨0, 1⟩

/-! OTP_LOCKST: 16_fuses_keys_lifecycle.md R409. -/
def F.OTP_LOCKST.RLOCK : Fld := ⟨8, 8⟩
def F.OTP_LOCKST.WLOCK : Fld := ⟨0, 8⟩

/-! OTP_LIFE: 16_fuses_keys_lifecycle.md R409. -/
def F.OTP_LIFE.STATE : Fld := ⟨0, 2⟩

/-! OTP_ARB: 16_fuses_keys_lifecycle.md R409. -/
def F.OTP_ARB.LEVEL : Fld := ⟨0, 7⟩

/-! OTP_SCAN: 16_fuses_keys_lifecycle.md R409. -/
def F.OTP_SCAN.WEAK : Fld := ⟨16, 16⟩
def F.OTP_SCAN.SCANNED : Fld := ⟨0, 16⟩

/-! OTP_SCANPOS: 16_fuses_keys_lifecycle.md R409. -/
def F.OTP_SCANPOS.FIRST : Fld := ⟨16, 16⟩
def F.OTP_SCANPOS.NEXT : Fld := ⟨0, 11⟩

/-! OTP_SHADOW: 16_fuses_keys_lifecycle.md R409. -/
def F.OTP_SHADOW.DATA : Fld := ⟨0, 32⟩

/-! FLC_CTL: 17_image_update.md R430. -/
def F.FLC_CTL.DUMMY : Fld := ⟨8, 4⟩
def F.FLC_CTL.QUAD : Fld := ⟨4, 1⟩
def F.FLC_CTL.DIV : Fld := ⟨0, 4⟩

/-! FLC_CMD: 17_image_update.md R430. -/
def F.FLC_CMD.KEY : Fld := ⟨16, 16⟩
def F.FLC_CMD.OP : Fld := ⟨0, 4⟩

/-! FLC_ADDR: 17_image_update.md R430. -/
def F.FLC_ADDR.ADDR : Fld := ⟨0, 24⟩

/-! FLC_SRAM: 17_image_update.md R430. -/
def F.FLC_SRAM.ADDR : Fld := ⟨0, 32⟩

/-! FLC_LEN: 17_image_update.md R430. -/
def F.FLC_LEN.LEN : Fld := ⟨0, 13⟩

/-! FLC_STAT: 17_image_update.md R430. -/
def F.FLC_STAT.BUSY : Fld := ⟨31, 1⟩
def F.FLC_STAT.FBUSY : Fld := ⟨30, 1⟩
def F.FLC_STAT.FSR : Fld := ⟨0, 8⟩

/-! FLC_EVT: 17_image_update.md R430. -/
def F.FLC_EVT.PROT : Fld := ⟨2, 1⟩
def F.FLC_EVT.TIMEOUT : Fld := ⟨1, 1⟩
def F.FLC_EVT.DONE : Fld := ⟨0, 1⟩

/-! FLC_TRIAL: 17_image_update.md R430. -/
def F.FLC_TRIAL.ARMED : Fld := ⟨31, 1⟩
def F.FLC_TRIAL.COMMIT : Fld := ⟨30, 1⟩
def F.FLC_TRIAL.REMAIN : Fld := ⟨16, 10⟩
def F.FLC_TRIAL.KEY : Fld := ⟨0, 8⟩

end Sys2Proof
end

