-- ==== Sys2Proof/Machine/State.lean ====
section
/-! DEFINITION. The state of the VK9640: every register, memory, queue and retained context that the
spec gives the device, as plain data, and the state after reset. Register structures hold one word
per register of the spec's register maps; write-only registers hold nothing, and a register that
shows another part of the state is computed when it is read. -/

namespace Sys2Proof.Machine
open Sys2Proof

/-- The reset values of PD_TMRV0 to PD_TMRV25 (04 Table PDE-10). -/
def pdTmrReset : Vector Word 26 :=
  #v[1000, 18, 27, 27, 5, 45, 30, 150, 25, 30, 800, 440, 835, 500, 25, 27, 12, 45, 50, 150, 875,
     375, 500, 13500, 5000, 25]

/-- The reset words of PTH_CPT0 to PTH_CPT15 (05 Table PTH-4). -/
def curveReset : Vector Word 16 :=
  #v[0x0048C00A, 0x0050C002, 0x00608032, 0x0080800A, 0x00C040C8, 0x01004032, 0x018003E8, 0x020000C8,
     0, 0, 0, 0, 0, 0, 0, 0]

/-- The reset efficiency table (06 R160, Table CAD-1). -/
def effReset : Vector Word 8 :=
  #v[0x00370384, 0x005F03A2, 0x009B03B1, 0x00D203B6, 0x011D03BB, 0x016D03C0, 0x01E503C5, 0x025803C5]

/-- Port core registers (03 R80), port block offsets 0x000 to 0x0FF. -/
structure PortCore where
  state : Word  -- PRT_STATE: Port state, Type-C state, orientation
  cfg : Word  -- PRT_CFG: Role, Try, Debug Accessory
  capt : Word  -- PRT_CAPT: Captive mode
  evt : Word  -- PRT_EVT: Hardware events to the engine
  evten : Word  -- PRT_EVTEN: Event enables
  idrec : Vector Word 8  -- PRT_IDREC0: Identity record
  deriving DecidableEq, Repr

/-- PortCore after reset: the reset column of the register map. -/
def PortCore.reset : PortCore where
  state := 0
  cfg := 0x00000040
  capt := 0x00000204
  evt := 0
  evten := 0x000001FF
  idrec := Vector.replicate 8 0

/-- CC and comparator registers (03 R81), offsets 0x100 to 0x1FF. -/
structure CcRegs where
  ctl : Word  -- CC_CTL: Terminations, Rp level, threshold loading, DRP alternation
  stat : Word  -- CC_STAT: Decoded pins, debounce, DRP phase
  tick : Word  -- CC_TICK: Detached class, sampled tick
  deb : Word  -- CC_DEB: TDETACH, PDDEB, ATT_DEB
  drp : Word  -- CC_DRP: TDRPTRY, TTRYDEB, TDRP, DUTY
  vctl : Word  -- VCONN_CTL: VCONN reservation, pin, enable
  vstat : Word  -- VCONN_STAT: VCONN flags
  latch : Word  -- CMP_LATCH: Latches of slots 7 to 0
  out : Word  -- CMP_OUT: Strained and raw outputs
  cfg : Vector Word 8  -- CMP_CFGn: Class and threshold
  str : Vector Word 8  -- CMP_STRn: Strainer
  deriving DecidableEq, Repr

/-- CcRegs after reset: the reset column of the register map. -/
def CcRegs.reset : CcRegs where
  ctl := 0x0000000A
  stat := 0
  tick := 0x000000C3
  deb := 0x020F0096
  drp := 0x640F4B32
  vctl := 0x00000A00
  vstat := 0
  latch := 0
  out := 0
  cfg := #v[0x40A0, 0x4208, 0x40A0, 0x4208, 0x800D, 0x8050, 0x8000, 0x8000]
  str := Vector.replicate 8 0x00006354

/-- Registers of one message context (04 R124); CTX_TXCMD is write only and holds nothing. -/
structure CtxRegs where
  ctl : Word  -- CTX_CTL: Enable, revision, chunking, keep-alive answer
  id : Word  -- CTX_ID: MessageID counters
  txstat : Word  -- CTX_TXSTAT: Transmission result
  rxcnt : Word  -- CTX_RXCNT: Duplicate and CRC error counts
  xfer : Word  -- CTX_XFER: Chunk progress
  deriving DecidableEq, Repr

/-- CtxRegs after reset: the reset column of the register map. -/
def CtxRegs.reset : CtxRegs where
  ctl := 0x00000080
  id := 0
  txstat := 0
  rxcnt := 0
  xfer := 0

/-- PD shared registers (04 R125); the write-only registers hold nothing. -/
structure PdRegs where
  phycfg : Word  -- PD_PHYCFG: Receive enables, roles, collision avoidance, EPR, swap
  phystat : Word  -- PD_PHYSTAT: Line and PHY status
  sigstat : Word  -- PD_SIGSTAT: Ordered-set outcomes
  rev : Word  -- PD_REV: Partner and cable revisions
  evt : Word  -- PD_EVT: PD events to the engine
  evten : Word  -- PD_EVTEN: Event enables, bits as PD_EVT
  tmrstat : Word  -- PD_TMRSTAT: Bit i: slot i expired
  tmrrun : Word  -- PD_TMRRUN: Bit i: slot i running
  rxhead : Word  -- PD_RXHEAD: Pending count and oldest buffer
  tmrv : Vector Word 26  -- PD_TMRVi: Slot value and remaining time
  rxdesc : Vector Word 4  -- PD_RXDESCk: Receive descriptor
  txdesc : Vector Word 2  -- PD_TXDESCk: Transmit length
  txwin : Word  -- PD_TXWIN: Transmit buffer shown at 0xE20
  bistcnt : Word  -- PD_BISTCNT: BIST Test Data frames; writes set the count
  deriving DecidableEq, Repr

/-- PdRegs after reset: the reset column of the register map. -/
def PdRegs.reset : PdRegs where
  phycfg := 0x00000010
  phystat := 0
  sigstat := 0
  rev := 0
  evt := 0
  evten := 0x000007FF
  tmrstat := 0
  tmrrun := 0
  rxhead := 0
  tmrv := pdTmrReset
  rxdesc := Vector.replicate 4 0
  txdesc := Vector.replicate 2 0
  txwin := 0
  bistcnt := 0

/-- Path registers (05 R156). -/
structure PathRegs where
  ctl : Word  -- PTH_CTL: Path, converter and discharge enables
  stat : Word  -- PTH_STAT: Path status and last cause
  steep : Word  -- PTH_STEEP: Ramp target and rate
  ref : Word  -- PTH_REF: Present ramp reference
  ceil : Word  -- PTH_CEIL: Voltage ceiling from the caddy
  rating : Word  -- PTH_RATING: Breaker rating and caddy limit
  inrush : Word  -- PTH_INRUSH: Inrush limit
  fast : Word  -- PTH_FAST: Fast-trip threshold
  ov : Word  -- PTH_OV: Overvoltage settings
  rev : Word  -- PTH_REV: Reverse-current threshold
  sense : Word  -- PTH_SENSE: Shunt value
  fbcal : Word  -- PTH_FBCAL: FBS offset and gain
  fbs : Word  -- PTH_FBS: Present FBS code
  cnv : Word  -- PTH_CNV: Converter-ready timeout
  dis : Word  -- PTH_DIS: Discharge current and timeout
  retry : Word  -- PTH_RETRY: Retry state
  evt : Word  -- PTH_EVT: Causes and path events
  evten : Word  -- PTH_EVTEN: Event enables, bits as PTH_EVT
  deriving DecidableEq, Repr

/-- PathRegs after reset: the reset column of the register map. -/
def PathRegs.reset : PathRegs where
  ctl := 0x00000008
  stat := 0x00000080
  steep := 0x00FA0064
  ref := 0
  ceil := 0x00000032
  rating := 0x0000012C
  inrush := 0x00000014
  fast := 0x00000050
  ov := 0x00370F0A
  rev := 0x00000004
  sense := 0x000001F4
  fbcal := 0
  fbs := 0
  cnv := 0x00000005
  dis := 0x00000141
  retry := 0x03000000
  evt := 0
  evten := 0x000F1FFF

/-- Breaker curve registers (05 R157). -/
structure CurveRegs where
  cpt : Vector Word 16  -- PTH_CPTn: Curve point
  ccfg : Word  -- PTH_CCFG: Point count, cooling, commit
  cstat : Word  -- PTH_CSTAT: Commit status
  deriving DecidableEq, Repr

/-- CurveRegs after reset: the reset column of the register map. -/
def CurveRegs.reset : CurveRegs where
  cpt := curveReset
  ccfg := 0x001E0008
  cstat := 0x00000080

/-- Feed logic registers (05 R158). -/
structure FeedRegs where
  ctl : Word  -- FED_CTL: Order, return, qualification, break-before-make
  stat : Word  -- FED_STAT: Active and qualified feeds
  evt : Word  -- FED_EVT: Feed events
  pport : Word  -- FED_PPORT: Port serving as FEED_P
  wina : Word  -- FED_WINA: FEED_A window
  winb : Word  -- FED_WINB: FEED_B window
  winp : Word  -- FED_WINP: FEED_P window
  deriving DecidableEq, Repr

/-- FeedRegs after reset: the reset column of the register map. -/
def FeedRegs.reset : FeedRegs where
  ctl := 0x80640509
  stat := 0
  evt := 0
  pport := 0
  wina := 0x02580064
  winb := 0x02580064
  winp := 0x02580064

/-- Caddy registers (06 R187) but for the per-port ones. -/
structure CadRegs where
  ctl : Word  -- CAD_CTL: Enable, upgrade hold
  rowcfg : Word  -- CAD_ROWCFG: Row length and ROW_SYNC
  stat : Word  -- CAD_STAT: Pause, shedding, over budget, budget source
  evt : Word  -- CAD_EVT: Caddy events
  evten : Word  -- CAD_EVTEN: Event enables, bits as CAD_EVT
  rowlo : Word  -- CAD_ROWLO: Row count, bits 31:0; latches CAD_ROWHI
  rowhi : Word  -- CAD_ROWHI: Row count, bits 63:32
  budget : Word  -- CAD_BUDGET: Budget in the present snapshot
  commit : Word  -- CAD_COMMIT: Committed total
  pool : Word  -- CAD_POOL: Pool size and balance
  shed : Word  -- CAD_SHED: Deadline and least limit
  deficit : Word  -- CAD_DEFICIT: Deficit of the shed cycle
  lima : Word  -- CAD_LIMA: FEED_A limit
  limb : Word  -- CAD_LIMB: FEED_B limit
  limp : Word  -- CAD_LIMP: FEED_P limit
  eff : Vector Word 8  -- CAD_EFFi: Efficiency entry
  deriving DecidableEq, Repr

/-- CadRegs after reset: the reset column of the register map. -/
def CadRegs.reset : CadRegs where
  ctl := 0x00003201
  rowcfg := 0x00100004
  stat := 0
  evt := 0
  evten := 0x0000007F
  rowlo := 0
  rowhi := 0
  budget := 0
  commit := 0
  pool := 0x00000258
  shed := 0x0032001E
  deficit := 0
  lima := 0
  limb := 0
  limp := 0
  eff := effReset

/-- One port's caddy registers (06 R187); CAD_PREQp is a view of the standing request. -/
structure CadPortRegs where
  pcfg : Word  -- CAD_PCFGp: Port class and reservation
  phold : Word  -- CAD_PHOLDp: Port holding and shed flags
  deriving DecidableEq, Repr

/-- CadPortRegs after reset: the reset column of the register map. -/
def CadPortRegs.reset : CadPortRegs where
  pcfg := 0x00003221
  phold := 0

/-- One port's telemetry registers (07 R207); TEL_PSTAT.ADC is computed from the port number at the read. -/
structure TelPortRegs where
  pcfg : Word  -- TEL_PCFG: Streaming enables and k
  pstat : Word  -- TEL_PSTAT: ADC and streaming status
  pvbus : Word  -- TEL_PVBUS: Latest VBUS code
  pibus : Word  -- TEL_PIBUS: Latest IBUS code
  pvcv : Word  -- TEL_PVCV: Latest VCV code
  pthv : Word  -- TEL_PTHV: VBUS thresholds
  pthi : Word  -- TEL_PTHI: IBUS thresholds
  pthc : Word  -- TEL_PTHC: VCV thresholds
  pevt : Word  -- TEL_PEVT: Telemetry events
  pevten : Word  -- TEL_PEVTEN: Event enables, bits as TEL_PEVT
  deriving DecidableEq, Repr

/-- TelPortRegs after reset: the reset column of the register map. -/
def TelPortRegs.reset : TelPortRegs where
  pcfg := 0
  pstat := 0
  pvbus := 0
  pibus := 0
  pvcv := 0
  pthv := 0x0FFF0000
  pthi := 0x07FF0800
  pthc := 0x0FFF0000
  pevt := 0
  pevten := 0x0000000F

/-- Codec registers (07 R208). -/
structure TelRegs where
  ctl : Word  -- TEL_CTL: Streaming enable, drop hysteresis
  stat : Word  -- TEL_STAT: Running, dropping
  woff : Word  -- TEL_WOFF: Ring write offset
  roff : Word  -- TEL_ROFF: Host read offset
  drops : Word  -- TEL_DROPS: Blocks dropped
  gaps : Word  -- TEL_GAPS: GAP markers written
  blocks : Word  -- TEL_BLOCKS: Blocks written
  framelo : Word  -- TEL_FRAMELO: Frame number, bits 31:0; latches TEL_FRAMEHI
  framehi : Word  -- TEL_FRAMEHI: Frame number, bits 54:32
  sysen : Word  -- TEL_SYSEN: System channel enables
  sysk : Word  -- TEL_SYSK: System channel k
  adcfail : Word  -- TEL_ADCFAIL: Failed ADCs
  evt : Word  -- TEL_EVT: Codec events
  evten : Word  -- TEL_EVTEN: Event enables, bits as TEL_EVT
  systhr : Vector Word 9  -- TEL_SYSTHRi: System thresholds
  syslast : Vector Word 9  -- TEL_SYSLASTi: Latest system codes
  deriving DecidableEq, Repr

/-- TelRegs after reset: the reset column of the register map. -/
def TelRegs.reset : TelRegs where
  ctl := 0x00000400
  stat := 0
  woff := 0
  roff := 0
  drops := 0
  gaps := 0
  blocks := 0
  framelo := 0
  framehi := 0
  sysen := 0
  sysk := 0
  adcfail := 0
  evt := 0
  evten := 0x0000000F
  systhr := #v[0x0FFF0000, 0x07FF0800, 0x0FFF0000, 0x07FF0800, 0x0FFF0000, 0x0FFF0000, 0x0FFF0000, 0x0FFF0000, 0x0FFF0000]
  syslast := Vector.replicate 9 0

/-- Doorbell registers (08 R215) but for the views of codec registers. -/
structure DbRegs where
  cmdTail : Word  -- DB_CMD_TAIL: Command ring producer index (host)
  cmdHead : Word  -- DB_CMD_HEAD: Command ring consumer index (device)
  cplTail : Word  -- DB_CPL_TAIL: Completion ring producer index (device)
  cplHead : Word  -- DB_CPL_HEAD: Completion ring consumer index (host)
  evtTail : Word  -- DB_EVT_TAIL: Event ring producer index (device)
  evtHead : Word  -- DB_EVT_HEAD: Event ring consumer index (host)
  evtLost : Word  -- DB_EVT_LOST: Events lost to overflow
  vpendlo : Word  -- DB_VPENDLO: Vectors 31 to 0 pending
  vpendhi : Word  -- DB_VPENDHI: Vectors 63 to 32 pending
  venlo : Word  -- DB_VENLO: Vectors 31 to 0 enabled
  venhi : Word  -- DB_VENHI: Vectors 63 to 32 enabled
  alertcfg : Word  -- DB_ALERTCFG: Hold-off per alert pin
  cplvec : Word  -- DB_CPLVEC: Vector for new completions
  deriving DecidableEq, Repr

/-- DbRegs after reset: the reset column of the register map. -/
def DbRegs.reset : DbRegs where
  cmdTail := 0
  cmdHead := 0
  cplTail := 0
  cplHead := 0
  evtTail := 0
  evtHead := 0
  evtLost := 0
  vpendlo := 0
  vpendhi := 0
  venlo := 0xFFFFFFFF
  venhi := 0xFFFFFFFF
  alertcfg := 0
  cplvec := 0x0000008E

/-- Clock root registers (10 R299). -/
structure CruRegs where
  stat : Word  -- CRU_STAT: Clock and sequencer status
  evt : Word  -- CRU_EVT: CRU events
  evten : Word  -- CRU_EVTEN: Event enables, bits as CRU_EVT
  xcnt : Word  -- CRU_XCNT: Counts of the last lock window
  pllctl : Word  -- CRU_PLLCTL: Spread spectrum
  dvfs : Word  -- CRU_DVFS: Target point, PGOOD timeout
  opv : Word  -- CRU_OPV: VSEL code per point
  gate : Word  -- CRU_GATE: Gating tree
  stby : Word  -- CRU_STBY: Standby entry and wake cause
  deriving DecidableEq, Repr

/-- CruRegs after reset: the reset column of the register map. -/
def CruRegs.reset : CruRegs where
  stat := 0
  evt := 0
  evten := 0x0000003F
  xcnt := 0
  pllctl := 0x00001E00
  dvfs := 0x00140000
  opv := 0x00000090
  gate := 0xCF1FDFFF
  stby := 0

/-- Restart registers (11 R317). -/
structure RstRegs where
  cause : Word  -- RST_CAUSE: Kind and cause of the present start
  boot : Word  -- RST_BOOT: Running flag, checksum valid, slot
  cnt : Word  -- RST_CNT: Failed-start counters
  retsum : Word  -- RST_RETSUM: Retention checksum
  retver : Word  -- RST_RETVER: Version that wrote the retained state
  fuse : Word  -- RST_FUSE: Fuse sensing counts
  strap : Word  -- RST_STRAP: Latched strap levels
  deriving DecidableEq, Repr

/-- RstRegs after reset: the reset column of the register map. -/
def RstRegs.reset : RstRegs where
  cause := 0x00000502
  boot := 0
  cnt := 0
  retsum := 0
  retver := 0
  fuse := 0
  strap := 0

/-- Watchdog registers (12 R339). -/
structure WdgRegs where
  ctl : Word  -- WDG_CTL: Enable and lock
  cfg : Word  -- WDG_CFG: Period and window opening
  stat : Word  -- WDG_STAT: Time left and window state
  tasken : Word  -- WDG_TASKEN: Tasks checked
  exp : Word  -- WDG_EXP: Expected counts
  cntlo : Word  -- WDG_CNTLO: Counts of tasks 0 to 7
  cnthi : Word  -- WDG_CNTHI: Counts of tasks 8 to 15
  fail : Word  -- WDG_FAIL: Task bitmaps of the last expiry
  cause : Word  -- WDG_CAUSE: Kind of the last expiry
  wdocfg : Word  -- WDO_CFG: WDO pulse width
  deriving DecidableEq, Repr

/-- WdgRegs after reset: the reset column of the register map. -/
def WdgRegs.reset : WdgRegs where
  ctl := 0
  cfg := 0x00320064
  stat := 0
  tasken := 0
  exp := 0x55555555
  cntlo := 0
  cnthi := 0
  fail := 0
  cause := 0
  wdocfg := 0x00000014

/-- Safety registers (12 R339). -/
structure SafRegs where
  stat : Word  -- SAF_STAT: Links, holds, temperatures, SAFE_N
  evt : Word  -- SAF_EVT: Safety events
  evten : Word  -- SAF_EVTEN: Event enables, bits as SAF_EVT
  ttrip : Word  -- SAF_TTRIP: Thermal threshold
  eccthr : Word  -- SAF_ECCTHR: ECC threshold
  ecccnt : Word  -- SAF_ECCCNT: Corrected errors
  lscnt : Word  -- SAF_LSCNT: Lockstep mismatches
  health : Word  -- SAF_HEALTH: Degraded conditions
  erraddr : Word  -- SAF_ERRADDR: Address of the last uncorrectable word
  errmem : Word  -- SAF_ERRMEM: Memory of the last uncorrectable word
  engmap : Word  -- SAF_ENGMAP: Spare mapping and failed engines
  deriving DecidableEq, Repr

/-- SafRegs after reset: the reset column of the register map. -/
def SafRegs.reset : SafRegs where
  stat := 0
  evt := 0
  evten := 0x0000003F
  ttrip := 0x00000F78
  eccthr := 0x00000010
  ecccnt := 0
  lscnt := 0
  health := 0
  erraddr := 0
  errmem := 0
  engmap := 0x0F000000

/-- Task watchdog registers of one engine (12 R340); SEW_KICK is write only. -/
structure SewRegs where
  ctl : Word  -- SEW_CTL: Timeout and enable
  stat : Word  -- SEW_STAT: Time left and expiry
  deriving DecidableEq, Repr

/-- SewRegs after reset: the reset column of the register map. -/
def SewRegs.reset : SewRegs where
  ctl := 0x00001400
  stat := 0

/-- Control registers of one engine (13 R360); SE_PMDATA is write only; SE_EVPEND, SE_MAP and SE_CYCLO are views. -/
structure SeRegs where
  ctl : Word  -- SE_CTL: Run, clear
  stat : Word  -- SE_STAT: State, fault, load error
  fpc : Word  -- SE_FPC: Parcel address of the fault
  pmaddr : Word  -- SE_PMADDR: Program load word address
  cychi : Word  -- SE_CYCHI: Cycle counter bits 63:32, latch rule of CYCHI
  deriving DecidableEq, Repr

/-- SeRegs after reset: the reset column of the register map. -/
def SeRegs.reset : SeRegs where
  ctl := 0
  stat := 0
  fpc := 0
  pmaddr := 0
  cychi := 0

/-- Registers of one timer (14 R375). -/
structure TmrRegs where
  ctl : Word  -- TMR_CTLn: Clock, mode, pin and actions
  cnt : Word  -- TMR_CNTn: Present count (R371)
  reload : Word  -- TMR_RELOADn: Reload buffer (R363)
  cmp : Word  -- TMR_CMPn: Compare value (R365)
  cap : Word  -- TMR_CAPn: Captured count (R369)
  evt : Word  -- TMR_EVTn: Timer flags
  evten : Word  -- TMR_EVTENn: Flag enables, bits as TMR_EVTn
  deriving DecidableEq, Repr

/-- TmrRegs after reset: the reset column of the register map. -/
def TmrRegs.reset : TmrRegs where
  ctl := 0x0000000F
  cnt := 0
  reload := 0xFFFFFFFF
  cmp := 0
  cap := 0
  evt := 0
  evten := 0

/-- Two-wire target registers (15 R390). -/
structure TwtRegs where
  addr : Word  -- TWT_ADDR: Address mode, second address, mask
  stat : Word  -- TWT_STAT: Activity, matched address, timeouts
  evt : Word  -- TWT_EVT: Target events
  evten : Word  -- TWT_EVTEN: Event enables, bits as TWT_EVT
  deriving DecidableEq, Repr

/-- TwtRegs after reset: the reset column of the register map. -/
def TwtRegs.reset : TwtRegs where
  addr := 0
  stat := 0
  evt := 0
  evten := 0x00000007

/-- Registers of one two-wire controller (15 R391); TWC_TXD and TWC_CMD are write only, TWC_RXD is a view of the receive FIFO. -/
structure TwcRegs where
  ctl : Word  -- TWC_CTL: Enable, speed, arbitration mode, retries
  xaddr : Word  -- TWC_XADDR: Target address, repeated START, start
  xlen : Word  -- TWC_XLEN: Write and read lengths
  stat : Word  -- TWC_STAT: Transfer, bus and FIFO status
  evt : Word  -- TWC_EVT: Controller events
  evten : Word  -- TWC_EVTEN: Event enables, bits as TWC_EVT
  arb : Word  -- TWC_ARB: Last arbitration loss
  done : Word  -- TWC_DONE: Bytes transferred
  deriving DecidableEq, Repr

/-- TwcRegs after reset: the reset column of the register map. -/
def TwcRegs.reset : TwcRegs where
  ctl := 0x00000302
  xaddr := 0
  xlen := 0
  stat := 0x18000000
  evt := 0
  evten := 0x0000003F
  arb := 0
  done := 0

/-- OTP controller registers (16 R409); OTP_CMD is write only. -/
structure OtpRegs where
  addr : Word  -- OTP_ADDR: Word, or region for a lock
  wdata : Word  -- OTP_WDATA: Value to program
  rdata : Word  -- OTP_RDATA: Data of the last read
  stat : Word  -- OTP_STAT: Operation status
  evt : Word  -- OTP_EVT: Controller events
  evten : Word  -- OTP_EVTEN: Event enables, bits as OTP_EVT
  scan : Word  -- OTP_SCAN: Counts of the last scan
  scanpos : Word  -- OTP_SCANPOS: First weak word, next word
  deriving DecidableEq, Repr

/-- OtpRegs after reset: the reset column of the register map. -/
def OtpRegs.reset : OtpRegs where
  addr := 0
  wdata := 0
  rdata := 0
  stat := 0
  evt := 0
  evten := 0x00000007
  scan := 0
  scanpos := 0xFFFF0000

/-- Flash controller registers (17 R430); FLC_CMD is write only. -/
structure FlcRegs where
  ctl : Word  -- FLC_CTL: Clock divider, I/O mode, dummy clocks
  addr : Word  -- FLC_ADDR: Flash address
  sram : Word  -- FLC_SRAM: Data or shared SRAM address
  len : Word  -- FLC_LEN: Bytes to transfer
  stat : Word  -- FLC_STAT: Controller and flash status
  evt : Word  -- FLC_EVT: Controller events
  evten : Word  -- FLC_EVTEN: Event enables, bits as FLC_EVT
  trial : Word  -- FLC_TRIAL: Trial window
  deriving DecidableEq, Repr

/-- FlcRegs after reset: the reset column of the register map. -/
def FlcRegs.reset : FlcRegs where
  ctl := 0x00000603
  addr := 0
  sram := 0
  len := 0
  stat := 0
  evt := 0
  evten := 0x00000007
  trial := 0

/-! ## Port hardware that the register map does not show -/

/-- The front-die and timing state of one port that its registers do not show whole. -/
structure PortHw where
  /-- Each slot's last 15 strainer samples, the newest first (03 R58). -/
  strain : Vector (List Bool) 8
  /-- Device time until which the oriented pin's LO slot takes no sample (03 R59). -/
  bmcQuiet : Nat
  /-- The attach debounce under way: the device time at which its count began (03 R68). -/
  deb : Option Nat
  /-- The whole milliseconds that this debounce counts (03 R68, R76 departure 1). -/
  debMs : Nat
  /-- The PHY transmits until this device time (04 R83). -/
  txUntil : Nat
  /-- The decoded pattern has been no attach pattern since this device time (03 R67, R148). -/
  nonAttach : Option Nat
  /-- TDRPTRY running since this device time (03 R69). -/
  drpTry : Option Nat
  /-- TDRPTRY of the present Try state has passed (03 Table ATT-8, the Try.SNK rows). -/
  tryPassed : Bool
  /-- VCONN discharge under way on a pin: false CC1, true CC2 (03 R73). -/
  vdis : Option Bool
  /-- The breaker integrator's heat, a trip occurring at 1 (05 R141). -/
  heat : Rat
  /-- The active curve's points, (MULT, time in µs), in force since its commit (05 R143). -/
  curve : List (Nat × Nat)
  /-- COOL of the active curve, in seconds (05 R143). -/
  cool : Nat
  /-- The retry interval under way ends at this device time (05 R146). -/
  retryEnd : Option Nat
  /-- The detach-hold clock runs since this device time (05 R148). -/
  absSince : Option Nat
  /-- The device time of the last trip, and of the last hardware detach: what qualifies in the same sample counts
  with them (05 R140). -/
  tripAt : Option Nat
  detAt : Option Nat
  /-- The ramp under way started at this device time from PTH_REF.REF (05 R130). -/
  rampAt : Nat
  /-- The rate of that ramp in 0.1 V/ms: a RATE written later waits for the next ramp (09 R263). -/
  rate : Nat
  /-- The overvoltage threshold held through a falling ramp, in mV (05 R138). -/
  ovHold : Option Nat
  /-- FBS trim, in codes away from the computed code (05 R128). -/
  trim : Int
  /-- The converter-ready timeout runs: CEN rose and slot 6 has not yet been strained 1 (05 R129). -/
  cvWait : Bool
  /-- DIS_TMO has passed and slot 4 is awaited without the sink (05 R151). -/
  disWait : Bool
  /-- The sink runs for a falling ramp, not for a bind-off (05 R133). -/
  rampDis : Bool
  /-- The ride-through hold of the fused safe state runs since this device time (12 R322). -/
  ride : Option Nat
  /-- A safe state was requested and VBUS has not yet been below vSafe0V (12 R326). -/
  safeWait : Bool
  deriving DecidableEq, Repr

/-- The reset breaker curve, MULT and trip time in µs (05 R145, Table PTH-4). -/
def resetCurve : List (Nat × Nat) :=
  [(72, 10000000), (80, 2000000), (96, 500000), (128, 100000),
   (192, 20000), (256, 5000), (384, 1000), (512, 200)]

/-- Port hardware after reset: nothing running, histories of zeros, Table PTH-4 in force. -/
def PortHw.reset : PortHw where
  strain := Vector.replicate 8 (List.replicate 15 false)
  bmcQuiet := 0
  deb := none
  debMs := 0
  txUntil := 0
  nonAttach := none
  drpTry := none
  tryPassed := false
  vdis := none
  heat := 0
  curve := resetCurve
  cool := 30
  retryEnd := none
  absSince := none
  tripAt := none
  detAt := none
  rampAt := 0
  rate := 100
  ovHold := none
  trim := 0
  cvWait := false
  disWait := false
  rampDis := false
  ride := none
  safeWait := false

/-! ## PD protocol hardware that the register map does not show -/

/-- An extended message being reassembled (04 R97): its context, buffer, Data_Size and the chunk
expected next. -/
structure Reasm where
  ctx : Fin 3
  buf : Fin 4
  size : Nat
  next : Nat
  deriving DecidableEq, Repr

/-- A message that the protocol hardware sends of its own: a Chunk Request (04 R97) or an
EPR_KeepAlive_Ack (04 R111). Its context, the message, the retransmissions used, and whether it is on the
wire or has been. -/
structure HwMsg where
  ctx : Fin 3
  msg : List Byte
  tries : Nat
  wire : Bool
  deriving DecidableEq, Repr

/-- Protocol-hardware state of one port beside its registers (04). -/
structure PdHw where
  /-- Device time at which each running timer slot was started (04 R122). -/
  tmrStart : Vector Nat 26
  /-- The period of each running slot in its unit, taken when it was started (04 R123, 03 R76). -/
  tmrPer : Vector Nat 26
  /-- The four receive buffers and the two transmit buffers (04 R87). -/
  rxbuf : Vector (List Byte) 4
  txbuf : Vector (List Byte) 2
  /-- Next arrival sequence number (04 R88). -/
  rxSeq : Nat
  /-- Transmit buffer and AMS mark of each context's transmission (04 R90). -/
  txSel : Vector (Fin 2) 3
  txAms : Vector Bool 3
  /-- A frame of the transmission waits for an idle line: its tSinkTx has passed (04 R92), its
  CRCReceiveTimer has expired (04 R91), or its Chunk Request has come (04 R97). -/
  txReady : Vector Bool 3
  /-- The frame of the transmission is on the wire or has been (04 R93). -/
  onWire : Vector Bool 3
  /-- An AMS marked with AMS = 1 goes on: Rp stands at SinkTxNG (04 R92). -/
  ams : Bool
  /-- Messages that the hardware sends of its own, the first one first (04 R97, R111). -/
  hwq : List HwMsg
  /-- The GoodCRC sent last: its context and its header (04 R94). -/
  goodCrc : Option (Fin 3 × List Byte)
  reasm : Option Reasm
  /-- BIST Test Data received: SOP messages are acknowledged and discarded (04 R121). -/
  bistData : Bool
  /-- The BIST carrier runs. -/
  bistCarrier : Bool
  /-- A Hard Reset, a Cable Reset waits for an idle line (04 R100). -/
  hrWait : Bool
  crWait : Bool
  /-- PD_PHYCFG.SWAP was set at this device time (04 R116). -/
  swapSince : Nat
  deriving DecidableEq, Repr

/-- Protocol hardware after reset: no timer runs, every buffer is empty. -/
def PdHw.reset : PdHw where
  tmrStart := Vector.replicate 26 0
  tmrPer := Vector.replicate 26 0
  rxbuf := Vector.replicate 4 []
  txbuf := Vector.replicate 2 []
  rxSeq := 0
  txSel := Vector.replicate 3 0
  txAms := Vector.replicate 3 false
  txReady := Vector.replicate 3 false
  onWire := Vector.replicate 3 false
  ams := false
  hwq := []
  goodCrc := none
  reasm := none
  bistData := false
  bistCarrier := false
  hrWait := false
  crWait := false
  swapSince := 0

/-! ## Port policy: the engine's retained context of one port (04 R86, 01 R16) -/

/-- A PD contract: kind 0 Fixed, 1 PPS, 2 AVS; voltage in 20 mV, current in 10 mA; the object
position, EPR or SPR, the Request Data Object and the object it refers to. -/
structure Contract where
  kind : Nat
  volt : Nat
  curr : Nat
  pos : Nat
  epr : Bool
  rdo : Word
  pdo : Word
  deriving DecidableEq, Repr

/-- Why the engine sends a message: what follows when the transmission ends (04). -/
inductive TxPurpose where
  | srcCaps | eprCaps
  | accept | reject (thenCaps : Bool) | waitMsg | psRdy
  | sinkRequest
  | softReset
  | getRevision | discIdentity | cableIdentity
  | eprAck (verdict : Nat) | eprSucceeded | eprFailed
  | swapRequest (kind : Nat) | swapAccept (kind : Nat) | swapPsRdy (kind : Nat)
  | hostMsg (tag : Nat) | reply
  deriving DecidableEq, Repr

/-- A message waiting in the engine to be sent, one after the other (04 R90). -/
structure TxReq where
  ctx : Fin 3
  msg : List Byte
  ams : Bool
  purpose : TxPurpose
  deriving DecidableEq, Repr

/-- What cable discovery read from the cable (04 R113): current in 100 mA, voltage in V. -/
structure Cable where
  curr : Nat
  volt : Nat
  epr : Bool
  discovered : Bool
  deriving DecidableEq, Repr

/-- A received VDM that is kept for PORT_STATUS (09 R251). -/
structure KeptVdm where
  num : Nat
  ctx : Fin 3
  objs : List Word
  deriving DecidableEq, Repr

/-- The steps of the Hard Reset sequence of 04 R99; a sink port awaits the return of VBUS. -/
inductive HrStep where
  | none | psHardReset | discharge | recover | sinkWait
  deriving DecidableEq, Repr

/-- The steps of a PR_Swap (04 Table PDE-7) and of the other swaps. -/
inductive SwapStep where
  | asked | s1 | s2 | s3 | k1 | k2 | k3 | vconnOn | vconnOff
  deriving DecidableEq, Repr

/-- A swap in progress: kind 0 PR_Swap, 1 DR_Swap, 2 VCONN_Swap (09 R248). -/
structure Swap where
  kind : Nat
  step : SwapStep
  byDevice : Bool
  wasSource : Bool
  deriving DecidableEq, Repr

/-- An event waiting to reach the ring (08 R232). -/
structure EvtEntry where
  time : Nat
  src : Nat
  seq : Nat
  data : Word
  deriving DecidableEq, Repr

/-- The retained port-policy context (04 R86) with what host commands configure per port. -/
structure Policy where
  enabled : Bool
  caps : List Word
  eprCaps : List Word
  /-- The objects of the capabilities last sent, with their positions (09 R253). -/
  sent : List (Nat × Word)
  contract : Option Contract
  /-- The contract requested or accepted and not yet in force. -/
  next : Option Contract
  /-- Accept of `next` has been sent (01 R21). -/
  accepted : Bool
  /-- A Request waits for the caddy's outcome (04 R105). -/
  reqWait : Bool
  txq : List TxReq
  /-- Purpose of the transmission each context is carrying. -/
  txNow : Vector (Option TxPurpose) 3
  /-- The answer the engine waits for on SOP (04 R105, R107, R119). -/
  await : Option TxPurpose
  hrCount : Nat
  spoke : Bool
  capsTries : Nat
  hr : HrStep
  cable : Option Cable
  cableTries : Nat
  swap : Option Swap
  /-- The last PORT_ENABLE (true) or PORT_DISABLE (false) kept for the end of the bind-off (05 R152). -/
  kept : Option Bool
  /-- A PORT_DISABLE waits in TRIPPED or RETRY_WAIT for VBUS below vSafe0V (05 R152). -/
  parkWait : Bool
  /-- DETACH cause to report when the bind-off ends (09 Table CMD-11); none: no DETACH is due. -/
  detachCause : Option Nat
  /-- The device time of the hardware detach behind a bind-off, which its DETACH event shows (08 R232). -/
  detachAt : Option Nat
  /-- The bind-off belongs to error recovery (04 R99). -/
  errRecovery : Bool
  /-- Entered alternate modes, by SVID (04 R115). -/
  modes : List Nat
  vdms : List KeptVdm
  vdmNum : Nat
  /-- Number of the structured VDM outstanding to the host, per SOP* (04 R118). -/
  hostVdm : Vector (Option Nat) 3
  /-- VID, PID and bcdDevice from Discover Identity. -/
  ident : Option (Nat × Nat × Nat)
  /-- The Discover Identity of a pre-armed EPR port is still to be sent (04 R112 item 7). -/
  discDue : Bool
  /-- The last SPR and the last EPR request of this attachment, with the objects they referenced
  (03 R77). -/
  lastSpr : Option (Word × Word)
  lastEpr : Option (Word × Word)
  /-- The certificate chain read, the nonce sent and the challenge's answer of the authentication
  under way (04 R120). -/
  authChain : List Byte
  authNonce : List Byte
  authAnswer : List Byte
  /-- PORT_CONFIG and PORT_CAPTIVE fields waiting for the next entry into DETACHED (09 R249, R256). -/
  cfgLater : Option (Nat × List Byte)
  captLater : Option Word
  testUse : Bool
  drSwapOk : Bool
  prSwapOk : Bool
  vconnSwapOk : Bool
  advUnchunk : Bool
  rpct : Nat
  /-- Current asked by the pre-arm request was granted (03 R78): the pre-arm grant is held. -/
  prearmed : Bool
  /-- DONE of the SPR contract is held back (04 R112 item 3). -/
  doneHeld : Bool
  /-- Units to which the offers are reduced after a partial grant, a denial or a SHED result
  (06 R172, R181), and the reduction to vSafe5V alone after a denial without contract (04 R105). -/
  capLimit : Option Nat
  only5 : Bool
  /-- A non-attach pattern has lasted PDDEB in TRIPPED or RETRY_WAIT; VBUS is awaited (05 R148). -/
  tripDetach : Bool
  /-- Reservation level obtained (06 R163). -/
  level : Nat
  /-- A retry cast-on waits for its reservation (05 R147). -/
  retrying : Bool
  /-- The cast-on waits for VBUS below vSafe0V at DEB_DONE (03 Table ATT-7). -/
  castWait : Bool
  /-- Capabilities are to be sent again (UPGRADE, SHED, PORT_CAPS) once the port is free. -/
  shedOffer : Bool
  /-- The events of the port queue of 32 (08 R236), those that wait for room in it, and the last SEQ of the
  port's group (08 R232). -/
  queue : List EvtEntry
  held : List EvtEntry
  seq : Nat
  /-- What the engine has still to handle, in order (01 R20, R21). -/
  pend : List Instr
  deriving DecidableEq, Repr

/-- The default capabilities: Fixed vSafe5V at 3.00 A, every flag 0 (04 R104). -/
def defaultCaps : List Word := [0x0001912C]

/-- The policy context after reset. -/
def Policy.reset : Policy where
  enabled := false
  caps := defaultCaps
  eprCaps := []
  sent := []
  contract := none
  next := none
  accepted := false
  reqWait := false
  txq := []
  txNow := Vector.replicate 3 none
  await := none
  hrCount := 0
  spoke := false
  capsTries := 0
  hr := .none
  cable := none
  cableTries := 0
  swap := none
  kept := none
  parkWait := false
  detachCause := none
  detachAt := none
  errRecovery := false
  modes := []
  vdms := []
  vdmNum := 0
  hostVdm := Vector.replicate 3 none
  ident := none
  discDue := false
  lastSpr := none
  lastEpr := none
  authChain := []
  authNonce := []
  authAnswer := []
  cfgLater := none
  captLater := none
  testUse := false
  drSwapOk := false
  prSwapOk := false
  vconnSwapOk := false
  advUnchunk := false
  rpct := 100
  prearmed := false
  doneHeld := false
  capLimit := none
  only5 := false
  tripDetach := false
  level := 0
  retrying := false
  castWait := false
  shedOffer := false
  queue := []
  held := []
  seq := 0
  pend := []

/-- The port states of 03 Table ATT-5, PRT_STATE.STATE. -/
inductive PortSt where
  | parked | detached | attachWait | castingOn | contracted | bindingOff | tripped | retryWait | fenced
  deriving DecidableEq, Repr

/-- The registers of a port that its front die holds (01 Table ANA-7). -/
structure FrontRegs where
  cc : CcRegs
  pth : PathRegs
  cur : CurveRegs
  tel : TelPortRegs
  deriving DecidableEq, Repr

/-- One port: its register blocks (01 Table ANA-7), its hardware and its policy context. -/
structure Port where
  core : PortCore
  cc : CcRegs
  ctx : Vector CtxRegs 3
  pd : PdRegs
  pth : PathRegs
  cur : CurveRegs
  tel : TelPortRegs
  hw : PortHw
  phw : PdHw
  pol : Policy
  /-- The control die's copy of the front-die registers (01 R31), where it may differ from them; none while both hold
  the same. -/
  copy : Option FrontRegs
  deriving DecidableEq, Repr

/-- One port after reset. -/
def Port.reset : Port where
  core := PortCore.reset
  cc := CcRegs.reset
  ctx := Vector.replicate 3 CtxRegs.reset
  pd := PdRegs.reset
  pth := PathRegs.reset
  cur := CurveRegs.reset
  tel := TelPortRegs.reset
  hw := PortHw.reset
  phw := PdHw.reset
  pol := Policy.reset
  copy := none

/-! ## Caddy -/

/-- A PREARM or REQUEST in the ledger (06 R166, R174): voltage in 100 mV, output power in 10 mW,
age in rows, and whether it is a PREARM. -/
structure CadReq where
  volt : Nat
  pout : Nat
  age : Nat
  prearm : Bool
  deriving DecidableEq, Repr

/-- The caddy's own state of one port beside its registers (06). -/
structure CadPort where
  regs : CadPortRegs
  /-- The PREARM or REQUEST collected in the present row (06 R167). -/
  req : Option CadReq
  /-- The standing request (06 R174), shown by CAD_PREQp. -/
  stand : Option CadReq
  /-- An UPGRADE is held for the port, with this many rows left (06 R174). -/
  upg : Option Nat
  /-- DONE (voltage in 100 mV, power in 10 mW) and WITHDRAW submissions of the row, in order
  (06 R166, R167). -/
  subs : List (Option (Nat × Nat))
  /-- Voltage and power of the contract in force, as last reported by DONE. -/
  contract : Option (Nat × Nat)
  /-- The reserved units (06 R163). -/
  floor : Nat
  /-- Units that a release returns at the next boundary (06 R165). -/
  relAmt : Nat
  /-- Units the SHED victim is to fall to (06 R180). -/
  target : Nat
  /-- Planned for bind-off by shedding (06 R180). -/
  planned : Bool
  /-- Row boundaries waited with WAIT5 (06 R164). -/
  wait5Age : Nat
  /-- Holding, class and request age in the snapshot of the present row (06 R171). -/
  snapHold : Nat
  snapClass : Nat
  /-- CAD_PCFGp as in force since the last boundary (06 R186). -/
  actPcfg : Word
  /-- Device time of the boundary from which the victim's deadline counts (06 R182, R184). -/
  shedAt : Nat
  deriving DecidableEq, Repr

/-- One port's ledger entry after reset. -/
def CadPort.reset : CadPort where
  regs := CadPortRegs.reset
  req := none
  stand := none
  upg := none
  subs := []
  contract := none
  floor := 0
  relAmt := 0
  target := 0
  planned := false
  wait5Age := 0
  snapHold := 0
  snapClass := 1
  actPcfg := 0x3221
  shedAt := 0


/-! ## Host link, mailbox and events -/

/-- What an accepted command still waits for before its completion (09). -/
inductive WaitKind where
  | parked
  | caps
  | hardReset
  | swap (kind : Nat)
  | vdm (ctx : Fin 3) (rboff : Nat) (structured : Bool)
  | vdmAnswer
  | msg (ctx : Fin 3) (rboff : Nat) (answer : Bool)
  | auth (ctx : Fin 3) (step slot root got len rboff : Nat)
  | telStop
  | otpProgram
  | otpLock
  | otpScan
  | otpRead (word count : Nat)
  | busXfer (bus : Fin 2) (boff : Nat)
  | busQueued (bus : Fin 2)
  | card
  | ledger (boff : Nat)
  | cancelled
  deriving DecidableEq, Repr

/-- A consumed command whose completion is not yet written (08 R219), with the bulk ranges (offset, length) that its
entry names, which the device owns (08 R220). -/
structure Wait where
  tag : Nat
  opc : Nat
  port : Nat
  fence : Bool
  kind : WaitKind
  owned : List (Nat × Nat)
  deriving DecidableEq, Repr

/-- A command entry the device has consumed and not yet carried out (08 R217, Table HST-5), with LEN and
PAYLOAD. -/
structure Consumed where
  tag : Nat
  opc : Nat
  port : Nat
  fence : Bool
  len : Nat
  payload : List Byte
  deriving DecidableEq, Repr

/-- The host side of the device (08). -/
structure HostSide where
  db : DbRegs
  /-- HID_SESSION (08 R214). -/
  session : Word
  /-- Link in quad I/O; RESET_ENABLE was the last transaction; MT_LINK.ERRCNT (08 R210). -/
  quad : Bool
  resetArmed : Bool
  errcnt : Nat
  /-- The HID_TIMEHI value latched by a read of HID_TIMELO and not yet read (08 R214). -/
  timeHi : Option Word
  /-- The data the device sent in the last READ or READ_STATUS transaction (08 R209). -/
  out : List Byte
  /-- Rings and bulk area (08 R213); an unlisted byte reads 0. -/
  window : List Host.Cell
  consumed : List Consumed
  waits : List Wait
  /-- Vectors pending for at least their hold-off, and the device time since which each has been pending (08 R234). -/
  ripe : List Nat
  since : Vector Nat 64
  /-- EVR_ROUTEs (08 R236); an unlisted source holds its reset route (08 R234). -/
  routes : List Host.Cell
  /-- Overflow in progress: events dropped in it (08 R235). -/
  overflow : Option Nat
  /-- SEQ of the system sources' group (08 R232). -/
  sysSeq : Nat
  /-- Fabric arbitration (08 R237, R238): port-weighted mode, next engine of the round, next port
  of each engine, deficit counters. -/
  weighted : Bool
  fabNext : Nat
  engNext : Vector Nat 13
  deficit : Vector Nat 13
  deriving DecidableEq, Repr

/-- The host side after reset. -/
def HostSide.reset : HostSide where
  db := DbRegs.reset
  session := 0
  quad := false
  resetArmed := false
  errcnt := 0
  timeHi := none
  out := []
  window := []
  consumed := []
  waits := []
  ripe := []
  since := Vector.replicate 64 0
  routes := []
  overflow := none
  sysSeq := 0
  weighted := false
  fabNext := 0
  engNext := Vector.replicate 13 0
  deficit := Vector.replicate 13 0

/-! ## DWX cores and timers -/

/-- A core waiting in WFE or WUNTIL (13 R353, R354): result register, mask, deadline of a WUNTIL, and
the parcel address of the next instruction. -/
structure CoreWait where
  d : Fin 16
  mask : Word
  deadline : Option Nat
  next : Nat
  deriving DecidableEq, Repr

/-- One DWX core (13 R341): registers, predicates, program counter, cycle counter with its latch, the
time-base latch, latched event lines, encoding, program memory (28-bit words) and data SRAM. -/
structure Core where
  g : Vector Word 16
  p : Vector Bool 4
  pc : Nat
  cyc : Nat
  cycHi : Option Word
  tbHi : Option Word
  latched : Word
  compact : Bool
  wait : Option CoreWait
  pmem : List (Nat × Word)
  dmem : List Host.Cell
  deriving DecidableEq, Repr

/-- A core before its first release (13 R359). -/
def Core.reset : Core where
  g := Vector.replicate 16 0
  p := Vector.replicate 4 false
  pc := 0
  cyc := 0
  cycHi := none
  tbHi := none
  latched := 0
  compact := false
  wait := none
  pmem := []
  dmem := []

/-- The part of a timer that its registers do not show (14): running, compare armed, prescaler count,
and the high count latched by a read of the chained low timer. -/
structure TmrHw where
  run : Bool
  armed : Bool
  pre : Nat
  hi : Option Word
  deriving DecidableEq, Repr

/-- A stopped timer. -/
def TmrHw.reset : TmrHw where
  run := false
  armed := false
  pre := 0
  hi := none

/-- One engine's control block: control registers (13 R360), task watchdog (12 R340) with the time
its timeout runs from, the latch of SE_CYCHI, and the four timers (14 R376). -/
structure Engine where
  se : SeRegs
  sew : SewRegs
  sewAt : Nat
  cycLatched : Bool
  tmr : Vector TmrRegs 4
  tmrHw : Vector TmrHw 4
  deriving DecidableEq, Repr

/-- One engine after reset. -/
def Engine.reset : Engine where
  se := SeRegs.reset
  sew := SewRegs.reset
  sewAt := 0
  cycLatched := false
  tmr := Vector.replicate 4 TmrRegs.reset
  tmrHw := Vector.replicate 4 TmrHw.reset

/-! ## Telemetry codec -/

/-- One telemetry channel (07 R194, R195): k and threshold enables taken at the block's first sample,
samples seen in the block period, the last code, whether a crossing was posted in the period, whether
the channel streams in the period, and the block in progress: its first frame, samples and crossings,
oldest first; and the time of the latest sample. -/
structure Chan where
  k : Nat
  hiEn : Bool
  loEn : Bool
  seen : Nat
  prev : Option Nat
  posted : Bool
  on : Bool
  block : Option Nat
  xs : List Nat
  exact : List Bool
  last : Nat
  deriving DecidableEq, Repr

/-- A channel with no sample taken. -/
def Chan.reset : Chan where
  k := 0
  hiEn := false
  loEn := false
  seen := 0
  prev := none
  posted := false
  on := false
  block := none
  xs := []
  exact := []
  last := 0

/-- The codec beside its registers (07): the frame number, the channels, ADC failures of the ending
frame, the boundary of the first dropped block with the blocks dropped, and the latch of
TEL_FRAMEHI. -/
structure Codec where
  frame : Nat
  chans : Vector Chan 297
  failed : List (Nat × Nat)
  dropAt : Nat
  dropped : Nat
  hiLatched : Bool
  deriving DecidableEq, Repr

/-- The codec after reset. -/
def Codec.reset : Codec where
  frame := 0
  chans := Vector.replicate 297 Chan.reset
  failed := []
  dropAt := 0
  dropped := 0
  hiLatched := false

/-! ## Clock root, starts, watchdog, safety -/

/-- The sequence of the operating-point sequencer (10 R290, R291): a raise waiting for PGOOD_CORE
with the code to return to, or divider steps, toward a point. -/
inductive DvfsSeq where
  | raise (target : Nat) (back : Nat)
  | steps (target : Nat)
  deriving DecidableEq, Repr

/-- The clock root beside its registers (10): VSEL code, CPUCLK divider, sequence under way, failed
lock attempts of the present start, standby, and whether the crystal amplifier runs (10 R284, strap TMR3). -/
structure Cru where
  regs : CruRegs
  vsel : Nat
  div : Nat
  seq : Option DvfsSeq
  lockFails : Nat
  standby : Bool
  amp : Bool
  deriving DecidableEq, Repr

/-- The clock root after reset: root in bypass, VSEL 0b00 (10 R292). -/
def Cru.reset : Cru where
  regs := CruRegs.reset
  vsel := 0
  div := 16
  seq := none
  lockFails := 0
  standby := false
  amp := true

/-- Where the device is in a start (11 Table RST-2, Table RST-3): control die held in reset by RST_N
or a supply; held in STATUS 101; waiting for XIN and the PLL (C3 to C5); raising to OP3 (C6); from
image entry of a cold start to RUN; a warm start to RUN; running; ROM service loader; STATUS 110
after a clock failure. -/
inductive Phase where
  | held | fuseFail | clocks | raise | entered | warm | running | loader | clockFail
  deriving DecidableEq, Repr

/-- A start that a completed command has asked for and that begins 1 ms later (09 R270, 17 R422, R429): a
warm start of a kind and slot, or a cold start with a cause. -/
inductive Due where
  | warm (kind slot : Nat)
  | cold (cause : Nat)
  deriving DecidableEq, Repr

/-- What the identity block shows from the beginning of a warm start to READY: the values of before (08 R214). -/
structure IdShown where
  fwver : Word
  proto : Word
  slot : Nat
  warms : Nat
  deriving DecidableEq, Repr

/-- Nothing kept. -/
def IdShown.reset : IdShown where
  fwver := 0
  proto := 0
  slot := 0
  warms := 0

/-- A warm start to make: kind (0 warm, 1 hitless activation), cause, slot, and whether the slot changed by
11 R312 or 17 R425. -/
structure WarmReq where
  kind : Nat
  cause : Nat
  slot : Nat
  switched : Bool
  deriving DecidableEq, Repr

/-- The start logic beside its registers (11): the phase; STATUS 110 shown while XIN or the PLL is
awaited; READY; HID_STATE.WARMS; the time the start timer runs from; the running image's header;
which slots' images have reached RUN; the slot that ran before the present one; the engines that
fail their self-test; SAFE_N as it was at W1; system events to post after RUN, with the time each
occurred; what the identity block shows during a warm start (08 R214); a warm start that waits for the flash at W2 (11 R314);
the control pair's own run state (13 SE_STAT.STATE codes); RST_N low; a control-die
rail below its detector (10 R281); and a start asked for with the time it begins. -/
structure Boot where
  phase : Phase
  clk110 : Bool
  ready : Bool
  warms : Nat
  startAt : Option Nat
  img : List Byte
  reached : Vector Bool 2
  prevSlot : Nat
  bist : Word
  safeW1 : Bool
  postRun : List (Nat × Nat × Word)
  shown : IdShown
  waiting : Option WarmReq
  cpState : Nat
  rstLow : Bool
  supplyDown : Bool
  due : Option (Nat × Due)
  deriving DecidableEq, Repr

/-- The start logic right after reset: the control die held in reset. -/
def Boot.reset : Boot where
  phase := .held
  clk110 := false
  ready := false
  warms := 0
  startAt := none
  img := []
  reached := Vector.replicate 2 false
  prevSlot := 0
  bist := 0
  safeW1 := false
  postRun := []
  shown := IdShown.reset
  waiting := none
  cpState := 0
  rstLow := false
  supplyDown := false
  due := none

/-- The window watchdog beside its registers (12 R330 to R334): start of the period, the last expiry,
and the level of WDO. -/
structure Wdog where
  regs : WdgRegs
  at_ : Nat
  lastExp : Option Nat
  wdo : Bool
  deriving DecidableEq, Repr

/-- The watchdog after reset. -/
def Wdog.reset : Wdog where
  regs := WdgRegs.reset
  at_ := 0
  lastExp := none
  wdo := false

/-- The safety logic beside its registers (12): corrected errors in each of the last 24 hours, the
newest first; device times of the lockstep mismatches within 24 h; uncorrectable words known, by
memory code and address; whether each front die's supplies are present (01 Table ANA-4). -/
structure Diag where
  hours : Vector Nat 24
  mismatches : List Nat
  bad : List (Nat × Nat)
  supplied : Vector Bool 4
  deriving DecidableEq, Repr

/-- The diagnostics after reset. -/
def Diag.reset : Diag where
  hours := Vector.replicate 24 0
  mismatches := []
  bad := []
  supplied := Vector.replicate 4 true

/-! ## Two-wire target and controllers -/

/-- The management target beside its registers (15 R377 to R383): the register pointer, a write
transaction (with whether the pointer byte is still to come) or a read, the bytes of the register
being written, the snapshot being sent and
the byte last sent. -/
structure Twt where
  regs : TwtRegs
  ptr : Nat
  reading : Bool
  first : Bool
  part : List Byte
  snap : Option (Nat × Word)
  out : Option Byte
  deriving DecidableEq, Repr

/-- The management target after reset. -/
def Twt.reset : Twt where
  regs := TwtRegs.reset
  ptr := 0
  reading := false
  first := false
  part := []
  snap := none
  out := none

/-- A two-wire transfer in progress (15 R384 to R388): attempts lost; a loss whose repeat waits for
the bus; ABORT written. -/
structure Xfer where
  lost : Nat
  waitBus : Bool
  aborted : Bool
  deriving DecidableEq, Repr

/-- A BUS_XFER that waits for the control pair's own transfer to end (15 R389), and the device time since which it
waits. -/
structure BusJob where
  addr : Nat
  wlen : Nat
  rlen : Nat
  rstart : Bool
  boff : Nat
  wdata : List Byte
  check : BusCheck
  since : Nat
  deriving DecidableEq, Repr

/-- A controller beside its registers (15): transmit FIFO, the bytes sent in the present transfer, the receive FIFO,
the bytes of the transfer that a full receive FIFO holds back (R384), the transfer, and the BUS_XFER that waits for
it (R389). -/
structure Twc where
  regs : TwcRegs
  tx : List Byte
  sent : List Byte
  rx : List Byte
  rest : List Byte
  xfer : Option Xfer
  queued : Option BusJob
  deriving DecidableEq, Repr

/-- A controller after reset. -/
def Twc.reset : Twc where
  regs := TwcRegs.reset
  tx := []
  sent := []
  rx := []
  rest := []
  xfer := none
  queued := none

/-! ## Fuses -/

/-- A fuse word: the data whose codeword it is to hold, and the bits of its 39 (data in 31:0, check
bits in 38:32) that read wrong at the high, the normal and the low reference (16 R392, R401). -/
structure FuseW where
  data : Word
  hi : Nat
  nrm : Nat
  lo : Nat
  deriving DecidableEq, Repr

/-- A blank word. -/
def FuseW.blank : FuseW := ⟨0, 0, 0, 0⟩

/-- A word programmed whole. -/
def FuseW.of (d : Word) : FuseW := ⟨d, 0, 0, 0⟩

/-- The operation of the OTP controller that applies pulses (16 R398, R403): a word's programming, or
a lock's fuse with the fuses verified before it. -/
inductive OtpOp where
  | program (word : Nat) (value : Word) (pulses : Nat)
  | lock (region : Nat) (read : Bool) (fuse : Fin 3) (pulses : Nat) (ok : Nat)
  deriving DecidableEq, Repr

/-- The fuse array, its locks and its controller (16): words by address (an unlisted word is blank),
the three fuses of each write and read lock, the operation under way, and the counts of the last
complete scan. -/
structure Otp where
  regs : OtpRegs
  words : List (Nat × FuseW)
  wlock : Vector (Vector Bool 3) 8
  rlock : Vector (Vector Bool 3) 8
  op : Option OtpOp
  last : Nat × Nat × Nat
  deriving DecidableEq, Repr

/-- The fuses as shipped (16 Table OTP-1, log entry 20): state PROVISION, the vendor hash programmed,
regions 0, 2 and 7 write-locked under their seals, every other fuse blank. -/
def Otp.reset : Otp where
  regs := OtpRegs.reset
  words := [(0x0FF, FuseW.of 0xB641CDE2), (0x100, FuseW.of 0xFFFFFFFF), (0x12F, FuseW.of 0xD71BD364)] ++
    (List.range 8).map (fun i => (0x130 + i, FuseW.of 0xFFFFFFFF)) ++ [(0x7FF, FuseW.of 0xE236A699)]
  wlock := #v[Vector.replicate 3 true, Vector.replicate 3 false, Vector.replicate 3 true,
    Vector.replicate 3 false, Vector.replicate 3 false, Vector.replicate 3 false,
    Vector.replicate 3 false, Vector.replicate 3 true]
  rlock := Vector.replicate 8 (Vector.replicate 3 false)
  op := none
  last := (0, 0, 0xFFFF)

/-! ## Flash, updates, settings, loader, card -/

/-- The operation of the flash controller under way (17 R430): its code, flash address, SRAM address
and length. -/
structure FlcOp where
  op : Nat
  addr : Nat
  sram : Nat
  len : Nat
  deriving DecidableEq, Repr

/-- The flash controller, the flash behind it (an unlisted byte is erased, 0xFF), and the end of the
trial window (17 R410, R423). -/
structure Flash where
  regs : FlcRegs
  cells : List Host.Cell
  op : Option FlcOp
  trialEnd : Option Nat
  deriving DecidableEq, Repr

/-- The flash after reset: every byte erased (log entry 21). -/
def Flash.reset : Flash where
  regs := FlcRegs.reset
  cells := []
  op := none
  trialEnd := none

/-- The update under way (17 Table UPD-5): state, target slot, header, next block, ACT of a card
update, the card's REASON, and whether the blocks come from the card. -/
structure Update where
  st : Nat
  slot : Nat
  hdr : List Byte
  next : Nat
  act : Nat
  reason : Nat
  card : Bool
  deriving DecidableEq, Repr

/-- No update. -/
def Update.reset : Update where
  st := 0
  slot := 0
  hdr := []
  next := 0
  act := 0
  reason := 0
  card := false

/-- A frame of the service loader (17 R427 to R429): the divider in use and one that is to apply, the
open update, and the last response frame. -/
structure Loader where
  div : Nat
  newRate : Bool
  slot : Option Nat
  hdr : List Byte
  next : Nat
  resp : List Byte
  deriving DecidableEq, Repr

/-- The loader at its start: DIV 104. -/
def Loader.reset : Loader where
  div := 104
  newRate := false
  slot := none
  hdr := []
  next := 0
  resp := []

/-- What the settings keep of one port (09 R276). -/
structure PortSet where
  core : PortCore
  cc : CcRegs
  kaAck : Bool
  pth : PathRegs
  cur : CurveRegs
  tel : TelPortRegs
  pcfg : Word
  caps : List Word
  eprCaps : List Word
  drSwapOk : Bool
  prSwapOk : Bool
  vconnSwapOk : Bool
  advUnchunk : Bool
  rpct : Nat
  enabled : Bool
  deriving DecidableEq, Repr

/-- A settings body as the schema of the running image lays it out (09 R276). -/
structure Settings where
  ports : Vector PortSet 96
  cad : CadRegs
  fed : FeedRegs
  tel : TelRegs
  routes : List Host.Cell
  weighted : Bool
  twtAddr : Word
  identity : List Word
  svids : List Word
  roots : List (List Byte)
  deriving DecidableEq, Repr

/-- What the device keeps beside the ports and takes from the settings: the Discover Identity
objects, the SVID list and the trusted root digests (09 R276); what each flash settings copy that
this device wrote holds; a settings write under way. -/
structure Kept where
  identity : List Word
  svids : List Word
  roots : List (List Byte)
  copies : Vector (Option Settings) 2
  deriving DecidableEq, Repr

/-- Nothing kept. -/
def Kept.reset : Kept where
  identity := []
  svids := []
  roots := []
  copies := Vector.replicate 2 none

/-- Pins and operator controls (02): card present; the LED frame in the chain and the count of frames
sent; TMR pin levels driven from outside; the event flags of the SD host and the crypto block; and the
levels on the strap pins (02 R46). -/
structure Board where
  card : Bool
  led : List Bool
  frames : Nat
  tmrPins : Vector Bool 8
  sdFlag : Bool
  cryptoFlag : Bool
  straps : Word
  deriving DecidableEq, Repr

/-- The board side after reset. -/
def Board.reset : Board where
  card := false
  led := []
  frames := 0
  tmrPins := Vector.replicate 8 false
  sdFlag := false
  cryptoFlag := false
  straps := 0

/-! ## The whole block -/

/-- The feed logic beside its registers (05 R153 to R155). -/
structure Feeds where
  regs : FeedRegs
  /-- The feed whose gate is off or going off in the switch under way, if any: waiting for the
  confirmation of step 2, or selected and rising (05 Table PTH-8). -/
  rising : Option Feed
  /-- Feeds named in the order that have not qualified within 10 s (12 R338). -/
  failed : List Feed
  /-- The input FET gates of FEED_A and FEED_B, which F0 and F2 drive (02 R41); off shows on the first wire of 05
  R155. -/
  gates : Vector Bool 2
  /-- The second wire of 05 R155 of F0 and F2: the feed's voltage is below its UV threshold. -/
  under : Vector Bool 2
  deriving DecidableEq, Repr

/-- The feed logic after reset. -/
def Feeds.reset : Feeds where
  regs := FeedRegs.reset
  rising := none
  failed := []
  gates := Vector.replicate 2 false
  under := Vector.replicate 2 false

/-- The caddy beside its per-port ledger (06). -/
structure Caddy where
  regs : CadRegs
  row : Nat
  /-- Row count high half latched by a read of CAD_ROWLO (06 R168). -/
  rowHi : Option Word
  /-- Budget, committed total and pool balance of the snapshot of the present row (06 R171). -/
  snapB : Nat
  snapC : Nat
  snapW : Nat
  /-- The registers in force since the last boundary (06 R186, R160). -/
  act : CadRegs
  /-- ROW_SYNC was lost and rows run on LEN until the next edge (06 R169). -/
  syncLost : Bool
  /-- CAD_WRESk of each port (06 R188). -/
  wres : Vector Word 96
  deriving DecidableEq, Repr

/-- The caddy after reset. -/
def Caddy.reset : Caddy where
  regs := CadRegs.reset
  row := 0
  rowHi := none
  snapB := 0
  snapC := 0
  snapW := 0
  act := CadRegs.reset
  syncLost := false
  wres := Vector.replicate 96 0


/-- Why the machine stops with a fault. -/
inductive Fault where
  /-- A host error (08 R242): the spec calls its result unpredictable and gives none. Raised by the
  host commands and doorbell rows on an entry that breaks Table HST-13. Safe: the model stops where
  the device goes on in a way the spec does not give. -/
  | hostError
  deriving DecidableEq, Repr

/-- Why a command has no meaning here. -/
inductive Refusal where
  /-- A row of the opcode table that has no meaning yet: raised by the dispatch only. Safe. -/
  | notModelled (mnemonic : String)
  /-- A load or store of the control pair in the service UART, SD host or crypto block, whose
  registers the spec does not give (01 Table ANA-6): raised by the DWX loads and stores. Safe. -/
  | blockNotGiven (base : Nat)
  deriving DecidableEq, Repr

/-- The VK9640 as a block: everything the spec gives it, and the queue of waiting commands. -/
structure State where
  /-- The commands waiting, first in, first out. -/
  pending : List Instr
  /-- The device time, in µs (10 R286). -/
  time : Nat
  /-- The model's own counter behind its free values (log entry 1). -/
  free : Nat
  ports : Vector Port 96
  cad : Caddy
  cadp : Vector CadPort 96
  feeds : Feeds
  host : HostSide
  engines : Vector Engine 13
  /-- SE0 to SE12 and the control pair (13 R341). -/
  cores : Vector Core 14
  /-- Shared SRAM by control-pair address (01 Table ANA-6); an unlisted byte reads 0. -/
  sram : List Host.Cell
  saf : SafRegs
  diag : Diag
  wdg : Wdog
  tel : TelRegs
  codec : Codec
  cru : Cru
  rst : RstRegs
  boot : Boot
  /-- The control-die timers (14 R375). -/
  tmr : Vector TmrRegs 16
  tmrHw : Vector TmrHw 16
  twt : Twt
  twc : Vector Twc 2
  otp : Otp
  /-- Fuse shadow registers (16 R393); an unlisted word reads 0. -/
  shadow : List (Nat × Word)
  flash : Flash
  upd : Update
  loader : Loader
  kept : Kept
  board : Board
  deriving DecidableEq, Repr

/-- The device right after reset: the control die held in reset, every register at its reset value. -/
def State.reset : State where
  pending := []
  time := 0
  free := 0
  ports := Vector.replicate 96 Port.reset
  cad := Caddy.reset
  cadp := Vector.replicate 96 CadPort.reset
  feeds := Feeds.reset
  host := HostSide.reset
  engines := Vector.replicate 13 Engine.reset
  cores := Vector.replicate 14 Core.reset
  sram := []
  saf := SafRegs.reset
  diag := Diag.reset
  wdg := Wdog.reset
  tel := TelRegs.reset
  codec := Codec.reset
  cru := Cru.reset
  rst := RstRegs.reset
  boot := Boot.reset
  tmr := Vector.replicate 16 TmrRegs.reset
  tmrHw := Vector.replicate 16 TmrHw.reset
  twt := Twt.reset
  twc := Vector.replicate 2 Twc.reset
  otp := Otp.reset
  shadow := []
  flash := Flash.reset
  upd := Update.reset
  loader := Loader.reset
  kept := Kept.reset
  board := Board.reset

end Sys2Proof.Machine
end

