-- ==== Sys2Proof/Machine/Ops.lean ====
section
/-! DEFINITION. The named operations over the state: memories as canonical lists of cells, the
accessors of ports, engines and fuses, the port state, free values, and the running of engines. -/

namespace Sys2Proof.Machine
open Sys2Proof

/-! ## Sparse memories: strictly rising addresses, no entry equal to the unlisted value -/

/-- The value at an address; an unlisted address reads as `d`. -/
def cget {α : Type} (d : α) : List (Nat × α) → Nat → α
  | [], _ => d
  | (b, v) :: t, a => if b = a then v else cget d t a

/-- The list without an entry at `a`. -/
def cdel {α : Type} : List (Nat × α) → Nat → List (Nat × α)
  | [], _ => []
  | (b, v) :: t, a => if b = a then cdel t a else (b, v) :: cdel t a

/-- The list with the entry `(a, v)` at its place. -/
def cins {α : Type} : List (Nat × α) → Nat → α → List (Nat × α)
  | [], a, v => [(a, v)]
  | (b, w) :: t, a, v =>
    if a < b then (a, v) :: (b, w) :: t
    else if b = a then (a, v) :: t
    else (b, w) :: cins t a v

/-- A write; writing the value an unlisted address reads as removes the entry. -/
def cput {α : Type} [DecidableEq α] (d : α) (m : List (Nat × α)) (a : Nat) (v : α) :
    List (Nat × α) :=
  if v = d then cdel m a else cins m a v

/-- Addresses strictly rising. -/
def csorted {α : Type} : List (Nat × α) → Bool
  | [] => true
  | [_] => true
  | (a, _) :: (b, w) :: t => decide (a < b) && csorted ((b, w) :: t)

/-- The canonical form: addresses strictly rising and no entry equal to the unlisted value. -/
def cwf {α : Type} [DecidableEq α] (d : α) (m : List (Nat × α)) : Bool :=
  csorted m && m.all fun e => decide (e.2 ≠ d)

/-- The canonical form of a byte memory whose unlisted bytes read 0. -/
def Memory.wf (m : List Host.Cell) : Bool := cwf (0 : Byte) m

/-- Bytes from an address on. -/
def cgetN {α : Type} (d : α) (m : List (Nat × α)) (a : Nat) : Nat → List α
  | 0 => []
  | n + 1 => cget d m a :: cgetN d m (a + 1) n

/-- Values written from an address on. -/
def cputN {α : Type} [DecidableEq α] (d : α) (m : List (Nat × α)) (a : Nat) :
    List α → List (Nat × α)
  | [] => m
  | v :: t => cputN d (cput d m a v) (a + 1) t

/-! ## Ports and engines -/

/-- The state with one port changed. -/
def modPort (p : PortId) (f : Port → Port) (s : State) : State :=
  { s with ports := s.ports.set p (f s.ports[p]) }

/-- The state with one port's caddy entry changed. -/
def modCad (p : PortId) (f : CadPort → CadPort) (s : State) : State :=
  { s with cadp := s.cadp.set p (f s.cadp[p]) }

/-- The state with one engine changed. -/
def modEng (e : EngId) (f : Engine → Engine) (s : State) : State :=
  { s with engines := s.engines.set e (f s.engines[e]) }

/-- The state with one port's policy context changed. -/
def modPol (p : PortId) (f : Policy → Policy) (s : State) : State :=
  modPort p (fun q => { q with pol := f q.pol }) s

/-- The skein of a port (01 R11). -/
def skeinOf (p : PortId) : Fin 12 := ⟨p.val / 8, by omega⟩

/-- The front die of a port (01 R11). -/
def dieOf (p : PortId) : DieId := ⟨p.val / 24, by omega⟩

/-- All ports, in order. -/
def allPorts : List PortId := List.finRange 96

/-- The ports of a front die. -/
def portsOfDie (d : DieId) : List PortId := allPorts.filter fun p => dieOf p == d

/-- The ports of a skein. -/
def portsOfSkein (k : Nat) : List PortId := allPorts.filter fun p => p.val / 8 == k

/-- A state transformer applied for every port of a list, in order. -/
def forPorts (l : List PortId) (f : PortId → State → State) (s : State) : State :=
  l.foldl (fun s p => f p s) s

/-- A free value of the spec: what the opaque function answers at the counter, which advances. -/
def takeFree {α : Type} (f : Nat → α) (s : State) : α × State :=
  (f s.free, { s with free := s.free + 1 })

/-! ## Fuses that the port logic reads (16 R394) -/

/-- Word `w` of the shadow registers: what fuse sensing read at the last cold start (16 R393). -/
def shadowWord (s : State) (w : Nat) : Word := cget 0 s.shadow w

/-- A per-port fuse flag: bit p mod 32 of the field's word p div 32 (16 R394). -/
def brdFlag (s : State) (base : Nat) (p : PortId) : Bool :=
  bitOf (shadowWord s (base + p.val / 32)) (p.val % 32)

def unpopulated (s : State) (p : PortId) : Bool := brdFlag s 0x1B0 p
def bidirectional (s : State) (p : PortId) : Bool := brdFlag s 0x1B3 p
def fusedForced (s : State) (p : PortId) : Bool := brdFlag s 0x1B6 p
def fusedCabled (s : State) (p : PortId) : Bool := brdFlag s 0x1B9 p
def fusedRide (s : State) (p : PortId) : Bool := brdFlag s 0x1BC p

/-! ## The port state (03 R61) -/

/-- The code of a port state (03 Table ATT-5). -/
def PortSt.code : PortSt → Nat
  | .parked => 0 | .detached => 1 | .attachWait => 2 | .castingOn => 3 | .contracted => 4
  | .bindingOff => 5 | .tripped => 6 | .retryWait => 7 | .fenced => 8

/-- The port state a code names. Table ATT-5 does not use codes 0x9 to 0xF: one that firmware writes acts as
FENCED (DESIGN CHOICE, log entry 83). -/
def PortSt.ofCode (n : Nat) : PortSt :=
  match n with
  | 0 => .parked | 1 => .detached | 2 => .attachWait | 3 => .castingOn | 4 => .contracted
  | 5 => .bindingOff | 6 => .tripped | 7 => .retryWait | _ => .fenced

/-- The state of a port, read from PRT_STATE.STATE. -/
def Port.st (q : Port) : PortSt := PortSt.ofCode (F.PRT_STATE.STATE.get q.core.state)

/-- PRT_STATE.STATE written. A write that would move a port out of FENCED is ignored (03 R61). -/
def Port.setSt (t : PortSt) (q : Port) : Port :=
  if q.st = .fenced then q
  else { q with core.state := F.PRT_STATE.STATE.put t.code q.core.state }

/-- The Type-C state codes of 03 Table ATT-12. -/
def Port.tc (q : Port) : Nat := F.PRT_STATE.TC_STATE.get q.core.state

/-- TC_STATE written. -/
def Port.setTc (n : Nat) (q : Port) : Port :=
  { q with core.state := F.PRT_STATE.TC_STATE.put n q.core.state }

/-- A hardware write of STATE also sets PRT_EVT.HW_STATE (03 Table ATT-15). -/
def Port.hwSt (t : PortSt) (q : Port) : Port :=
  let q := q.setSt t
  { q with core.evt := F.PRT_EVT.HW_STATE.set q.core.evt }

/-- PRT_STATE.ORIENT. -/
def Port.orient (q : Port) : Nat := F.PRT_STATE.ORIENT.get q.core.state

/-- The port is the power source (PD_PHYCFG.PWR_ROLE). -/
def Port.isSource (q : Port) : Bool := F.PD_PHYCFG.PWR_ROLE.on q.pd.phycfg

/-- The port's data role is DFP. -/
def Port.isDfp (q : Port) : Bool := F.PD_PHYCFG.DATA_ROLE.on q.pd.phycfg

/-- The VCONN switch is closed. -/
def Port.vconnOn (q : Port) : Bool := F.VCONN_STAT.ON.on q.cc.vstat

/-- CASTING_ON or CONTRACTED. -/
def Port.attached (q : Port) : Bool := q.st == .castingOn || q.st == .contracted

/-- The strained output of a comparator slot. -/
def Port.strained (q : Port) (n : Fin 8) : Bool := bitOf q.cc.out (8 + n.val)

/-- The role the device acts in: PRT_CFG.ROLE, taken as Source on a port that is not bidirectional
and for code 0b11 (03 R69, Table ATT-13): 0 Source, 1 Sink, 2 DRP. -/
def roleOf (s : State) (p : PortId) : Nat :=
  let r := F.PRT_CFG.ROLE.get s.ports[p].core.cfg
  if bidirectional s p && (r == 1 || r == 2) then r else 0

/-- The milliseconds that an attach debounce counts: CAPT_DEB in AttachWait.SRC of a captive port, else ATT_DEB,
each within its range (03 R68, R70, R76 departure 1). -/
def attDeb (s : State) (p : PortId) : Nat :=
  let q := s.ports[p]
  if F.PRT_CAPT.CAPT_EN.on q.core.capt && roleOf s p == 0 then
    clampNat 2 200 (F.PRT_CAPT.CAPT_DEB.get q.core.capt)
  else clampNat 100 200 (F.CC_DEB.ATT_DEB.get q.cc.deb)

/-- The milliseconds that a debounce of a Try or TryWait state counts: TTRYDEB within its range (03 R70). -/
def tryDeb (q : Port) : Nat := clampNat 10 20 (F.CC_DRP.TTRYDEB.get q.cc.drp)

/-- The port is in captive mode: CAPT_EN on a port whose ROLE is Source (03 Captive mode). -/
def captive (s : State) (p : PortId) : Bool :=
  F.PRT_CAPT.CAPT_EN.on s.ports[p].core.capt && roleOf s p == 0

/-! ## Engines and the start state -/

/-- The engine that serves a skein, if one does: SE12 when it holds the skein, else the skein's own
engine unless it is out of service (01 R16, 12 SAF_ENGMAP). -/
def engineOf (s : State) (k : Fin 12) : Option EngId :=
  if F.SAF_ENGMAP.VALID.on s.saf.engmap && F.SAF_ENGMAP.SKEIN.get s.saf.engmap == k.val then some 12
  else if bitOf s.saf.engmap k.val then none
  else some ⟨k.val, by omega⟩

/-- An engine runs or waits for an event (13 SE_STAT.STATE 1 or 2). -/
def engineRunning (s : State) (e : EngId) : Bool :=
  let st := F.SE_STAT.STATE.get s.engines[e].se.stat
  st == 1 || st == 2

/-- The serving engine of a port runs, with its clock: not in standby (10 R294). -/
def portServed (s : State) (p : PortId) : Bool :=
  match engineOf s (skeinOf p) with
  | some e => engineRunning s e && !s.cru.standby
  | none => false

/-- A step of the port's policy: carried out when the serving engine runs and nothing older waits, else kept
in the port-policy context until an engine resumes the port (01 R20, R21, 03 R75). -/
def atPolicy (p : PortId) (i : Instr) (f : State → State) (s : State) : State :=
  if portServed s p && s.ports[p].pol.pend.isEmpty then f s
  else modPol p (fun l => { l with pend := l.pend ++ [i] }) s

/-- The control die's hardware is out of reset: from image entry on (11 Table RST-2, Table RST-3). -/
def hwUp (s : State) : Bool :=
  s.boot.phase == .entered || s.boot.phase == .warm || s.boot.phase == .running

/-- The control pair executes: an image has been entered and the pair has not faulted (13 R356). -/
def cpUp (s : State) : Bool := hwUp s && (s.boot.cpState == 1 || s.boot.cpState == 2)

/-- The control pair's firmware executes and its clock runs. -/
def cpWrites (s : State) : Bool := cpUp s && !s.cru.standby

/-- The stitch link of a die is up. -/
def linkUp (s : State) (d : DieId) : Bool := bitOf s.saf.stat d.val

/-- A core's write reaches the front-die registers of a port: with the stitch link down it is discarded
(01 R32). -/
def frontWrites (s : State) (p : PortId) : Bool := hwUp s && linkUp s (dieOf p)

/-- The registers of a port that its front die holds. -/
def Port.front (q : Port) : FrontRegs := ⟨q.cc, q.pth, q.cur, q.tel⟩

/-- A write to a port's registers by a core: with the stitch link up it reaches the front die and the control die's
copy alike; with the link down the front die's part is discarded (01 R31, R32). -/
def Port.reached (up : Bool) (f : Port → Port) (q : Port) : Port :=
  let r := f q
  if up then
    { r with copy := q.copy.map fun c =>
        (f { q with cc := c.cc, pth := c.pth, cur := c.cur, tel := c.tel }).front }
  else { r with cc := q.cc, pth := q.pth, cur := q.cur, tel := q.tel, hw := q.hw }

/-- A core's write to a port's registers. -/
def modFront (p : PortId) (f : Port → Port) (s : State) : State :=
  modPort p (Port.reached (linkUp s (dieOf p)) f) s

/-- A core's write turns something of a port on: a port that the fuses mark as unpopulated stays off (02 R39), and so
does every port of a die in a die-level hold (12 R324, R325). -/
def frontDrives (s : State) (p : PortId) : Bool :=
  frontWrites s p && !unpopulated s p && !bitOf s.saf.stat (8 + (dieOf p).val)

/-! ## CRC-32C -/

/-- One bit of the reflected CRC-32C (polynomial 0x1EDC6F41). -/
def crcBit (c : Word) : Word := if c.getLsbD 0 then (c >>> 1) ^^^ 0x82F63B78 else c >>> 1

/-- The CRC register after one byte. -/
def crcByte (c : Word) (b : Byte) : Word :=
  crcBit (crcBit (crcBit (crcBit (crcBit (crcBit (crcBit (crcBit (c ^^^ b.setWidth 32))))))))

/-- CRC-32C over a list of bytes. -/
def crc32c (l : List Byte) : Word := ~~~(l.foldl crcByte 0xFFFFFFFF)

end Sys2Proof.Machine
end

