-- ==== Sys2Proof/Machine/Events.lean ====
section
/-! DEFINITION. Vectors and alert pins, the event and completion rings, event queues, and the
completion of host commands (08_host_link_and_mailboxes.md). -/

namespace Sys2Proof.Machine
open Sys2Proof

/-! ## Vectors and alert pins (08 R233, R234) -/

/-- Vector `v` is pending. -/
def vecPending (s : State) (v : Nat) : Bool :=
  if v < 32 then bitOf s.host.db.vpendlo v else bitOf s.host.db.vpendhi (v - 32)

/-- Vector `v` is enabled for its alert pin. -/
def vecEnabled (s : State) (v : Nat) : Bool :=
  if v < 32 then bitOf s.host.db.venlo v else bitOf s.host.db.venhi (v - 32)

/-- HOLDn of DB_ALERTCFG. -/
def holdOff (s : State) (n : Nat) : Nat :=
  let w := s.host.db.alertcfg
  match n with
  | 0 => F.DB_ALERTCFG.HOLD0.get w
  | 1 => F.DB_ALERTCFG.HOLD1.get w
  | 2 => F.DB_ALERTCFG.HOLD2.get w
  | _ => F.DB_ALERTCFG.HOLD3.get w

/-- ALERTn_N is driven low: a vector of group n is pending and enabled and has been pending for at
least HOLDn µs (08 R234). -/
def alertLow (s : State) (n : Nat) : Bool :=
  s.host.ripe.any fun v => v / 16 == n && vecPending s v && vecEnabled s v

/-- A vector becomes pending; with a hold-off of 0 it drives its pin at once. One that is pending stays pending since
its time. -/
def setVector (v : Nat) (s : State) : State :=
  let db := s.host.db
  let since := if vecPending s v then s.host.since else
    s.host.since.set (v % 64) s.time (Nat.mod_lt _ (by omega))
  let db := if v < 32 then { db with vpendlo := setBit v db.vpendlo }
    else { db with vpendhi := setBit (v - 32) db.vpendhi }
  let ripe := if holdOff s (v / 16) == 0 && !s.host.ripe.contains v then v :: s.host.ripe
    else s.host.ripe
  { s with host := { s.host with db := db, ripe := ripe, since := since } }

/-- A hold-off written (08 R234): the vectors that have now been pending for their hold-off, and no others, drive
their pins. -/
def reripe (s : State) : State :=
  { s with host := { s.host with ripe := ((List.finRange 64).filter fun v =>
      vecPending s v.val && s.host.since[v] + holdOff s (v.val / 16) ≤ s.time).map Fin.val } }

/-! ## Ring indices (08 R216) -/

def cmdTail (s : State) : Nat := F.DB_CMD_TAIL.INDEX.get s.host.db.cmdTail
def cmdHead (s : State) : Nat := F.DB_CMD_HEAD.INDEX.get s.host.db.cmdHead
def cplTail (s : State) : Nat := F.DB_CPL_TAIL.INDEX.get s.host.db.cplTail
def cplHead (s : State) : Nat := F.DB_CPL_HEAD.INDEX.get s.host.db.cplHead
def evtTail (s : State) : Nat := F.DB_EVT_TAIL.INDEX.get s.host.db.evtTail
def evtHead (s : State) : Nat := F.DB_EVT_HEAD.INDEX.get s.host.db.evtHead

/-- Entries of the event ring that belong to host software. -/
def evtUsed (s : State) : Nat := (evtTail s + 8192 - evtHead s) % 8192

/-- The window with bytes written from an address on. -/
def winWrite (a : Nat) (l : List Byte) (s : State) : State :=
  { s with host := { s.host with window := cputN (0 : Byte) s.host.window a l } }

/-- `n` bytes of the window. -/
def winRead (s : State) (a n : Nat) : List Byte := cgetN (0 : Byte) s.host.window a n

/-- Bytes written into the bulk area at a BOFF; 0xFFFF_FFFF names no range (09 R243). -/
def bulkWrite (boff : Nat) (l : List Byte) (s : State) : State :=
  if boff = 0xFFFFFFFF then s else winWrite (0x40000 + boff) l s

/-! ## The event ring (08 R231 to R236) -/

/-- The route entry of a source after a cold start: EN in bit 7, VEC in bits 5:0 (08 R234). -/
def defaultRoute (src : Nat) : Byte :=
  if src < 1152 then
    let p := src / 12
    BitVec.ofNat 8 ((if src % 12 = 11 then 0 else 128) + (16 * (p / 24) + p % 24 / 2))
  else if src < 1216 then 0x8F
  else 0

/-- EVR_ROUTEs of a source. -/
def routeOf (s : State) (src : Nat) : Byte := cget (defaultRoute src) s.host.routes src

/-- A source is enabled. -/
def srcEnabled (s : State) (src : Nat) : Bool := (routeOf s src).getLsbD 7

/-- A source's vector. -/
def srcVector (s : State) (src : Nat) : Nat := (routeOf s src).toNat % 64

/-- The route entry of a source written. -/
def setRoute (src : Nat) (b : Byte) (s : State) : State :=
  { s with host := { s.host with routes := cput (defaultRoute src) s.host.routes src b } }

/-- The 16 bytes of an event entry (08 Table HST-9). -/
def evtBytes (s : State) (e : EvtEntry) : List Byte :=
  bytes8 e.time ++ bytes2 (e.src % 2048) ++ [BitVec.ofNat 8 e.seq] ++
    [BitVec.ofNat 8 (srcVector s e.src + (if evtTail s ≥ 4096 then 128 else 0))] ++ wordBytes e.data

/-- An entry written whole, then the tail advanced, then the vector set (08 R217, R233). -/
def ringPut (e : EvtEntry) (s : State) : State :=
  let s := winWrite (0x30000 + 16 * (evtTail s % 4096)) (evtBytes s e) s
  let s := { s with host := { s.host with db := { s.host.db with
    evtTail := F.DB_EVT_TAIL.INDEX.put ((evtTail s + 1) % 8192) s.host.db.evtTail } } }
  setVector (srcVector s e.src) s

/-- An event reaches the ring logic: written, or dropped and counted in overflow (08 R235). -/
def ringEvent (e : EvtEntry) (s : State) : State :=
  if s.host.overflow.isNone && evtUsed s < 4096 then ringPut e s
  else
    { s with host := { s.host with
        overflow := some (s.host.overflow.getD 0 + 1)
        db := { s.host.db with evtLost := s.host.db.evtLost + 1 } } }

/-- With at least 64 entries free the ring logic ends an overflow with one EVT_OVERFLOW entry
(08 R235). -/
def ringResume (s : State) : State :=
  match s.host.overflow with
  | none => s
  | some n =>
    if 4096 - evtUsed s ≥ 64 then
      let e : EvtEntry := { time := s.time, src := 1152, seq := s.host.sysSeq % 256, data := BitVec.ofNat 32 n }
      ringPut e { s with host := { s.host with overflow := none, sysSeq := (s.host.sysSeq + 1) % 256 } }
    else s

/-- A system event of a time is posted with its DATA (08 R232, 09 R275); a disabled source generates none. -/
def postSysAt (t src : Nat) (data : Word) (s : State) : State :=
  if srcEnabled s src then
    let e : EvtEntry := { time := t, src := src, seq := s.host.sysSeq, data := data }
    ringEvent e { s with host := { s.host with sysSeq := (s.host.sysSeq + 1) % 256 } }
  else s

/-- A system event that occurs now. -/
def postSys (src : Nat) (data : Word) (s : State) : State := postSysAt s.time src data s

/-- Types of the port sources (08 R231). -/
inductive PortEvt where
  | attach | detach | contract | contractLost | swapDone | vdmRx | alertRx | pathTrip
  | retryExhausted | gateFault | passShort | telThreshold
  deriving DecidableEq, Repr

/-- The type's place in the order of 08 R231. -/
def PortEvt.num : PortEvt → Nat
  | .attach => 0 | .detach => 1 | .contract => 2 | .contractLost => 3 | .swapDone => 4
  | .vdmRx => 5 | .alertRx => 6 | .pathTrip => 7 | .retryExhausted => 8 | .gateFault => 9
  | .passShort => 10 | .telThreshold => 11

/-- A port event of a time enters the port's queue of 32, or waits in the policy context while the queue is
full or older events wait there (08 R236); SEQ counts generated events (08 R232). -/
def postPortAt (time : Nat) (p : PortId) (t : PortEvt) (data : Word) (s : State) : State :=
  let src := 12 * p.val + t.num
  if srcEnabled s src then
    modPol p (fun l =>
      let e : EvtEntry := { time := time, src := src, seq := l.seq, data := data }
      let l := { l with seq := (l.seq + 1) % 256 }
      if l.queue.length < 32 && l.held.isEmpty then { l with queue := l.queue ++ [e] }
      else { l with held := l.held ++ [e] }) s
  else s

/-- A port event that occurs now. -/
def postPort (p : PortId) (t : PortEvt) (data : Word) (s : State) : State := postPortAt s.time p t data s

/-- Held events move into the queue, in order, as space returns (08 R236). -/
def fillQueue (p : PortId) (s : State) : State :=
  modPol p (fun l =>
    let n := 32 - l.queue.length
    { l with queue := l.queue ++ l.held.take n, held := l.held.drop n }) s

/-- The oldest event of a port's queue crosses the fabric into the ring. -/
def transferOne (p : PortId) (s : State) : State :=
  match s.ports[p].pol.queue with
  | [] => s
  | e :: t => ringEvent e (modPol p (fun l => { l with queue := t }) s)

/-- Every event of a port reaches the ring, in order (08 R224: before a completion of the port). -/
def drainPort (p : PortId) (s : State) : State :=
  let es := s.ports[p].pol.queue ++ s.ports[p].pol.held
  es.foldl (fun s e => ringEvent e s) (modPol p (fun l => { l with queue := [], held := [] }) s)

/-! ## Completions (08 R219 to R222) -/

/-- Status codes of 08 Table HST-7. -/
inductive Status where
  | ok | busy | cancelled | caddyDenied | caddyPartial | partnerReject | partnerWait
  | partnerTimeout | notSupportedByPartner | portState | locked | imageInvalid | imageBinding
  | rollback | arbitrationLost
  deriving DecidableEq, Repr

/-- The code of a status. -/
def Status.code : Status → Nat
  | .ok => 0x0000 | .busy => 0x0001 | .cancelled => 0x0002 | .caddyDenied => 0x0010
  | .caddyPartial => 0x0011 | .partnerReject => 0x0020 | .partnerWait => 0x0021
  | .partnerTimeout => 0x0022 | .notSupportedByPartner => 0x0023 | .portState => 0x0030
  | .locked => 0x0040 | .imageInvalid => 0x0041 | .imageBinding => 0x0042 | .rollback => 0x0043
  | .arbitrationLost => 0x0050

/-- The port a PORT value names, if it names one. -/
def portOf (n : Nat) : Option PortId := if h : n < 96 then some ⟨n, h⟩ else none

/-- The 32 bytes of a completion entry (08 Table HST-6). -/
def cplBytes (s : State) (tag opc port : Nat) (st : Status) (result : List Byte) : List Byte :=
  bytes2 (tag % 512 + (if cplTail s ≥ 512 then 32768 else 0)) ++ bytes2 st.code ++
    bytes2 (opc % 4096) ++ [BitVec.ofNat 8 port, 0] ++ bytes8 s.time ++ padTo 16 result

/-- A command that is neither consumed nor waiting any more. -/
def freeTag (tag : Nat) (s : State) : State :=
  { s with host := { s.host with
    consumed := s.host.consumed.filter (fun c => c.tag != tag)
    waits := s.host.waits.filter (fun c => c.tag != tag) } }

/-- DB_CPL_TAIL advanced. -/
def nextCpl (s : State) : State :=
  { s with host := { s.host with db := { s.host.db with
    cplTail := F.DB_CPL_TAIL.INDEX.put ((cplTail s + 1) % 1024) s.host.db.cplTail } } }

/-- DB_CPLVEC's vector set for a new completion (08 R234). -/
def cplVector (s : State) : State :=
  if F.DB_CPLVEC.EN.on s.host.db.cplvec then setVector (F.DB_CPLVEC.VEC.get s.host.db.cplvec) s else s

/-- The completion entry written whole, then the tail advanced, then the vector set (08 R217). -/
def putCpl (tag opc port : Nat) (st : Status) (result : List Byte) (s : State) : State :=
  cplVector (nextCpl (winWrite (0x20000 + 32 * (cplTail s % 512)) (cplBytes s tag opc port st result) s))

/-- The events of the port that a PORT value names reach the ring. -/
def drainFor (port : Nat) (s : State) : State :=
  match portOf port with
  | some p => drainPort p s
  | none => s

/-- A completion: the port's earlier events reach the ring first (08 R224); the command is then neither consumed
nor waiting. -/
def complete (tag opc port : Nat) (st : Status) (result : List Byte) (s : State) : State :=
  putCpl tag opc port st result (freeTag tag (drainFor port s))

/-- A waiting command completes. -/
def completeWait (w : Wait) (st : Status) (result : List Byte) (s : State) : State :=
  complete w.tag w.opc w.port st result s

/-- The command entry in a slot of the ring (08 Table HST-5). -/
def entryAt (s : State) (slot : Nat) : Consumed :=
  let e := winRead s (0x10000 + 64 * slot) 64
  let w := leNat (e.take 2)
  { tag := leNat ((e.drop 2).take 2), opc := w % 4096, port := ((e.drop 4).headD 0).toNat, fence := w / 4096 % 2 == 1,
    len := ((e.drop 5).headD 0).toNat, payload := e.drop 8 }

/-- The device reads the entries from DB_CMD_HEAD up to DB_CMD_TAIL, in order, and advances the head (08 R217). -/
def consumeRing (s : State) : State :=
  let n := (cmdTail s + 1024 - cmdHead s) % 1024
  let new := (List.range n).map fun i => entryAt s ((cmdHead s + i) % 512)
  { s with host := { s.host with
      consumed := s.host.consumed ++ new
      db := { s.host.db with cmdHead := F.DB_CMD_HEAD.INDEX.put (cmdTail s) s.host.db.cmdHead } } }

/-- Every waiting command that `f` selects completes with the status. -/
def completeAll (f : Wait → Bool) (st : Status) (s : State) : State :=
  (s.host.waits.filter f).foldl (fun s w => completeWait w st [] s) s

/-- The first waiting command that `f` selects. -/
def findWait (s : State) (f : Wait → Bool) : Option Wait := s.host.waits.find? f

/-- The bulk ranges that a command entry names, by offset and length (09 Tables CMD-4 to CMD-9); 0xFFFF_FFFF names
none (09 R243). An answer's range counts with the longest answer. -/
def Consumed.ranges (c : Consumed) : List (Nat × Nat) :=
  let n (at_ w : Nat) : Nat := leNat ((c.payload.drop at_).take w)
  let l := match c.opc with
    | 0x104 => if n 0 1 = 2 then [(n 4 4, 32)] else []
    | 0x201 => [(n 32 4, 30)]
    | 0x203 => (n 4 4, 264) :: (if 40 < n 2 2 then [(n 8 4, n 2 2)] else [])
    | 0x204 => [(n 4 4, 4096)]
    | 0x205 => [(n 4 4, 30)]
    | 0x303 => [(n 0 4, 1216)]
    | 0x401 => if 12 < n 0 1 then [(n 4 4, 16)] else []
    | 0x702 => [(n 4 4, 512)]
    | 0x703 => [(n 4 4, n 8 2)]
    | 0x805 => [(n 4 4, n 8 4)]
    | 0xA01 => if 40 < n 2 2 || 12 < n 4 2 then [(n 8 4, n 2 2 + n 4 2)] else []
    | _ => []
  l.filter fun r => r.1 != 0xFFFFFFFF

/-- The device owns a byte of the bulk area: a command consumed and not completed names it (08 R220). -/
def bulkOwned (s : State) (a : Nat) : Bool :=
  let within (l : List (Nat × Nat)) : Bool := l.any fun r => 0x40000 + r.1 ≤ a && a < 0x40000 + r.1 + r.2
  a < 0x80000 && (s.host.consumed.any (fun c => within c.ranges) || s.host.waits.any fun w => within w.owned)

/-- A command that waits for its completion. -/
def addWait (h : Hdr) (opc : Nat) (k : WaitKind) (s : State) : State :=
  let own := (s.host.consumed.filter fun c => c.tag == h.tag).flatMap Consumed.ranges
  { s with host := { s.host with
      consumed := s.host.consumed.filter (fun c => c.tag != h.tag)
      waits := s.host.waits ++ [⟨h.tag, opc, h.port, h.fence, k, own⟩] } }

end Sys2Proof.Machine
end

