-- ==== Sys2Proof/Machine/CaddyOps.lean ====
section
/-! DEFINITION. The caddy's ledger: units, reservations, releases, row resolution, the budget and
the shed plan (06_caddy_power_ledger.md). What the engines do with the results stands in the
caddy family. -/

namespace Sys2Proof.Machine
open Sys2Proof

/-! ## Units (06 R159, R160) -/

/-- The table's VMAX rise from entry to entry. -/
def effRising (t : Vector Word 8) : Bool :=
  ((t.toList.map F.CAD_EFF.VMAX.get).zip (t.toList.map F.CAD_EFF.VMAX.get).tail).all
    fun (a, b) => decide (a < b)

/-- EFF of an entry; below 500 acts as 500 and above 1,000 as 1,000. -/
def effClamp (w : Word) : Nat := clampNat 500 1000 (F.CAD_EFF.EFF.get w)

/-- The efficiency, in 0.1 %, for a voltage in 100 mV: the first entry whose VMAX is at least the
voltage, entry 7 above the last; a free entry while the VMAX do not rise. -/
def effFor (t : Vector Word 8) (free v : Nat) : Nat :=
  if effRising t then
    effClamp ((t.toList.find? fun w => v ≤ F.CAD_EFF.VMAX.get w).getD t[7])
  else effClamp (t.toList.getD (Config.effPick free v % 8) t[7])

/-- units = ceil(100 · P / EFF), P in 10 mW (06 R159). -/
def unitsOf (eff pout : Nat) : Nat := (100 * pout + eff - 1) / eff

/-- Output power in 10 mW that a holding covers: floor(units · EFF / 100) (06 R172). -/
def coverOf (eff units : Nat) : Nat := units * eff / 100

/-- Units for an output power at a voltage, by the table in force. -/
def unitsAt (s : State) (v pout : Nat) : Nat := unitsOf (effFor s.cad.act.eff s.free v) pout

/-- Covered output power of a number of units at a voltage, by the table in force. -/
def coverAt (s : State) (v units : Nat) : Nat := coverOf (effFor s.cad.act.eff s.free v) units

/-! ## The ledger -/

/-- A port's live holding. -/
def CadPort.hold (c : CadPort) : Nat := F.CAD_PHOLD.HOLD.get c.regs.phold

/-- The holding written. -/
def CadPort.setHold (n : Nat) (c : CadPort) : CadPort :=
  { c with regs.phold := F.CAD_PHOLD.HOLD.put n c.regs.phold }

/-- The sum of all holdings (06 R162). -/
def committed (s : State) : Nat := s.cadp.toList.foldl (fun n c => n + c.hold) 0

/-- CAD_COMMIT shows the sum of the holdings. -/
def syncCommit (s : State) : State :=
  { s with cad := { s.cad with regs := { s.cad.regs with
      commit := F.CAD_COMMIT.VALUE.put (committed s) s.cad.regs.commit } } }

/-- The pool balance. -/
def poolBal (s : State) : Nat := F.CAD_POOL.BAL.get s.cad.regs.pool

/-- The pool balance written. -/
def setPoolBal (n : Nat) (s : State) : State :=
  { s with cad := { s.cad with regs := { s.cad.regs with pool := F.CAD_POOL.BAL.put n s.cad.regs.pool } } }

/-- A flag of CAD_EVT set. -/
def cadEvt (f : Fld) (s : State) : State :=
  { s with cad := { s.cad with regs := { s.cad.regs with evt := f.set s.cad.regs.evt } } }

/-- PTH_CEIL.CEIL of a port, in 100 mV, written by the caddy (05 R156). -/
def setCeil (v : Nat) (q : Port) : Port :=
  { q with pth.ceil := F.PTH_CEIL.CEIL.put v q.pth.ceil }

/-- CAD_LIM of a port, in 10 mA, written by the caddy. -/
def setCadLim (v : Nat) (q : Port) : Port :=
  { q with pth.rating := F.PTH_RATING.CAD_LIM.put v q.pth.rating }

/-- A result is written into CAD_WRESk with VALID and the low bits of the row count (06 R176). The spec does not say
which count a result carries that a boundary makes after resolving row n: grants, partial grants and denials carry
n, SHED and the reservations served at the refill n + 1 (DESIGN CHOICE, log entry 90). -/
def putResult (p : PortId) (outcome gout : Nat) (s : State) : State :=
  let w : Word := (F.CAD_WRES.VALID.set 0) |> F.CAD_WRES.OUTCOME.put outcome
    |> F.CAD_WRES.ROW.put s.cad.row |> F.CAD_WRES.GOUT.put gout
  { s with cad := { s.cad with wres := s.cad.wres.set p w } }

/-- A port's holding is released: the units return at the next boundary, the standing request and
every collected submission end, CEIL falls to 5.0 V and CAD_LIM to zero at once (06 R165). -/
def caddyRelease (p : PortId) (s : State) : State :=
  let s := modCad p (fun c => { c with
    relAmt := c.hold, req := none, stand := none, upg := none, subs := [], contract := none,
    floor := 0, planned := false, target := 0, wait5Age := 0,
    regs.phold := c.regs.phold |> F.CAD_PHOLD.SHED.clr |> F.CAD_PHOLD.SETTLED.clr
      |> F.CAD_PHOLD.LIMITED.clr |> F.CAD_PHOLD.WAIT5.clr }) s
  modPort p (fun q => setCadLim 0 (setCeil 50 q)) s

/-- Output power in 10 mW of a vSafe5V reservation level (06 Table CAD-2). -/
def levelPout (l : Nat) : Nat := match l with | 0 => 450 | 1 => 750 | _ => 1500

/-- The level a port asks for: CAD_PCFGp.V5, 0b11 acting as 0b10. -/
def askedLevel (c : CadPort) : Nat := min 2 (F.CAD_PCFG.V5.get c.actPcfg)

/-- The highest level at or below `l` whose units the balance covers. -/
def levelFor (s : State) (bal : Nat) : Nat → Option Nat
  | 0 => if unitsAt s 50 (levelPout 0) ≤ bal then some 0 else none
  | l + 1 => if unitsAt s 50 (levelPout (l + 1)) ≤ bal then some (l + 1) else levelFor s bal l

/-- A reservation of a level is granted from the pool: balance down, holding and floor up, result
6 with the level (06 R163). -/
def giveReserve (p : PortId) (l : Nat) (s : State) : State :=
  let u := unitsAt s 50 (levelPout l)
  let s := setPoolBal (poolBal s - u) s
  let s := modCad p (fun c => { (c.setHold (c.hold + u)) with
    floor := u, wait5Age := 0,
    regs.phold := F.CAD_PHOLD.WAIT5.clr (c.setHold (c.hold + u)).regs.phold }) s
  syncCommit (putResult p 6 l s)

/-- RESERVE (06 R163): from a pre-arm holding that covers the level asked, without a pool draw;
else the highest level the balance covers; else WAIT5 and POOL_EMPTY. Answers the level. -/
def reserve (p : PortId) (s : State) : State × Option Nat :=
  let c := s.cadp[p]
  let l := askedLevel c
  let u := unitsAt s 50 (levelPout l)
  if s.ports[p].pol.prearmed && u ≤ c.hold - c.relAmt then
    (putResult p 6 l (modCad p (fun c => { c with floor := u }) s), some l)
  else
    match levelFor s (poolBal s) l with
    | some k => (giveReserve p k s, some k)
    | none =>
      let s := modCad p (fun c => { c with regs.phold := F.CAD_PHOLD.WAIT5.set c.regs.phold }) s
      (putResult p 7 0 (cadEvt F.CAD_EVT.POOL_EMPTY s), none)

/-- The engine takes the result of its window: VALID is cleared (06 Table CAD-11). -/
def ackResult (p : PortId) (s : State) : State :=
  { s with cad := { s.cad with wres := s.cad.wres.set p (F.CAD_WRES.VALID.clr s.cad.wres[p]) } }

/-- The engine draws a reservation and takes its result. -/
def drawReserve (p : PortId) (s : State) : State × Option Nat :=
  let r := reserve p s
  (ackResult p r.1, r.2)

/-- A PREARM or REQUEST enters the present row, replacing an earlier one and a standing one and
taking over their age (06 R167). -/
def submit (p : PortId) (prearm : Bool) (volt pout : Nat) (s : State) : State :=
  modCad p (fun c =>
    let age := match c.req, c.stand with
      | some r, _ => r.age
      | none, some r => r.age
      | none, none => 0
    { c with req := some { volt := volt, pout := pout, age := age, prearm := prearm }
             stand := none }) s

/-- DONE and WITHDRAW are kept in the order received (06 R167). -/
def submitDone (p : PortId) (volt pout : Nat) (s : State) : State :=
  modCad p (fun c => { c with subs := c.subs ++ [some (volt, pout)] }) s

def submitWithdraw (p : PortId) (s : State) : State :=
  modCad p (fun c => { c with subs := c.subs ++ [none] }) s

/-! ## A row boundary (06 R171) -/

/-- The sort key of a port's place: class, then age, oldest first, then rotation index. -/
def rankKey (row : Nat) (p : PortId) (cls age : Nat) : Nat :=
  (cls * 256 + (255 - min 255 age)) * 128 + (p.val + 96 - row % 96) % 96

/-- Insertion by key. -/
def insertKey {α : Type} (k : Nat) (x : α) : List (Nat × α) → List (Nat × α)
  | [] => [(k, x)]
  | (j, y) :: t => if k < j then (k, x) :: (j, y) :: t else (j, y) :: insertKey k x t

/-- The elements in rising order of their keys. -/
def sortKeyed {α : Type} (l : List (Nat × α)) : List α :=
  (l.foldl (fun acc e => insertKey e.1 e.2 acc) []).map Prod.snd

/-- A request of the row's request set: the port, the request, whether it is standing, its units,
and the snapshot's holding. -/
structure RowReq where
  p : PortId
  req : CadReq
  standing : Bool
  units : Nat
  hold : Nat
  pmin : Nat
  deriving DecidableEq, Repr

/-- The outcome of a request: granted in full, in part with the headroom given, or denied. -/
inductive RowOutcome where
  | grant | partialGrant (given : Nat) | deny
  deriving DecidableEq, Repr

/-- The resolution of the sorted requests (06 R171), from the headroom and the blocked flag. -/
def resolve (ovr : Bool) : List RowReq → Nat → Bool → List (RowReq × RowOutcome)
  | [], _, _ => []
  | q :: t, headroom, blocked =>
    if q.units ≤ q.hold then (q, .grant) :: resolve ovr t headroom blocked
    else if ovr || blocked then (q, .deny) :: resolve ovr t headroom blocked
    else
      let delta := q.units - q.hold
      if delta ≤ headroom then (q, .grant) :: resolve ovr t (headroom - delta) blocked
      else if q.pmin ≤ headroom then (q, .partialGrant headroom) :: resolve ovr t 0 true
      else (q, .deny) :: resolve ovr t headroom true

/-- The request set of the row: what was collected and every standing request that no held upgrade covers (06 R171,
R174). A standing request asks for the units that the table in force at the row gives it (DESIGN CHOICE, log entry
88). -/
def rowRequests (s : State) : List RowReq :=
  let mk (p : PortId) (r : CadReq) (st : Bool) : Nat × RowReq :=
    let c := s.cadp[p]
    (rankKey s.cad.row p c.snapClass r.age,
      { p := p, req := r, standing := st, units := unitsAt s r.volt r.pout, hold := c.snapHold,
        pmin := max 1 (F.CAD_PCFG.PMIN.get c.actPcfg) })
  sortKeyed (allPorts.filterMap fun p =>
    let c := s.cadp[p]
    match c.req, c.stand, c.upg with
    | some r, _, _ => some (mk p r false)
    | none, some r, none => some (mk p r true)
    | none, some r, some _ => if unitsAt s r.volt r.pout ≤ c.snapHold then none else some (mk p r true)
    | none, none, _ => none)

/-- The units of a port's contract in force, as last reported, else as the port holds it; none without an explicit
contract (06 Table CAD-3). -/
def forceUnits (s : State) (p : PortId) (c : CadPort) : Option Nat :=
  s.ports[p].pol.contract.map fun k =>
    match c.contract with
    | some (v, w) => unitsAt s v w
    | none => unitsAt s ((k.volt + 4) / 5) ((k.volt * k.curr + 49) / 50)

/-- The falls that a boundary applies to a port before the row's grants: the release, then DONE and
WITHDRAW in order (06 R162, R165, R171). DONE lowers the holding to the contract's units, WITHDRAW
to those of the contract in force or to the floor. -/
def applyFalls (s : State) (p : PortId) (c : CadPort) : CadPort :=
  let c := { (c.setHold (c.hold - c.relAmt)) with relAmt := 0 }
  let c := c.subs.foldl (fun c x =>
    match x with
    | some (v, w) => { (c.setHold (min c.hold (unitsAt s v w))) with contract := some (v, w) }
    | none => c.setHold (min c.hold ((forceUnits s p c).getD c.floor))) c
  { c with subs := [] }

/-- The falls of every port that has any. -/
def allFalls (s : State) : State :=
  forPorts (allPorts.filter fun p => (s.cadp[p]).relAmt != 0 || !(s.cadp[p]).subs.isEmpty)
    (fun p t => modCad p (applyFalls s p) t) s

/-- The live holding becomes the greater of itself and `h` (06 R171 raise_to). -/
def raiseTo (p : PortId) (h : Nat) (s : State) : State :=
  modCad p (fun c => c.setHold (max c.hold h)) s

/-- A victim whose request within its target is granted is settled (06 R181). -/
def settle (units : Nat) (c : CadPort) : CadPort :=
  if F.CAD_PHOLD.SHED.on c.regs.phold && units ≤ c.target then
    { c with regs.phold := F.CAD_PHOLD.SETTLED.set c.regs.phold }
  else c

/-- What one resolved request does to the ledger, and the result the engine sees, if any. -/
def applyOutcome (x : RowReq × RowOutcome) (s : State) : State × List (PortId × Nat × Nat) :=
  let q := x.1
  let v := q.req.volt
  match x.2 with
  | .grant =>
    let s := raiseTo q.p q.units s
    if q.standing then
      let s := modCad q.p (fun c => { c with
        upg := some (max 1 (F.CAD_CTL.HOLD.get s.cad.act.ctl)) }) s
      let g := coverAt s v q.units
      (putResult q.p 4 g s, [(q.p, 4, g)])
    else
      let s := modCad q.p (fun c => settle q.units { c with req := none, stand := none, upg := none }) s
      let s := modPort q.p (fun r => setCadLim 0 (setCeil v r)) s
      let s := modCad q.p (fun c => { c with regs.phold := F.CAD_PHOLD.LIMITED.clr c.regs.phold }) s
      let g := coverAt s v (s.cadp[q.p]).hold
      (putResult q.p 1 g s, [(q.p, 1, g)])
  | .partialGrant n =>
    let before := (s.cadp[q.p]).hold
    let s := raiseTo q.p (q.hold + n) s
    let s := modCad q.p (fun c => { c with
      req := none, stand := some { q.req with age := min 255 (q.req.age + 1) } }) s
    let g := coverAt s v (s.cadp[q.p]).hold
    if q.standing && (s.cadp[q.p]).hold ≤ before then (s, [])
    else (putResult q.p 2 g s, [(q.p, 2, g)])
  | .deny =>
    let s := modCad q.p (fun c => { c with
      req := none, stand := some { q.req with age := min 255 (q.req.age + 1) } }) s
    if q.standing then (s, [])
    else
      let g := coverAt s v (s.cadp[q.p]).hold
      (putResult q.p 3 g s, [(q.p, 3, g)])

/-- The budget (06 R177): the limit of the feed on which the bus runs; for FEED_P the lower of
CAD_LIMP and what the FEED_P port's sink contract delivers. -/
def budgetOf (s : State) (act : CadRegs) : Nat :=
  match F.CAD_STAT.SOURCE.get s.cad.regs.stat with
  | 0 => 0
  | 1 => F.CAD_LIM.LIM.get act.lima
  | 2 => F.CAD_LIM.LIM.get act.limb
  | _ =>
    let lim := F.CAD_LIM.LIM.get act.limp
    match portOf (F.FED_PPORT.PORT.get s.feeds.regs.pport) with
    | none => 0
    | some p =>
      let q := s.ports[p]
      let (v, w) : Nat × Nat := match q.pol.contract with
        | some k => ((k.volt + 4) / 5, k.volt * k.curr / 50)
        | none =>
          let dec := if q.orient == 2 then F.CC_STAT.CC2_DEC.get q.cc.stat
            else F.CC_STAT.CC1_DEC.get q.cc.stat
          (50, match dec with | 0 => 250 | 1 => 750 | _ => 1500)
      min lim (w * effFor act.eff s.free v / 10000)

/-- The shed order: lowest class first, within a class by descending rotation index (06 R180). The class is that of
the snapshot of the row that ended (DESIGN CHOICE, log entry 91). -/
def shedOrder (s : State) : List PortId :=
  sortKeyed (allPorts.map fun p =>
    ((3 - (s.cadp[p]).snapClass) * 128 + (95 - (p.val + 96 - s.cad.row % 96) % 96), p))

/-- Victims are taken in order until the uncovered deficit is gone (06 R180): a port that holds
more than its floor gets as target the larger of its floor and its holding less the deficit still
uncovered; a limit of an earlier cycle no longer counts as this cycle's. Answers the state, what stays uncovered, and the new victims. -/
def planVictims : List PortId → Nat → State → State × Nat × List PortId
  | [], d, s => (s, d, [])
  | p :: t, d, s =>
    let c := s.cadp[p]
    if d = 0 || c.hold ≤ c.floor || F.CAD_PHOLD.SHED.on c.regs.phold || c.planned
        || c.relAmt > 0 then planVictims t d s
    else
      let target := max c.floor (c.hold - d)
      let s := modCad p (fun c => { c with
        target := target, shedAt := s.time
        regs.phold := F.CAD_PHOLD.LIMITED.clr (F.CAD_PHOLD.SHED.set c.regs.phold) }) s
      let (s, d', l) := planVictims t (d - (c.hold - target)) s
      (s, d', p :: l)

/-- Earlier victims whose target lies above their floor fall to it, in the same order (06 R184). -/
def lowerVictims : List PortId → Nat → State → State × Nat × List PortId
  | [], d, s => (s, d, [])
  | p :: t, d, s =>
    let c := s.cadp[p]
    if d = 0 || !F.CAD_PHOLD.SHED.on c.regs.phold || c.target ≤ c.floor then lowerVictims t d s
    else
      let s := modCad p (fun c => { c with
        target := c.floor
        regs.phold := c.regs.phold |> F.CAD_PHOLD.SETTLED.clr |> F.CAD_PHOLD.LIMITED.clr }) s
      let (s, d', l) := lowerVictims t (d - (c.target - c.floor)) s
      (s, d', p :: l)

/-- Bind-offs are planned for the rest, taking whole holdings in the same order (06 R180). -/
def planBindoffs : List PortId → Nat → State → State × List PortId
  | [], _, s => (s, [])
  | p :: t, d, s =>
    let c := s.cadp[p]
    if d = 0 || c.hold = 0 || c.planned || c.relAmt > 0 then planBindoffs t d s
    else
      let covered := if F.CAD_PHOLD.SHED.on c.regs.phold then c.target else c.hold
      let s := modCad p (fun c => { c with
        planned := true
        regs.phold := c.regs.phold |> F.CAD_PHOLD.SHED.clr |> F.CAD_PHOLD.SETTLED.clr }) s
      let (s, l) := planBindoffs t (d - covered) s
      (s, p :: l)

/-- GOUT of a SHED result: the target's output power at the voltage of the contract last reported,
else at the voltage of CEIL (06 R181). -/
def shedGout (s : State) (p : PortId) : Nat :=
  let c := s.cadp[p]
  let v := match c.contract with
    | some (v, _) => v
    | none => F.PTH_CEIL.CEIL.get s.ports[p].pth.ceil
  coverAt s v c.target

/-- What unsettled victims still owe (06 R184). -/
def owed (s : State) : Nat :=
  s.cadp.toList.foldl (fun n c =>
    if F.CAD_PHOLD.SHED.on c.regs.phold && !F.CAD_PHOLD.SETTLED.on c.regs.phold then
      n + (c.hold - c.target)
    else n) 0

/-- The plan for an uncovered deficit: new victims, earlier ones lowered when the cycle is being
extended, bind-offs for the rest. Answers SHED results and the ports to bind off. -/
def planShed (extend : Bool) (d : Nat) (s : State) : State × List (PortId × Nat × Nat) × List PortId :=
  let order := shedOrder s
  let (s, d, v1) := planVictims order d s
  let (s, d, v2) := if extend then lowerVictims order d s else (s, d, [])
  let (s, b) := planBindoffs order d s
  let vs := (v1 ++ v2).filter (fun p => !b.contains p)
  let r := vs.map (fun p => (p, 5, shedGout s p))
  (r.foldl (fun s x => putResult x.1 x.2.1 x.2.2 s) s, r, b)

/-- The registers that boundaries latch (06 R186, R262, R160). -/
def latchCfg (s : State) : State :=
  { s with
    cad := { s.cad with act := s.cad.regs }
    cadp := s.cadp.map (fun c => { c with actPcfg := c.regs.pcfg }) }

/-- Ports with WAIT5 set are served from the new balance, in the order of R171 of the row that ended: its number
and the class of its snapshot (06 R164). -/
def serveWaiting (row : Nat) (s : State) : State × List (PortId × Nat × Nat) :=
  let ws := sortKeyed ((allPorts.filter fun p => F.CAD_PHOLD.WAIT5.on (s.cadp[p]).regs.phold).map
    fun p => (rankKey row p (s.cadp[p]).snapClass (s.cadp[p]).wait5Age, p))
  ws.foldl (fun (s, l) p =>
    match levelFor s (poolBal s) (askedLevel s.cadp[p]) with
    | some k => (giveReserve p k s, l ++ [(p, 6, k)])
    | none => (modCad p (fun c => { c with wait5Age := min 255 (c.wait5Age + 1) }) s, l)) (s, [])

/-- The snapshot of the row that starts (06 R171). -/
def takeSnapshot (s : State) : State :=
  { s with
    cad := { s.cad with
      snapB := F.CAD_BUDGET.VALUE.get s.cad.regs.budget
      snapC := committed s
      snapW := poolBal s }
    cadp := s.cadp.map (fun c => { c with
      snapHold := c.hold - c.relAmt
      snapClass := F.CAD_PCFG.CLASS.get c.actPcfg }) }

/-- A row boundary: the falls, the resolution of the row against its snapshot, the new budget, the
shed plan, the refill and the waiting reservations (06 R164, R168, R171, R179 to R184). Answers the
results the engines see and the ports to bind off. While rows are paused nothing happens (R170). CAD_DEFICIT shows
C − B of the cycle's latest plan and 0 once the cycle has ended (DESIGN CHOICE, log entry 93). -/
def rowBoundary (s : State) : State × List (PortId × Nat × Nat) × List PortId :=
  if F.CAD_STAT.PAUSED.on s.cad.regs.stat then (s, [], [])
  else
    let ovr := F.CAD_STAT.OVER.on s.cad.regs.stat || !F.CAD_CTL.EN.on s.cad.act.ctl
    let res := resolve ovr (rowRequests s) (s.cad.snapB - s.cad.snapC - s.cad.snapW) false
    let s := { allFalls s with free := s.free + 1 }
    let row := s.cad.row
    let (s, r1) := res.foldl (fun (s, l) x => let (s, r) := applyOutcome x s; (s, l ++ r)) (s, [])
    -- the row ends
    let s := { s with cad := { s.cad with row := (s.cad.row + 1) % 18446744073709551616 } }
    let s := { s with cadp := s.cadp.map (fun c => { c with upg := c.upg.map (· - 1) }) }
    let s := latchCfg s
    let b := budgetOf s s.cad.act
    let b0 := F.CAD_BUDGET.VALUE.get s.cad.regs.budget
    let s := if b = b0 then s else cadEvt F.CAD_EVT.BUDGET_CHG s
    let s := syncCommit { s with cad := { s.cad with regs := { s.cad.regs with
      budget := F.CAD_BUDGET.VALUE.put b s.cad.regs.budget } } }
    let c := committed s
    let shedding := F.CAD_STAT.SHEDDING.on s.cad.regs.stat
    -- over budget: start or extend the shed cycle
    let (s, r2, bo) : State × List (PortId × Nat × Nat) × List PortId :=
      if c > b then
        if !shedding then
          let s := { s with cad := { s.cad with regs := { s.cad.regs with
            stat := s.cad.regs.stat |> F.CAD_STAT.OVER.set |> F.CAD_STAT.SHEDDING.set
            deficit := F.CAD_DEFICIT.VALUE.put (c - b) s.cad.regs.deficit } } }
          let s := cadEvt F.CAD_EVT.SHED_START s
          planShed false (c - b) s
        else if b < b0 then
          let s := { s with cad := { s.cad with regs := { s.cad.regs with
            deficit := F.CAD_DEFICIT.VALUE.put (c - b) s.cad.regs.deficit } } }
          let s := cadEvt F.CAD_EVT.SHED_START s
          planShed true (c - b - owed s) s
        else (s, [], [])
      else if shedding then
        let s := { s with cad := { s.cad with regs := { s.cad.regs with
          stat := s.cad.regs.stat |> F.CAD_STAT.OVER.clr |> F.CAD_STAT.SHEDDING.clr
          deficit := 0 } } }
        let s := { s with cadp := s.cadp.map (fun c => { c with
          planned := false, target := 0
          regs.phold := c.regs.phold |> F.CAD_PHOLD.SHED.clr |> F.CAD_PHOLD.SETTLED.clr }) }
        (cadEvt F.CAD_EVT.SHED_END s, [], [])
      else (s, [], [])
    -- refill
    let c := committed s
    let bal := if c > b then 0 else min (F.CAD_POOL.POOLSZ.get s.cad.act.pool) (b - c)
    let s := setPoolBal bal s
    let (s, r3) := serveWaiting row s
    (takeSnapshot (syncCommit s), r1 ++ r2 ++ r3, bo)

/-- CAD_PREQp (06 R174). -/
def cadPreq (s : State) (p : PortId) : Word :=
  let c := s.cadp[p]
  let w := F.CAD_PREQ.UPG.setTo c.upg.isSome 0
  match c.stand with
  | some r => F.CAD_PREQ.VALID.set (F.CAD_PREQ.AGE.put (min 255 r.age)
      (F.CAD_PREQ.UNITS.put (unitsAt s r.volt r.pout) w))
  | none => w

/-- The 1,216 bytes of a ledger snapshot (09 R262). -/
def ledgerSnapshot (s : State) : List Byte :=
  let r := s.cad.regs
  padTo 64 (([r.stat, r.budget, r.commit, r.deficit, r.pool, BitVec.ofNat 32 s.cad.row, highWord s.cad.row,
      r.lima, r.limb, r.limp, r.shed, r.rowcfg, r.ctl].flatMap wordBytes)) ++
    allPorts.flatMap fun p =>
      wordBytes s.cadp[p].regs.phold ++ wordBytes (cadPreq s p) ++ wordBytes s.cadp[p].regs.pcfg

/-- The result of CADDY_STATUS, of a port or of the ledger (09 Table CMD-7). -/
def ledgerResult (port : Nat) (s : State) : List Byte :=
  match portOf port with
  | some p =>
    let q := s.ports[p]
    wordBytes s.cadp[p].regs.phold ++ wordBytes (cadPreq s p) ++ wordBytes s.cadp[p].regs.pcfg ++
      bytes4 (F.PTH_CEIL.CEIL.get q.pth.ceil + 65536 * F.PTH_RATING.CAD_LIM.get q.pth.rating)
  | none =>
    wordBytes s.cad.regs.stat ++ wordBytes s.cad.regs.budget ++ wordBytes s.cad.regs.commit ++
      wordBytes s.cad.regs.deficit

/-- The ledger copied at a row boundary for the CADDY_STATUS commands that wait for it (09 R262). -/
def copyLedger (s : State) : State :=
  s.host.waits.foldl (fun s w =>
    match w.kind with
    | .ledger boff => completeWait w .ok (ledgerResult w.port s) (bulkWrite boff (ledgerSnapshot s) s)
    | _ => s) s

end Sys2Proof.Machine
end

