-- ==== Sys2Proof/Machine/PdOps.lean ====
section
/-! DEFINITION. The protocol hardware of one port: timers, message buffers, transmission and
reception, and the resets of contexts (04_pd_protocol_engine.md). Message type codes and header
bits are those of the USB PD specification the spec refers to (00 R2; log entry 9). -/

namespace Sys2Proof.Machine
open Sys2Proof

/-! ## Timers (04 R122, R123) -/

/-- The range of a slot (04 Table PDE-10). -/
def slotRange (i : Nat) : Nat × Nat :=
  [(900, 1100), (16, 20), (24, 30), (24, 30), (4, 5), (30, 60), (27, 33), (100, 200), (25, 35),
   (25, 35), (660, 1000), (390, 480), (750, 920), (450, 550), (20, 50), (24, 30), (5, 15), (40, 50),
   (50, 100), (100, 200), (750, 1000), (250, 500), (450, 550), (12000, 15000), (4500, 5500),
   (25, 100)].getD i (0, 0)

/-- The period that a start takes: a value outside its range acts as the nearer end (04 R123). -/
def slotPeriod (q : Port) (i : Fin 26) : Nat :=
  clampNat (slotRange i.val).1 (slotRange i.val).2 (F.PD_TMRV.VALUE.get q.pd.tmrv[i])

/-- A slot runs. -/
def Port.slotRuns (q : Port) (i : Fin 26) : Bool := bitOf q.pd.tmrrun i.val

/-- A slot starts with a period in its unit. The period stands until the slot's next start: a VALUE written to
PD_TMRVi while slot i runs waits for it (DESIGN CHOICE, log entry 84). -/
def startSlotFor (now : Nat) (i : Fin 26) (per : Nat) (q : Port) : Port :=
  { q with pd.tmrrun := setBit i.val q.pd.tmrrun, phw.tmrStart := q.phw.tmrStart.set i now,
           phw.tmrPer := q.phw.tmrPer.set i per }

/-- A slot starts, or restarts from its value (04 R123). -/
def startSlot (now : Nat) (i : Fin 26) (q : Port) : Port := startSlotFor now i (slotPeriod q i) q

/-- A slot stops; no expiry bit is set. -/
def stopSlot (i : Fin 26) (q : Port) : Port :=
  { q with pd.tmrrun := clrBit i.val q.pd.tmrrun }

/-- Time left of a running slot, in the slot's unit (slot 0 counts µs, the others ms), rounded up (DESIGN CHOICE,
log entry 84). -/
def slotRemain (now : Nat) (q : Port) (i : Fin 26) : Nat :=
  if q.slotRuns i then
    let unit := if i.val = 0 then 1 else 1000
    (q.phw.tmrPer[i] * unit - (now - q.phw.tmrStart[i]) + unit - 1) / unit
  else 0

/-- An engine slot expires: its run bit clears, its bit in PD_TMRSTAT and PD_EVT.TMR set
(04 R122). -/
def expireSlot (i : Fin 26) (q : Port) : Port :=
  { q with pd.tmrrun := clrBit i.val q.pd.tmrrun, pd.tmrstat := setBit i.val q.pd.tmrstat,
           pd.evt := F.PD_EVT.TMR.set q.pd.evt }

/-- The engine has acted on a slot's expiry and clears its bit. -/
def ackSlot (i : Fin 26) (q : Port) : Port := { q with pd.tmrstat := clrBit i.val q.pd.tmrstat }

/-! ## Message headers -/

/-- The revision code a context sends: 0b00 and 0b11 act as 0b10 (04 Table PDE-12). -/
def revCode (c : CtxRegs) : Nat := if F.CTX_CTL.REV.get c.ctl = 1 then 1 else 2

/-- A message header without its MessageID, which the hardware inserts (04 R90). -/
def headerOf (q : Port) (c : Fin 3) (ext : Bool) (nobj type : Nat) : Nat :=
  type + (if c = 0 && q.isDfp then 32 else 0) + 64 * revCode q.ctx[c]
    + (if c = 0 && q.isSource then 256 else 0) + 4096 * nobj + (if ext then 32768 else 0)

/-- A control message. -/
def ctrlMsg (q : Port) (c : Fin 3) (type : Nat) : List Byte := bytes2 (headerOf q c false 0 type)

/-- A data message. -/
def dataMsg (q : Port) (c : Fin 3) (type : Nat) (objs : List Word) : List Byte :=
  bytes2 (headerOf q c false objs.length type) ++ objs.flatMap wordBytes

/-- An extended message: its extended header holds Data_Size, and Chunked when the context sends
chunked (04 R96). -/
def extMsg (q : Port) (c : Fin 3) (type : Nat) (data : List Byte) : List Byte :=
  let chunked := !F.CTX_CTL.UNCHUNK.on q.ctx[c].ctl
  let nobj := if chunked then (2 + min 26 data.length + 3) / 4 else 0
  bytes2 (headerOf q c true nobj type) ++
    bytes2 (data.length + if chunked then 32768 else 0) ++ data

/-- The GoodCRC that answers a message of a context: its MessageID and the port's roles, the Cable Plug bit 0 on
SOP' and SOP'' (04 R94). -/
def goodCrcFor (q : Port) (c : Fin 3) (id : Nat) : List Byte := bytes2 (headerOf q c false 0 1 + 512 * (id % 8))

/-- The Chunk Request for chunk `n` of an extended message of a type (04 R97). -/
def chunkRequest (q : Port) (c : Fin 3) (type n : Nat) : List Byte :=
  bytes2 (headerOf q c true 1 type) ++ bytes2 (32768 + 2048 * n + 1024) ++ [0, 0]

/-- EPR_KeepAlive_Ack: an Extended_Control message (04 R111). -/
def keepaliveAck (q : Port) : List Byte := extMsg q 0 16 [4, 0]

/-- Fields of a received message. -/
def msgHeader (m : List Byte) : Nat := leNat (m.take 2)
def msgType (m : List Byte) : Nat := msgHeader m % 32
def msgId (m : List Byte) : Nat := msgHeader m / 512 % 8
def msgNobj (m : List Byte) : Nat := msgHeader m / 4096 % 8
def msgExt (m : List Byte) : Bool := msgHeader m / 32768 % 2 == 1

/-- The sender's Specification Revision as CTX_CTL.REV holds it: 1 for 1.0 and 2.0, 2 for 3.x (04 R102). -/
def msgRev (m : List Byte) : Nat := if msgHeader m / 64 % 4 ≤ 1 then 1 else 2
def extSize (m : List Byte) : Nat := leNat ((m.drop 2).take 2) % 512
def extChunk (m : List Byte) : Nat := leNat ((m.drop 2).take 2) / 2048 % 16

/-- The data objects of a message. -/
def msgObjs : Nat → List Byte → List Word
  | 0, _ => []
  | n + 1, m => BitVec.ofNat 32 (leNat (m.take 4)) :: msgObjs n (m.drop 4)

/-! ## Thresholds and Rp (03 R74, 04 R92) -/

/-- LO and HI thresholds in 5 mV for a termination and Rp level (03 Table ATT-6, R69); none for an
open pin. -/
def termThr (term lvl : Nat) : Option (Nat × Nat) :=
  if term = 1 then some (match lvl with | 0 => (40, 320) | 1 => (80, 320) | _ => (160, 520))
  else if term = 2 then some (40, 132)
  else none

/-- The thresholds of one pin's slots loaded. -/
def loadPin (lo hi : Fin 8) (t : Option (Nat × Nat)) (q : Port) : Port :=
  match t with
  | none => q
  | some (l, h) => { q with cc.cfg :=
      (q.cc.cfg.set lo (F.CMP_CFG.THR.put l q.cc.cfg[lo])).set hi (F.CMP_CFG.THR.put h q.cc.cfg[hi]) }

/-- What a CC pin presents (03 Table ATT-1): Rp at a level, Rd, nothing, VCONN, or the discharge that follows
VCONN. -/
inductive PinTerm where
  | opened | rp (lvl : Nat) | rd | vconn | discharging
  deriving DecidableEq, Repr

/-- A FENCED or PARKED port opens its pins once what it waits for has ended (05 R139, 12 R324, R326). -/
def Port.pinsOpen (q : Port) : Bool :=
  (q.st == .parked || q.st == .fenced) && q.hw.ride.isNone && !q.hw.safeWait && !q.hw.disWait &&
    !F.PTH_STAT.DIS_ON.on q.pth.stat

/-- The termination that a pin presents (03 R52, R73): false CC1, true CC2. VCONN and its discharge take the pin
from its termination, and PARKED and FENCED ports open both pins, whatever CC_CTL holds; RP_LVL 0b11 acts as
3.0 A and the reserved code 0b11 as open. -/
def Port.presents (q : Port) (pin : Bool) : PinTerm :=
  if q.hw.vdis = some pin then .discharging
  else if F.VCONN_STAT.ON.on q.cc.vstat && F.VCONN_CTL.VCONN_PIN.on q.cc.vctl == pin then .vconn
  else if q.pinsOpen then .opened
  else match (if pin then F.CC_CTL.CC2_TERM.get q.cc.ctl else F.CC_CTL.CC1_TERM.get q.cc.ctl) with
    | 1 => .rp (min 2 (F.CC_CTL.RP_LVL.get q.cc.ctl))
    | 2 => .rd
    | _ => .opened

/-- The decoded value of a pin: 0 BELOW, 1 BETWEEN, 2 ABOVE (03 R60). -/
def Port.dec1 (q : Port) : Nat := F.CC_STAT.CC1_DEC.get q.cc.stat
def Port.dec2 (q : Port) : Nat := F.CC_STAT.CC2_DEC.get q.cc.stat

/-- Rp at the 3.0 A level on the oriented pin, presented or seen (04 Table PDE-15, 03 R69): a pin with Rd sees it
ABOVE. -/
def txOkNow (q : Port) : Bool :=
  if q.orient = 0 then false
  else
    match q.presents (q.orient == 2) with
    | .rp l => l == 2
    | .rd => (if q.orient == 2 then q.dec2 else q.dec1) == 2
    | _ => false

/-- A transmission with AMS = 1 on a sink port waits no more once the source presents SinkTxOk (04 R92). -/
def releaseWaiting (q : Port) : Port :=
  if q.isSource then q
  else (List.finRange 3).foldl (fun q (c : Fin 3) =>
    if F.CTX_TXSTAT.RESULT.get q.ctx[c].txstat == 1 then
      stopSlot 6 { q with
        ctx := q.ctx.set c { q.ctx[c] with txstat := F.CTX_TXSTAT.RESULT.put 2 q.ctx[c].txstat }
        phw.txReady := q.phw.txReady.set c true }
    else q) q

/-- PD_PHYSTAT.SINKTXOK follows the oriented pin; when it appears on a sink, what waits for it may go. -/
def syncTxOk (q : Port) : Port :=
  let ok := txOkNow q
  let q := { q with pd.phystat := F.PD_PHYSTAT.SINKTXOK.setTo ok q.pd.phystat }
  if ok then releaseWaiting q else q

/-- CC_CTL written: with AUTO_THR, a change of a termination or of the Rp level loads the
thresholds of slots 0 to 3 (03 R74). -/
def writeCcCtl (v : Word) (q : Port) : Port :=
  let v := v &&& 0xFF
  let old := q.cc.ctl
  let q := { q with cc.ctl := v }
  let changed := F.CC_CTL.CC1_TERM.get old != F.CC_CTL.CC1_TERM.get v ||
    F.CC_CTL.CC2_TERM.get old != F.CC_CTL.CC2_TERM.get v ||
    F.CC_CTL.RP_LVL.get old != F.CC_CTL.RP_LVL.get v
  let q := if F.CC_CTL.AUTO_THR.on v && changed then
      loadPin 2 3 (termThr (F.CC_CTL.CC2_TERM.get v) (F.CC_CTL.RP_LVL.get v))
        (loadPin 0 1 (termThr (F.CC_CTL.CC1_TERM.get v) (F.CC_CTL.RP_LVL.get v)) q)
    else q
  syncTxOk q

/-- The Rp level written. -/
def setRp (lvl : Nat) (q : Port) : Port := writeCcCtl (F.CC_CTL.RP_LVL.put lvl q.cc.ctl) q

/-- Both terminations written. -/
def setTerms (t1 t2 : Nat) (q : Port) : Port :=
  writeCcCtl (F.CC_CTL.CC2_TERM.put t2 (F.CC_CTL.CC1_TERM.put t1 q.cc.ctl)) q

/-! ## Transmission (04 R89 to R93) -/

/-- CTX_TXSTAT.RESULT of a context. -/
def Port.result (q : Port) (c : Fin 3) : Nat := F.CTX_TXSTAT.RESULT.get q.ctx[c].txstat

/-- A context changed. -/
def Port.modCtx (c : Fin 3) (f : CtxRegs → CtxRegs) (q : Port) : Port :=
  { q with ctx := q.ctx.set c (f q.ctx[c]) }

/-- A context holds the PHY: its RESULT is waiting or sending (04 R90). -/
def Port.holdsPhy (q : Port) (c : Fin 3) : Bool := q.result c == 1 || q.result c == 2

/-- Some context of the port holds the PHY. -/
def Port.phyHeld (q : Port) : Bool := q.holdsPhy 0 || q.holdsPhy 1 || q.holdsPhy 2

/-- The receive enable of a context. -/
def Port.rxEnabled (q : Port) (c : Fin 3) : Bool := bitOf q.pd.phycfg c.val

/-- A context may transmit and accept frames (04 R86). -/
def Port.ctxOn (q : Port) (c : Fin 3) : Bool := F.CTX_CTL.EN.on q.ctx[c].ctl && q.rxEnabled c

/-- A context sends and accepts frames now: an orientation, the context on (04 R85, R86), and on SOP no BIST Test
Data mode, in which every message is discarded (04 R121). -/
def Port.hears (q : Port) (c : Fin 3) : Bool :=
  q.orient != 0 && q.ctxOn c && !(c == 0 && q.phw.bistData)

/-- A SEND (04 R90, R92): refused with OVR while the context or another holds the PHY, while the
context is disabled, or with no orientation. Otherwise the transmission waits with RESULT 0x1 for
collision avoidance when AMS is set (a source presents SinkTxNG and waits tSinkTx; a sink waits for SinkTxOk, at
most tSenderResponse), or waits for an idle line with RESULT 0x2. -/
def sendCmd (now : Nat) (c : Fin 3) (buf : Fin 2) (ams : Bool) (q : Port) : Port :=
  if q.phyHeld || !q.ctxOn c || q.orient == 0 then
    q.modCtx c fun r => { r with txstat := F.CTX_TXSTAT.OVR.set r.txstat }
  else
    let q := { q with
      phw.txSel := q.phw.txSel.set c buf, phw.txAms := q.phw.txAms.set c ams,
      phw.onWire := q.phw.onWire.set c false }
    let waits := ams && (q.isSource || !F.PD_PHYSTAT.SINKTXOK.on q.pd.phystat)
    let q := q.modCtx c fun r => { r with
      txstat := F.CTX_TXSTAT.RESULT.put (if waits then 1 else 2) (F.CTX_TXSTAT.TRIES.put 0 r.txstat)
      xfer := F.CTX_XFER.TX_ACT.clr (F.CTX_XFER.TX_CHUNK.clr r.xfer) }
    let q := { q with phw.txReady := q.phw.txReady.set c (!waits) }
    if !waits then q
    else if q.isSource then startSlot now 1 (setRp 1 { q with phw.ams := true })
    else startSlot now 6 q

/-- A transmission ends with a final RESULT: DONE and PD_EVT.TX_DONEn set (04 R91); TX_ID
advances when `adv`. -/
def finishTx (c : Fin 3) (result : Nat) (adv : Bool) (q : Port) : Port :=
  let q := if q.result c == 1 then stopSlot (if q.isSource then 1 else 6) q else q
  let q := q.modCtx c fun r => { r with
    txstat := F.CTX_TXSTAT.DONE.set (F.CTX_TXSTAT.RESULT.put result r.txstat)
    id := if adv then F.CTX_ID.TX_ID.put ((F.CTX_ID.TX_ID.get r.id + 1) % 8) r.id else r.id
    xfer := F.CTX_XFER.TX_ACT.clr r.xfer }
  stopSlot 0 (stopSlot 2 { q with
    phw.onWire := q.phw.onWire.set c false, phw.txReady := q.phw.txReady.set c false,
    pd.evt := setBit (1 + c.val) q.pd.evt })

/-- A reset aborts a context's pending transmission with RESULT 0x6 (04 R93). -/
def abortTx (c : Fin 3) (q : Port) : Port := if q.holdsPhy c then finishTx c 6 false q else q

/-- The message a context is sending. -/
def txMsg (q : Port) (c : Fin 3) : List Byte := q.phw.txbuf[q.phw.txSel[c]]

/-- The message is carried in chunks (04 R97). -/
def txChunked (q : Port) (c : Fin 3) : Bool :=
  msgExt (txMsg q c) && !F.CTX_CTL.UNCHUNK.on q.ctx[c].ctl && extSize (txMsg q c) > 26

/-- More chunks follow the one being sent. -/
def moreChunks (q : Port) (c : Fin 3) : Bool :=
  txChunked q c && 26 * (F.CTX_XFER.TX_CHUNK.get q.ctx[c].xfer + 1) < extSize (txMsg q c)

/-- Retransmissions permitted (04 R91): 2 for REV 0b10, 3 for 0b01. -/
def maxRetries (q : Port) (c : Fin 3) : Nat := if revCode q.ctx[c] = 1 then 3 else 2

/-- Bytes of the frame that a context has on the wire: in chunked mode a chunk with its headers, padded to whole
data objects (04 R97). -/
def frameLen (q : Port) (c : Fin 3) : Nat :=
  if txChunked q c then
    2 + (2 + min 26 (extSize (txMsg q c) - 26 * F.CTX_XFER.TX_CHUNK.get q.ctx[c].xfer) + 3) / 4 * 4
  else F.PD_TXDESC.LEN.get q.pd.txdesc[q.phw.txSel[c]]

/-- Duration of a frame of `n` message bytes in µs, rounded up: preamble 64, SOP* 20, 10 per byte of message and
CRC, and 5 symbols of EOP at 300 kbit/s (04 R83; the frame's parts as USB PD gives them, log entry 9). -/
def frameTime (n : Nat) : Nat := (10 * (89 + 10 * (n + 4)) + 2) / 3

/-- The PHY sends `n` message bytes: the oriented pin's LO slot rests until 10 µs after them (03 R59). -/
def transmits (now n : Nat) (q : Port) : Port :=
  { q with hw.txUntil := now + frameTime n, hw.bmcQuiet := now + frameTime n + 10 }

/-- The PHY has sent or received on the oriented pin: its LO slot rests for 10 µs (03 R59). -/
def busyLine (now : Nat) (q : Port) : Port := { q with hw.bmcQuiet := max q.hw.bmcQuiet (now + 10) }

/-- The GoodCRC of a received message goes out (04 R94). -/
def sendGoodCrc (now : Nat) (c : Fin 3) (m : List Byte) (q : Port) : Port :=
  transmits now 2 { q with phw.goodCrc := some (c, goodCrcFor q c (msgId m)) }

/-- Counters of a context reset to their values after a reset of the context (04 Table PDE-3). -/
def resetIds (c : Fin 3) (q : Port) : Port := q.modCtx c fun r => { r with id := 0 }

/-- A context reset (04 R98): its transmission aborted, its MessageIDs reset. -/
def resetCtx (c : Fin 3) (q : Port) : Port := resetIds c (abortTx c q)

/-- A context enabled or disabled with its receive enable; disabling aborts a pending
transmission and keeps the counters (04 R86). -/
def enableCtx (c : Fin 3) (on : Bool) (q : Port) : Port :=
  let q := if on then q else abortTx c q
  let q := q.modCtx c fun r => { r with ctl := F.CTX_CTL.EN.setTo on r.ctl }
  { q with pd.phycfg := putBit c.val on q.pd.phycfg }

/-! ## Reception (04 R84, R88, R94) -/

/-- A free receive buffer. -/
def freeBuf (q : Port) : Option (Fin 4) :=
  (List.finRange 4).find? fun k => !F.PD_RXDESC.VALID.on q.pd.rxdesc[k] &&
    (q.phw.reasm.map Reasm.buf) != some k

/-- PD_RXHEAD computed: the number of stored messages and the buffer of the oldest one. -/
def syncRxHead (q : Port) : Port :=
  let used := (List.finRange 4).filter fun k => F.PD_RXDESC.VALID.on q.pd.rxdesc[k]
  let age (k : Fin 4) : Nat := (q.phw.rxSeq + 255 - F.PD_RXDESC.SEQ.get q.pd.rxdesc[k]) % 256
  let oldest := used.foldl (fun (b : Fin 4) k => if age k > age b then k else b) (used.headD 0)
  { q with pd.rxhead := F.PD_RXHEAD.PEND.put used.length (F.PD_RXHEAD.HEAD.put oldest.val 0) }

/-- A message stored in a buffer with its descriptor; PD_EVT.RX set (04 R88). -/
def storeRx (c : Fin 3) (k : Fin 4) (m : List Byte) (q : Port) : Port :=
  let d : Word := (F.PD_RXDESC.VALID.set 0) |> F.PD_RXDESC.SOP.put c.val
    |> F.PD_RXDESC.SEQ.put q.phw.rxSeq |> F.PD_RXDESC.LEN.put m.length
  syncRxHead { q with
    phw.rxbuf := q.phw.rxbuf.set k (overlay m q.phw.rxbuf[k]), phw.rxSeq := (q.phw.rxSeq + 1) % 256,
    pd.rxdesc := q.pd.rxdesc.set k d, pd.evt := F.PD_EVT.RX.set q.pd.evt }

/-- Receive buffers freed by the bits of a PD_RXREL write (04 R88). -/
def releaseRx (v : Word) (q : Port) : Port :=
  syncRxHead { q with pd.rxdesc :=
    (List.finRange 4).foldl (fun d (k : Fin 4) => if bitOf v k.val then d.set k 0 else d) q.pd.rxdesc }

/-- One added to a saturating 16-bit count. -/
def satInc (f : Fld) (w : Word) : Word := f.put (min 0xFFFF (f.get w + 1)) w

/-- The partial message is discarded and its buffer freed (04 R97). -/
def dropReasm (q : Port) : Port :=
  match q.phw.reasm with
  | some r => stopSlot 3 { (q.modCtx r.ctx fun c => { c with xfer := F.CTX_XFER.RX_ACT.clr c.xfer })
      with phw.reasm := none }
  | none => q

/-- AMS end (04 R92): Rp back at the 3.0 A level on a power source. -/
def amsEnd (q : Port) : Port :=
  let q := { q with phw.ams := false }
  if q.isSource then setRp 2 q else q

/-- A Hard Reset, a Cable Reset or a detach ends the AMS under way: the hardware restores Rp (04 R92). -/
def amsRestore (q : Port) : Port := if q.phw.ams then amsEnd q else q

/-- The three contexts reset, unreleased receive buffers freed, the AMS ended (04 Table PDE-3, Hard Reset,
R92). -/
def hardResetCtxs (q : Port) : Port :=
  let q := amsRestore (dropReasm (resetCtx 2 (resetCtx 1 (resetCtx 0 q))))
  releaseRx 0xF { q with phw.hwq := [], phw.bistData := false }

/-- Every timer slot stopped. -/
def stopAllSlots (q : Port) : Port := { q with pd.tmrrun := 0 }

/-- The three contexts of a port as on a detach: disabled, counters reset, EPR and SWAP cleared,
timers stopped (04 R101). -/
def detachCtxs (q : Port) : Port :=
  let q := hardResetCtxs q
  let q := stopAllSlots (enableCtx 2 false (enableCtx 1 false (enableCtx 0 false q)))
  { q with
    pd.phycfg := q.pd.phycfg |> F.PD_PHYCFG.EPR.clr |> F.PD_PHYCFG.SWAP.clr,
    phw.hrWait := false, phw.crWait := false, phw.bistCarrier := false }

/-! ## The engine's send queue (04 R90) -/

/-- The next message of the queue: a SOP message before a cable message. -/
def nextTx (l : List TxReq) : Option TxReq :=
  match l.find? fun r => r.ctx == 0 with
  | some r => some r
  | none => l.head?

/-- Messages that begin an exchange of their own. -/
def TxPurpose.begins : TxPurpose → Bool
  | .hostMsg _ | .discIdentity | .getRevision | .swapRequest _ => true
  | _ => false

/-- A message may go: one that begins an exchange waits for the end of the exchange, the transition and the
swap under way. -/
def mayGo (q : Port) (r : TxReq) : Bool :=
  let asks := match r.purpose with
    | .swapRequest _ => true
    | _ => false
  !r.purpose.begins || q.pol.await == some r.purpose ||
    (q.pol.await.isNone && q.pol.next.isNone && (q.pol.swap.isNone || asks))

/-- The engine writes the next message to buffer TX0 and sends it, once no context holds the PHY;
a message for a context that is off is dropped. -/
def pumpTx : Nat → Nat → Port → Port
  | 0, _, q => q
  | n + 1, now, q =>
    if q.phyHeld then q
    else
      match nextTx (q.pol.txq.filter (mayGo q)) with
      | none => q
      | some r =>
        let q := { q with pol.txq := q.pol.txq.erase r }
        if !q.ctxOn r.ctx || q.orient == 0 then pumpTx n now q
        else
          let q := { q with
            phw.txbuf := q.phw.txbuf.set 0 (overlay r.msg q.phw.txbuf[0]),
            pd.txdesc := q.pd.txdesc.set 0 (F.PD_TXDESC.LEN.put r.msg.length 0),
            pol.txNow := q.pol.txNow.set r.ctx (some r.purpose) }
          sendCmd now r.ctx 0 r.ams q

/-- The engine marks the first message of an AMS under the conditions of 04 R92. -/
def amsNeeded (q : Port) : Bool :=
  q.pol.contract.isSome && revCode q.ctx[0] == 2 && F.PD_PHYCFG.CA_EN.on q.pd.phycfg

/-- The engine sends a message: at once, or after those before it. -/
def engineSend (p : PortId) (c : Fin 3) (m : Port → List Byte) (ams : Bool) (w : TxPurpose)
    (s : State) : State :=
  modPort p (fun q =>
    let r : TxReq := { ctx := c, msg := m q, ams := ams && amsNeeded q, purpose := w }
    pumpTx 8 s.time { q with pol.txq := q.pol.txq ++ [r] }) s

/-- The engine sends a control message on SOP. -/
def sendCtrl (p : PortId) (type : Nat) (ams : Bool) (w : TxPurpose) : State → State :=
  engineSend p 0 (fun q => ctrlMsg q 0 type) ams w

end Sys2Proof.Machine
end

