-- ==== Sys2Proof/Machine/PathOps.lean ====
section
/-! DEFINITION. The power path of one port: gate, converter, discharge sink, VCONN switch, steep
ramp, breaker curve, trips and retry state (05_power_path_and_breaker.md, 03 R73). -/

namespace Sys2Proof.Machine
open Sys2Proof

/-! ## Gate, converter, sink, VCONN -/

/-- The gate is pulled down: the path opens and no ramp runs. -/
def gateOff (q : Port) : Port :=
  { q with
    pth.ctl := F.PTH_CTL.PATH_EN.clr q.pth.ctl
    pth.stat := q.pth.stat |> F.PTH_STAT.GATE_ON.clr |> F.PTH_STAT.LIN.clr |> F.PTH_STAT.CNV.clr
      |> F.PTH_STAT.LIMIT.clr |> F.PTH_STAT.AT_TARGET.clr
    pth.ref := 0
    hw.ovHold := none, hw.trim := 0, hw.ride := none }

/-- CEN_EN cleared: Pnn_CEN falls (05 R127). -/
def cenOff (q : Port) : Port :=
  { q with pth.ctl := F.PTH_CTL.CEN_EN.clr q.pth.ctl, hw.cvWait := false }

/-- The sink path open: the gate down and the converter, which runs in reverse, off (06 R178). -/
def sinkPathOff (q : Port) : Port := cenOff (gateOff q)

/-- The discharge sink on, for a bind-off, a trip or a reset (05 R151). -/
def sinkOn (q : Port) : Port :=
  { q with pth.ctl := F.PTH_CTL.DIS_EN.set q.pth.ctl, pth.stat := F.PTH_STAT.DIS_ON.set q.pth.stat,
           hw.rampDis := false, hw.disWait := false }

/-- The discharge sink off. -/
def sinkOff (q : Port) : Port :=
  { q with pth.ctl := F.PTH_CTL.DIS_EN.clr q.pth.ctl, pth.stat := F.PTH_STAT.DIS_ON.clr q.pth.stat,
           hw.rampDis := false }

/-- The VCONN switch opens and the pin is discharged until it is below 0.4 V (03 R73 item 7). -/
def vconnOpen (q : Port) : Port :=
  if q.vconnOn then
    { q with cc.vctl := F.VCONN_CTL.VCONN_EN.clr q.cc.vctl, cc.vstat := F.VCONN_STAT.ON.clr q.cc.vstat,
             hw.vdis := some (F.VCONN_CTL.VCONN_PIN.on q.cc.vctl) }
  else { q with cc.vctl := F.VCONN_CTL.VCONN_EN.clr q.cc.vctl }

/-- VCONN_PIN carries VCONN and its switch closes; a discharge of that pin ends (03 R73). -/
def vconnClose (q : Port) : Port :=
  { q with
    cc.vctl := F.VCONN_CTL.VCONN_EN.set q.cc.vctl
    cc.vstat := F.VCONN_STAT.ON.set q.cc.vstat
    hw.vdis := if q.hw.vdis = some (F.VCONN_CTL.VCONN_PIN.on q.cc.vctl) then none else q.hw.vdis }

/-- VCONN_RES in 10 mA: 0 acts as 1, above 30 as 30 (03 Table ATT-22). -/
def vconnRes (q : Port) : Nat := clampNat 1 30 (F.VCONN_CTL.VCONN_RES.get q.cc.vctl)

/-- VCONN admission (03 R73 item 3): the die's reservations with the port's stay at most 2.0 A. -/
def vconnAdmit (s : State) (p : PortId) : Bool :=
  ((portsOfDie (dieOf p)).foldl (fun n r =>
    if r ≠ p && s.ports[r].vconnOn then n + vconnRes s.ports[r] else n) (vconnRes s.ports[p])) ≤ 200

/-- The engine turns VCONN on under admission, else sets DENIED and goes on without (03 R73). -/
def vconnStart (p : PortId) (pin : Bool) (s : State) : State :=
  if vconnAdmit s p then
    modPort p (fun q => vconnClose { q with cc.vctl := F.VCONN_CTL.VCONN_PIN.setTo pin q.cc.vctl }) s
  else modPort p (fun q => { q with cc.vstat := F.VCONN_STAT.DENIED.set q.cc.vstat }) s

/-! ## The steep ramp (05 R130 to R134) -/

/-- PTH_STEEP.TARGET, in 20 mV. -/
def Port.target (q : Port) : Nat := F.PTH_STEEP.TARGET.get q.pth.steep

/-- A ramp runs. -/
def Port.ramping (q : Port) : Bool := F.PTH_STAT.LIN.on q.pth.stat || F.PTH_STAT.CNV.on q.pth.stat

/-- AT_TARGET. -/
def Port.atTarget (q : Port) : Bool := F.PTH_STAT.AT_TARGET.on q.pth.stat

/-- The gate is enabled. -/
def Port.gateOn (q : Port) : Bool := F.PTH_STAT.GATE_ON.on q.pth.stat

/-- RATE in 0.1 V/ms: 0 acts as 1, above 100 as 100. -/
def rampRate (q : Port) : Nat := clampNat 1 100 (F.PTH_STEEP.RATE.get q.pth.steep)

/-- The present REF in 20 mV: from its value at the ramp's start toward TARGET at RATE, which is
RATE/200 steps of 20 mV per µs (05 R130). -/
def refNow (now : Nat) (q : Port) : Nat :=
  let r := F.PTH_REF.REF.get q.pth.ref
  if q.ramping then
    let d := q.hw.rate * (now - q.hw.rampAt) / 200
    if r ≤ q.target then min q.target (r + d) else max q.target (r - d)
  else r

/-- The VBUS overvoltage threshold in mV (05 R138): while the gate is enabled
(1 + OV_PCT/100) · max(REF, TARGET) + 0.5 V from 6.0 V to OV_ABS, held through a falling ramp; while
the gate is off OV_ABS. -/
def ovThreshold (now : Nat) (q : Port) : Nat :=
  let abs := 1000 * clampNat 6 58 (F.PTH_OV.OV_ABS.get q.pth.ov)
  if q.gateOn then
    match q.hw.ovHold with
    | some v => v
    | none =>
      let pct := clampNat 5 20 (F.PTH_OV.OV_PCT.get q.pth.ov)
      max 6000 (min abs (max (refNow now q) q.target * 20 * (100 + pct) / 100 + 500))
  else abs

/-- The FBS code for an output voltage in mV (05 R128), clamped to the code's range. -/
def fbsCode (q : Port) (mv : Nat) : Int :=
  clampInt (-4096) 4095
    (F.PTH_FBCAL.FB_OFS.getInt q.pth.fbcal + F.PTH_FBCAL.FB_GAIN.getInt q.pth.fbcal * mv / 16000)

/-- The FBS code set for a voltage, without trim. -/
def setFbs (mv : Nat) (q : Port) : Port :=
  { q with pth.fbs := F.PTH_FBS.CODE.putInt (fbsCode q mv) 0, hw.trim := 0 }

/-- PTH_FBS now (05 R128, R130): in a converter ramp the code moves with REF, every 16 µs; in a gate ramp the
converter holds TARGET; else the code set last, with its trim. -/
def fbsNow (now : Nat) (q : Port) : Word :=
  if F.PTH_STAT.CNV.on q.pth.stat then
    (setFbs (20 * refNow (q.hw.rampAt + (now - q.hw.rampAt) / 16 * 16) q) q).pth.fbs
  else q.pth.fbs

/-- The threshold of slot 6 (05 R129): 90 % of TARGET rounded down to the slot's step of 60 mV. -/
def slot6Threshold (q : Port) : Port :=
  { q with cc.cfg := q.cc.cfg.set 6 (F.CMP_CFG.THR.put (q.target * 20 * 90 / 100 / 60) q.cc.cfg[6]) }

/-- The threshold of slot 7 (05 R129): the edge of the window of R132 on the side from which VBUS
approaches, rounded toward TARGET. -/
def slot7Threshold (falling : Bool) (q : Port) : Port :=
  let t := q.target * 20
  let w := t * 5 / 100 + 50
  let t7 := if falling then (t + w) / 60 else (t - w + 59) / 60
  { q with cc.cfg := q.cc.cfg.set 7 (F.CMP_CFG.THR.put t7 q.cc.cfg[7]) }

/-- Both thresholds, as the engine writes them before it raises CEN (05 R129). -/
def pathThresholds (falling : Bool) (q : Port) : Port := slot7Threshold falling (slot6Threshold q)

/-- A gate ramp starts from 0 V toward TARGET, which the converter's output holds (05 R128, R130). -/
def startGateRamp (now : Nat) (q : Port) : Port :=
  { setFbs (20 * q.target) q with
    pth.ctl := F.PTH_CTL.PATH_EN.set q.pth.ctl
    pth.ref := 0
    pth.stat := q.pth.stat |> F.PTH_STAT.LIN.set |> F.PTH_STAT.GATE_ON.set |> F.PTH_STAT.AT_TARGET.clr
      |> F.PTH_STAT.CNV.clr
    hw.rampAt := now, hw.rate := rampRate q, hw.ovHold := none }

/-- A target is refused above CEIL, compared as voltages with no margin (05 R131). -/
def targetRefused (q : Port) (t : Nat) : Bool := t * 20 > F.PTH_CEIL.CEIL.get q.pth.ceil * 100

/-- TARGET written and accepted: a converter ramp starts when the port is AT_TARGET or a ramp runs,
from the present REF; a falling ramp holds the overvoltage threshold (05 R130, R138). -/
def acceptTarget (now t : Nat) (q : Port) : Port :=
  let r := refNow now q
  let falling := q.gateOn && t < r
  let hold := if falling then some (ovThreshold now q) else none
  let moving := q.atTarget || q.ramping
  let q := { q with pth.steep := F.PTH_STEEP.TARGET.put t q.pth.steep }
  let q := slot7Threshold falling q
  if moving then
    let lin := F.PTH_STAT.LIN.on q.pth.stat
    { setFbs (20 * (if lin then t else r)) q with
      pth.ref := F.PTH_REF.REF.put r 0
      pth.stat := (if lin then F.PTH_STAT.LIN.set q.pth.stat else F.PTH_STAT.CNV.set q.pth.stat)
        |> F.PTH_STAT.AT_TARGET.clr
      hw.rampAt := now, hw.rate := rampRate q, hw.ovHold := hold }
  else q

/-- A refused write of TARGET leaves it, sets CEIL_REF and makes the control pair post GATE_FAULT with the
refused target (05 R131). -/
def refuseTarget (p : PortId) (t : Nat) (s : State) : State :=
  let s := modPort p (fun q => { q with pth.evt := F.PTH_EVT.CEIL_REF.set q.pth.evt }) s
  postPort p .gateFault (BitVec.ofNat 32 (1 + 65536 * (t % 4096))) s

/-- A write of TARGET (05 R130, R131). -/
def writeTarget (p : PortId) (t : Nat) (s : State) : State :=
  if targetRefused s.ports[p] t then refuseTarget p t s else modPort p (acceptTarget s.time t) s

/-- RATING in 10 mA from a contract current and RPCT, rounded up (09 R263). -/
def setRating (curr : Nat) (q : Port) : Port :=
  { q with pth.rating := F.PTH_RATING.RATING.put ((curr * q.pol.rpct + 99) / 100) q.pth.rating }

/-- The effective rating (05 R141): RATING, or CAD_LIM when it is non-zero and lower; 0 acts as 1. -/
def ratingEff (q : Port) : Nat :=
  let r := max 1 (F.PTH_RATING.RATING.get q.pth.rating)
  let l := F.PTH_RATING.CAD_LIM.get q.pth.rating
  if l ≠ 0 && l < r then l else r

/-! ## The ADC of a port (07 R191, R193) -/

/-- ADC a = (p mod 24) div 6 of the port's front die. -/
def adcOf (p : PortId) : Nat := 4 * (p.val / 24) + p.val % 24 / 6

/-- The port's ADC has failed. -/
def adcFailed (s : State) (p : PortId) : Bool := bitOf s.tel.adcfail (adcOf p)

/-! ## The breaker curve (05 R141 to R145) -/

/-- Trip time of a curve word in µs. -/
def cptTime (w : Word) : Nat :=
  F.PTH_CPT.TIME.get w * (match F.PTH_CPT.UNIT.get w with | 0 => 1 | 1 => 100 | 2 => 10000 | _ => 1000000)

/-- The points of the written curve, NPTS of them. -/
def writtenCurve (q : Port) : List (Nat × Nat) :=
  (q.cur.cpt.toList.take (F.PTH_CCFG.NPTS.get q.cur.ccfg)).map fun w => (F.PTH_CPT.MULT.get w, cptTime w)

/-- Neighbours of a list satisfy a relation. -/
def chained (r : Nat → Nat → Bool) : List Nat → Bool
  | a :: b :: t => r a b && chained r (b :: t)
  | _ => true

/-- The first of the five conditions of 05 R143 that fails, numbered from 1; 0 when all hold. -/
def curveFault (q : Port) : Nat :=
  let n := F.PTH_CCFG.NPTS.get q.cur.ccfg
  let c := writtenCurve q
  if n < 2 || n > 16 then 1
  else if (c.headD (0, 0)).1 < 64 then 2
  else if !chained (fun a b => decide (a < b)) (c.map Prod.fst) then 3
  else if !c.all (fun x => decide (100 ≤ x.2)) then 4
  else if !chained (fun a b => decide (b ≤ a)) (c.map Prod.snd) then 5
  else 0

/-- COMMIT: a valid curve and its COOL take effect, an invalid one sets ERR (05 R143). A valid one also clears an
ERR that stands (DESIGN CHOICE, log entry 85). -/
def commitCurve (q : Port) : Port :=
  if curveFault q = 0 then
    { q with
      hw.curve := writtenCurve q
      hw.cool := max 1 (F.PTH_CCFG.COOL.get q.cur.ccfg)
      cur.cstat := F.PTH_CSTAT.ACTIVE.put (F.PTH_CCFG.NPTS.get q.cur.ccfg) (F.PTH_CSTAT.ERR.clr q.cur.cstat) }
  else { q with cur.cstat := F.PTH_CSTAT.ERR.set q.cur.cstat }

/-- Square root with the bits tried from the highest down. -/
def sqrtFrom (n : Nat) : Nat → Nat → Nat
  | 0, r => r
  | b + 1, r => sqrtFrom n b (if (r + 2 ^ b) * (r + 2 ^ b) ≤ n then r + 2 ^ b else r)

/-- The log-log line between two points at a multiple m (05 R141), by bisection: on log-log axes the middle of a
segment is the pair of geometric means. Multiples and times are scaled by 2 ^ 32. -/
def lineTime (m : Nat) : Nat → Nat × Nat → Nat × Nat → Nat
  | 0, a, _ => a.2
  | n + 1, a, b =>
    let c := (sqrtFrom (a.1 * b.1) 48 0, sqrtFrom (a.2 * b.2) 68 0)
    if m < c.1 then lineTime m n a c else lineTime m n c b

/-- A number scaled by 2 ^ 32. -/
def scaled (m : Rat) : Nat := (m * 4294967296).floor.toNat

/-- curve_time between two points: the integrator's own value, which R142 holds to ±4 % of the log-log line (log
entry 2). -/
def segTime (m : Rat) (a b : Nat × Nat) : Rat :=
  let t : Rat := (lineTime (scaled m) 24 (scaled a.1, scaled a.2) (scaled b.1, scaled b.2) : Rat) / 4294967296
  max (min (Config.curveTime m a b) (t * 104 / 100)) (t * 96 / 100)

/-- curve_time at a multiple m, in 1/64 of the rating: a point's own time at the point, the last
point's time above it, the line between two points (05 R141). -/
def curveTime : List (Nat × Nat) → Rat → Rat
  | [], _ => 1
  | [a], _ => a.2
  | a :: b :: t, m =>
    if m = (a.1 : Rat) then a.2
    else if m < (b.1 : Rat) then segTime m a b
    else curveTime (b :: t) m

/-- The heat after one IBUS sample (05 R141), the current in mA and the rating in 10 mA. -/
def heatStep (q : Port) (ma : Nat) : Rat :=
  let m : Rat := (64 * ma : Nat) / (10 * ratingEff q : Nat)
  match q.hw.curve with
  | [] => q.hw.heat
  | a :: t =>
    if m < (a.1 : Rat) then max 0 (q.hw.heat - 16 / (1000000 * q.hw.cool : Nat))
    else q.hw.heat + 16 / curveTime (a :: t) m

/-! ## Retry state (05 R146 to R150) -/

/-- The retry state cleared: COUNT, EXH and DUE 0, the interval cancelled. -/
def clearRetry (q : Port) : Port :=
  { q with
    pth.retry := q.pth.retry |> F.PTH_RETRY.COUNT.clr |> F.PTH_RETRY.EXH.clr |> F.PTH_RETRY.DUE.clr
    hw.retryEnd := none }

def Port.retryCount (q : Port) : Nat := F.PTH_RETRY.COUNT.get q.pth.retry
def Port.retryMax (q : Port) : Nat := F.PTH_RETRY.MAX.get q.pth.retry
def Port.retryExh (q : Port) : Bool := F.PTH_RETRY.EXH.on q.pth.retry
def Port.retryIsDue (q : Port) : Bool := F.PTH_RETRY.DUE.on q.pth.retry

/-- The detach-hold clock starts, unless it runs or the port is PARKED or FENCED (05 R148, R150). -/
def startAbs (now : Nat) (q : Port) : Port :=
  if q.st = .parked || q.st = .fenced || q.hw.absSince.isSome then q
  else { q with hw.absSince := some now, pth.retry := F.PTH_RETRY.ABS.set q.pth.retry }

/-- The detach-hold clock stops and is reset to zero. -/
def stopAbs (q : Port) : Port :=
  { q with hw.absSince := none, pth.retry := F.PTH_RETRY.ABS.clr q.pth.retry }

/-! ## Ends of contracts and of host commands -/

/-- Commands queued on the port or sent without a reply are cancelled (04 R101). -/
def cancelPort (p : PortId) (s : State) : State :=
  completeAll (fun w => w.port == p.val && w.kind != .parked && w.kind != .hardReset) .cancelled s

/-- A PORT_HARD_RESET that waits on the port is cancelled (04 R101). -/
def cancelHard (p : PortId) (s : State) : State :=
  completeAll (fun w => w.port == p.val && w.kind == .hardReset) .cancelled s

/-- An explicit contract ends without a new one: CONTRACT_LOST with its cause, when there was
one (09 Table CMD-11); the caddy's record of it ends too (06 Table CAD-3). -/
def loseContract (p : PortId) (cause trip : Nat) (s : State) : State :=
  let s := modCad p (fun c => { c with contract := none }) s
  if s.ports[p].pol.contract.isSome then
    postPort p .contractLost (BitVec.ofNat 32 (cause + 16 * trip))
      (modPol p (fun l => { l with contract := none, next := none, accepted := false }) s)
  else modPol p (fun l => { l with next := none, accepted := false }) s

/-- Policy data of an attachment end with it: cable data, swaps, modes, VDMs to the host, the send
queue, what R101 and R113 end. -/
def clearAttachment (l : Policy) : Policy :=
  { l with
    contract := none, next := none, accepted := false, reqWait := false, txq := [],
    txNow := Vector.replicate 3 none, await := none, hrCount := 0, spoke := false, capsTries := 0, hr := .none,
    cable := none, cableTries := 0, swap := none, modes := [], hostVdm := Vector.replicate 3 none,
    ident := none, discDue := false, lastSpr := none, lastEpr := none, authChain := [], authNonce := [],
    authAnswer := [], testUse := false, prearmed := false, doneHeld := false, sent := [],
    shedOffer := false, castWait := false, retrying := false, capLimit := none, only5 := false,
    tripDetach := false }

/-- The engine resets the port's three contexts as on a detach and cancels what waits on the port
(04 R101). -/
def resetContexts (p : PortId) (s : State) : State :=
  let s := cancelHard p (cancelPort p s)
  modPort p (fun q => let q := detachCtxs q; { q with pol := clearAttachment q.pol }) s

/-! ## Trips (05 R139, R140) -/

/-- The "off" safe state (12 R321): gate down, CEN low, VCONN off, the sink on until VBUS is below
vSafe0V. A port that is off stays off. -/
def safeOff (q : Port) : Port :=
  if !q.gateOn && !F.PTH_CTL.CEN_EN.on q.pth.ctl then
    let q := vconnOpen q
    { q with hw.ride := none, hw.safeWait := F.PTH_STAT.DIS_ON.on q.pth.stat && q.strained 4 }
  else { (vconnOpen (sinkOn (cenOff (gateOff q)))) with hw.ride := none, hw.safeWait := true }

/-- The causes of 05 Table PTH-3 by code. -/
inductive Cause where
  | pass | gate | vbusOv | cvOv | fast | rev | ramp | curve | fallback | cvTmo | enh
  deriving DecidableEq, Repr

def Cause.code : Cause → Nat
  | .pass => 1 | .gate => 2 | .vbusOv => 3 | .cvOv => 4 | .fast => 5 | .rev => 6 | .ramp => 7
  | .curve => 8 | .fallback => 9 | .cvTmo => 10 | .enh => 11

/-- The cause's bit in PTH_EVT. -/
def flagCause (c : Cause) (q : Port) : Port :=
  { q with pth.evt := setBit (c.code - 1) q.pth.evt }

/-- The causes that fence a port (05 Table PTH-3). -/
def Cause.fences (c : Cause) : Bool := c == .pass || c == .gate

/-- The hardware part of a trip, in the order of 05 R139. A FENCED port's detach-hold clock does not run (R150). -/
def tripPort (now : Nat) (c : Cause) (q : Port) : Port :=
  let q := vconnOpen (sinkOn (cenOff (gateOff q)))
  let q := q.hwSt (if c.fences then .fenced else .tripped)
  let q := if c.fences then stopAbs q else q
  flagCause c { q with
    pth.stat := F.PTH_STAT.CAUSE.put c.code q.pth.stat, hw.heat := 0, hw.tripAt := some now, hw.detAt := none }

/-- A cause of the same sample as the trip: CAUSE takes the lower code, and GATE fences the port (05 R140). -/
def joinTrip (now : Nat) (c : Cause) (q : Port) : Port :=
  let q := flagCause c q
  if q.st = .tripped && q.hw.tripAt = some now && c.code < F.PTH_STAT.CAUSE.get q.pth.stat then
    let q := if c.fences then stopAbs (q.hwSt .fenced) else q
    { q with pth.stat := F.PTH_STAT.CAUSE.put c.code q.pth.stat }
  else q

/-- The event of a cause (05 R139, 09 Table CMD-11). -/
def tripEvent (p : PortId) (c : Cause) (before : Port) (s : State) : State :=
  let q := s.ports[p]
  match c with
  | .pass => postPort p .passShort (BitVec.ofNat 32
      (F.TEL_PVBUS.LAST.get q.tel.pvbus + 4096 * F.TEL_PVCV.LAST.get q.tel.pvcv)) s
  | .gate => postPort p .gateFault 0 s
  | _ => postPort p .pathTrip (BitVec.ofNat 32 (c.code + 16 * before.retryCount
      + 256 * before.st.code + 65536 * F.TEL_PIBUS.LAST.get q.tel.pibus)) s

/-- The functions that protect a port in ride-through: those of 01 R14 (12 R322). -/
def Cause.analogue (c : Cause) : Bool :=
  c == .fast || c == .vbusOv || c == .cvOv || c == .rev

/-- The gate is enabled or the converter runs. -/
def Port.pathUp (q : Port) : Bool := q.gateOn || F.PTH_CTL.CEN_EN.on q.pth.ctl

/-- A cause trips the port (05 R139, R140): while it is attached or its path is up, but not in BINDING_OFF,
TRIPPED, RETRY_WAIT and FENCED; a bind-off that a detach of the same cycle began gives way to the trip; PASS
trips from every state but FENCED. -/
def trips (now : Nat) (c : Cause) (q : Port) : Bool :=
  match q.st with
  | .fenced => false
  | .bindingOff => c == .pass || q.hw.detAt == some now
  | .tripped | .retryWait => c == .pass
  | _ => c == .pass || q.attached || q.pathUp

/-- A cause qualifies on a port (05 R139, R140): in ride-through the functions of 01 R14 end the hold with
the "off" safe state and the others do nothing (12 R322). Where it trips the port, the front die acts, the caddy
takes back the grant, the engine resets the contexts, and the control pair posts the cause's event and then
CONTRACT_LOST when an explicit contract ends; elsewhere it sets its bit. -/
def trip (p : PortId) (c : Cause) (s : State) : State :=
  let q := s.ports[p]
  if q.hw.ride.isSome then
    if c.analogue then modPort p (fun q => flagCause c (safeOff q)) s else s
  else if trips s.time c q then
    let s := modPort p (tripPort s.time c) s
    let s := caddyRelease p s
    let s := tripEvent p c q s
    let s := loseContract p (if c.fences then 9 else 0) (if c.fences then 0 else c.code) s
    resetContexts p s
  else modPort p (joinTrip s.time c) s

/-- The port tripped in this sample: a cause whose condition the trip itself ended still counts (05 R140). -/
def trippedNow (s : State) (p : PortId) : Bool :=
  s.ports[p].st == .tripped && s.ports[p].hw.tripAt == some s.time

end Sys2Proof.Machine
end

