-- ==== Sys2Proof/Machine/Policy.lean ====
section
/-! DEFINITION. What the serving engine does with a port: cast-on and bind-off, offers and
contracts, resets, swaps (03_attach_and_orientation.md, 04_pd_protocol_engine.md,
05_power_path_and_breaker.md). Object layouts are those of the USB PD specification the spec
refers to (log entry 9). -/

namespace Sys2Proof.Machine
open Sys2Proof

/-! ## Decoded patterns (03 R60, R66, R69) -/

/-- The port presents Rd (its Rd phase, or a sink state). -/
def Port.rdPhase (q : Port) : Bool := q.presents false == .rd || q.presents true == .rd

/-- The orientation of an attach pattern: 1 CC1, 2 CC2, 0 a Debug Accessory; none for a pattern that
is no attachment (03 Table ATT-6, R69). -/
def Port.pattern (q : Port) : Option Nat :=
  if q.rdPhase then
    match q.dec1, q.dec2 with
    | 0, 0 => none
    | 0, _ => some 2
    | _, 0 => some 1
    | _, _ => none
  else
    match q.dec1, q.dec2 with
    | 1, 2 => some 1
    | 2, 1 => some 2
    | 1, 0 => some 1
    | 0, 1 => some 2
    | 1, 1 => if F.PRT_CFG.DBGACC_EN.on q.core.cfg then some 0 else none
    | _, _ => none

/-- The pin opposite the oriented one decodes BELOW: a powered cable (03 R73 item 1). -/
def Port.cableSeen (q : Port) : Bool :=
  (q.orient == 1 && q.dec2 == 0) || (q.orient == 2 && q.dec1 == 0)

/-! ## Identity record (03 R77, R79) -/

/-- CRC-32C of the record's first seven words. -/
def idrecCrc (r : Vector Word 8) : Word := crc32c ((r.toList.take 7).flatMap wordBytes)

/-- The record is valid: VALID set and the CRC correct. -/
def idrecValid (q : Port) : Bool := bitOf q.core.idrec[0] 31 && q.core.idrec[7] == idrecCrc q.core.idrec

/-- The record's EPR flag. -/
def idrecEpr (q : Port) : Bool := bitOf q.core.idrec[0] 30

/-- Pre-arming applies: captive mode, PREARM_EN and a valid record (03 Table ATT-10, departure 3). -/
def prearmOn (s : State) (p : PortId) : Bool :=
  captive s p && F.PRT_CAPT.PREARM_EN.on s.ports[p].core.capt && idrecValid s.ports[p]

/-! ## Objects and requests -/

/-- Bits of a word, as a number. -/
def bitsAt (w : Word) (lo n : Nat) : Nat := w.toNat / 2 ^ lo % 2 ^ n

/-- Object kinds: 0 Fixed, 1 PPS, 2 AVS. -/
def pdoKind (o : Word) : Nat := if bitsAt o 30 2 = 3 then (if bitsAt o 28 2 = 1 then 2 else 1) else 0

/-- Lowest and highest voltage of an object, in 20 mV. -/
def pdoVmin (o : Word) : Nat := match pdoKind o with
  | 0 => bitsAt o 10 10 * 5 / 2
  | _ => bitsAt o 8 8 * 5
def pdoVmax (o : Word) : Nat := match pdoKind o with
  | 0 => bitsAt o 10 10 * 5 / 2
  | 1 => bitsAt o 17 8 * 5
  | _ => bitsAt o 17 9 * 5

/-- The object's current in 10 mA (an AVS object is limited by its power instead). -/
def pdoCurr (o : Word) : Nat := match pdoKind o with
  | 0 => bitsAt o 0 10
  | 1 => bitsAt o 0 7 * 5
  | _ => 500

/-- Position of the object a Request refers to. -/
def rdoPos (r : Word) : Nat := bitsAt r 28 4

/-- The contract a Request asks for on an object. -/
def contractOf (rdo pdo : Word) : Contract :=
  let k := pdoKind pdo
  { kind := k
    volt := match k with | 0 => pdoVmin pdo | 1 => bitsAt rdo 9 12 | _ => bitsAt rdo 9 12 * 5 / 4
    curr := if k = 0 then bitsAt rdo 10 10 else bitsAt rdo 0 7 * 5
    pos := rdoPos rdo, epr := decide (8 ≤ rdoPos rdo), rdo := rdo, pdo := pdo }

/-- Output power of a contract in 10 mW, rounded up. -/
def Contract.pout (k : Contract) : Nat := (k.volt * k.curr + 49) / 50

/-- Voltage of a contract in 100 mV, rounded up (06 R175). -/
def Contract.v100 (k : Contract) : Nat := (k.volt + 4) / 5

/-- The request stays within its object (04 R105). -/
def withinObject (k : Contract) : Bool :=
  match k.kind with
  | 0 => k.curr ≤ pdoCurr k.pdo
  | 1 => k.curr ≤ pdoCurr k.pdo && pdoVmin k.pdo ≤ k.volt && k.volt ≤ pdoVmax k.pdo
  | _ => pdoVmin k.pdo ≤ k.volt && k.volt ≤ pdoVmax k.pdo && k.pout ≤ bitsAt k.pdo 0 8 * 100

/-! ## Offers (04 R104) -/

/-- What the cable allows: captive-cabled 5 A, 50 V and EPR; else what discovery showed; else 3 A
and 20 V (03 R76 departure 2, 04 R113). -/
def cableOf (s : State) (p : PortId) : Cable :=
  if F.PRT_CAPT.CABLED.on s.ports[p].core.capt then { curr := 50, volt := 50, epr := true, discovered := true }
  else (s.ports[p].pol.cable).getD { curr := 30, volt := 20, epr := false, discovered := false }

/-- Current in 10 mA of a reservation level (06 Table CAD-2). -/
def levelCurr (l : Nat) : Nat := match l with | 0 => 90 | 1 => 150 | _ => 300

/-- The object with its current, or an AVS object's power, limited; none when nothing is left. A Fixed
object's USB Communications Capable bit is sent 0 (00 Table SCP-2). -/
def limitObject (o : Word) (curr pout : Nat) : Option Word :=
  match pdoKind o with
  | 0 =>
    let i := min (pdoCurr o) (min curr (pout * 50 / max 1 (pdoVmax o)))
    if i = 0 then none else some (((clrBit 26 o) &&& 0xFFFFFC00) ||| BitVec.ofNat 32 i)
  | 1 =>
    let i := min (bitsAt o 0 7) (min (curr / 5) (pout * 50 / max 1 (pdoVmax o) / 5))
    if i = 0 then none else some ((o &&& 0xFFFFFF80) ||| BitVec.ofNat 32 i)
  | _ =>
    let w := min (bitsAt o 0 8) (pout / 100)
    if w = 0 then none else some ((o &&& 0xFFFFFF00) ||| BitVec.ofNat 32 w)

/-- Two objects are the same but for what limits take from them: kind and voltages. -/
def sameObject (a b : Word) : Bool :=
  pdoKind a == pdoKind b && pdoVmin a == pdoVmin b && pdoVmax a == pdoVmax b

/-- The object is one that the record remembers, on a port whose pre-arm request has obtained units and whose
contract does not stand yet (03 R77, 04 R112 items 2 and 5). -/
def remembered (s : State) (p : PortId) (epr : Bool) (o : Word) : Bool :=
  let q := s.ports[p]
  q.pol.prearmed && prearmOn s p &&
    (if epr then idrecEpr q && sameObject o q.core.idrec[5]
     else q.pol.contract.isNone && sameObject o q.core.idrec[3])

/-- The output power, in 10 mW, that the caddy leaves an object: the reduced offer's units (04 R105, 06 R172), and
for a remembered object what the pre-arm holding covers (03 R77). -/
def offerPower (s : State) (p : PortId) (epr : Bool) (o : Word) : Nat :=
  let v := (pdoVmax o + 4) / 5
  let a := match s.ports[p].pol.capLimit with
    | none => 1000000
    | some u => coverAt s v u
  if remembered s p epr o then min a (coverAt s v (s.cadp[p]).hold) else a

/-- A PPS object with its highest voltage lowered to a limit in V; other objects as they are. -/
def clipPps (volt : Nat) (o : Word) : Word :=
  if pdoKind o = 1 && pdoVmax o > 50 * volt then
    (o &&& ~~~(BitVec.ofNat 32 (255 * 131072))) ||| BitVec.ofNat 32 (10 * volt * 131072)
  else o

/-- One offered object after the limits of 04 R104: the cable (above 20 V only one that is EPR-capable for 50 V),
the partner's revision, the caddy. -/
def offerObject (s : State) (p : PortId) (epr : Bool) (o : Word) : Option Word :=
  let q := s.ports[p]
  let c := cableOf s p
  let high := c.epr && c.volt ≥ 50
  let rev := F.PD_REV.PARTNER.get q.pd.rev
  let rev2 := revCode q.ctx[0] == 1
  let o := clipPps (if high then 50 else 20) o
  if pdoVmax o > (if high then 2500 else 1000) || pdoVmin o > pdoVmax o then none
  else if epr && !(high && c.curr ≥ 50) then none
  else if epr && rev ≠ 0 && rev < 0x31 then none
  else if pdoKind o ≠ 0 && rev2 then none
  else limitObject o (10 * c.curr) (offerPower s p epr o)

/-- The vSafe5V object, at most at the current of the port's reservation and of the reduced offer. It advertises
unchunked extended messages as PORT_CONFIG says (04 R96, 09 R249), and EPR Mode Capable on a pre-armed EPR port
(04 R112 item 2). -/
def firstObject (s : State) (p : PortId) : Word :=
  let q := s.ports[p]
  let o := q.pol.caps.headD 0x0001912C
  let o := if prearmOn s p && idrecEpr q then setBit 23 o else o
  let o := if q.pol.advUnchunk then setBit 24 o else o
  ((clrBit 26 o) &&& 0xFFFFFC00) ||| BitVec.ofNat 32 (min (pdoCurr o)
    (min (levelCurr q.pol.level) (offerPower s p false o * 50 / 250)))

/-- Source_Capabilities with their positions (04 R104): the first object is always vSafe5V. -/
def sprOffers (s : State) (p : PortId) : List Word :=
  let q := s.ports[p]
  if q.pol.only5 then [firstObject s p]
  else firstObject s p :: (q.pol.caps.drop 1).filterMap (offerObject s p false)

/-- The EPR objects offered from position 8 on. -/
def eprOffers (s : State) (p : PortId) : List Word :=
  if s.ports[p].pol.only5 then [] else s.ports[p].pol.eprCaps.filterMap (offerObject s p true)

/-- Objects with rising positions. -/
def numbered (n : Nat) : List Word → List (Nat × Word)
  | [] => []
  | o :: t => (n, o) :: numbered (n + 1) t

/-- The port can be asked to send capabilities: source, with no transition pending (06 R181). -/
def offerFree (q : Port) : Bool :=
  q.attached && q.isSource && q.pol.next.isNone && q.pol.swap.isNone && q.pol.hr == .none

/-- The engine sends Source_Capabilities, or EPR_Source_Capabilities in EPR mode (04 R104, R253). -/
def sendCaps (p : PortId) (ams : Bool) (s : State) : State :=
  let q := s.ports[p]
  let spr := sprOffers s p
  if F.PD_PHYCFG.EPR.on q.pd.phycfg then
    let epr := eprOffers s p
    let s := modPol p (fun l => { l with sent := numbered 1 spr ++ numbered 8 epr }) s
    let data := ((spr.take 7) ++ List.replicate (7 - spr.length) 0 ++ epr).flatMap wordBytes
    engineSend p 0 (fun q => extMsg q 0 17 data) ams .eprCaps s
  else
    let s := modPol p (fun l => { l with sent := numbered 1 (spr.take 7) }) s
    engineSend p 0 (fun q => dataMsg q 0 1 (spr.take 7)) ams .srcCaps s

/-- The engine offers the capabilities again, at once or after the transition under way. -/
def reoffer (p : PortId) (s : State) : State :=
  if offerFree s.ports[p] then sendCaps p true (modPol p (fun l => { l with shedOffer := false }) s)
  else modPol p (fun l => { l with shedOffer := true }) s

/-! ## States of the port -/

/-- Fields of PORT_CONFIG that MASK selects, written (09 R249): the payload bytes from ROLE on. -/
def applyConfig (mask : Nat) (f : List Byte) (sel : Nat → Bool) (q : Port) : Port :=
  let v (i : Nat) : Nat := (f.getD i 0).toNat
  let on (i : Nat) : Bool := mask / 2 ^ i % 2 == 1 && sel i
  let q := if on 0 then { q with core.cfg := F.PRT_CFG.ROLE.cap (v 0) q.core.cfg } else q
  let q := if on 1 then { q with core.cfg := F.PRT_CFG.TRY.cap (v 1) q.core.cfg } else q
  let q := if on 2 then { q with core.cfg := F.PRT_CFG.DBGACC_EN.put (v 2) q.core.cfg,
                                 pol.advUnchunk := v 2 / 32 % 2 == 1 } else q
  let q := if on 3 then { q with cc.vctl := F.VCONN_CTL.VCONN_RES.cap (v 3) q.cc.vctl } else q
  let q := if on 4 then { q with cc.tick := F.CC_TICK.DET_CLASS.put (v 4 / 64)
                                  (F.CC_TICK.SMP_TICK.put (v 4) q.cc.tick) } else q
  let q := if on 5 then { q with cc.deb := F.CC_DEB.ATT_DEB.cap (v 5) q.cc.deb } else q
  let q := if on 6 then { q with cc.deb := F.CC_DEB.PDDEB.cap (v 6) q.cc.deb } else q
  let q := if on 7 then { q with cc.deb := F.CC_DEB.TDETACH.cap (v 7) q.cc.deb } else q
  let q := if on 8 then { q with cc.drp := F.CC_DRP.TDRP.cap (v 8) q.cc.drp } else q
  let q := if on 9 then { q with cc.drp := F.CC_DRP.DUTY.cap (v 9) q.cc.drp } else q
  let q := if on 10 then { q with cc.drp := F.CC_DRP.TDRPTRY.cap (v 10) q.cc.drp } else q
  let q := if on 11 then { q with cc.drp := F.CC_DRP.TTRYDEB.cap (v 11) q.cc.drp } else q
  if on 12 then { q with cc.ctl := F.CC_CTL.HW_DRP.put (v 12) q.cc.ctl } else q

/-- KA_ACK and the swap permissions of PORT_CONFIG's FLAGS act at once (09 R249). -/
def applyFlags (mask : Nat) (f : List Byte) (q : Port) : Port :=
  if mask / 4 % 2 = 1 then
    let v := (f.getD 2 0).toNat
    let q := { q with pol.drSwapOk := v / 2 % 2 == 1, pol.prSwapOk := v / 4 % 2 == 1,
                      pol.vconnSwapOk := v / 8 % 2 == 1 }
    q.modCtx 0 fun c => { c with ctl := F.CTX_CTL.KA_ACK.put (v / 16) c.ctl }
  else q

/-- Configuration that waited for the entry into DETACHED takes effect (09 R249, R256). -/
def applyLater (q : Port) : Port :=
  let q := match q.pol.cfgLater with
    | some (m, f) => applyConfig m f (fun i => i ≠ 0 && i ≠ 1 && i ≠ 12) q
    | none => q
  let q := match q.pol.captLater with
    | some w => { q with core.capt := w }
    | none => q
  { q with pol.cfgLater := none, pol.captLater := none }

/-- The attach debounce of the port starts, to count `ms` milliseconds (03 R68). -/
def startDeb (now ms : Nat) (q : Port) : Port :=
  { q with hw.deb := some now, hw.debMs := ms, cc.stat := F.CC_STAT.DEB_RUN.set q.cc.stat }

/-- The attach debounce stops. -/
def stopDeb (q : Port) : Port :=
  { q with hw.deb := none, cc.stat := F.CC_STAT.DEB_RUN.clr q.cc.stat }

/-- The pre-arm request of a port (03 R78, 04 R112 item 1): the remembered SPR request, or with EPR
the larger of both at the EPR voltage. -/
def prearmAsk (s : State) (p : PortId) : Nat × Nat :=
  let q := s.ports[p]
  let a := contractOf q.core.idrec[2] q.core.idrec[3]
  if idrecEpr q then
    let b := contractOf q.core.idrec[4] q.core.idrec[5]
    let ua := unitsAt s a.v100 a.pout
    let ub := unitsAt s b.v100 b.pout
    if ua ≤ ub then (b.v100, b.pout) else (b.v100, coverAt s b.v100 ua)
  else (a.v100, a.pout)

/-- The port enters ATTACH_WAIT: the debounce starts, and a pre-armed port submits its request
(03 Table ATT-7, Table ATT-8, R78). -/
def enterAttachWait (p : PortId) (s : State) : State :=
  let s := modPort p (fun q => startDeb s.time (attDeb s p) { ((q.setSt .attachWait).setTc (if q.rdPhase then 7 else 2)) with
    hw.nonAttach := none, hw.drpTry := none, hw.tryPassed := false }) s
  if prearmOn s p && !s.ports[p].rdPhase then
    let (v, w) := prearmAsk s p
    submit p true v w s
  else s

/-- The terminations of a role in DETACHED: Rp, or Rd on a Sink port; DRP starts with Rp. -/
def roleTerms (role : Nat) (q : Port) : Port := if role = 1 then setTerms 2 2 q else setTerms 1 1 q

/-- The port enters DETACHED (03 R64, 06 R163, R165): its waiting configuration takes effect, the
role's terminations return with Rp at the level asked, the holding is released, and a pattern that
is already an attach pattern moves it to ATTACH_WAIT at once. -/
def enterDetached (p : PortId) (s : State) : State :=
  let s := modFront p applyLater s
  let role := roleOf s p
  let lvl := askedLevel s.cadp[p]
  let s := modPort p (fun q =>
    let q := (q.setSt .detached).setTc (if role = 1 then 6 else 1)
    let q := { q with core.state := q.core.state |> F.PRT_STATE.ORIENT.clr |> F.PRT_STATE.DEBUG.clr
      |> F.PRT_STATE.NOPD.clr }
    let q := stopDeb (setRp lvl (roleTerms role q))
    { q with cc.stat := F.CC_STAT.DRP_PHASE.clr q.cc.stat,
             cc.cfg := q.cc.cfg.set 5 (F.CMP_CFG.THR.put 80 q.cc.cfg[5]),
             hw.drpTry := none, hw.tryPassed := false,
             pol := { q.pol with kept := none, detachCause := none, detachAt := none, errRecovery := false,
                                 tripDetach := false, retrying := false, castWait := false,
                                 prearmed := false, capLimit := none, only5 := false } }) s
  let s := caddyRelease p s
  if (s.ports[p].pattern).isSome then enterAttachWait p s else s

/-- PORT_DISABLE commands that wait for the port complete with OK (05 R152, 09 R250). -/
def completeParked (p : PortId) (s : State) : State :=
  (s.host.waits.filter fun w => w.port == p.val && w.kind == .parked).foldl
    (fun s w => completeWait w .ok [BitVec.ofNat 8 (s.ports[p]).st.code, 0] s) s

/-- The port enters PARKED (03 R61, 05 R150): both pins open, VCONN off, the detach-hold clock
stopped, the holding released. -/
def enterParked (p : PortId) (s : State) : State :=
  let s := modPort p (fun q =>
    let q := (q.setSt .parked).setTc 0
    let q := { q with core.state := q.core.state |> F.PRT_STATE.ORIENT.clr |> F.PRT_STATE.DEBUG.clr
      |> F.PRT_STATE.NOPD.clr }
    stopAbs (stopDeb (vconnOpen (setTerms 0 0 { q with
      pol := { q.pol with kept := none, parkWait := false, detachCause := none, detachAt := none, errRecovery := false,
                          tripDetach := false, retrying := false, castWait := false,
                          prearmed := false, capLimit := none, only5 := false } })))) s
  completeParked p (caddyRelease p s)

/-- DETACH with its cause and the state entered (09 Table CMD-11). -/
def postDetach (p : PortId) (cause : Nat) (st : PortSt) (s : State) : State :=
  postPort p .detach (BitVec.ofNat 32 (cause + 16 * st.code)) s

/-- The DETACH that a detach or a bind-off of the port has led to: with the time of the hardware's flag, or of the
CONTRACT_LOST that it goes with (08 R232, 09 R274). -/
def postKept (p : PortId) (cause : Nat) (st : PortSt) (s : State) : State :=
  postPortAt (s.ports[p].pol.detachAt.getD s.time) p .detach (BitVec.ofNat 32 (cause + 16 * st.code)) s

/-- A bind-off begins (05 R151): gate down, CEN low, sink on, VCONN off, contexts reset as on a
detach. CONTRACT_LOST carries `lost`; DETACH will carry `cause`. -/
def bindOff (p : PortId) (cause lost : Nat) (s : State) : State :=
  let s := modPort p (fun q => (vconnOpen (sinkOn (cenOff (gateOff q)))).setSt .bindingOff) s
  let s := loseContract p lost 0 s
  let s := resetContexts p s
  modPol p (fun l => { l with detachCause := some cause, detachAt := if cause = 4 then some s.time else none }) s

/-- A bind-off ends (05 R151, R152, 03 R64): DETACH is posted and the port goes to PARKED when the
last kept command was a disable, else to DETACHED; a PORT_DISABLE that began it completes after DETACH (08 R224). -/
def endBindOff (p : PortId) (s : State) : State :=
  let l := s.ports[p].pol
  let parked := l.kept == some false
  let s := match l.detachCause with
    | some c => postKept p c (if parked then .parked else .detached) s
    | none => s
  let s := modPort p stopAllSlots s
  if parked then enterParked p (modPol p (fun l => { l with enabled := false }) s)
  else completeParked p (enterDetached p s)

/-- Error recovery (04 R99): the port binds off, then opens both CC pins for tErrorRecovery. -/
def errorRecovery (p : PortId) (s : State) : State :=
  modPol p (fun l => { l with errRecovery := true }) (bindOff p 2 8 s)

/-- The engine learns that the hardware has stopped using the port's contexts: error recovery (12 Table SAF-3). -/
def polEcc (p : PortId) (s : State) : State := if s.ports[p].attached then errorRecovery p s else resetContexts p s

/-- vSafe5V: TARGET 5.0 V, CEN up, the gate ramp started (03 Table ATT-7, 04 R99); a CEIL below 5.0 V refuses the
target (05 R131), and the path stays open. -/
def raise5 (p : PortId) (s : State) : State :=
  if targetRefused s.ports[p] 250 then refuseTarget p 250 s
  else modPort p (fun q =>
    let q := { q with pth.ctl := F.PTH_CTL.CEN_EN.set q.pth.ctl, hw.cvWait := true,
                      pth.steep := F.PTH_STEEP.TARGET.put 250 q.pth.steep }
    startGateRamp s.time (pathThresholds false (sinkOff q))) s

/-- The cable contexts follow the VCONN source and DFP roles (04 R86); when they go off, messages to the cable end
unsent, and the host's are cancelled. -/
def cableCtxs (p : PortId) (s : State) : State :=
  let on := s.ports[p].vconnOn && s.ports[p].isDfp
  let l := s.ports[p].pol
  let gone := if on then [] else
    ((l.txq.filter fun r => r.ctx != 0).map TxReq.purpose) ++ [l.txNow[1], l.txNow[2]].filterMap id
  let s := modPort p (fun q => enableCtx 2 on (enableCtx 1 on q)) s
  let s := if on then s else modPol p (fun l => { l with
    txq := l.txq.filter fun r => r.ctx == 0
    txNow := (l.txNow.set 1 none).set 2 none }) s
  completeAll (fun w => w.port == p.val && w.kind != .cancelled && gone.contains (.hostMsg w.tag)) .cancelled s

/-- A port that loses VCONN before its cable discovery has ended treats the cable as 3 A and 20 V (03 R73, 04
R113); the cable contexts go off (04 R86). -/
def polVconnLost (p : PortId) (s : State) : State :=
  let s := if s.ports[p].attached && s.ports[p].pol.cable.isNone && !s.ports[p].vconnOn then
      modPort p (fun q => stopSlot 17 (stopSlot 18 { q with
        pol.cable := some { curr := 30, volt := 20, epr := false, discovered := false } })) s
    else s
  cableCtxs p s

/-- The port enters CASTING_ON as Attached.SRC (03 Table ATT-7): orientation, role, reservation
level, VCONN when a powered cable is seen, converter and ramp, SOP context on, tNoResponse; with a Debug Accessory
only Hard Resets are received (04 R84). A cast-on of a due retry clears DUE and adds one to COUNT (05 R147). -/
def castOnSource (p : PortId) (level : Nat) (s : State) : State :=
  let o := if s.ports[p].st = .retryWait then s.ports[p].orient else ((s.ports[p]).pattern).getD 0
  let s := modPort p (fun q =>
    let q := (q.setSt .castingOn).setTc (if o = 0 then 0x0B else 3)
    let q := { q with core.state := F.PRT_STATE.ORIENT.put o (F.PRT_STATE.DEBUG.setTo (o = 0)
      (F.PRT_STATE.NOPD.setTo (o = 0) q.core.state)) }
    let q := stopDeb (setRp level q)
    let q := if q.retryIsDue then { q with
        pth.retry := F.PTH_RETRY.DUE.clr (F.PTH_RETRY.COUNT.put (q.retryCount + 1) q.pth.retry) }
      else q
    let q := { q with
      pd.phycfg := q.pd.phycfg |> F.PD_PHYCFG.PWR_ROLE.set |> F.PD_PHYCFG.DATA_ROLE.set
      pd.rev := 0
      pol := { q.pol with level := level, spoke := false, hrCount := 0, capsTries := 0, hr := .none,
                          castWait := false, retrying := false } }
    let q := q.modCtx 0 fun c => { c with ctl := F.CTX_CTL.REV.put 2 c.ctl }
    let q := syncTxOk (setRating (levelCurr level) q)
    if o = 0 then { q with pd.phycfg := F.PD_PHYCFG.SOP_RX.set q.pd.phycfg }
    else startSlot s.time 24 (enableCtx 0 true q)) s
  let s := if s.ports[p].cableSeen then
      let s := vconnStart p (o == 1) s
      if s.ports[p].vconnOn then
        modPort p (fun q => startSlot s.time 18 (enableCtx 2 true (enableCtx 1 true q))) s
      else s
    else s
  raise5 p s

/-- ATTACH (09 Table CMD-11). -/
def postAttach (p : PortId) (s : State) : State :=
  let q := s.ports[p]
  postPort p .attach (BitVec.ofNat 32 (q.tc + 32 * q.orient
    + (if F.PRT_STATE.DEBUG.on q.core.state then 128 else 0) + 256 * q.pol.level
    + (if q.vconnOn then 1024 else 0) + (if captive s p then 2048 else 0)
    + (if q.pol.prearmed then 4096 else 0))) s

/-- The port named in FED_PPORT with VALID (06 R178). -/
def isFeedPort (s : State) (p : PortId) : Bool :=
  F.FED_PPORT.VALID.on s.feeds.regs.pport && F.FED_PPORT.PORT.get s.feeds.regs.pport == p.val

/-- The sink path on: slot 6's threshold, then the gate with the converter running in reverse (05 R129, 06 R178). -/
def sinkPathUp (q : Port) : Port :=
  let on := F.PTH_CTL.CEN_EN.on q.pth.ctl
  let q := if on then q else slot6Threshold q
  { q with
    pth.ctl := F.PTH_CTL.PATH_EN.set (F.PTH_CTL.CEN_EN.set q.pth.ctl)
    pth.stat := F.PTH_STAT.GATE_ON.set q.pth.stat
    hw.cvWait := if on then q.hw.cvWait else !q.strained 6 }

/-- The FEED_P port's sink path enabled (06 R178). -/
def sinkPathOn (p : PortId) (s : State) : State :=
  if isFeedPort s p then modPort p sinkPathUp s else s

/-- The port presents the level asked in V5 while it has no reservation: in DETACHED, in ATTACH_WAIT, and while it
waits with WAIT5 (06 R163). -/
def presentV5 (p : PortId) (s : State) : State :=
  let q := s.ports[p]
  let lvl := askedLevel s.cadp[p]
  if (q.st = .detached || q.st = .attachWait || F.CAD_PHOLD.WAIT5.on (s.cadp[p]).regs.phold)
      && F.CC_CTL.RP_LVL.get q.cc.ctl != lvl && !unpopulated s p then modPort p (setRp lvl) s
  else s

/-- The DEB_DONE row of 03 Table ATT-7, once the retry state allows it (05 R149): with VBUS above
vSafe0V the sink is switched on and the port waits; else, while the pattern holds, the reservation is drawn, and
the port casts on or waits with WAIT5 (06 R163). -/
def castOn (p : PortId) (s : State) : State :=
  let q := s.ports[p]
  if q.hw.retryEnd.isSome || q.retryExh || (q.pattern).isNone then s
  else if q.strained 4 then modPort p (fun q => { (sinkOn q) with pol.castWait := true }) s
  else
    let (s, r) := drawReserve p s
    match r with
    | some l => postAttach p (castOnSource p l (modPort p sinkOff s))
    | none => s

/-- The cast-on of a due retry from RETRY_WAIT (05 R147): as the DEB_DONE row, once VBUS is below vSafe0V and
neither a PORT_DISABLE nor the absence of the module waits for that (05 R148, R152). -/
def retryCast (p : PortId) (s : State) : State :=
  let q := s.ports[p]
  if q.pol.parkWait || q.pol.tripDetach then s
  else if q.strained 4 then modPort p (fun q => { (sinkOn q) with pol.castWait := true }) s
  else
    let (s, r) := drawReserve p (modPol p (fun l => { l with castWait := false }) s)
    match r with
    | some l => castOnSource p l (modPort p sinkOff s)
    | none => presentV5 p (modPol p (fun l => { l with retrying := true }) s)

/-- The port enters CASTING_ON as Attached.SNK (03 Table ATT-8); tNoResponse starts (04 R107). -/
def castOnSink (p : PortId) (s : State) : State :=
  let o := ((s.ports[p]).pattern).getD 1
  let s := modPort p (fun q =>
    let q := (q.setSt .castingOn).setTc 8
    let q := stopDeb { q with core.state := F.PRT_STATE.ORIENT.put o q.core.state }
    let hi : Fin 8 := if o = 2 then 3 else 1
    let c5 := q.cc.cfg.set 5 (F.CMP_CFG.THR.put 61 q.cc.cfg[5])
    let q := { q with
      cc.cfg := c5.set hi (F.CMP_CFG.THR.put 246 c5[hi])
      pd.phycfg := q.pd.phycfg |> F.PD_PHYCFG.PWR_ROLE.clr |> F.PD_PHYCFG.DATA_ROLE.clr
      pd.rev := 0
      hw.drpTry := none
      pol := { q.pol with spoke := false, hrCount := 0, hr := .none } }
    let q := q.modCtx 0 fun c => { c with ctl := F.CTX_CTL.REV.put 2 c.ctl }
    startSlot s.time 24 (syncTxOk (enableCtx 0 true q))) s
  postAttach p s

/-- The cast-on that a port in ATTACH_WAIT waits for, once the retry state allows it (05 R149): as a source, or in
the Rd phase as a sink while VBUS is present (03 Table ATT-7, Table ATT-8). -/
def castAs (p : PortId) (s : State) : State :=
  let q := s.ports[p]
  if !q.rdPhase then castOn p s
  else if q.hw.retryEnd.isSome || q.retryExh || !q.strained 5 then s
  else castOnSink p s

/-! ## Resets (04 R98 to R101) -/

/-- PD_SIGNAL.HARD_RESET written: the ordered set waits for an idle line and slot 4 runs (04 R100). -/
def signalHardReset (p : PortId) (s : State) : State :=
  modPort p (fun q => startSlot s.time 4 { q with phw.hrWait := true }) s

/-- A Hard Reset the engine decides by its own rules: at most two in succession without a contract;
then error recovery for a partner that has spoken; a silent one's third is due only at tNoResponse
(04 R99, R107). -/
def engineHardReset (p : PortId) (s : State) : State :=
  let l := s.ports[p].pol
  if l.hrCount < 2 then signalHardReset p s
  else if l.spoke then errorRecovery p s
  else s

/-- A PR_Swap that a Hard Reset ends leaves the port in its earlier power role: the terminations and TC_STATE of
that role, and the path of a port that is a sink again open (04 R116). -/
def restoreRole (src0 : Bool) (q : Port) : Port :=
  let q := { q with pd.phycfg := F.PD_PHYCFG.PWR_ROLE.setTo src0 q.pd.phycfg }
  match q.pol.swap with
  | some w =>
    if w.kind ≠ 0 then q
    else if src0 then (setTerms 1 1 q).setTc 3
    else (setTerms 2 2 (cenOff (gateOff q))).setTc 8
  | none => q

/-- A sink port opens its sink path when VBUS falls, and stays attached while CC shows Rp (04 R99). -/
def sinkAwaits (q : Port) : Port :=
  let q := if q.strained 5 then q else sinkPathOff q
  { q with pol.hr := .sinkWait }

/-- The port's own part of a Hard Reset (04 R99): contexts reset, transmissions dropped, roles back,
a source waiting tPSHardReset with Rp and rating of its reservation, a sink awaiting the fall and the return of
VBUS. -/
def hardResetPort (now : Nat) (src0 : Bool) (q : Port) : Port :=
  let q := restoreRole src0 (hardResetCtxs q)
  let q := { q with
    pd.phycfg := F.PD_PHYCFG.EPR.clr (F.PD_PHYCFG.SWAP.clr q.pd.phycfg)
    pol := { q.pol with txq := [], txNow := Vector.replicate 3 none, await := none, reqWait := false, swap := none,
                        capsTries := 0, doneHeld := false, discDue := false,
                        hostVdm := Vector.replicate 3 none } }
  let q := if q.attached then q.setSt .castingOn else q
  let q := { q with pd.tmrrun := q.pd.tmrrun &&& 0x1000000 }
  if src0 then startSlot now 9 { setRp q.pol.level (setRating (levelCurr q.pol.level) q) with pol.hr := .psHardReset }
  else sinkAwaits q

/-- After a Hard Reset, sent or received (04 R99, R116, R121): contexts reset, commands cancelled, the
contract lost with `cause`; a source port waits tPSHardReset in CASTING_ON; a sink stays attached.
A swap in progress ends with the port back in its earlier power role; what a swap to source had drawn returns (06
R161). -/
def afterHardReset (p : PortId) (cause : Nat) (s : State) : State :=
  let s := cancelPort p s
  let had := s.ports[p].pol.contract.isSome
  let toSource := (s.ports[p].pol.swap.map fun w => w.kind == 0 && !w.wasSource).getD false
  let src0 : Bool := match s.ports[p].pol.swap with
    | some w => if w.kind = 0 then w.wasSource else s.ports[p].isSource
    | none => s.ports[p].isSource
  let s := loseContract p cause 0 s
  let s := if toSource then caddyRelease p s
    else if had && src0 then submitWithdraw p s
    else s
  modPort p (hardResetPort s.time src0) s

/-- A Cable Reset sent (04 Table PDE-3): SOP' and SOP'' reset, the cable data end, VCONN off for
tVCONNStable and then on; without VCONN the cable contexts are off (04 R86). -/
def afterCableReset (p : PortId) (s : State) : State :=
  cableCtxs p (modPort p (fun q => startSlot s.time 18 (vconnOpen { (resetCtx 2 (resetCtx 1 q)) with
    pol.cable := none, pol.cableTries := 0 })) s)

/-! ## Contracts (04 R105, R106) -/

/-- The voltage of TARGET differs from a contract's. -/
def changesVbus (q : Port) (k : Contract) : Bool := k.volt ≠ q.target

/-- Reject, and after it the reduced capabilities where they are due (04 R105). -/
def rejectRequest (p : PortId) (caps : Bool) (s : State) : State :=
  sendCtrl p 4 false (.reject caps) (modPol p (fun l => { l with next := none, reqWait := false }) s)

/-- Accept a request (04 R105, R106). -/
def acceptRequest (p : PortId) (s : State) : State :=
  sendCtrl p 3 false .accept (modPol p (fun l => { l with reqWait := false }) s)

/-- A partner's PD message: the partner has spoken, NOPD clears, slot 24 stops (03 R67, 04 R107). -/
def partnerSpoke (p : PortId) (s : State) : State :=
  modPort p (fun q => stopSlot 24 { q with
    core.state := F.PRT_STATE.NOPD.clr q.core.state, pol.spoke := true }) s

/-- The remembered request that a Request equals, and units the holding covers (03 R78, 04 R112). -/
def prearmMatch (s : State) (p : PortId) (k : Contract) : Bool :=
  let q := s.ports[p]
  q.pol.prearmed && prearmOn s p &&
    (k.rdo == q.core.idrec[2] || (idrecEpr q && k.rdo == q.core.idrec[4])) &&
    decide (unitsAt s k.v100 k.pout ≤ (s.cadp[p]).hold)

/-- A Request is evaluated (04 R105): rejected when it does not match or exceeds an offered object or
the partner's revision does not allow it; accepted without a row on a pre-armed match; else
submitted to the caddy. -/
def evaluateRequest (p : PortId) (rdo : Word) (s : State) : State :=
  let q := s.ports[p]
  let o := (q.pol.sent.find? fun x => x.1 == rdoPos rdo).map Prod.snd
  -- every Request on a PPS contract restarts tPPSTimeout (04 R108)
  let s := if (q.pol.contract.map Contract.kind) = some 1 then modPort p (startSlot s.time 23) s else s
  match o with
  | none => rejectRequest p false s
  | some o =>
    let k := contractOf rdo o
    let revOk := revCode q.ctx[0] == 2 || (pdoKind o = 0 && !k.epr)
    if !withinObject k || !revOk then rejectRequest p false s
    else
      -- a grant obtained for an earlier Request and not used is withdrawn (06 Table CAD-3)
      let s := if q.pol.next.isSome && !q.pol.reqWait then submitWithdraw p s else s
      -- another SPR Request ends the held-back DONE (04 R112 item 3)
      let s := match q.pol.doneHeld, q.pol.contract with
        | true, some c => if k.epr then s else
            submitDone p c.v100 c.pout (modPol p (fun l => { l with doneHeld := false }) s)
        | _, _ => s
      let s := modPol p (fun l => { l with next := some k, accepted := false }) s
      if prearmMatch s p k then acceptRequest p s
      else submit p false k.v100 k.pout (modPol p (fun l => { l with reqWait := true }) s)

/-- The identity record rewritten with the identity and the last SPR and EPR requests of the attachment (03 R77,
R79, Table ATT-16). -/
def writeIdrec (q : Port) : Port :=
  match q.pol.ident, q.pol.contract with
  | some (vid, pid, bcd), some _ =>
    let w0 : Word := BitVec.ofNat 32 (2147483648 + vid % 65536) |||
      (if q.pol.lastEpr.isSome then (1#32 <<< 30) else 0)
    let w1 : Word := BitVec.ofNat 32 (pid % 65536 + 65536 * (bcd % 65536))
    let a := q.pol.lastSpr.getD (0, 0)
    let b := q.pol.lastEpr.getD (0, 0)
    let r : Vector Word 8 := #v[w0, w1, a.1, a.2, b.1, b.2, 0, 0]
    { q with core.idrec := r.set 7 (idrecCrc r) }
  | _, _ => q

/-- CONTRACT (09 Table CMD-11). -/
def postContract (p : PortId) (k : Contract) (reneg : Bool) (s : State) : State :=
  postPort p .contract (BitVec.ofNat 32 (k.volt % 4096 + 4096 * (k.curr % 1024) + 4194304 * k.kind
    + (if k.epr then 16777216 else 0) + 33554432 * (k.pos % 16) + (if reneg then 536870912 else 0))) s

/-- Discover Identity on SOP as DFP (04 R114). -/
def discoverPartner (p : PortId) (s : State) : State :=
  engineSend p 0 (fun q => dataMsg q 0 15 [0xFF00A001]) true .discIdentity s

/-- What follows the first explicit contract: Get_Revision with a 3.x partner, then Discover Identity
as DFP (04 R102, R114); a pre-armed EPR port defers it (R112 item 7). -/
def afterFirstContract (p : PortId) (s : State) : State :=
  let q := s.ports[p]
  let s := if revCode q.ctx[0] == 2 then sendCtrl p 24 true .getRevision s else s
  if !q.isDfp then s
  else if q.pol.prearmed && prearmOn s p && idrecEpr q then modPol p (fun l => { l with discDue := true }) s
  else discoverPartner p s

/-- The deferred Discover Identity goes once the port is CONTRACTED, with no transition pending and the pre-arm
hold over (04 R112 item 7). -/
def sendDeferred (p : PortId) (s : State) : State :=
  let q := s.ports[p]
  if q.pol.discDue && q.st = .contracted && q.pol.next.isNone && !q.pol.doneHeld then
    discoverPartner p (modPol p (fun l => { l with discDue := false }) s)
  else s

/-- PS_RDY of a contract has been sent or received: the contract is in force (04 R106, 03 R63). -/
def contractInForce (p : PortId) (s : State) : State :=
  match s.ports[p].pol.next with
  | none => s
  | some k =>
    let first := s.ports[p].pol.contract.isNone
    let src := s.ports[p].isSource
    let hold := src && s.ports[p].pol.prearmed && idrecEpr s.ports[p] && !k.epr && first
    let s := modPort p (fun q =>
      let q := q.setSt .contracted
      let q := { q with pol := { q.pol with
        contract := some k, next := none, accepted := false, hrCount := 0, doneHeld := hold
        lastSpr := if k.epr then q.pol.lastSpr else some (k.rdo, k.pdo)
        lastEpr := if k.epr then some (k.rdo, k.pdo) else q.pol.lastEpr } }
      let q := if src && first then setRp 2 q else q
      let q := if src then setRating k.curr q else q
      let q := if hold then startSlot s.time 22 q else q
      let q := if src && k.kind = 1 then startSlot s.time 23 q else q
      writeIdrec q) s
    let s := postContract p k (!first) s
    let s := if src && !hold then submitDone p k.v100 k.pout s else s
    let s := if first then afterFirstContract p s else s
    if s.ports[p].pol.shedOffer then reoffer p s else s

/-- The transition after Accept's GoodCRC (04 R106): a change of VBUS takes the port to CASTING_ON; a rise of
voltage, or of current at the same VBUS, gets its rating before PS_RDY (01 R15); tSrcTransition runs, in captive
mode 1 ms with the present VBUS and 15 ms before a ramp (03 R76 departures 5 and 6). -/
def beginTransition (p : PortId) (s : State) : State :=
  match s.ports[p].pol.next with
  | none => s
  | some k =>
    let capt := captive s p
    modPort p (fun q =>
      let change := changesVbus q k
      let q := { q with pol.accepted := true }
      let rise := decide (k.volt > q.target) ||
        (!change && decide ((q.pol.contract.map Contract.curr).getD 0 < k.curr))
      let q := if change && q.st = .contracted then q.setSt .castingOn else q
      let q := if rise then setRating k.curr q else q
      if capt then startSlotFor s.time 8 (if change then 15 else 1) q else startSlot s.time 8 q) s

/-- tSrcTransition has passed after Accept (04 R106): the ramp to the new voltage starts, or PS_RDY is
sent where VBUS stays; a refused TARGET makes the engine send Hard Reset. -/
def runTransition (p : PortId) (s : State) : State :=
  match s.ports[p].pol.next with
  | none => s
  | some k =>
    if !s.ports[p].pol.accepted then s
    else if changesVbus s.ports[p] k then
      let refused := targetRefused s.ports[p] k.volt
      let s := writeTarget p k.volt s
      if refused then engineHardReset p s else s
    else sendCtrl p 6 false .psRdy s

/-! ## Results of the caddy (04 R105, R172; 06 R174, R181) -/

/-- The result belongs to a pre-arm request: the partner has asked for nothing yet (03 R78). -/
def prearmWaits (s : State) (p : PortId) : Bool :=
  prearmOn s p && !s.ports[p].pol.spoke && s.ports[p].pol.next.isNone &&
    s.ports[p].pol.contract.isNone

/-- The engine handles a result of its caddy window: outcome 1 to 7 of 06 Table CAD-11. A grant that
no request waits for is withdrawn (06 Table CAD-3). -/
def onCaddyResult (p : PortId) (outcome gout : Nat) (s : State) : State :=
  let l := s.ports[p].pol
  let hold := (s.cadp[p]).hold
  match outcome with
  | 1 =>
    let s := modPol p (fun l => { l with capLimit := none, only5 := false }) s
    if l.reqWait then acceptRequest p s
    else if prearmWaits s p then modPol p (fun l => { l with prearmed := true }) s
    else submitWithdraw p s
  | 2 =>
    let s := modPol p (fun l => { l with capLimit := some hold }) s
    if l.reqWait then rejectRequest p true s
    else if prearmWaits s p then modPol p (fun l => { l with prearmed := true }) s
    else s
  | 3 =>
    let s := modPol p (fun l => { l with capLimit := some hold,
                                         only5 := l.reqWait && l.contract.isNone }) s
    if l.reqWait then rejectRequest p true s else s
  | 4 => reoffer p (modPol p (fun l => { l with capLimit := none, only5 := false }) s)
  | 5 => reoffer p (modPol p (fun l => { l with capLimit := some (s.cadp[p]).target }) s)
  | 6 =>
    if s.ports[p].st = .attachWait then postAttach p (castOnSource p gout s)
    else if s.ports[p].st = .retryWait && l.retrying then castOnSource p gout s
    else if s.ports[p].st = .castingOn && l.hr == .recover && !s.ports[p].gateOn then
      raise5 p (modPol p (fun l => { l with level := gout }) s)
    else modPol p (fun l => { l with level := gout }) s
  | _ => s

/-- Shedding, or the lack of any feed, binds a port off (06 R183, 05 R155): a port that has not raised
its path returns to DETACHED, any other goes through BINDING_OFF. -/
def shedPort (lost : Nat) (p : PortId) (s : State) : State :=
  let q := s.ports[p]
  if q.attached then bindOff p 4 lost s
  else if q.st = .attachWait then enterDetached p s
  else s

end Sys2Proof.Machine
end

