-- ==== Sys2Proof/Machine/Attach.lean ====
section
/-! DEFINITION. Attachment and orientation: the comparator strainer, the debounce, the Try states,
the hardware detach and the VCONN switch (03_attach_and_orientation.md). -/

namespace Sys2Proof.Machine
open Sys2Proof

/-! ## The strainer (03 R55 to R60) -/

/-- The class a slot runs in (03 R55): DET_CLASS for slots 0 to 3 in DETACHED, else its own. -/
def slotClass (q : Port) (n : Fin 8) : Nat :=
  if n.val < 4 && q.st == .detached then F.CC_TICK.DET_CLASS.get q.cc.tick
  else F.CMP_CFG.CLASS.get q.cc.cfg[n]

/-- A slot is off (03 Table ATT-5): slots 0 to 5 in PARKED, but not while a port of a die-level hold still
holds power (12 R324); every slot in FENCED. -/
def slotOff (q : Port) (n : Fin 8) : Bool :=
  (q.st == .parked && n.val < 6 && q.hw.ride.isNone && !q.hw.safeWait) || q.st == .fenced

/-- The pin's LO slot takes no sample while its PHY transmits, the BIST carrier included, or receives, and for 10 µs
after (03 R59). -/
def slotQuiet (now : Nat) (q : Port) (n : Fin 8) : Bool :=
  (decide (now < q.hw.bmcQuiet) || q.phw.bistCarrier) &&
    ((n.val == 0 && q.orient == 1) || (n.val == 2 && q.orient == 2))

/-- The strained output after a sample (03 R58): N of the last M samples, a free value when N is
outside its range. -/
def strainOut (free : Nat) (str : Word) (hist : List Bool) (old : Bool) : Bool :=
  let m := max 1 (F.CMP_STR.M.get str)
  let n := F.CMP_STR.N.get str
  let w := hist.take m
  if n < m / 2 + 1 || n > m then Config.freeBit free
  else if n ≤ (w.filter id).length then true
  else if n ≤ (w.filter (! ·)).length then false
  else old

/-- The decoding of a pin from its strained LO and HI outputs (03 R60). -/
def decode2 (lo hi : Bool) : Nat := if hi then 2 else if lo then 1 else 0

/-- The flag that a strained edge of a slot sets in PRT_EVT (03 Table ATT-15). -/
def edgeFlag (n : Fin 8) (w : Word) : Word :=
  if n.val = 4 || n.val = 5 then F.PRT_EVT.VBUS_CHG.set w
  else if n.val = 6 then F.PRT_EVT.CMP6.set w
  else if n.val = 7 then F.PRT_EVT.CMP7.set w
  else w

/-- The slot's comparator output as the hardware detach and the latch see it (03 R57, R72, R81): CMP_OUT.RAW, in
the sampled class the latest sample, which CMP_LATCH holds; 0 while the slot is off. -/
def compOut (q : Port) (n : Fin 8) : Bool :=
  !slotOff q n && (if slotClass q n == 3 then bitOf q.cc.latch n.val else bitOf q.cc.out n.val)

/-- CMP_OUT.RAW of a slot: 0 while the slot is off or between the samples of the sampled class (03 Table
ATT-23). -/
def rawShown (q : Port) (n : Fin 8) : Bool :=
  !slotOff q n && slotClass q n != 3 && bitOf q.cc.out n.val

/-- CMP_LATCH written: a 1 clears a slot's latch, but not while its setting condition, RAW = 1, is present (03
R57). -/
def writeLatch (v : Word) (q : Port) : Port :=
  let held (w : Word) (n : Fin 8) : Word :=
    if bitOf v n.val && !rawShown q n then clrBit n.val w else w
  { q with cc.latch := (List.finRange 8).foldl held q.cc.latch }

/-- A slot's strained output written, its pin decoded again, the flags of the edges set. -/
def setStrained (n : Fin 8) (v : Bool) (q : Port) : Port :=
  let old := q.strained n
  let out := putBit (8 + n.val) v q.cc.out
  let b (i : Nat) : Bool := bitOf out (8 + i)
  let d1 := decode2 (b 0) (b 1)
  let d2 := decode2 (b 2) (b 3)
  let chg := d1 != q.dec1 || d2 != q.dec2
  let evt := if old != v then edgeFlag n q.core.evt else q.core.evt
  syncTxOk { q with
    cc.out := out
    cc.stat := F.CC_STAT.CC1_DEC.put d1 (F.CC_STAT.CC2_DEC.put d2 q.cc.stat)
    core.evt := if chg then F.PRT_EVT.CC_CHG.set evt else evt
    hw.cvWait := q.hw.cvWait && !(n.val == 6 && v) }

/-- A slot's strainer takes a sample: raw output, latch, history and strained output (03 R57, R58). -/
def takeSample (free : Nat) (n : Fin 8) (raw : Bool) (q : Port) : Port :=
  let sampled := slotClass q n == 3
  let hist := (raw :: q.hw.strain[n]).take 15
  let q := { q with
    cc.latch := if sampled then putBit n.val raw q.cc.latch
      else if raw then setBit n.val q.cc.latch else q.cc.latch
    cc.out := putBit n.val (raw && !sampled) q.cc.out
    hw.strain := q.hw.strain.set n hist }
  setStrained n (strainOut free q.cc.str[n] hist (q.strained n)) q

/-! ## What a change of the decoded pattern does -/

/-- The port is in a Try or TryWait state whose pattern is timed by TTRYDEB (03 Table ATT-8). -/
def Port.trying (q : Port) : Bool := q.tc == 4 || q.tc == 5 || q.tc == 9

/-- The detach-hold clock at a strained sample of a CC pin (05 R148, R150): it runs from the first sample with a
non-attach pattern and stops at an attach pattern. -/
def absClock (now : Nat) (q : Port) : Port := if (q.pattern).isSome then stopAbs q else startAbs now q

/-- The debounce that an attach pattern starts in the port's present Type-C state: TTRYDEB in the Try states, else
the attach debounce (03 R68, R69, Table ATT-8); none in Try.SNK before TDRPTRY has passed. -/
def patternDeb (s : State) (p : PortId) (q : Port) : Port :=
  if q.tc == 9 && !q.hw.tryPassed then q
  else startDeb s.time (if q.trying then tryDeb q else attDeb s p) q

/-- VBUS below vSafe0V in TRIPPED or RETRY_WAIT: a waiting PORT_DISABLE (05 R152), the absence of the module (05
R148), or the cast-on of a due retry (05 R147) goes on. -/
def polVsafe (p : PortId) (s : State) : State :=
  let q := s.ports[p]
  if q.pol.parkWait then
    enterParked p (modPol p (fun l => { l with enabled := false }) (postDetach p 1 .parked s))
  else if q.pol.tripDetach then enterDetached p (postDetach p 3 .detached s)
  else if q.st = .retryWait && q.pol.castWait then retryCast p s
  else s

/-- The hardware's part of a changed pattern: the debounce (03 R68) and the time of a non-attach pattern. -/
def patternHw (s : State) (p : PortId) (q : Port) : Port :=
  let att := (q.pattern).isSome
  let q := { q with hw.nonAttach := if att then none else some (q.hw.nonAttach.getD s.time) }
  match q.st with
  | .attachWait => if att then patternDeb s p q else stopDeb q
  | .tripped | .retryWait =>
    if att then { q with pol.tripDetach := false } else q
  | _ => q

/-- A Try or TryWait state entered with the pattern that the pins already show: its debounce starts at once (03
R68). -/
def tryPattern (s : State) (p : PortId) (q : Port) : Port :=
  if (q.pattern).isSome then patternDeb s p q else q

/-- TryWait.SRC: Rp on both pins, TDRPTRY running (03 Table ATT-8). -/
def toTryWaitSrc (s : State) (p : PortId) (q : Port) : Port :=
  tryPattern s p { ((setTerms 1 1 (stopDeb q)).setTc 5) with hw.drpTry := some s.time, hw.tryPassed := false }

/-- TryWait.SNK: Rd on both pins. -/
def toTryWaitSnk (s : State) (p : PortId) (q : Port) : Port :=
  let q := { ((setTerms 2 2 (stopDeb q)).setTc 10) with hw.drpTry := none }
  tryPattern s p { q with hw.nonAttach := if (q.pattern).isSome then none else some s.time }

/-- Try.SRC: Rp on both pins, TDRPTRY running. -/
def toTrySrc (s : State) (p : PortId) (q : Port) : Port :=
  tryPattern s p { ((setTerms 1 1 q).setTc 4) with hw.drpTry := some s.time }

/-- The engine's part of a debounce end (03 Table ATT-7, Table ATT-8): Try.SRC or Try.SNK, the sink
attachment once VBUS is present, or the cast-on of a source. -/
def polDebDone (p : PortId) (s : State) : State :=
  let q := s.ports[p]
  if q.st ≠ .attachWait || q.hw.deb.isSome || (q.pattern).isNone then s
  else
    let try_ := F.PRT_CFG.TRY.get q.core.cfg
    if q.tc = 7 || q.tc = 10 then
      if !q.strained 5 then s
      else if q.tc = 7 && (try_ == 1 || try_ == 3) then modPort p (toTrySrc s p) s
      else castAs p s
    else if q.tc = 2 && try_ = 2 && roleOf s p = 2 then
      modPort p (fun q => { ((setTerms 2 2 q).setTc 9) with
        hw.drpTry := some s.time, hw.tryPassed := false }) s
    else castAs p s

/-- A port held in ATTACH_WAIT under 05 R149, or waiting for VBUS, acts as its debounce's end once nothing holds it:
the pattern has lasted its debounce and still stands. -/
def leaveHold (p : PortId) (s : State) : State :=
  let q := s.ports[p]
  if q.st ≠ .attachWait || q.hw.deb.isSome || (q.pattern).isNone || (q.tc = 9 && !q.hw.tryPassed) then s
  else if q.trying then castAs p s
  else polDebDone p s

/-- The engine's part of a due retry (05 R147, R149): from RETRY_WAIT with its own reservation, from ATTACH_WAIT as
the debounce's end. A retry due while rows are paused waits for them. -/
def polRetry (p : PortId) (s : State) : State :=
  if F.CAD_STAT.PAUSED.on s.cad.regs.stat then s
  else if s.ports[p].st = .retryWait then retryCast p s
  else leaveHold p s

/-- The engine's part of a strained change: entry into ATTACH_WAIT; the Try states whose pattern went away after
TDRPTRY; a sink attachment that waited for VBUS. -/
def polPattern (p : PortId) (s : State) : State :=
  let q := s.ports[p]
  if q.st = .detached && (q.pattern).isSome then enterAttachWait p s
  else if q.st = .attachWait && (q.pattern).isNone then
    if q.tc = 9 && q.hw.tryPassed then modPort p (toTryWaitSrc s p) s
    else if q.tc = 5 && q.hw.drpTry.isNone then enterDetached p s
    else s
  else if q.st = .attachWait && (q.tc = 7 || q.tc = 9 || q.tc = 10) then leaveHold p s
  else if q.st = .retryWait && !q.strained 4 then polVsafe p s
  else s

/-- SWAP suspends the detach of the port, but not while its own gate is enabled (04 R116). -/
def Port.swapHolds (q : Port) : Bool := F.PD_PHYCFG.SWAP.on q.pd.phycfg && !q.gateOn

/-- VBUS_HI strained 0 in Attached.SNK outside a swap (03 Table ATT-8): the sink path opens without
discharge and the port enters BINDING_OFF. After a Hard Reset the path opens alone, while CC shows Rp; the return of
VBUS ends that wait (04 R99). -/
def sinkDetach (now : Nat) (q : Port) : Port :=
  if q.attached && q.tc == 8 && !q.swapHolds then
    if q.strained 5 then (if q.pol.hr == .sinkWait then { q with pol.hr := .none } else q)
    else if q.pol.hr == .sinkWait && (q.pattern).isSome then sinkPathOff q
    else
      let q := (vconnOpen (sinkPathOff q)).hwSt .bindingOff
      { q with core.evt := F.PRT_EVT.DETACH_HW.set q.core.evt, hw.detAt := some now }
  else q

/-- What the engine does after a hardware detach (04 R101, 09 Table CMD-11). -/
def polDetach (p : PortId) (s : State) : State :=
  modPol p (fun l => { l with detachCause := some 0, detachAt := s.ports[p].hw.detAt }) (resetContexts p (loseContract p 3 0 s))

/-- CMP_STRAINER_SAMPLE (03 R58): nothing while the slot is off or its pin's PHY is busy. -/
def strainerSample (p : PortId) (n : Fin 8) (raw : Bool) (s : State) : State :=
  let q := s.ports[p]
  if slotOff q n || slotQuiet s.time q n then s
  else
    let q1 := takeSample s.free n raw q
    let turned := q1.dec1 != q.dec1 || q1.dec2 != q.dec2
    let q2 := if n.val < 4 then absClock s.time q1 else q1
    let q2 := if turned then patternHw s p q2 else q2
    let q3 := if n.val = 5 || q2.pol.hr == .sinkWait then sinkDetach s.time q2 else q2
    let s := { (modPort p (fun _ => q3) s) with free := s.free + 1 }
    if q3.st ≠ q.st then atPolicy p (.hardwareDetach p) (polDetach p) s
    else if turned || q3.strained n != q.strained n then
      atPolicy p (.cmpStrainerSample p n raw) (polPattern p) s
    else s

def execCmpStrainerSample (p : PortId) (n : Fin 8) (raw : Bool) (s : State) :
    Host.Outcome State Fault Refusal :=
  .next (strainerSample p n raw s)

/-! ## Debounce and Try timers -/

/-- DEB_DONE (03 R68): the debounce under way completes; the engine acts on it. -/
def debDone (p : PortId) (s : State) : State :=
  let q := s.ports[p]
  if q.st = .attachWait && q.hw.deb.isSome && !q.trying then
    atPolicy p (.debDone p) (polDebDone p) (modPort p (fun q =>
      let q := stopDeb q
      { q with core.evt := F.PRT_EVT.DEB_DONE.set q.core.evt }) s)
  else s

def execDebDone (p : PortId) (s : State) : Host.Outcome State Fault Refusal := .next (debDone p s)

/-- The engine returns an ATTACH_WAIT port without a pattern to DETACHED (03 Table ATT-7). -/
def polPddeb (p : PortId) (s : State) : State :=
  let q := s.ports[p]
  if q.st = .attachWait && (q.pattern).isNone && !q.trying then enterDetached p s else s

/-- PDDEB_EXPIRY (03 R67). -/
def execPddebExpiry (p : PortId) (s : State) : Host.Outcome State Fault Refusal :=
  .next (if s.ports[p].hw.nonAttach.isSome then atPolicy p (.pddebExpiry p) (polPddeb p) s else s)

/-- A TRIPPED or RETRY_WAIT port whose module is gone goes to DETACHED once VBUS is below vSafe0V
(05 R148). -/
def polTrippedDetach (p : PortId) (s : State) : State :=
  let q := s.ports[p]
  if (q.st = .tripped || q.st = .retryWait) && (q.pattern).isNone then
    if q.strained 4 then modPol p (fun l => { l with tripDetach := true }) s
    else enterDetached p (postDetach p 3 .detached s)
  else s

/-- TRIPPED_DETACH (05 R148). -/
def execTrippedDetach (p : PortId) (s : State) : Host.Outcome State Fault Refusal :=
  .next (if s.ports[p].hw.nonAttach.isSome then
    atPolicy p (.trippedDetach p) (polTrippedDetach p) s else s)

/-- The front die's part of a hardware detach (03 R72): gate and CEN down, sink on, VCONN off,
BINDING_OFF; the hardware ends an AMS under way (04 R92). -/
def detachHw (now : Nat) (q : Port) : Port :=
  let q := amsRestore ((vconnOpen (sinkOn (cenOff (gateOff q)))).hwSt .bindingOff)
  { q with core.evt := F.PRT_EVT.DETACH_HW.set q.core.evt, hw.detAt := some now }

/-- The watched pin's HI slot shows an open pin, with ORIENT 0b00 both pins' (03 R71, R72). -/
def watchedOpen (q : Port) : Bool :=
  if q.orient = 1 then compOut q 1 else if q.orient = 2 then compOut q 3 else compOut q 1 && compOut q 3

/-- HARDWARE_DETACH (03 R72): in CASTING_ON and CONTRACTED on a port presenting Rp whose watched pin is open, but
not while a PR_Swap suspends it; in ride-through it ends the hold (12 R322). -/
def hardwareDetach (p : PortId) (s : State) : State :=
  let q := s.ports[p]
  if !watchedOpen q then s
  else if q.hw.ride.isSome then modPort p safeOff s
  else if q.attached && !q.rdPhase && !q.swapHolds then
    atPolicy p (.hardwareDetach p) (polDetach p) (modPort p (detachHw s.time) s)
  else s

def execHardwareDetach (p : PortId) (s : State) : Host.Outcome State Fault Refusal :=
  .next (hardwareDetach p s)

/-- DRP alternation runs: HW_DRP on a DRP port in DETACHED with no strained pattern (03 R69). -/
def alternating (s : State) (p : PortId) : Bool :=
  let q := s.ports[p]
  q.st == .detached && F.CC_CTL.HW_DRP.on q.cc.ctl && roleOf s p == 2 && (q.pattern).isNone

/-- One phase of the alternation ends: Rp and Rd change places on both pins. -/
def togglePhase (q : Port) : Port :=
  if F.CC_STAT.DRP_PHASE.on q.cc.stat then
    let q := (setTerms 1 1 q).setTc 1
    { q with cc.stat := F.CC_STAT.DRP_PHASE.clr q.cc.stat }
  else
    let q := (setTerms 2 2 q).setTc 6
    { q with cc.stat := F.CC_STAT.DRP_PHASE.set q.cc.stat }

/-- DRP_PHASE_TOGGLE (03 R69). -/
def execDrpPhaseToggle (p : PortId) (s : State) : Host.Outcome State Fault Refusal :=
  .next (if alternating s p then modPort p togglePhase s else s)

/-- What the engine does when TDRPTRY has passed (03 Table ATT-8). -/
def polDrpTry (p : PortId) (s : State) : State :=
  let q := s.ports[p]
  if q.st ≠ .attachWait then s
  else match q.tc with
    | 4 => modPort p (toTryWaitSnk s p) s
    | 9 =>
      if (q.pattern).isNone then modPort p (toTryWaitSrc s p) s
      else modPort p (fun q => patternDeb s p { q with hw.tryPassed := true }) s
    | 5 => if (q.pattern).isNone then enterDetached p s else s
    | _ => s

/-- TDRPTRY_EXPIRY (03 R69): CC_TMR is set. -/
def execTdrptryExpiry (p : PortId) (s : State) : Host.Outcome State Fault Refusal :=
  .next (if s.ports[p].hw.drpTry.isSome then
    atPolicy p (.tdrptryExpiry p) (polDrpTry p) (modPort p (fun q => { q with
      hw.drpTry := none, core.evt := F.PRT_EVT.CC_TMR.set q.core.evt }) s) else s)

/-- What the engine does when a pattern of a Try state has lasted TTRYDEB (03 Table ATT-8). -/
def polTryDeb (p : PortId) (s : State) : State :=
  let q := s.ports[p]
  if q.st ≠ .attachWait || (q.pattern).isNone then s
  else if q.trying then castAs p s
  else s

/-- TTRYDEB_EXPIRY (03 R69). -/
def execTtrydebExpiry (p : PortId) (s : State) : Host.Outcome State Fault Refusal :=
  .next (if s.ports[p].st = .attachWait && s.ports[p].hw.deb.isSome && s.ports[p].trying then
    atPolicy p (.ttrydebExpiry p) (polTryDeb p) (modPort p (fun q =>
      let q := stopDeb q
      { q with core.evt := F.PRT_EVT.CC_TMR.set q.core.evt }) s) else s)

/-! ## Register writes with an effect -/

/-- CC_CTL_WRITE (03 R74). -/
def execCcCtlWrite (p : PortId) (v : Word) (s : State) : Host.Outcome State Fault Refusal :=
  .next (if frontDrives s p then modPort p (writeCcCtl v) s else s)

/-- A strainer setting written: the slot's history takes its present strained output (03 R58). -/
def writeStr (n : Fin 8) (v : Word) (q : Port) : Port :=
  { q with cc.str := q.cc.str.set n (v &&& 0xFFFF),
           hw.strain := q.hw.strain.set n (List.replicate 15 (q.strained n)) }

/-- CMP_STR_WRITE (03 R58). -/
def execCmpStrWrite (p : PortId) (n : Fin 8) (v : Word) (s : State) :
    Host.Outcome State Fault Refusal :=
  .next (if frontWrites s p then modPort p (writeStr n v) s else s)

/-- VCONN_CTL written (03 R73 item 2): VCONN_EN reads 0 when VCONN_PIN is the oriented pin; the switch
follows VCONN_EN, and a change of VCONN_PIN opens it on the old pin, which is discharged, before it closes on the
new one. -/
def writeVconn (v : Word) (q : Port) : Port :=
  let w := (q.cc.vctl &&& ~~~0xFF03) ||| (v &&& 0xFF03)
  let pin := F.VCONN_CTL.VCONN_PIN.get w
  let en := F.VCONN_CTL.VCONN_EN.on w && pin + 1 != q.orient
  let stays := en && pin == F.VCONN_CTL.VCONN_PIN.get q.cc.vctl
  let q0 := if stays then q else vconnOpen q
  let q1 := { q0 with cc.vctl := F.VCONN_CTL.VCONN_EN.setTo en w }
  syncTxOk (if en then vconnClose q1 else q1)

/-- VCONN_CTL_WRITE (03 R73). -/
def execVconnCtlWrite (p : PortId) (v : Word) (s : State) : Host.Outcome State Fault Refusal :=
  .next (if frontDrives s p then modPort p (writeVconn v) s else s)

/-- The front die opens a closed VCONN switch and sets the flag of its reason (03 R73 items 4 to 6). -/
def vconnFault (f : Fld) (q : Port) : Port :=
  let q := vconnOpen q
  { q with cc.vstat := f.set q.cc.vstat, core.evt := F.PRT_EVT.VCONN_FLT.set q.core.evt }

/-- A closed VCONN switch opens for a reason; the engine then turns the cable contexts off (04 R86, 03 R73). -/
def loseVconn (p : PortId) (f : Fld) (i : Instr) (s : State) : State :=
  if s.ports[p].vconnOn then atPolicy p i (polVconnLost p) (modPort p (vconnFault f) s) else s

def execVconnOcp (p : PortId) (s : State) : Host.Outcome State Fault Refusal :=
  .next (loseVconn p F.VCONN_STAT.OCP (.vconnOcp p) s)

def execVconnAggOff (p : PortId) (s : State) : Host.Outcome State Fault Refusal :=
  .next (loseVconn p F.VCONN_STAT.AGG_OFF (.vconnAggOff p) s)

def execVconnRev (p : PortId) (s : State) : Host.Outcome State Fault Refusal :=
  .next (loseVconn p F.VCONN_STAT.REV (.vconnRev p) s)

/-- VCONN_DISCHARGE_DONE (03 R73 item 7): the discharge ends and the pin's termination, which CC_CTL
holds, returns. -/
def execVconnDischargeDone (p : PortId) (s : State) : Host.Outcome State Fault Refusal :=
  .next (modPort p (fun q => syncTxOk { q with hw.vdis := none }) s)

end Sys2Proof.Machine
end

