-- ==== Sys2Proof/Machine/Health.lean ====
section
/-! DEFINITION. The degraded conditions, the STATUS code and the level of SAFE_N
(12_safety_watchdog_degraded.md), and system events of the control pair. -/

namespace Sys2Proof.Machine
open Sys2Proof

/-- The control pair runs its firmware after RUN (11 R309). -/
def cpRuns (s : State) : Bool := s.boot.phase == .running

/-- A system event kept for RUN, with its time (08 R232, 11 R301). -/
def keepEvent (src : Nat) (data : Word) (s : State) : State :=
  { s with boot := { s.boot with postRun := s.boot.postRun ++ [(s.time, src, data)] } }

/-- A system event of the control pair: posted now, or after RUN when a start is under way (11 R301). -/
def postCp (src : Nat) (data : Word) (s : State) : State :=
  if cpRuns s then postSys src data s else keepEvent src data s

/-! ## Degraded operation (12 R338) -/

/-- Bits 6:0 of SAF_HEALTH. -/
def healthBits (s : State) : Nat := s.saf.health.toNat % 128

/-- REPLACE_N is low: degraded operation or the service loader (11 R313, 12 R338). -/
def replaceLow (s : State) : Bool := healthBits s != 0 || s.boot.phase == .loader

/-- A condition of 12 Table SAF-5 set or cleared by its bit; a change posts DEGRADED (09 Table CMD-12:
31 REPLACE_N asserted). -/
def setHealth (bit : Nat) (on : Bool) (s : State) : State :=
  if bitOf s.saf.health bit = on then s
  else
    let s := { s with saf := { s.saf with health := putBit bit on s.saf.health } }
    postCp 1156 (BitVec.ofNat 32 (healthBits s + if replaceLow s then 2147483648 else 0)) s

/-! ## STATUS and SAFE_N (11 R316, 12 R326) -/

/-- Some front die is in a die-level hold. -/
def anyHold (s : State) : Bool := F.SAF_STAT.HOLD.get s.saf.stat != 0

/-- The STATUS code. -/
def statusCode (s : State) : Nat :=
  match s.boot.phase with
  | .held => 1
  | .fuseFail => 5
  | .clockFail => 6
  | .clocks | .raise | .entered => if s.boot.clk110 then 6 else 1
  | .warm => 2
  | .loader => 3
  | .running => if anyHold s then 4 else if healthBits s != 0 then 7 else 0

/-- A port keeps SAFE_N low: it rides through, or its safe state has not reached vSafe0V. -/
def portUnsafe (s : State) : Bool :=
  s.ports.toList.any fun q => q.hw.ride.isSome || q.hw.safeWait

/-- SAFE_N is high. -/
def safeHigh (s : State) : Bool :=
  let c := statusCode s
  !(c == 1 || c == 3 || c == 4 || c == 5 || c == 6) && !portUnsafe s &&
    (s.boot.phase != .warm || s.boot.safeW1)

/-- SAF_STAT as it reads: SAFE shows the level of SAFE_N (12 Table SAF-7). -/
def safStat (s : State) : Word := F.SAF_STAT.SAFE.setTo (safeHigh s) s.saf.stat

end Sys2Proof.Machine
end

