-- ==== Sys2Proof/Machine/Caddy.lean ====
section
/-! DEFINITION. The caddy's commands: the engines' submissions, row boundaries, shedding
(06_caddy_power_ledger.md). -/

namespace Sys2Proof.Machine
open Sys2Proof

/-! ## Submissions (06 R163, R166, R167) -/

/-- RESERVE (06 R163); an unpopulated port is never granted power (02 R39). -/
def execReserve (p : PortId) (s : State) : Host.Outcome State Fault Refusal := 
  .next (if hwUp s && !unpopulated s p then (reserve p s).1 else s)

/-- PREARM, with the voltage in 100 mV and the power in 10 mW (03 R78, 06 R167). -/
def execPrearm (p : PortId) (volt pout : Nat) (s : State) : Host.Outcome State Fault Refusal :=
  .next (if hwUp s && !unpopulated s p then submit p true volt pout s else s)

/-- CADDY_REQUEST (06 R167). -/
def execCaddyRequest (p : PortId) (volt pout : Nat) (s : State) : Host.Outcome State Fault Refusal :=
  .next (if hwUp s && !unpopulated s p then submit p false volt pout s else s)

/-- DONE (06 Table CAD-3). -/
def execDone (p : PortId) (volt pout : Nat) (s : State) : Host.Outcome State Fault Refusal :=
  .next (if hwUp s then submitDone p volt pout s else s)

/-- WITHDRAW (06 Table CAD-3). -/
def execWithdraw (p : PortId) (s : State) : Host.Outcome State Fault Refusal :=
  .next (if hwUp s then submitWithdraw p s else s)

/-! ## Row boundaries (06 R168 to R171) -/

/-- A result reaches the engine of its port (06 R176); it waits in the window while no engine runs. -/
def giveResult (p : PortId) (outcome gout : Nat) (s : State) : State :=
  if portServed s p then onCaddyResult p outcome gout (ackResult p s) else s

/-- CADDY: CAD_EVT and the deficit (09 Table CMD-12). -/
def postCaddy (s : State) : State :=
  postCp 1154 (BitVec.ofNat 32 (s.cad.regs.evt.toNat % 128
    + 4096 * F.CAD_DEFICIT.VALUE.get s.cad.regs.deficit)) s

/-- Ports the caddy binds off (06 R183): BINDOFF is set. -/
def bindOffs (l : List PortId) (s : State) : State :=
  if l.isEmpty then s else forPorts l (shedPort 1) (cadEvt F.CAD_EVT.BINDOFF s)

/-- A row boundary with what the engines do with its results (06 R171, R176, R183), and the copies of the ledger that
CADDY_STATUS waits for (09 R262). -/
def boundary (s : State) : State :=
  let evt0 := s.cad.regs.evt
  let (s, results, offs) := rowBoundary s
  let s := bindOffs offs (copyLedger s)
  let s := if s.cad.regs.evt != evt0 then postCaddy s else s
  let s := results.foldl (fun s r => giveResult r.1 r.2.1 r.2.2 s) s
  forPorts (allPorts.filter (portServed s)) presentV5 s

/-- ROW_BOUNDARY (06 R168, R169, R171): a boundary of LEN, with SYNC_EN = 0 or after SYNC_LOST; in standby the caddy's
clock stands (10 R294). -/
def execRowBoundary (s : State) : Host.Outcome State Fault Refusal :=
  let sync := F.CAD_ROWCFG.SYNC_EN.on s.cad.act.rowcfg
  .next (if hwUp s && !s.cru.standby && (!sync || s.cad.syncLost) && !F.CAD_STAT.PAUSED.on s.cad.regs.stat then
    boundary { s with cad := { s.cad with syncLost := sync && s.cad.syncLost } } else s)

/-- ROW_SYNC_EDGE, with the edge's direction and the µs since the previous boundary (06 R169): an edge of
the other polarity, or with SYNC_EN = 0, makes no boundary; one within 250 µs is ignored with
SYNC_EARLY. -/
def execRowSyncEdge (rising : Bool) (sincePrev : Nat) (s : State) :
    Host.Outcome State Fault Refusal :=
  let cfg := s.cad.act.rowcfg
  .next (if !hwUp s || s.cru.standby || !F.CAD_ROWCFG.SYNC_EN.on cfg || F.CAD_ROWCFG.SYNC_EDGE.on cfg != !rising
      || F.CAD_STAT.PAUSED.on s.cad.regs.stat then s
    else if sincePrev < 250 then postCaddy (cadEvt F.CAD_EVT.SYNC_EARLY s)
    else boundary { s with cad := { s.cad with syncLost := false } })

/-- SYNC_LOST (06 R169): the caddy makes the boundary itself and runs on LEN until the next edge. -/
def execSyncLost (s : State) : Host.Outcome State Fault Refusal :=
  .next (if hwUp s && !s.cru.standby && F.CAD_ROWCFG.SYNC_EN.on s.cad.act.rowcfg
      && !F.CAD_STAT.PAUSED.on s.cad.regs.stat then
      boundary (postCaddy (cadEvt F.CAD_EVT.SYNC_LOST { s with cad := { s.cad with syncLost := true } }))
    else s)

/-! ## Shedding (06 R182, R183) -/

/-- A victim that has neither settled nor been limited. -/
def unsettled (c : CadPort) : Bool :=
  F.CAD_PHOLD.SHED.on c.regs.phold && !F.CAD_PHOLD.SETTLED.on c.regs.phold &&
    !F.CAD_PHOLD.LIMITED.on c.regs.phold && !c.planned

/-- The voltage of a victim, in 100 mV: its contract's, as last reported, else its ceiling (06 R181). -/
def victimVolt (s : State) (p : PortId) : Nat :=
  match (s.cadp[p]).contract with
  | some (v, _) => v
  | none => F.PTH_CEIL.CEIL.get s.ports[p].pth.ceil

/-- The limit of a victim, in 10 mA: its target's output power over the voltage (06 R182). -/
def victimLim (s : State) (p : PortId) : Nat :=
  coverAt s (victimVolt s p) (s.cadp[p]).target * 10 / max 1 (victimVolt s p)

/-- One victim at its deadline: limited and counted at its target, or bound off (06 R182, R183). The holding itself
falls to the target (DESIGN CHOICE, log entry 92). -/
def victimDeadline (p : PortId) (s : State) : State :=
  let lim := victimLim s p
  if max 1 (F.CAD_SHED.LIMMIN.get s.cad.act.shed) ≤ lim then
    let s := modPort p (setCadLim (min 1023 lim)) s
    syncCommit (modCad p (fun c => { (c.setHold (min c.hold c.target)) with
      regs.phold := F.CAD_PHOLD.LIMITED.set (c.setHold (min c.hold c.target)).regs.phold }) s)
  else bindOffs [p] (modCad p (fun c => { c with
    planned := true, regs.phold := F.CAD_PHOLD.SHED.clr c.regs.phold }) s)

/-- SHED_DEADLINE (06 R182, R184): it acts on the unsettled victims whose deadline counts from the
earliest boundary; nothing while rows are paused (06 R170). -/
def execShedDeadline (s : State) : Host.Outcome State Fault Refusal :=
  let vs := allPorts.filter fun p => unsettled s.cadp[p]
  .next (match (vs.map fun p => (s.cadp[p]).shedAt).min? with
    | none => s
    | some t =>
      if F.CAD_STAT.PAUSED.on s.cad.regs.stat || !F.CAD_STAT.SHEDDING.on s.cad.regs.stat then s
      else postCaddy (forPorts (vs.filter fun p => (s.cadp[p]).shedAt == t) victimDeadline s))

/-- UPGRADE_HOLD_END (06 R174): the held units above the contract in force return and the standing
request ends. -/
def execUpgradeHoldEnd (p : PortId) (s : State) : Host.Outcome State Fault Refusal :=
  .next (if (s.cadp[p]).upg.isSome && !F.CAD_STAT.PAUSED.on s.cad.regs.stat then
      submitWithdraw p (modCad p (fun c => { c with upg := none, stand := none }) s)
    else s)

/-- CAD_ROWLO_READ (06 R168): the high half of the row count is latched. -/
def execCadRowloRead (s : State) : Host.Outcome State Fault Refusal :=
  .next { s with cad := { s.cad with rowHi := some (BitVec.ofNat 32 (s.cad.row / 4294967296)) } }

end Sys2Proof.Machine
end

