-- ==== Sys2Proof/Machine/Hold.lean ====
section
/-! DEFINITION. Die-level holds and the safe state of a port (12_safety_watchdog_degraded.md R320 to
R326, 10 R282). -/

namespace Sys2Proof.Machine
open Sys2Proof

/-- A die is in a die-level hold. -/
def dieHeld (s : State) (d : DieId) : Bool := bitOf s.saf.stat (8 + d.val)

/-- The thermal comparator of a die is above TRIP. -/
def dieHot (s : State) (d : DieId) : Bool := bitOf s.saf.stat (4 + d.val)

/-- SAF_STAT changed. -/
def modSafStat (f : Word → Word) (s : State) : State :=
  { s with saf := { s.saf with stat := f s.saf.stat } }

/-- A flag of SAF_EVT set. -/
def safEvt (f : Fld) (s : State) : State :=
  { s with saf := { s.saf with evt := f.set s.saf.evt } }

/-- STITCH: the die and whether its link is up (09 Table CMD-12). -/
def postStitch (d : DieId) (up : Bool) (s : State) : State :=
  postCp 1158 (BitVec.ofNat 32 (d.val + if up then 256 else 0)) s

/-- THERMAL: the die and whether it is over temperature. -/
def postThermal (d : DieId) (above : Bool) (s : State) : State :=
  postCp 1165 (BitVec.ofNat 32 (d.val + if above then 256 else 0)) s

/-- A port that is enabled, populated and PARKED enters DETACHED (03 R62); not in a die-level hold. -/
def enablePort (p : PortId) (s : State) : State :=
  let q := s.ports[p]
  if q.pol.enabled && q.st = .parked && !unpopulated s p && linkUp s (dieOf p) && !dieHeld s (dieOf p) then
    enterDetached p s
  else s

/-- The ports of a die that joins are enabled, once the device runs; before RUN that waits for RUN
(10 R282, 11 Table RST-2). -/
def enableDie (d : DieId) (s : State) : State :=
  if cpRuns s then forPorts (portsOfDie d) enablePort s else s

/-- The hold of a die ends, once its link is up, it is not over temperature, and no port rides through:
it leaves with every port off and joins (12 R324, R325). The end of a thermal hold posts THERMAL in
place of STITCH (log entry 27). -/
def endHoldOf (thermal : Bool) (d : DieId) (s : State) : State :=
  if dieHeld s d && linkUp s d && !dieHot s d
      && (portsOfDie d).all (fun p => s.ports[p].hw.ride.isNone) then
    let s := safEvt F.SAF_EVT.HOLD_END (modSafStat (clrBit (8 + d.val)) s)
    enableDie d (if thermal then postThermal d false s else postStitch d true s)
  else s

/-- The hold of a die ends after a link loss. -/
def endHold (d : DieId) (s : State) : State := endHoldOf false d s

/-- The fused safe state of a port (12 R320 to R322): ride-through where the fuse says so and the port is
AT_TARGET with its gate on, else "off". -/
def safeFused (p : PortId) (s : State) : State :=
  let ride := fusedRide s p
  modPort p (fun q =>
    if ride && q.atTarget && q.gateOn then
      { q with hw.ride := some (q.hw.ride.getD s.time), hw.trim := 0 }
    else safeOff q) s

/-- The "off" safe state of a port. -/
def safePort (p : PortId) (s : State) : State := modPort p safeOff s

/-- Once a port is off and VBUS is below vSafe0V the front die opens both CC pins (12 R324). -/
def openPins (q : Port) : Port :=
  if q.hw.ride.isNone && !q.hw.safeWait then setTerms 0 0 q else q

/-- What the engines and the caddy do with a port whose die enters a hold (12 R324): CONTRACT_LOST with
cause 4, then DETACH with cause 1; the contexts reset, the port recorded as PARKED, the holding
released. The enabled state stays; a PORT_DISABLE under way takes effect. -/
def parkHeld (p : PortId) (s : State) : State :=
  let q := s.ports[p]
  if q.st = .fenced || q.st = .parked then s
  else
    let s := loseContract p 4 0 s
    let s := if q.attached || q.st = .tripped || q.st = .retryWait then postDetach p 1 .parked s
      else match q.pol.detachCause with
        | some c => postKept p c .parked s
        | none => s
    let off := q.pol.kept == some false || q.pol.parkWait
    let s := resetContexts p s
    let s := modPort p (fun q =>
      let q := (q.setSt .parked).setTc 0
      let q := { q with core.state := q.core.state |> F.PRT_STATE.ORIENT.clr |> F.PRT_STATE.DEBUG.clr
        |> F.PRT_STATE.NOPD.clr }
      let l := { q.pol with enabled := q.pol.enabled && !off, kept := none, parkWait := false,
                            detachCause := none, detachAt := none, errRecovery := false, retrying := false,
                            castWait := false, pend := [] }
      openPins (stopAbs (stopDeb { q with pol := l }))) s
    completeParked p (caddyRelease p s)

/-- A die enters a hold: its ports take their safe states and are recorded as PARKED (12 R324, R325). -/
def holdDie (d : DieId) (safe : PortId → State → State) (s : State) : State :=
  let s := modSafStat (setBit (8 + d.val)) s
  forPorts (portsOfDie d) (fun p s => parkHeld p (safe p s)) s

/-- A stitch link goes down (12 R324). -/
def loseLink (d : DieId) (safe : PortId → State → State) (s : State) : State :=
  if linkUp s d then
    let s := safEvt F.SAF_EVT.LINK_DOWN (modSafStat (clrBit d.val) s)
    postStitch d false (holdDie d safe s)
  else forPorts (portsOfDie d) (fun p s => if s.ports[p].hw.ride.isSome then safe p s else s) s

/-- A link comes up: the first time since the cold start the die joins, after a hold it leaves the hold
(10 R282, 12 R324). -/
def gainLink (d : DieId) (s : State) : State :=
  if !hwUp s || linkUp s d then s
  else
    let held := dieHeld s d
    let s := modSafStat (setBit d.val) s
    if held then endHold d s
    else if s.boot.phase == .entered then s
    else enableDie d (postStitch d true s)

end Sys2Proof.Machine
end

