-- ==== Sys2Proof/Machine/Path.lean ====
section
/-! DEFINITION. The power path: ramps, the FBS trim, the monitors' trips, the curve breaker, discharge
and retries (05_power_path_and_breaker.md). A monitor's command is the detection itself: its row names
the condition, which the analogue front end has judged. -/

namespace Sys2Proof.Machine
open Sys2Proof

/-! ## Ramps (05 R127 to R133) -/

/-- GATE_RAMP_START (05 R130): PATH_EN changes from 0 to 1. -/
def execGateRampStart (p : PortId) (s : State) : Host.Outcome State Fault Refusal :=
  .next (if frontDrives s p && !F.PTH_CTL.PATH_EN.on s.ports[p].pth.ctl then
    modPort p (startGateRamp s.time) s else s)

/-- TARGET_WRITE (05 R130, R131). -/
def execTargetWrite (p : PortId) (target : Nat) (s : State) : Host.Outcome State Fault Refusal :=
  .next (if frontWrites s p then writeTarget p (target % 4096) s else s)

/-- CEN_EN written (05 R127); its rise starts the converter-ready timeout (05 R129). -/
def writeCen (en : Bool) (q : Port) : Port :=
  if en then
    { q with pth.ctl := F.PTH_CTL.CEN_EN.set q.pth.ctl
             hw.cvWait := if F.PTH_CTL.CEN_EN.on q.pth.ctl then q.hw.cvWait else !q.strained 6 }
  else cenOff q

/-- CEN_EN_WRITE (05 R127). -/
def execCenEnWrite (p : PortId) (en : Bool) (s : State) : Host.Outcome State Fault Refusal :=
  .next (if frontDrives s p then modPort p (writeCen en) s else s)

/-- A ramp is complete (05 R132): REF equals TARGET, AT_TARGET and RAMP_DONE are set, the limiter is
released, the discharge sink of a falling ramp goes off. -/
def rampEnd (q : Port) : Port :=
  let q := if q.hw.rampDis then sinkOff q else q
  { setFbs (20 * q.target) q with
    pth.ref := F.PTH_REF.REF.put q.target 0
    pth.stat := q.pth.stat |> F.PTH_STAT.LIN.clr |> F.PTH_STAT.CNV.clr |> F.PTH_STAT.LIMIT.clr
      |> F.PTH_STAT.AT_TARGET.set
    pth.evt := F.PTH_EVT.RAMP_DONE.set q.pth.evt
    hw.ovHold := none }

/-- The engine at AT_TARGET: slot 6's threshold (05 R129); PS_RDY of a swap or of an accepted
transition (04 R106, Table PDE-7); or the start of negotiation at vSafe5V, also after a Hard Reset
(03 Table ATT-7, 04 R99). -/
def polRampDone (p : PortId) (s : State) : State :=
  let s := modPort p slot6Threshold s
  let l := s.ports[p].pol
  let k2 : Bool := match l.swap with
    | some w => w.step == .k2
    | none => false
  let negotiate (s : State) : State :=
    if F.PRT_STATE.NOPD.on s.ports[p].core.state then s else sendCaps p false s
  if !s.ports[p].attached || !s.ports[p].isSource then s
  else if k2 then sendCtrl p 6 false (.swapPsRdy 0) s
  else if l.hr == .recover then negotiate (modPol p (fun l => { l with hr := .none }) s)
  else if l.next.isSome && l.accepted then sendCtrl p 6 false .psRdy s
  else if l.contract.isNone && l.hr == .none then negotiate s
  else s

/-- The conditions of AT_TARGET that the model sees (05 R129, R132): REF has reached TARGET, and while the port's
ADC has failed slot 7 shows VBUS across its edge, 1 after a rise and 0 after a fall. That VBUS is within the window
is the row's own condition. -/
def rampComplete (s : State) (p : PortId) : Bool :=
  let q := s.ports[p]
  let falling := decide (q.target < F.PTH_REF.REF.get q.pth.ref)
  q.ramping && refNow s.time q == q.target && (!adcFailed s p || q.strained 7 == !falling)

/-- RAMP_DONE (05 R132). -/
def execRampDone (p : PortId) (s : State) : Host.Outcome State Fault Refusal :=
  .next (if rampComplete s p then
    atPolicy p (.rampDone p) (polRampDone p) (modPort p rampEnd s) else s)

/-- FALLING_RAMP_DISCHARGE (05 R133): the sink on while VBUS is more than 0.5 V above REF in a falling
ramp, off when VBUS is at or below REF. -/
def execFallingRampDischarge (p : PortId) (on : Bool) (s : State) :
    Host.Outcome State Fault Refusal :=
  let q := s.ports[p]
  .next (if on then
      if q.ramping && q.target < F.PTH_REF.REF.get q.pth.ref && !F.PTH_STAT.DIS_ON.on q.pth.stat then
        modPort p (fun q => { (sinkOn q) with hw.rampDis := true }) s
      else s
    else if q.hw.rampDis then modPort p sinkOff s else s)

/-- The trim's next value (05 R128): VBUS above TARGET + 20 mV raises the code, which lowers the
output; below TARGET − 20 mV lowers it; it stops 64 codes away. -/
def trimStep (t : Int) (target vbus : Nat) : Int :=
  if vbus > target + 20 then min 64 (t + 1)
  else if vbus + 20 < target then max (-64) (t - 1)
  else t

/-- FBS_TRIM_STEP, with VBUS in mV (05 R128). -/
def execFbsTrimStep (p : PortId) (vbus : Nat) (s : State) : Host.Outcome State Fault Refusal :=
  let q := s.ports[p]
  .next (if F.PTH_CTL.TRIM_EN.on q.pth.ctl && q.atTarget && q.hw.ride.isNone && !adcFailed s p then
      modPort p (fun q =>
        let t := trimStep q.hw.trim (20 * q.target) vbus
        { q with hw.trim := t
                 pth.fbs := F.PTH_FBS.CODE.putInt
                   (clampInt (-4096) 4095 (F.PTH_FBS.CODE.getInt q.pth.fbs + (t - q.hw.trim))) 0 }) s
    else s)

/-! ## Monitors (05 Table PTH-3) -/

/-- PASS_SHORT_DETECTED (05 Table PTH-3, code 1): a gate that is off conducts. -/
def execPassShortDetected (p : PortId) (s : State) : Host.Outcome State Fault Refusal :=
  .next (if s.ports[p].gateOn then s else trip p .pass s)

/-- GATE_FAULT_DETECTED (code 2): armed in the first 2 ms after PATH_EN; in the sample of another cause's trip it
still counts, as the rows below do (05 R140). -/
def execGateFaultDetected (p : PortId) (s : State) : Host.Outcome State Fault Refusal :=
  .next (if F.PTH_STAT.LIN.on s.ports[p].pth.stat || trippedNow s p then trip p .gate s else s)

/-- VBUS_OV_DETECTED (code 3; 05 R138): a trip while the gate is enabled, else its flag alone. -/
def execVbusOvDetected (p : PortId) (s : State) : Host.Outcome State Fault Refusal :=
  .next (if s.ports[p].gateOn then trip p .vbusOv s else modPort p (flagCause .vbusOv) s)

/-- CV_OV_DETECTED (code 4). -/
def execCvOvDetected (p : PortId) (s : State) : Host.Outcome State Fault Refusal :=
  .next (trip p .cvOv s)

/-- FAST_TRIP (code 5). -/
def execFastTrip (p : PortId) (s : State) : Host.Outcome State Fault Refusal :=
  .next (trip p .fast s)

/-- REVERSE_CURRENT_DETECTED (code 6). -/
def execReverseCurrentDetected (p : PortId) (s : State) : Host.Outcome State Fault Refusal :=
  .next (trip p .rev s)

/-- RAMP_TRACK_FAULT (code 7; 05 R135): ramp tracking acts on rising ramps only. -/
def execRampTrackFault (p : PortId) (s : State) : Host.Outcome State Fault Refusal :=
  let q := s.ports[p]
  .next (if (q.ramping && F.PTH_REF.REF.get q.pth.ref < q.target) || trippedNow s p then trip p .ramp s else s)

/-- CURVE_INTEGRATOR_SAMPLE, with IBUS in mA (05 R141, R144): the heat is held in a gate ramp and the
integrator stands while the port's ADC has failed; a sample that brings the heat to 1 trips. -/
def execCurveIntegratorSample (p : PortId) (ibus : Nat) (s : State) :
    Host.Outcome State Fault Refusal :=
  .next (if F.PTH_STAT.LIN.on s.ports[p].pth.stat || adcFailed s p || s.ports[p].hw.ride.isSome then s
    else
      let s := modPort p (fun q => { q with hw.heat := heatStep q ibus }) s
      if 1 ≤ s.ports[p].hw.heat then trip p .curve s else s)

/-- CURVE_TRIP (code 8; 05 R141): the heat has reached 1. -/
def execCurveTrip (p : PortId) (s : State) : Host.Outcome State Fault Refusal :=
  .next (if 1 ≤ s.ports[p].hw.heat || trippedNow s p then trip p .curve s else s)

/-- FALLBACK_TRIP (code 9; 05 R144). -/
def execFallbackTrip (p : PortId) (s : State) : Host.Outcome State Fault Refusal :=
  .next (if adcFailed s p then trip p .fallback s else s)

/-- CV_TMO (code 10; 05 R129). -/
def execCvTmo (p : PortId) (s : State) : Host.Outcome State Fault Refusal :=
  .next (if (s.ports[p].hw.cvWait && !s.ports[p].strained 6) || trippedNow s p then
    trip p .cvTmo (modPort p (fun q => { q with hw.cvWait := false }) s) else s)

/-- ENH_FAULT (code 11): armed in the first 2 ms after AT_TARGET. -/
def execEnhFault (p : PortId) (s : State) : Host.Outcome State Fault Refusal :=
  .next (if s.ports[p].atTarget || trippedNow s p then trip p .enh s else s)

/-! ## Discharge (05 R146, R151) -/

/-- The discharge of the port is awaited: a bind-off, a trip, a reset, a safe state, or in RETRY_WAIT what waits for
VBUS below vSafe0V (05 R147, R148, R152). -/
def Port.disAwaited (q : Port) : Bool :=
  (F.PTH_STAT.DIS_ON.on q.pth.stat && !q.hw.rampDis) || q.hw.disWait || q.hw.safeWait ||
    q.st == .bindingOff || q.st == .tripped ||
    (q.st == .retryWait && (q.pol.parkWait || q.pol.tripDetach || q.pol.castWait))

/-- A trip's discharge is done (05 R146): RETRY_WAIT with an interval of 200 ms · 2^COUNT, or EXH. A
PORT_DISABLE or the absence of the module, awaited here, comes first (05 R148, R152). -/
def retryAfterTrip (now : Nat) (q : Port) : Port :=
  if q.st = .tripped && !q.pol.parkWait && !q.pol.tripDetach then
    if q.retryCount < q.retryMax then
      { (q.hwSt .retryWait) with hw.retryEnd := some (now + 200000 * 2 ^ q.retryCount) }
    else { q with pth.retry := F.PTH_RETRY.EXH.set q.pth.retry }
  else q

/-- Slot 4's strained output is 0: the sink goes off and DIS_DONE is set; a FENCED or PARKED port opens
both pins (05 R139, 12 R326). -/
def disEnd (now : Nat) (q : Port) : Port :=
  let q := sinkOff (setStrained 4 false q)
  let q := { q with pth.evt := F.PTH_EVT.DIS_DONE.set q.pth.evt, hw.disWait := false, hw.safeWait := false }
  let q := if q.st = .fenced || q.st = .parked then setTerms 0 0 q else q
  retryAfterTrip now q

/-- The engine at DIS_DONE: the end of a bind-off or the wait with both pins open of error recovery
(04 R99, 05 R151); a waiting PORT_DISABLE or absence (05 R148, R152); step 3 of a Hard Reset (04 R99);
PS_RDY of step S2 (04 Table PDE-7); the cast-on that waited for vSafe0V (03 Table ATT-7). -/
def polDisDone (p : PortId) (s : State) : State :=
  let q := s.ports[p]
  let s2 : Bool := match q.pol.swap with
    | some w => w.step == .s2
    | none => false
  match q.st with
  | .bindingOff =>
    if q.pol.errRecovery then
      modPort p (fun q => startSlot s.time 25 (setTerms 0 0 (q.setTc 0x0C))) s
    else endBindOff p s
  | .tripped | .retryWait => polVsafe p s
  | .attachWait => if q.pol.castWait then castAs p s else s
  | .castingOn | .contracted =>
    if q.pol.hr == .discharge then
      modPort p (fun q => startSlot s.time 10 { q with pol := { q.pol with hr := .recover } }) s
    else if s2 then sendCtrl p 6 false (.swapPsRdy 0) s
    else s
  | _ => s

/-- DIS_DONE (05 R146, R151); a die-level hold that waited for the port ends (12 R324). -/
def disDone (p : PortId) (s : State) : State :=
  let q := s.ports[p]
  if q.disAwaited then
    let s := modPort p (disEnd s.time) s
    let s := if s.ports[p].retryExh && !q.retryExh then
        postPort p .retryExhausted (BitVec.ofNat 32 (q.retryCount + 16 * F.PTH_STAT.CAUSE.get q.pth.stat)) s
      else s
    endHold (dieOf p) (atPolicy p (.disDone p) (polDisDone p) s)
  else s

def execDisDone (p : PortId) (s : State) : Host.Outcome State Fault Refusal := .next (disDone p s)

/-- DIS_TMO (05 R151): the sink goes off; slot 4 is awaited without it. -/
def execDisTmo (p : PortId) (s : State) : Host.Outcome State Fault Refusal :=
  let q := s.ports[p]
  .next (if F.PTH_STAT.DIS_ON.on q.pth.stat && !q.hw.rampDis then
    modPort p (fun q => { (sinkOff q) with
      pth.evt := F.PTH_EVT.DIS_TMO.set q.pth.evt, hw.disWait := true }) s else s)

/-! ## Retries (05 R147 to R150) -/

/-- RETRY_DUE (05 R147). -/
def execRetryDue (p : PortId) (s : State) : Host.Outcome State Fault Refusal :=
  .next (if s.ports[p].hw.retryEnd.isSome then
    atPolicy p (.retryDue p) (polRetry p) (modPort p (fun q => { q with
      hw.retryEnd := none
      pth.retry := F.PTH_RETRY.DUE.set q.pth.retry
      pth.evt := F.PTH_EVT.RETRY_DUE.set q.pth.evt }) s) else s)

/-- RETRY_CLR (05 R148): the detach-hold clock has reached 500 ms. -/
def execRetryClr (p : PortId) (s : State) : Host.Outcome State Fault Refusal :=
  .next (if s.ports[p].hw.absSince.isSome then
    modPort p (fun q => { (clearRetry q) with pth.evt := F.PTH_EVT.RETRY_CLR.set q.pth.evt }) s else s)

/-- PTH_RETRY.CLR written (05 R150). -/
def retryClrWrite (p : PortId) (s : State) : State :=
  let held := s.ports[p].hw.retryEnd.isSome || s.ports[p].retryExh
  let s := modPort p clearRetry s
  if held then atPolicy p (.pthRetryClrWrite p) (leaveHold p) s else s

/-- PTH_RETRY_CLR_WRITE (05 R150). -/
def execPthRetryClrWrite (p : PortId) (s : State) : Host.Outcome State Fault Refusal :=
  .next (if frontWrites s p then retryClrWrite p s else s)

/-- CURVE_COMMIT (05 R143). -/
def execCurveCommit (p : PortId) (s : State) : Host.Outcome State Fault Refusal :=
  .next (if frontWrites s p then modPort p commitCurve s else s)

end Sys2Proof.Machine
end

