-- ==== Sys2Proof/Machine/PdPolicy.lean ====
section
/-! DEFINITION. What the engine does when a transmission ends and when the partner's messages arrive:
negotiation, resets, swaps, VDMs, cable discovery, EPR mode and authentication
(04_pd_protocol_engine.md). Message type codes are those of the USB PD and Type-C Authentication
specifications that the spec refers to (log entry 9). -/

namespace Sys2Proof.Machine
open Sys2Proof

/-! ## Small parts -/

/-- The engine writes AMS_END at the end of an AMS that the port started (04 R92). -/
def endAms (p : PortId) (s : State) : State :=
  if s.ports[p].phw.ams then modPort p amsEnd s else s

/-- The engine waits for an answer; none: it waits no more. -/
def setAwait (p : PortId) (w : Option TxPurpose) (s : State) : State :=
  modPol p (fun l => { l with await := w }) s

/-- A slot of the port started. -/
def slotOn (p : PortId) (i : Fin 26) (s : State) : State := modPort p (startSlot s.time i) s

/-- A slot of the port stopped. -/
def slotOff' (p : PortId) (i : Fin 26) (s : State) : State := modPort p (stopSlot i) s

/-- A grant obtained for a contract that is not reached is withdrawn (06 Table CAD-3). -/
def dropNext (p : PortId) (s : State) : State :=
  let l := s.ports[p].pol
  let s := if l.next.isSome && !l.reqWait && s.ports[p].isSource then submitWithdraw p s else s
  modPol p (fun l => { l with next := none, accepted := false, reqWait := false }) s

/-- The host command of a port that waits with one of the kinds `f` selects. -/
def portWait (s : State) (p : PortId) (f : WaitKind → Bool) : Option Wait :=
  findWait s (fun w => w.port == p.val && f w.kind)

/-- The first waiting host command of the port that `f` selects completes. -/
def endWait (p : PortId) (f : WaitKind → Bool) (st : Status) (result : List Byte) (s : State) :
    State :=
  match portWait s p f with
  | some w => completeWait w st result s
  | none => s

/-- PORT_CAPS waiting for its capabilities message. -/
def isCaps (k : WaitKind) : Bool := k == .caps

/-- A host command whose messages go on a context (04 R101): on SOP also PORT_CAPS and PORT_SWAP. -/
def onCtx (c : Fin 3) (k : WaitKind) : Bool :=
  match k with
  | .vdm c' _ _ => c' == c
  | .msg c' _ _ => c' == c
  | .auth c' _ _ _ _ _ _ => c' == c
  | .caps => c == 0
  | .swap _ => c == 0
  | _ => false

/-- What a Soft_Reset on a context ends in the engine: the host commands of the context, what is queued for it, and
on SOP the exchange, the swap and the grant under way (04 R98, R101). -/
def dropExchange (p : PortId) (c : Fin 3) (s : State) : State :=
  let s := completeAll (fun w => w.port == p.val && onCtx c w.kind) .cancelled s
  let s := if c = 0 then endAms p (dropNext p s) else s
  modPol p (fun l => { l with
    txq := l.txq.filter (fun r => r.ctx != c), txNow := l.txNow.set c none
    await := if c = 0 then none else l.await, swap := if c = 0 then none else l.swap }) s

/-- The engine sends Soft_Reset on a context after resetting it (04 Table PDE-3). -/
def softReset (p : PortId) (c : Fin 3) (s : State) : State :=
  let s := modPort p (resetCtx c) (dropExchange p c s)
  engineSend p c (fun q => ctrlMsg q c 13) false (if c = 0 then .softReset else .reply) s

/-- A message that PD 3.2 does not expect in the port's state (04 R93): Hard Reset during a power transition, else
Soft_Reset on its context. -/
def unexpected (p : PortId) (c : Fin 3) (s : State) : State :=
  if c = 0 && s.ports[p].pol.accepted then engineHardReset p s else softReset p c s

/-- The hold of the SPR contract's DONE ends with its submission (04 R112 item 3). -/
def releaseHeld (p : PortId) (s : State) : State :=
  match s.ports[p].pol.doneHeld, s.ports[p].pol.contract with
  | true, some k =>
    slotOff' p 22 (submitDone p k.v100 k.pout (modPol p (fun l => { l with doneHeld := false }) s))
  | _, _ => s

/-- Discover Identity on SOP' (04 R113). -/
def discoverCable (p : PortId) (s : State) : State :=
  engineSend p 1 (fun q => dataMsg q 1 15 [0xFF00A001]) true .cableIdentity s

/-- Cable discovery starts on a VCONN source and DFP whose VCONN has been on for tVCONNStable, unless the cable's data
are known or the port is captive-cabled (04 R113, 03 R76 departure 2). -/
def startDiscovery (p : PortId) (s : State) : State :=
  let q := s.ports[p]
  if q.attached && q.vconnOn && q.isDfp && q.pol.cable.isNone && !q.slotRuns 18 && !q.slotRuns 17 &&
      !F.PRT_CAPT.CABLED.on q.core.capt then
    discoverCable p (modPol p (fun l => { l with cableTries := 1 }) s)
  else s

/-- An EPR_Mode message: its action and data (USB PD; log entry 9). -/
def eprModeMsg (act data : Nat) (q : Port) : List Byte :=
  dataMsg q 0 10 [BitVec.ofNat 32 (act * 16777216 + data * 65536)]

/-- A refusal of a message the port does not support: Not_Supported, Reject to a PD 2.0 partner
(00 Table SCP-2, 04 Table PDE-4). -/
def sendNotSupported (p : PortId) (c : Fin 3) (s : State) : State :=
  engineSend p c (fun q => ctrlMsg q c (if revCode q.ctx[c] = 1 then 4 else 16)) false .reply s

/-- A partner's message: it has spoken; a port with NOPD negotiates again (03 R67, 04 R107). -/
def heard (p : PortId) (offer : Bool) (s : State) : State :=
  let nopd := F.PRT_STATE.NOPD.on s.ports[p].core.state && !F.PRT_STATE.DEBUG.on s.ports[p].core.state
  let s := partnerSpoke p s
  if nopd && offer && s.ports[p].isSource && s.ports[p].attached then
    sendCaps p false (modPol p (fun l => { l with capsTries := 0 }) s)
  else s

/-- The contract ends by a Hard Reset that the engine decides for a reason of its own, reported with
its cause (09 Table CMD-11, 04 R108, R111). -/
def hardResetFor (p : PortId) (cause : Nat) (s : State) : State :=
  let had := s.ports[p].pol.contract.isSome
  let s := loseContract p cause 0 s
  let s := if had && s.ports[p].isSource then submitWithdraw p s else s
  engineHardReset p s

/-! ## Swaps (04 R115 to R117, 09 R252) -/

/-- ROLES of a PORT_SWAP result. -/
def roleBits (q : Port) : Nat :=
  (if q.isSource then 1 else 0) + (if q.isDfp then 2 else 0) + (if q.vconnOn then 4 else 0)

/-- A swap is complete: SWAP_DONE is posted and a PORT_SWAP of its kind completes, with CADDY_PARTIAL
for a swap to source below the level asked (09 R252, Table CMD-11). -/
def swapDone (p : PortId) (s : State) : State :=
  match s.ports[p].pol.swap with
  | none => s
  | some w =>
    let s := modPol p (fun l => { l with swap := none, await := none }) s
    let q := s.ports[p]
    let s := postPort p .swapDone (BitVec.ofNat 32 (w.kind + 4 * roleBits q
      + (if w.byDevice then 32 else 0))) s
    let partly := w.kind = 0 && q.isSource && q.pol.level < askedLevel s.cadp[p]
    let s := endWait p (· == .swap w.kind) (if partly then .caddyPartial else .ok)
      [BitVec.ofNat 8 (roleBits q), BitVec.ofNat 8 q.pol.level] s
    startDiscovery p (endAms p s)

/-- A swap ends without effect: a PORT_SWAP of its kind completes with the status. -/
def swapFails (p : PortId) (st : Status) (s : State) : State :=
  match s.ports[p].pol.swap with
  | none => s
  | some w =>
    let s := modPol p (fun l => { l with swap := none, await := none }) s
    let s := if w.kind = 0 && !w.wasSource then caddyRelease p s else s
    endAms p (endWait p (· == .swap w.kind) st [] s)

/-- The policy of an attached port is ready for a swap of the device's own (04 R115). -/
def policyReady (q : Port) : Bool :=
  q.attached && q.pol.contract.isSome && q.pol.next.isNone && q.pol.swap.isNone && q.pol.hr == .none &&
    q.pol.await.isNone && q.pol.txNow.toList.all Option.isNone

/-- The engine asks for a swap, before any other message of the host: PR_Swap, DR_Swap or VCONN_Swap. -/
def swapAsk (p : PortId) (kind : Nat) (s : State) : State :=
  modPort p (fun q =>
    let w : Swap := { kind := kind, step := .asked, byDevice := true, wasSource := q.isSource }
    let m := ctrlMsg q 0 (if kind = 0 then 10 else if kind = 1 then 9 else 11)
    let r : TxReq := { ctx := 0, msg := m, ams := amsNeeded q, purpose := .swapRequest kind }
    { q with pol := { q.pol with swap := some w, txq := r :: q.pol.txq } }) s

/-- A PORT_SWAP that waits begins once the policy is ready; a swap to source needs a vSafe5V reservation first
(04 R115, 09 R252). -/
def swapStart (p : PortId) (s : State) : State :=
  if policyReady s.ports[p] then
    match portWait s p (fun k => match k with | .swap _ => true | _ => false) with
    | none => s
    | some w =>
      match w.kind with
      | .swap 0 =>
        if s.ports[p].isSource then swapAsk p 0 s
        else
          let (s, r) := drawReserve p s
          match r with
          | some l => swapAsk p 0 (modPol p (fun m => { m with level := l }) s)
          | none => completeWait w .caddyDenied [] (caddyRelease p s)
      | .swap k => swapAsk p k s
      | _ => s
  else s

/-- What the policy does after each of its steps: the deferred Discover Identity, a waiting swap and a waiting
message go. -/
def policyNext (p : PortId) (s : State) : State := modPort p (pumpTx 8 s.time) (swapStart p (sendDeferred p s))

/-- A step of the port's PD policy. -/
def atPd (p : PortId) (i : Instr) (f : State → State) (s : State) : State :=
  atPolicy p i (fun s => policyNext p (f s)) s

/-- The pin opposite the oriented one: false CC1, true CC2. -/
def otherPin (q : Port) : Bool := q.orient == 1

/-- A swap begins after Accept has been sent or received (04 Table PDE-7, R117). -/
def beginSwap (p : PortId) (s : State) : State :=
  match s.ports[p].pol.swap with
  | none => s
  | some w =>
    let step (t : SwapStep) (s : State) : State :=
      modPol p (fun l => { l with swap := some { w with step := t }, await := none }) s
    match w.kind with
    | 0 =>
      let s := modPort p (fun q => { q with
        pd.phycfg := F.PD_PHYCFG.SWAP.set q.pd.phycfg, phw.swapSince := s.time }) s
      if w.wasSource then
        slotOn p 8 (modPort p (fun q => q.setSt .castingOn) (step .s1 s))
      else slotOn p 12 (modPort p gateOff (step .k1 s))
    | 1 =>
      let s := modPort p (fun q => { q with
        pd.phycfg := F.PD_PHYCFG.DATA_ROLE.setTo (!q.isDfp) q.pd.phycfg }) s
      swapDone p (cableCtxs p s)
    | _ =>
      if s.ports[p].vconnOn then slotOn p 19 (step .vconnOff s)
      else slotOn p 18 (vconnStart p (otherPin s.ports[p]) (step .vconnOn s))

/-- Step S2 (04 Table PDE-7): the path opens, VBUS is discharged and the caddy's grant returned. -/
def swapS2 (p : PortId) (w : Swap) (s : State) : State :=
  let s := modPort p (fun q => sinkOn (cenOff (gateOff q))) s
  let s := loseContract p 7 0 s
  caddyRelease p (modPol p (fun l => { l with swap := some { w with step := .s2 } }) s)

/-- The PS_RDY of a swap is acknowledged: step S3 or K3, or a VCONN_Swap to VCONN source complete. -/
def swapPsRdySent (p : PortId) (s : State) : State :=
  match s.ports[p].pol.swap with
  | none => s
  | some w =>
    match w.step with
    | .s2 =>
      let s := modPort p (fun q =>
        let q := (setTerms 2 2 q).setTc 8
        { q with pd.phycfg := F.PD_PHYCFG.PWR_ROLE.clr q.pd.phycfg }) s
      slotOn p 11 (modPol p (fun l => { l with swap := some { w with step := .s3 } }) s)
    | .k2 =>
      let s := modPort p (fun q => { q with pd.phycfg := F.PD_PHYCFG.SWAP.clr q.pd.phycfg }) s
      slotOn p 14 (swapDone p s)
    | .vconnOn => swapDone p (cableCtxs p s)
    | _ => s

/-- The partner's PS_RDY during a swap (04 Table PDE-7, R117): step S4, K2 or the end of VCONN. -/
def swapPsRdyHeard (p : PortId) (w : Swap) (s : State) : State :=
  match w.step with
  | .s3 =>
    let s := slotOff' p 11 (sinkPathOn p s)
    swapDone p (modPort p (fun q => { q with pd.phycfg := F.PD_PHYCFG.SWAP.clr q.pd.phycfg }) s)
  | .k1 =>
    let s := loseContract p 7 0 (slotOff' p 12 s)
    let s := modPort p (fun q =>
      let q := ((setRp q.pol.level (setTerms 1 1 q)).setTc 3).setSt .castingOn
      let q := setRating (levelCurr q.pol.level) q
      { q with pd.phycfg := F.PD_PHYCFG.PWR_ROLE.set q.pd.phycfg }) s
    raise5 p (modPol p (fun l => { l with swap := some { w with step := .k2 } }) s)
  | .vconnOff => swapDone p (cableCtxs p (slotOff' p 19 (modPort p vconnOpen s)))
  | _ => s

/-! ## VDMs (04 R118, R119; 09 R251, R257) -/

def vdmSvid (o : Word) : Nat := bitsAt o 16 16
def vdmStructured (o : Word) : Bool := bitOf o 15
def vdmCmdType (o : Word) : Nat := bitsAt o 6 2
def vdmCmd (o : Word) : Nat := bitsAt o 0 5

/-- A response header to a VDM header: 1 ACK, 2 NAK, 3 BUSY. -/
def vdmAnswerHdr (o : Word) (t : Nat) : Word := (o &&& 0xFFFFFF3F) ||| BitVec.ofNat 32 (64 * t)

/-- The engine answers a VDM. -/
def answerVdm (p : PortId) (c : Fin 3) (objs : List Word) (s : State) : State :=
  engineSend p c (fun q => dataMsg q c 15 objs) false .reply s

/-- A VDM is routed to the host (04 R118): numbered modulo 256, kept among the last eight, posted as
VDM_RX; a structured one that awaits an answer occupies its SOP* and starts the host's budget. -/
def routeVdm (p : PortId) (c : Fin 3) (objs : List Word) (s : State) : State :=
  let o := objs.headD 0
  let l := s.ports[p].pol
  let waits := vdmStructured o && vdmCmd o ≠ 6
  let s := modPol p (fun l => { l with
    vdmNum := (l.vdmNum + 1) % 256
    vdms := ({ num := l.vdmNum, ctx := c, objs := objs } :: l.vdms).take 8
    hostVdm := if waits then l.hostVdm.set c (some l.vdmNum) else l.hostVdm }) s
  let s := if waits then slotOn p 16 s else s
  postPort p .vdmRx (BitVec.ofNat 32 (c.val + 4 * ((objs.length - 1) % 8)
    + (if vdmStructured o then 32 else 0) + (if waits then 64 else 0) + 256 * l.vdmNum
    + 65536 * vdmSvid o)) s

/-- A received VDM command (04 Table PDE-8). -/
def vdmCommand (p : PortId) (c : Fin 3) (objs : List Word) (s : State) : State :=
  let o := objs.headD 0
  if !vdmStructured o || vdmCmd o = 6 then routeVdm p c objs s
  else if vdmSvid o = 0xFF00 then
    let l := if vdmCmd o = 1 then s.kept.identity else if vdmCmd o = 2 then s.kept.svids else []
    if l.isEmpty then answerVdm p c [vdmAnswerHdr o 2] s
    else answerVdm p c (vdmAnswerHdr o 1 :: l) s
  else if s.ports[p].pol.hostVdm[c].isSome then answerVdm p c [vdmAnswerHdr o 3] s
  else routeVdm p c objs s

/-- Entered modes follow the acknowledged Enter Mode and Exit Mode (04 R115). -/
def trackMode (o : Word) (l : Policy) : Policy :=
  if vdmStructured o && vdmCmdType o = 1 then
    if vdmCmd o = 4 then { l with modes := vdmSvid o :: l.modes.filter (· != vdmSvid o) }
    else if vdmCmd o = 5 then { l with modes := l.modes.filter (· != vdmSvid o) }
    else l
  else l

/-- An answer written to RBOFF: two bytes of length, then the objects or the message (09 R257). -/
def writeAnswer (rboff : Nat) (l : List Byte) (s : State) : State :=
  bulkWrite rboff (bytes2 l.length ++ l) s

/-- The result of VDM_SEND and DISCOVER (09 Table CMD-6). -/
def vdmResult (objs : List Word) : List Byte :=
  [BitVec.ofNat 8 objs.length, 0, 0, 0] ++ (objs.take 3).flatMap wordBytes

/-- The status of a VDM response (04 R119). -/
def vdmStatus (o : Word) : Status :=
  match vdmCmdType o with
  | 1 => .ok
  | 2 => .partnerReject
  | _ => .partnerWait

/-- The identity of a Discover Identity reply on SOP, as 03 R79 records it. -/
def takeIdentity (p : PortId) (objs : List Word) (s : State) : State :=
  let s := if vdmCmdType (objs.headD 0) = 1 then modPort p (fun q =>
      let q := { q with pol := { q.pol with ident := some (bitsAt (objs.getD 1 0) 0 16,
        bitsAt (objs.getD 3 0) 16 16, bitsAt (objs.getD 3 0) 0 16) } }
      if q.st = .contracted then writeIdrec q else q) s else s
  endAms p (slotOff' p 15 (setAwait p none s))

/-- What a cable's reply to Discover Identity sets: the cable contexts' REV, PD_REV.CABLE and the cable data (04
R102, R113). -/
def setCable (k : Cable) (rev : Nat) (q : Port) : Port :=
  let r := if rev < 0x30 then 1 else 2
  let set (c : CtxRegs) : CtxRegs := { c with ctl := F.CTX_CTL.REV.put r c.ctl }
  let q := (q.modCtx 1 set).modCtx 2 set
  { q with pd.rev := F.PD_REV.CABLE.put rev q.pd.rev, pol.cable := some k }

/-- A cable's reply to the host's DISCOVER refreshes the cable data (04 R113, 09 R257): current, voltage and EPR
of its cable VDO; its structured VDM version tells its revision (log entry 9). -/
def takeCable (p : PortId) (objs : List Word) (s : State) : State :=
  let o := objs.headD 0
  if vdmCmdType o = 1 && vdmCmd o = 1 && vdmSvid o = 0xFF00 then
    let v := objs.getD 4 0
    modPort p (setCable {
      curr := if bitsAt v 5 2 = 2 then 50 else 30
      volt := 20 + 10 * bitsAt v 9 2
      epr := bitOf v 17
      discovered := true } (if bitsAt o 13 2 = 0 then 0x20 else 0x30)) s
  else s

/-- A VDM response: to the engine's Discover Identity, or to the host's VDM. -/
def vdmResponse (p : PortId) (c : Fin 3) (objs : List Word) (s : State) : State :=
  let o := objs.headD 0
  let s := modPol p (trackMode o) s
  if c = 0 && s.ports[p].pol.await == some .discIdentity then takeIdentity p objs s
  else
    match portWait s p (fun k => match k with | .vdm c' _ true => c' == c | _ => false) with
    | some w =>
      let rboff := match w.kind with | .vdm _ r _ => r | _ => 0xFFFFFFFF
      let s := if c = 1 then takeCable p objs s else s
      let s := writeAnswer rboff (objs.flatMap wordBytes) s
      endAms p (slotOff' p 15 (setAwait p none (completeWait w (vdmStatus o) (vdmResult objs) s)))
    | none => s

/-! ## Authentication (04 R120, 09 Table CMD-6) -/

/-- The authentication of a port that waits on a context. -/
def authWait (s : State) (p : PortId) (c : Fin 3) : Option Wait :=
  portWait s p (fun k => match k with | .auth c' _ _ _ _ _ _ => c' == c | _ => false)

/-- A waiting command's kind replaced. -/
def setKind (w : Wait) (k : WaitKind) (s : State) : State :=
  { s with host := { s.host with waits := s.host.waits.map fun v => if v == w then { w with kind := k } else v } }

/-- A Security_Request (USB Type-C Authentication; log entry 9): version 1.0, the message and two
parameters, and its data. -/
def securityMsg (c : Fin 3) (type p1 p2 : Nat) (data : List Byte) (q : Port) : List Byte :=
  extMsg q c 8 ([0x10, BitVec.ofNat 8 type, BitVec.ofNat 8 p1, BitVec.ofNat 8 p2] ++ data)

/-- The exchange ends with PASS, STEP, SLOT, ROOT and CHAINLEN. -/
def authEnd (p : PortId) (w : Wait) (pass : Bool) (step slot root len : Nat) (s : State) : State :=
  endAms p (slotOff' p 6 (setAwait p none (completeWait w .ok
    ([if pass then 1 else 0, BitVec.ofNat 8 step, BitVec.ofNat 8 slot, BitVec.ofNat 8 root]
      ++ bytes2 len) s)))

/-- The partner refuses a step of the exchange with Reject or Wait: the check fails at that step (04 R120). -/
def authRefused (p : PortId) (w : Wait) (st : Status) (s : State) : State :=
  match w.kind with
  | .auth _ step slot root _ len _ =>
    if st = .notSupportedByPartner then endAms p (completeWait w st [] s)
    else authEnd p w false (min 3 step) slot root len s
  | _ => endAms p (completeWait w st [] s)

/-- GET_CERTIFICATE for the next segment of at most 256 bytes. -/
def authCert (p : PortId) (w : Wait) (c : Fin 3) (slot root got len rboff : Nat) (s : State) : State :=
  let n := min 256 (len - got)
  let s := if got = 0 then modPol p (fun l => { l with authChain := [] }) s else s
  engineSend p c (securityMsg c 0x82 slot 0 (bytes2 got ++ bytes2 n)) true (.hostMsg w.tag)
    (setKind w (.auth c 2 slot root got len rboff) s)

/-- The digests of a DIGESTS response with their slots. -/
def digestsOf (mask : Nat) (d : List Byte) : List (Nat × List Byte) :=
  let slots := (List.range 8).filter fun i => mask / 2 ^ i % 2 == 1
  (slots.zip (List.range slots.length)).map fun (i, k) => (i, (d.drop (32 * k)).take 32)

/-- A Security_Response of the exchange under way: the chain and the challenge's answer are kept for the crypto
block's verifications. -/
def securityResponse (p : PortId) (c : Fin 3) (data : List Byte) (s : State) : State :=
  match authWait s p c with
  | none => s
  | some w =>
    match w.kind with
    | .auth _ step slot root got len rboff =>
      let type := (data.getD 1 0).toNat
      let p1 := (data.getD 2 0).toNat
      let p2 := (data.getD 3 0).toNat
      let body := data.drop 4
      let s := slotOff' p 6 (setAwait p none s)
      if step = 1 then
        if type ≠ 0x01 then authEnd p w false 1 slot 0 0 s
        else
          let hit := (digestsOf p2 body).find? fun (i, d) =>
            (slot == 255 || i == slot) && s.kept.roots.contains d
          match hit with
          | none => authEnd p w false 4 slot 0 0 s
          | some (i, d) => authCert p w c i (s.kept.roots.idxOf d) 0 4096 rboff s
      else if step = 2 then
        if type ≠ 0x02 then authEnd p w false 2 slot root 0 s
        else
          let len := if got = 0 then min 4096 (leNat (body.take 2)) else len
          let s := bulkWrite (if rboff = 0xFFFFFFFF then rboff else rboff + got) body s
          let s := modPol p (fun l => { l with authChain := l.authChain ++ body }) s
          let got := got + body.length
          if got < len && !body.isEmpty then authCert p w c slot root got len rboff s
          else setKind w (.auth c 4 slot root got len rboff) s
      else if step = 3 then
        if type ≠ 0x03 then authEnd p w false 3 slot root len s
        else setKind w (.auth c 5 p1 root got len rboff) (modPol p (fun l => { l with authAnswer := body }) s)
      else s
    | _ => s

/-- A verification of the crypto block ends (04 R120): the chain's leads to the challenge, with a nonce
that no rule fixes; the challenge's to the completion. -/
def authVerified (ok : Bool) (w : Wait) (s : State) : State :=
  match w.kind, portOf w.port with
  | .auth c step slot root got len rboff, some p =>
    if step = 4 then
      if ok then
        let (nonce, s) := takeFree Config.freeBytes s
        let s := modPol p (fun l => { l with authNonce := padTo 32 nonce, authAnswer := [] }) s
        engineSend p c (securityMsg c 0x83 slot 0 (padTo 32 nonce)) true (.hostMsg w.tag)
          (setKind w (.auth c 3 slot root got len rboff) s)
      else authEnd p w false 2 slot root len s
    else if step = 5 then authEnd p w ok (if ok then 0 else 3) slot root len s
    else s
  | _, _ => s

/-! ## The end of a transmission -/

/-- The waiting host command of a tag. -/
def tagWait (s : State) (t : Nat) : Option Wait := findWait s (fun w => w.tag == t && w.kind != .cancelled)

/-- A host message is acknowledged: it completes, or its answer is awaited (09 R257 to R260). -/
def hostSent (p : PortId) (t : Nat) (s : State) : State :=
  match tagWait s t with
  | none => endAms p s
  | some w =>
    match w.kind with
    | .vdm _ _ true => slotOn p 15 (setAwait p (some (.hostMsg t)) s)
    | .vdm _ _ false => endAms p (completeWait w .ok [] s)
    | .msg _ _ false => endAms p (completeWait w .ok [] s)
    | _ => slotOn p 6 (setAwait p (some (.hostMsg t)) s)

/-- What follows when a message the engine sent is acknowledged. -/
def txSent (p : PortId) (w : TxPurpose) (s : State) : State :=
  match w with
  | .srcCaps | .eprCaps =>
    let s := slotOff' p 7 (slotOn p 6 (modPol p (fun l => { l with capsTries := 0 }) s))
    endWait p isCaps .ok [BitVec.ofNat 8 s.ports[p].pol.sent.length]
      (setAwait p (some w) s)
  | .accept => if s.ports[p].isSource then beginTransition p s else s
  | .reject caps => if caps then sendCaps p false s else endAms p s
  | .waitMsg => endAms p s
  | .psRdy => contractInForce p (endAms p s)
  | .sinkRequest | .softReset | .getRevision => slotOn p 6 (setAwait p (some w) s)
  | .discIdentity => slotOn p 15 (setAwait p (some w) s)
  | .cableIdentity => slotOn p 17 s
  | .eprAck v =>
    if v = 0 then engineSend p 0 (eprModeMsg 3 0) false .eprSucceeded s
    else engineSend p 0 (eprModeMsg 4 v) false .eprFailed s
  | .eprSucceeded =>
    sendCaps p false (slotOn p 20 (slotOff' p 22 (modPort p (fun q => { q with
      pd.phycfg := F.PD_PHYCFG.EPR.set q.pd.phycfg }) s)))
  | .eprFailed => releaseHeld p s
  | .swapRequest _ => slotOn p 6 (setAwait p (some w) s)
  | .swapAccept _ => beginSwap p s
  | .swapPsRdy _ => swapPsRdySent p s
  | .hostMsg t => hostSent p t s
  | .reply => s

/-- What follows when a message the engine sent ends with RESULT `r` other than sent (04 R91, R93,
R107, 03 R76 departure 4; for messages of a contract or a swap as PD 3.2 prescribes, log entry 9). -/
def txFailed (p : PortId) (w : TxPurpose) (r : Nat) (s : State) : State :=
  match w with
  | .srcCaps | .eprCaps =>
    let s := endAms p (endWait p isCaps (if r = 4 then .partnerTimeout else .cancelled)
      [BitVec.ofNat 8 s.ports[p].pol.sent.length] s)
    if r ≠ 4 then s
    else if s.ports[p].pol.contract.isSome then softReset p 0 s
    else
      let n := s.ports[p].pol.capsTries + 1
      let s := modPol p (fun l => { l with capsTries := n }) s
      if n ≥ 50 then modPort p (fun q => { q with core.state := F.PRT_STATE.NOPD.set q.core.state }) s
      else if captive s p then modPort p (startSlotFor s.time 7 2) s
      else slotOn p 7 s
  | .accept => if r = 4 then softReset p 0 s else dropNext p s
  | .psRdy => if r = 4 || r = 5 then engineHardReset p (endAms p s) else endAms p s
  | .sinkRequest => if r = 4 then softReset p 0 s else s
  | .softReset => if r = 4 then engineHardReset p s else s
  | .eprAck _ | .eprSucceeded => if r = 4 then softReset p 0 s else s
  | .eprFailed => releaseHeld p s
  | .cableIdentity => slotOn p 17 (endAms p s)
  | .swapRequest _ => swapFails p .partnerTimeout s
  | .swapAccept _ => swapFails p .partnerTimeout s
  | .swapPsRdy _ => engineHardReset p s
  | .hostMsg t =>
    match tagWait s t with
    | some v => endAms p (completeWait v (if r = 4 || r = 7 then .partnerTimeout else .cancelled) [] s)
    | none => endAms p s
  | .reject _ | .waitMsg | .getRevision | .discIdentity | .reply => endAms p s

/-- The engine sees DONE of a context (04 R90): it acts on the outcome and sends the next message. -/
def polTxEnd (p : PortId) (c : Fin 3) (s : State) : State :=
  let r := s.ports[p].result c
  match s.ports[p].pol.txNow[c] with
  | none => s
  | some w =>
    if s.ports[p].holdsPhy c then s
    else
      let s := modPol p (fun l => { l with txNow := l.txNow.set c none }) s
      if r = 3 then txSent p w s else txFailed p w r s

/-! ## Messages of the partner -/

/-- The partner's refusal: Reject, Wait or Not_Supported (09 R252, R259, 04 R119). A Reject or Wait that answers
nothing is unexpected. -/
def refused (p : PortId) (c : Fin 3) (st : Status) (s : State) : State :=
  match s.ports[p].pol.await with
  | some (.swapRequest _) => swapFails p st (slotOff' p 6 s)
  | some (.hostMsg t) =>
    let s := slotOff' p 15 (slotOff' p 6 (setAwait p none s))
    match tagWait s t with
    | some w => authRefused p w st s
    | none => endAms p s
  | some .getRevision =>
    let s := if st = .notSupportedByPartner then modPort p (fun q => { q with
        pd.rev := F.PD_REV.PARTNER.put 0x30 q.pd.rev }) s else s
    endAms p (slotOff' p 6 (setAwait p none s))
  | some .discIdentity => endAms p (slotOff' p 15 (setAwait p none s))
  | some .sinkRequest => slotOff' p 6 (setAwait p none (modPol p (fun l => { l with next := none }) s))
  | _ => if st = .notSupportedByPartner then s else unexpected p c s

/-- Accept of a sink's Request: a contract that changes VBUS takes the port to CASTING_ON (03 R63), and PS_RDY is
awaited for tPSTransition. -/
def sinkAccepted (p : PortId) (s : State) : State :=
  modPort p (fun q =>
    let new := q.pol.next.map Contract.volt
    let q := if q.st = .contracted && new != q.pol.contract.map Contract.volt then q.setSt .castingOn else q
    startSlot s.time 13 (stopSlot 6 { q with pol.await := none })) s

/-- Accept from the partner: to a swap, a sink's Request, or a Soft_Reset; else it is unexpected. -/
def accepted (p : PortId) (c : Fin 3) (s : State) : State :=
  match s.ports[p].pol.await with
  | some (.swapRequest _) => beginSwap p (slotOff' p 6 s)
  | some .sinkRequest => sinkAccepted p s
  | some .softReset =>
    let s := slotOff' p 6 (setAwait p none s)
    if s.ports[p].isSource then sendCaps p false s else s
  | _ => unexpected p c s

/-- UNCHUNK of the SOP context (04 R96): REV 0b10, and both the device and the partner advertise unchunked extended
messages. -/
def setUnchunk (own partner : Bool) (q : Port) : Port :=
  q.modCtx 0 fun c => { c with
    ctl := F.CTX_CTL.UNCHUNK.setTo (own && partner && F.CTX_CTL.REV.get c.ctl == 2) c.ctl }

/-- The sink's choice among received Source_Capabilities is a free value (log entry 1): it requests an
object at its full current. The source's revision sets REV (00 R3, 04 R102). -/
def sinkRequest (p : PortId) (rev : Nat) (objs : List Word) (s : State) : State :=
  let (n, s) := takeFree Config.freeNat s
  let s := modPort p (fun q =>
    let q := q.modCtx 0 fun c => { c with ctl := F.CTX_CTL.REV.put rev c.ctl }
    let q := setUnchunk q.pol.advUnchunk (bitOf (objs.headD 0) 24) q
    if rev = 1 then { q with pd.rev := F.PD_REV.PARTNER.put 0x20 q.pd.rev } else q) s
  let flags : Word := if s.ports[p].pol.advUnchunk then 0x00800000 else 0
  let i := n % max 1 objs.length
  let o := objs.getD i 0
  let curr := pdoCurr o
  let rdo : Word := if pdoKind o = 0 then
      BitVec.ofNat 32 ((i + 1) * 268435456 + curr * 1024 + curr)
    else BitVec.ofNat 32 ((i + 1) * 268435456 + pdoVmin o * 512 + curr / 5)
  let rdo := rdo ||| flags
  let s := modPol p (fun l => { l with next := some (contractOf rdo o) }) s
  engineSend p 0 (fun q => dataMsg q 0 2 [rdo]) false .sinkRequest s

/-- An answer to the host's MSG_SEND (09 R259). -/
def msgAnswer (p : PortId) (c : Fin 3) (m : List Byte) (s : State) : State :=
  match portWait s p (fun k => match k with | .msg c' _ true => c' == c | _ => false) with
  | some w =>
    let rboff := match w.kind with | .msg _ r _ => r | _ => 0xFFFFFFFF
    let s := writeAnswer rboff m s
    let data := m.drop (if msgExt m then 4 else 2)
    endAms p (slotOff' p 6 (setAwait p none (completeWait w .ok
      (bytes2 m.length ++ m.take 2 ++ padTo 12 data) s)))
  | none => sendNotSupported p c s

/-- Sink_Capabilities: vSafe5V at a current that no rule gives (log entry 1), with Dual-Role Power on a DRP port
(log entry 9). -/
def sendSinkCaps (p : PortId) (s : State) : State :=
  let (n, s) := takeFree Config.freeNat s
  let o : Word := BitVec.ofNat 32 (102400 + n % 1024 + (if roleOf s p = 2 then 536870912 else 0))
  engineSend p 0 (fun q => dataMsg q 0 4 [o]) false .reply s

/-- Get_Source_Cap (00 Table SCP-2): a source offers; a DRP port in sink role answers with what it would offer. -/
def getSourceCap (p : PortId) (s : State) : State :=
  if s.ports[p].isSource then sendCaps p false s
  else if roleOf s p = 2 then
    let objs := (sprOffers s p).take 7
    engineSend p 0 (fun q => dataMsg q 0 1 objs) false .reply s
  else sendNotSupported p 0 s

/-- EPR_Get_Source_Cap, an Extended_Control message of type 1 (log entry 9): a source with EPR objects answers with
EPR_Source_Capabilities. -/
def getEprCaps (p : PortId) (s : State) : State :=
  let q := s.ports[p]
  if q.isSource && !q.pol.eprCaps.isEmpty then
    let spr := (sprOffers s p).take 7
    let data := (spr ++ List.replicate (7 - spr.length) 0 ++ eprOffers s p).flatMap wordBytes
    engineSend p 0 (fun q => extMsg q 0 17 data) false .reply s
  else sendNotSupported p 0 s

/-- EPR_KeepAlive: an Extended_Control message of type 3 (log entry 9). -/
def isKeepalive (m : List Byte) : Bool := msgExt m && msgType m == 16 && m.getD 4 0 == 3

/-- Messages whose row of the table carries the engine's part: Security_Request and EPR_KeepAlive; PS_RDY, the
swaps, Soft_Reset and FR_Swap; Request, BIST, Alert, EPR_Request and EPR_Mode. -/
def ownRow (m : List Byte) : Bool :=
  if msgExt m then msgType m == 8 || isKeepalive m
  else if msgNobj m == 0 then [6, 9, 10, 11, 13, 19].contains (msgType m)
  else [2, 3, 6, 9, 10].contains (msgType m)

/-- A stored extended message. -/
def polExtended (p : PortId) (c : Fin 3) (m : List Byte) (s : State) : State :=
  if revCode s.ports[p].ctx[c] = 1 then sendNotSupported p c s
  else if msgType m = 9 then securityResponse p c (m.drop 4) s
  else if c = 0 && msgType m = 16 && m.getD 4 0 = 1 then getEprCaps p s
  else msgAnswer p c m s

/-- A stored control message. -/
def polControl (p : PortId) (c : Fin 3) (m : List Byte) (s : State) : State :=
  let q := s.ports[p]
  let host : Bool := match q.pol.await with
    | some (.hostMsg _) => true
    | _ => false
  match msgType m with
  | 3 => if host then msgAnswer p c m s else accepted p c s
  | 4 => refused p c .partnerReject s
  | 12 => refused p c .partnerWait s
  | 16 => refused p c .notSupportedByPartner s
  | 5 => if q.isSource then sendNotSupported p c s else s
  | 7 => getSourceCap p s
  | 8 => if roleOf s p = 0 then sendNotSupported p c s else sendSinkCaps p s
  | 24 => engineSend p c (fun q => dataMsg q c 12 [0x32000000]) false .reply s
  | _ => sendNotSupported p c s

/-- A stored message reaches policy (04 R94): control messages, answers, and messages that no row of
the table handles by itself. -/
def polMessage (p : PortId) (c : Fin 3) (m : List Byte) (s : State) : State :=
  let t := msgType m
  let s := if c = 0 then heard p (!(ownRow m || (!msgExt m && t == 7))) s else s
  if ownRow m then s
  else if msgExt m then polExtended p c m s
  else if msgNobj m = 0 then polControl p c m s
  else
    let objs := msgObjs (msgNobj m) (m.drop 2)
    match t with
    | 1 => if s.ports[p].isSource then sendNotSupported p c s else sinkRequest p (msgRev m) objs s
    | 12 => s
    | 15 => if vdmStructured (objs.headD 0) && vdmCmdType (objs.headD 0) ≠ 0 then vdmResponse p c objs s else s
    | _ => msgAnswer p c m s

/-- A Request reaches policy (04 R102, R105): a Request during a transition is answered with Hard
Reset (PD 3.2); else the partner's revision is taken and the Request evaluated. -/
def polRequest (p : PortId) (rdo : Word) (rev : Nat) (s : State) : State :=
  let q := s.ports[p]
  if !(q.attached && q.isSource) then s
  else
    let s := heard p false s
    if q.pol.accepted then engineHardReset p s
    else
      let s := slotOff' p 6 (setAwait p none s)
      let s := modPort p (fun q =>
        let q := q.modCtx 0 fun c => { c with ctl := F.CTX_CTL.REV.put (if rev ≤ 1 then 1 else 2) c.ctl }
        let first := ((q.pol.sent.find? fun x => x.1 == 1).map Prod.snd).getD 0
        let q := setUnchunk (bitOf first 24) (bitOf rdo 23) q
        if rev ≤ 1 then { q with pd.rev := F.PD_REV.PARTNER.put 0x20 q.pd.rev } else q) s
      evaluateRequest p rdo s

/-- An EPR_Request reaches policy (04 R109, R112): its copy of the object must be the one offered. -/
def polEprRequest (p : PortId) (rdo pdo : Word) (s : State) : State :=
  let q := s.ports[p]
  if !(q.attached && q.isSource) then s
  else
    let s := heard p false s
    if q.pol.accepted then engineHardReset p s
    else
      let s := slotOff' p 6 (setAwait p none s)
      if (q.pol.sent.find? fun x => x.1 == rdoPos rdo).map Prod.snd == some pdo &&
          F.PD_PHYCFG.EPR.on q.pd.phycfg then evaluateRequest p rdo s
      else rejectRequest p false s

/-- A Soft_Reset on SOP reaches policy (04 R98, R101): host commands of SOP end; Accept is sent and
capabilities follow; during a transition PD 3.2 asks for Hard Reset. -/
def polSoftReset (p : PortId) (c : Fin 3) (s : State) : State :=
  if c ≠ 0 then polTxEnd p c s
  else
    let s := heard p false s
    let trans := s.ports[p].pol.accepted
    let s := dropExchange p 0 s
    if trans then engineHardReset p s
    else
      let s := sendCtrl p 3 false .reply s
      if s.ports[p].isSource then sendCaps p false s else s

/-- EPR_Mode (Enter): acknowledged, then answered after the four checks; 0 succeeds, else the reason of
the first condition that failed (04 R110). -/
def eprVerdict (s : State) (p : PortId) : Nat :=
  let q := s.ports[p]
  let cabled := F.PRT_CAPT.CABLED.on q.core.capt
  let cable := cableOf s p
  let first := ((q.pol.sent.find? fun x => x.1 == 1).map Prod.snd).getD 0
  if !bitOf first 23 then 5
  else
    let spr := match q.pol.contract with
      | some k => !k.epr && bitOf k.rdo 22
      | none => false
    if !spr || F.PD_REV.PARTNER.get q.pd.rev = 0x30 then 3
    else if q.pol.eprCaps.isEmpty then 4
    else if !(q.vconnOn || cabled) then 2
    else if !(cabled || (cable.discovered && cable.epr && cable.volt ≥ 50 && cable.curr ≥ 50)) then 1
    else 0

def polEprEnter (p : PortId) (s : State) : State :=
  if s.ports[p].isSource && s.ports[p].attached then
    let s := slotOff' p 22 (heard p true s)
    engineSend p 0 (eprModeMsg 2 0) false (.eprAck (eprVerdict s p)) s
  else s

/-- EPR_Mode (Exit) (04 R111): a sink whose contract stands above 20 V must obtain an SPR contract first, else PD
3.2 asks for Hard Reset. -/
def polEprExit (p : PortId) (s : State) : State :=
  if !F.PD_PHYCFG.EPR.on s.ports[p].pd.phycfg then s
  else if (s.ports[p].pol.contract.map Contract.volt).getD 0 > 1000 then engineHardReset p (heard p false s)
  else
    sendCaps p false (slotOff' p 20 (modPort p (fun q => { q with
      pd.phycfg := F.PD_PHYCFG.EPR.clr q.pd.phycfg }) (heard p false s)))

/-- EPR_KeepAlive answered by the engine (04 R111). -/
def polKeepalive (p : PortId) (s : State) : State :=
  engineSend p 0 keepaliveAck false .reply (heard p false s)

/-- A swap the partner asks for enters the policy. -/
def takeSwap (p : PortId) (kind : Nat) (s : State) : State :=
  let w : Swap := { kind := kind, step := .asked, byDevice := false, wasSource := s.ports[p].isSource }
  let s := modPol p (fun l => { l with swap := some w }) s
  sendCtrl p 3 false (.swapAccept kind) s

/-- PR_Swap from the partner (04 Table PDE-6): refused on a port that is not bidirectional or not
allowed it, and, to become source, without a vSafe5V reservation. -/
def polPrSwap (p : PortId) (s : State) : State :=
  let s := heard p true s
  if !bidirectional s p then sendNotSupported p 0 s
  else if !s.ports[p].pol.prSwapOk then sendCtrl p 4 false .reply s
  else if s.ports[p].isSource then takeSwap p 0 s
  else
    let (s, r) := drawReserve p s
    match r with
    | some l => takeSwap p 0 (modPol p (fun m => { m with level := l }) s)
    | none => sendCtrl p 4 false .reply (caddyRelease p s)

/-- DR_Swap from the partner (04 Table PDE-6). -/
def polDrSwap (p : PortId) (s : State) : State :=
  let s := heard p true s
  if !s.ports[p].pol.modes.isEmpty then engineHardReset p s
  else if s.ports[p].pol.drSwapOk then takeSwap p 1 s
  else sendCtrl p 4 false .reply s

/-- VCONN_Swap from the partner (04 Table PDE-6): to stop always; to become VCONN source when allowed
and admitted. -/
def polVconnSwap (p : PortId) (s : State) : State :=
  let s := heard p true s
  if s.ports[p].vconnOn || (s.ports[p].pol.vconnSwapOk && vconnAdmit s p) then takeSwap p 2 s
  else sendCtrl p 4 false .reply s

/-- PS_RDY from the partner (04 R116, R117, R122): a swap's step, or a sink contract in force. -/
def polPsRdy (p : PortId) (s : State) : State :=
  let s := heard p true s
  match s.ports[p].pol.swap with
  | some w => swapPsRdyHeard p w s
  | none =>
    if s.ports[p].isSource || s.ports[p].pol.next.isNone then unexpected p 0 s
    else sinkPathOn p (contractInForce p (slotOff' p 13 s))

end Sys2Proof.Machine
end

