-- ==== Sys2Proof/Machine/Pd.lean ====
section
/-! DEFINITION. The PD commands: reception, transmission, ordered sets, timers and swaps of a port
(04_pd_protocol_engine.md). The hardware's part is done at once; the engine's part when the engine
that serves the port runs (01 R20, R21). -/

namespace Sys2Proof.Machine
open Sys2Proof

/-! ## Policy rows -/

/-- A message of the partner that the port's context accepts (04 R85, R86, R121): in EPR mode one on SOP restarts
tSourceEPRKeepAlive (04 R111), and the engine acts on it. -/
def atMsg (p : PortId) (c : Fin 3) (i : Instr) (f : State → State) (s : State) : State :=
  if s.ports[p].hears c then
    let s := if c = 0 && F.PD_PHYCFG.EPR.on s.ports[p].pd.phycfg then slotOn p 20 s else s
    atPd p i f s
  else s

def execRequestReceived (p : PortId) (rdo : Word) (rev : Nat) (s : State) :
    Host.Outcome State Fault Refusal :=
  .next (atMsg p 0 (.requestReceived p rdo rev) (polRequest p rdo rev) s)

def execEprRequestReceived (p : PortId) (rdo pdo : Word) (s : State) :
    Host.Outcome State Fault Refusal :=
  .next (atMsg p 0 (.eprRequestReceived p rdo pdo) (polEprRequest p rdo pdo) s)

def execEprModeEnter (p : PortId) (s : State) :
    Host.Outcome State Fault Refusal :=
  .next (atMsg p 0 (.eprModeEnter p) (polEprEnter p) s)

def execEprModeExit (p : PortId) (s : State) :
    Host.Outcome State Fault Refusal :=
  .next (atMsg p 0 (.eprModeExit p) (polEprExit p) s)

def execPrSwap (p : PortId) (s : State) :
    Host.Outcome State Fault Refusal :=
  .next (atMsg p 0 (.prSwap p) (polPrSwap p) s)

def execDrSwap (p : PortId) (s : State) :
    Host.Outcome State Fault Refusal :=
  .next (atMsg p 0 (.drSwap p) (polDrSwap p) s)

def execVconnSwap (p : PortId) (s : State) :
    Host.Outcome State Fault Refusal :=
  .next (atMsg p 0 (.vconnSwap p) (polVconnSwap p) s)

def execPsRdyReceived (p : PortId) (s : State) :
    Host.Outcome State Fault Refusal :=
  .next (atMsg p 0 (.psRdyReceived p) (polPsRdy p) s)

/-- A Vendor_Defined message reaches policy (04 R118): a command, or a response. -/
def polVdm (p : PortId) (c : Fin 3) (objs : List Word) (s : State) : State :=
  let s := if c = 0 then heard p true s else s
  if vdmStructured (objs.headD 0) && vdmCmdType (objs.headD 0) ≠ 0 then vdmResponse p c objs s
  else vdmCommand p c objs s

def execVendorDefinedReceived (p : PortId) (c : Fin 3) (objs : List Word) (s : State) :
    Host.Outcome State Fault Refusal :=
  .next (atMsg p c (.vendorDefinedReceived p c objs) (polVdm p c objs) s)

/-- The cable's reply (04 R102, R113): current in 100 mA, voltage in V, EPR Capable, revision as in
PD_REV. It ends the discovery's AMS. -/
def polCableReply (p : PortId) (curr volt : Nat) (epr : Bool) (rev : Nat) (s : State) : State :=
  endAms p (modPort p (fun q =>
    setCable { curr := curr, volt := volt, epr := epr, discovered := true } rev (stopSlot 17 q)) s)

def execCableDiscoverIdentityReply (p : PortId) (curr volt : Nat) (epr : Bool) (rev : Nat)
    (s : State) : Host.Outcome State Fault Refusal :=
  .next (atMsg p 1 (.cableDiscoverIdentityReply p curr volt epr rev)
    (polCableReply p curr volt epr rev) s)

/-- The partner's Revision, or 3.0 after Not_Supported (04 R102). -/
def polRevision (p : PortId) (rev : Option Nat) (s : State) : State :=
  let s := modPort p (fun q => { q with
    pd.rev := F.PD_REV.PARTNER.put (rev.getD 0x30) q.pd.rev }) (heard p true s)
  if s.ports[p].pol.await == some .getRevision then endAms p (slotOff' p 6 (setAwait p none s)) else s

def execGetRevisionReply (p : PortId) (rev : Option Nat) (s : State) :
    Host.Outcome State Fault Refusal :=
  .next (atMsg p 0 (.getRevisionReply p rev) (polRevision p rev) s)

/-- VBUS is at vSafe5V: the path stands at a TARGET of 5.0 V. -/
def atVsafe5 (q : Port) : Bool := q.atTarget && q.target == 250

/-- The PHY starts the BIST carrier for tBISTContMode (04 R121), on the oriented pin (R85). -/
def startCarrier (now : Nat) (q : Port) : Port :=
  if q.orient = 0 then q else startSlot now 5 { q with phw.bistCarrier := true }

/-- BIST Carrier Mode on SOP, at vSafe5V (04 R121). -/
def bistCarrierMode (now : Nat) (q : Port) : Port :=
  if q.hears 0 && atVsafe5 q then startCarrier now q else q

/-- BIST Test Data on SOP, at vSafe5V (04 R121). -/
def bistTestData (q : Port) : Port :=
  if q.hears 0 && atVsafe5 q then { q with phw.bistData := true } else q

def execBistCarrierMode (p : PortId) (s : State) : Host.Outcome State Fault Refusal :=
  .next (modPort p (bistCarrierMode s.time) s)

def execBistTestData (p : PortId) (s : State) : Host.Outcome State Fault Refusal :=
  .next (modPort p bistTestData s)

def execSecurityRequestReceived (p : PortId) (c : Fin 3) (s : State) :
    Host.Outcome State Fault Refusal :=
  .next (atMsg p c (.securityRequestReceived p c) (fun s => sendNotSupported p c s) s)

def execFrSwapReceived (p : PortId) (s : State) : Host.Outcome State Fault Refusal :=
  .next (atMsg p 0 (.frSwapReceived p) (fun s => sendCtrl p 16 false .reply (heard p true s)) s)

/-- An Alert is posted with its Alert Data Object (09 Table CMD-11). -/
def polAlert (p : PortId) (ado : Word) (s : State) : State :=
  postPort p .alertRx ado (heard p true s)

def execAlertReceived (p : PortId) (ado : Word) (s : State) : Host.Outcome State Fault Refusal :=
  .next (atMsg p 0 (.alertReceived p ado) (polAlert p ado) s)

/-- The hardware answers EPR_KeepAlive by itself (04 R111): in EPR mode with KA_ACK set, while the engine does not
run. -/
def autoAnswers (s : State) (p : PortId) : Bool :=
  let q := s.ports[p]
  F.PD_PHYCFG.EPR.on q.pd.phycfg && F.CTX_CTL.KA_ACK.on q.ctx[0].ctl && !portServed s p

/-- EPR_KeepAlive_Ack waits for an idle line, and KA_AUTO is set (04 R111). -/
def autoAck (q : Port) : Port :=
  { q with
    phw.hwq := q.phw.hwq ++ [{ ctx := 0, msg := keepaliveAck q, tries := 0, wire := false }]
    pd.evt := F.PD_EVT.KA_AUTO.set q.pd.evt }

/-- EPR_KeepAlive (04 R111): in EPR mode tSourceEPRKeepAlive restarts; the hardware answers, or the engine. -/
def keepalive (p : PortId) (s : State) : State :=
  if autoAnswers s p && s.ports[p].hears 0 then
    modPort p (fun q => autoAck (startSlot s.time 20 q)) s
  else atMsg p 0 (.eprKeepalive p) (polKeepalive p) s

def execEprKeepalive (p : PortId) (s : State) : Host.Outcome State Fault Refusal :=
  .next (keepalive p s)

/-! ## Reception (04 R84, R93 to R97) -/

/-- A message of a context is accepted: a transmission of the same context that waits or is not yet on
the wire is discarded with RESULT 0x5 (04 R93). -/
def discardTx (c : Fin 3) (q : Port) : Port :=
  if q.holdsPhy c && !q.phw.onWire[c] && !F.CTX_XFER.TX_ACT.on q.ctx[c].xfer then finishTx c 5 false q
  else q

/-- RX_ID takes a MessageID. -/
def takeId (c : Fin 3) (id : Nat) (q : Port) : Port :=
  q.modCtx c fun r => { r with id := F.CTX_ID.RX_ID.put id (F.CTX_ID.RX_VALID.set r.id) }

/-- The MessageID equals RX_ID with RX_VALID set. -/
def isDup (q : Port) (c : Fin 3) (id : Nat) : Bool :=
  F.CTX_ID.RX_VALID.on q.ctx[c].id && F.CTX_ID.RX_ID.get q.ctx[c].id == id

/-- What every message accepted by a context does first: the line has been busy, and in EPR mode one on SOP restarts
tSourceEPRKeepAlive (04 R111). -/
def arrives (now : Nat) (c : Fin 3) (q : Port) : Port :=
  let q := busyLine now q
  if c = 0 && F.PD_PHYCFG.EPR.on q.pd.phycfg then startSlot now 20 q else q

/-- In BIST Test Data mode a message on SOP is acknowledged, discarded and counted (04 R121). -/
def bistTakes (now : Nat) (c : Fin 3) (m : List Byte) (q : Port) : Option Port :=
  if c = 0 && q.phw.bistData then some (sendGoodCrc now c m { q with pd.bistcnt := q.pd.bistcnt + 1 }) else none

/-- A duplicate is acknowledged and counted (04 Table PDE-2). -/
def countDup (now : Nat) (c : Fin 3) (m : List Byte) (q : Port) : Port :=
  sendGoodCrc now c m (q.modCtx c fun r => { r with rxcnt := satInc F.CTX_RXCNT.DUP r.rxcnt })

/-- An ordinary message is received (04 Table PDE-2): the new port, and whether it was stored. -/
def receive (now : Nat) (c : Fin 3) (m : List Byte) (q : Port) : Port × Bool :=
  let q := arrives now c q
  match bistTakes now c m q with
  | some q => (q, false)
  | none =>
    if isDup q c (msgId m) then (countDup now c m q, false)
    else
      let q := dropReasm (discardTx c q)
      match freeBuf q with
      | some k => (sendGoodCrc now c m (storeRx c k m (takeId c (msgId m) q)), true)
      | none => ({ q with pd.evt := F.PD_EVT.RX_FULL.set q.pd.evt }, false)

/-- The engine takes a stored message and frees its buffer (04 R88). -/
def releaseOldest (q : Port) : Port :=
  if F.PD_RXHEAD.PEND.get q.pd.rxhead = 0 then q
  else releaseRx (BitVec.ofNat 32 (2 ^ F.PD_RXHEAD.HEAD.get q.pd.rxhead)) q

/-- Policy takes a stored message: its buffer is freed, a transmission that it discarded counts as not sent
(04 R93), and the message is acted on. -/
def polStored (p : PortId) (c : Fin 3) (m : List Byte) (s : State) : State :=
  polMessage p c m (polTxEnd p c (modPort p releaseOldest s))

/-- After a final RESULT the engine acts on it; `i` is the step kept for it. -/
def afterTx (p : PortId) (c : Fin 3) (i : Instr) (before : Port) (s : State) : State :=
  if before.holdsPhy c && !s.ports[p].holdsPhy c then atPd p i (polTxEnd p c) s else s

/-- A received Soft_Reset ends the context's transmission: RESULT 0x6 when it has reached the wire, 0x5 when it waits
(04 R93). -/
def softEnds (c : Fin 3) (q : Port) : Port :=
  if q.holdsPhy c && (q.phw.onWire[c] || F.CTX_XFER.TX_ACT.on q.ctx[c].xfer) then finishTx c 6 false q
  else discardTx c q

/-- What the hardware does at a received Soft_Reset (04 R93, Table PDE-2): it is acknowledged and stored, and the
context's MessageIDs are reset. Table PDE-2 does not say which row wins with no receive buffer free: the model sets
RX_FULL and stores nothing, sends no GoodCRC, and yet resets the MessageIDs and lets the engine act (DESIGN CHOICE,
log entry 86). -/
def softResetHw (now : Nat) (c : Fin 3) (m : List Byte) (q : Port) : Port :=
  let q := resetIds c (softEnds c (dropReasm (arrives now c q)))
  match freeBuf q with
  | some k => sendGoodCrc now c m (storeRx c k m q)
  | none => { q with pd.evt := F.PD_EVT.RX_FULL.set q.pd.evt }

/-- SOFT_RESET_RECEIVED (04 R98); in BIST Test Data mode it is discarded on SOP (04 R121). -/
def softResetReceived (p : PortId) (c : Fin 3) (m : List Byte) (s : State) : State :=
  let q := s.ports[p]
  if !(q.ctxOn c && q.orient != 0) then s
  else match bistTakes s.time c m (arrives s.time c q) with
    | some q => modPort p (fun _ => q) s
    | none =>
      let s := modPort p (softResetHw s.time c m) s
      atPd p (.softResetReceived p c) (fun s => polSoftReset p c (modPort p releaseOldest s)) s

def execSoftResetReceived (p : PortId) (c : Fin 3) (s : State) : Host.Outcome State Fault Refusal :=
  .next (softResetReceived p c (bytes2 13) s)

/-- PD_MESSAGE_RECEIVED (04 R94): a frame on a context that is off, or with no orientation, is dropped;
one with a bad CRC is counted; a Soft_Reset acts as its own row; an EPR_KeepAlive that the hardware answers takes no
buffer (04 R111). -/
def messageReceived (p : PortId) (c : Fin 3) (m : List Byte) (crcOk : Bool) (s : State) : State :=
  let q := s.ports[p]
  if q.orient = 0 || !q.rxEnabled c then s
  else if !crcOk then
    modPort p (fun q => (busyLine s.time q).modCtx c fun r => { r with
      rxcnt := satInc F.CTX_RXCNT.CRC_ERR r.rxcnt }) s
  else if !q.ctxOn c then s
  else if !msgExt m && msgNobj m = 0 && msgType m = 13 then softResetReceived p c m s
  else if c = 0 && isKeepalive m && autoAnswers s p && !q.phw.bistData && !isDup q c (msgId m) then
    modPort p (fun q => autoAck (sendGoodCrc s.time c m (takeId c (msgId m) (arrives s.time c q)))) s
  else
    let (q', stored) := receive s.time c m q
    let s := modPort p (fun _ => q') s
    if stored then atPd p (.pdMessageReceived p c m crcOk) (polStored p c m) s
    else afterTx p c (.crcReceiveTimerExpiry p c) q s

def execPdMessageReceived (p : PortId) (c : Fin 3) (m : List Byte) (crcOk : Bool) (s : State) :
    Host.Outcome State Fault Refusal :=
  .next (messageReceived p c m crcOk s)

/-- The hardware asks for chunk `n` of the message in reassembly: a Chunk Request waits for an idle line (04 R97). -/
def askChunk (c : Fin 3) (type n : Nat) (q : Port) : Port :=
  { q with phw.hwq := q.phw.hwq ++ [{ ctx := c, msg := chunkRequest q c type n, tries := 0, wire := false }] }

/-- Chunk 0 (04 R97): a reassembly opens in a free buffer, or the whole message is stored. A port reassembles one
message at a time: chunk 0 of another context discards the reassembly under way (DESIGN CHOICE, log entry 87). -/
def firstChunk (now : Nat) (c : Fin 3) (m : List Byte) (q : Port) : Port × Option (List Byte) :=
  let size := extSize m
  let q := dropReasm (discardTx c q)
  if size > 260 then (sendGoodCrc now c m (takeId c (msgId m) q), none)
  else
    match freeBuf q with
    | none => ({ q with pd.evt := F.PD_EVT.RX_FULL.set q.pd.evt }, none)
    | some k =>
      let q := sendGoodCrc now c m (takeId c (msgId m) q)
      let msg := m.take (4 + min 26 size)
      if size ≤ 26 then (storeRx c k msg q, some msg)
      else
        let q := { q with
          phw.rxbuf := q.phw.rxbuf.set k (overlay msg q.phw.rxbuf[k])
          phw.reasm := some { ctx := c, buf := k, size := size, next := 1 } }
        let q := q.modCtx c fun r => { r with
          xfer := F.CTX_XFER.RX_ACT.set (F.CTX_XFER.RX_CHUNK.put 0 r.xfer) }
        (startSlot now 3 (askChunk c (msgType m) 1 q), none)

/-- A later chunk (04 R97): the one expected next extends the message, and the last one stores it. -/
def laterChunk (now : Nat) (c : Fin 3) (m : List Byte) (q : Port) : Port × Option (List Byte) :=
  let n := extChunk m
  let q := sendGoodCrc now c m (takeId c (msgId m) q)
  match q.phw.reasm with
  | some r =>
    if r.ctx = c && r.next = n then
      let left := r.size - 26 * n
      let msg := q.phw.rxbuf[r.buf].take (4 + 26 * n) ++ (m.drop 4).take (min 26 left)
      let q := q.modCtx c fun x => { x with xfer := F.CTX_XFER.RX_CHUNK.put n x.xfer }
      if left ≤ 26 then (storeRx c r.buf msg (dropReasm q), some msg)
      else (startSlot now 3 (askChunk c (msgType msg) (n + 1) { q with
        phw.rxbuf := q.phw.rxbuf.set r.buf (overlay msg q.phw.rxbuf[r.buf])
        phw.reasm := some { r with next := n + 1 } }), none)
    else (q, none)
  | none => (q, none)

/-- A chunk is received (04 R97, Table PDE-2). -/
def receiveChunk (now : Nat) (c : Fin 3) (m : List Byte) (q : Port) : Port × Option (List Byte) :=
  let q := arrives now c q
  match bistTakes now c m q with
  | some q => (q, none)
  | none =>
    if isDup q c (msgId m) then (countDup now c m q, none)
    else if extChunk m = 0 then firstChunk now c m q
    else laterChunk now c m q

/-- CHUNK_RECEIVED (04 R97). -/
def chunkReceived (p : PortId) (c : Fin 3) (m : List Byte) (s : State) : State :=
  let q := s.ports[p]
  if q.ctxOn c && q.orient ≠ 0 then
    let (q', done) := receiveChunk s.time c m q
    let s := modPort p (fun _ => q') s
    match done with
    | some msg => atPd p (.pdMessageReceived p c msg true) (polStored p c msg) s
    | none => afterTx p c (.crcReceiveTimerExpiry p c) q s
  else s

def execChunkReceived (p : PortId) (c : Fin 3) (m : List Byte) (s : State) :
    Host.Outcome State Fault Refusal :=
  .next (chunkReceived p c m s)

/-- The partner asks for the next chunk (04 R97): it waits for an idle line. -/
def nextChunk (now : Nat) (c : Fin 3) (n : Nat) (q : Port) : Port :=
  if q.holdsPhy c && F.CTX_XFER.TX_ACT.on q.ctx[c].xfer && !q.phw.onWire[c] &&
      n == F.CTX_XFER.TX_CHUNK.get q.ctx[c].xfer + 1 then
    let q := arrives now c q
    let q := q.modCtx c fun r => { r with
      xfer := F.CTX_XFER.TX_CHUNK.put n r.xfer, txstat := F.CTX_TXSTAT.TRIES.put 0 r.txstat }
    stopSlot 2 { q with phw.txReady := q.phw.txReady.set c true }
  else q

def execChunkRequestReceived (p : PortId) (c : Fin 3) (n : Nat) (s : State) :
    Host.Outcome State Fault Refusal :=
  .next (modPort p (nextChunk s.time c n) s)

/-! ## Transmission (04 R90 to R93) -/

/-- TX_ID advances modulo 8. -/
def advanceId (c : Fin 3) (q : Port) : Port :=
  q.modCtx c fun r => { r with id := F.CTX_ID.TX_ID.put ((F.CTX_ID.TX_ID.get r.id + 1) % 8) r.id }

/-- The hardware's own message of a context that is on the wire (04 R97, R111). -/
def hwOnWire (c : Fin 3) (q : Port) : Option HwMsg := q.phw.hwq.head?.filter fun m => m.ctx == c && m.wire

/-- A GoodCRC (04 R91, R97): with the matching MessageID the frame on the wire is acknowledged; the
last frame ends the transmission with RESULT 0x3, another chunk waits for its Chunk Request. -/
def goodCrc (now : Nat) (c : Fin 3) (id : Nat) (q : Port) : Port :=
  if F.CTX_ID.TX_ID.get q.ctx[c].id != id then q
  else if (hwOnWire c q).isSome then
    stopSlot 0 (advanceId c (busyLine now { q with phw.hwq := q.phw.hwq.drop 1 }))
  else if q.phw.onWire[c] then
    let q := busyLine now q
    if moreChunks q c then
      startSlot now 2 (stopSlot 0 (advanceId c { q with
        phw.onWire := q.phw.onWire.set c false, phw.txReady := q.phw.txReady.set c false }))
    else finishTx c 3 true q
  else q

def goodcrcReceived (p : PortId) (c : Fin 3) (id : Nat) (s : State) : State :=
  afterTx p c (.goodcrcReceived p c id) s.ports[p] (modPort p (goodCrc s.time c id) s)

def execGoodcrcReceived (p : PortId) (c : Fin 3) (id : Nat) (s : State) :
    Host.Outcome State Fault Refusal :=
  .next (goodcrcReceived p c id s)

def execCtxTxcmdSend (p : PortId) (c : Fin 3) (buf : Fin 2) (ams : Bool) (s : State) :
    Host.Outcome State Fault Refusal :=
  .next (if hwUp s then modPort p (sendCmd s.time c buf ams) s else s)

/-- The context whose frame waits for an idle line. -/
def readyCtx (q : Port) : Option (Fin 3) :=
  (List.finRange 3).find? fun c => q.holdsPhy c && q.phw.txReady[c]

/-- A frame goes on the wire: RESULT 0x2, CRCReceiveTimer running from its end (04 R91); a chunked message shows
TX_ACT. -/
def putOnWire (now : Nat) (c : Fin 3) (q : Port) : Port :=
  let act := txChunked q c
  let n := frameLen q c
  let q := q.modCtx c fun r => { r with
    txstat := F.CTX_TXSTAT.RESULT.put 2 r.txstat
    xfer := F.CTX_XFER.TX_ACT.setTo act r.xfer }
  startSlot (now + frameTime n) 0 (transmits now n { q with
    phw.onWire := q.phw.onWire.set c true, phw.txReady := q.phw.txReady.set c false })

/-- The hardware's own message goes on the wire with the context's next MessageID (04 R97, R111). -/
def sendHw (now : Nat) (m : HwMsg) (q : Port) : Port :=
  startSlot (now + frameTime m.msg.length) 0 (transmits now m.msg.length { q with
    phw.hwq := { m with wire := true } :: q.phw.hwq.drop 1 })

/-- What the engine does once its Hard Reset has been sent, or given up, which counts as sent: it counts toward the
limit of two (04 R99, R100, 09 R254). -/
def polHardSent (p : PortId) (sent : Bool) (s : State) : State :=
  let s := afterHardReset p 2 (modPol p (fun l => { l with hrCount := l.hrCount + 1 }) s)
  let s := slotOn p 24 s
  endWait p (· == .hardReset) .ok [if sent then 1 else 0] s

/-- What the engine does once its Cable Reset has been sent (04 Table PDE-3, R93, 09 R254). -/
def polCableSent (p : PortId) (s : State) : State :=
  endWait p (· == .hardReset) .ok [1] (polTxEnd p 2 (polTxEnd p 1 (afterCableReset p s)))

/-- The Hard Reset ordered set goes out (04 R100): its contexts reset, HR_SENT. -/
def hardSentHw (now : Nat) (q : Port) : Port :=
  let q := stopSlot 4 (hardResetCtxs (busyLine now q))
  { q with
    phw.hrWait := false, phw.bistCarrier := false
    pd.sigstat := F.PD_SIGSTAT.HR_SENT.set q.pd.sigstat
    pd.evt := F.PD_EVT.HR_SENT.set q.pd.evt }

/-- The Cable Reset ordered set goes out: CR_SENT, and the AMS under way ends (04 Table PDE-3, R92). -/
def cableSentHw (now : Nat) (q : Port) : Port :=
  let q := amsRestore (resetCtx 2 (resetCtx 1 (busyLine now q)))
  { q with
    phw.crWait := false
    pd.sigstat := F.PD_SIGSTAT.CR_SENT.set q.pd.sigstat
    pd.evt := F.PD_EVT.CR_SENT.set q.pd.evt }

/-- LINE_IDLE_TRANSMIT (04 R85, R100): on the oriented pin the waiting ordered set goes out, else the hardware's own
message, else the waiting frame; nothing with ORIENT 0b00, while the PHY sends the BIST carrier, or while a
CRCReceiveTimer runs for the frame before. -/
def lineIdle (p : PortId) (s : State) : State :=
  let q := s.ports[p]
  if q.orient = 0 || q.phw.bistCarrier then s
  else if q.phw.hrWait then
    atPd p (.pdSignalHardReset p) (polHardSent p true) (modPort p (hardSentHw s.time) s)
  else if q.phw.crWait then
    atPd p (.pdSignalCableReset p) (polCableSent p) (modPort p (cableSentHw s.time) s)
  else if q.slotRuns 0 then s
  else
    match q.phw.hwq.head? with
    | some m => modPort p (sendHw s.time m) s
    | none =>
      match readyCtx q with
      | some c => modPort p (putOnWire s.time c) s
      | none => s

def execLineIdleTransmit (p : PortId) (s : State) : Host.Outcome State Fault Refusal :=
  .next (lineIdle p s)

/-- CRCReceiveTimer expires (04 R91): the frame waits for an idle line to be sent again while retransmissions
remain; else the transmission ends with RESULT 0x4 and TX_ID advances. -/
def crcExpiry (c : Fin 3) (q : Port) : Port :=
  if !q.slotRuns 0 then q
  else match hwOnWire c q with
    | some m =>
      if m.tries < maxRetries q c then
        stopSlot 0 { q with phw.hwq := { m with tries := m.tries + 1, wire := false } :: q.phw.hwq.drop 1 }
      else stopSlot 0 (advanceId c { q with phw.hwq := q.phw.hwq.drop 1 })
    | none =>
      if q.phw.onWire[c] then
        let n := F.CTX_TXSTAT.TRIES.get q.ctx[c].txstat
        if n < maxRetries q c then
          stopSlot 0 ({ q with phw.txReady := q.phw.txReady.set c true }.modCtx c fun r => { r with
            txstat := F.CTX_TXSTAT.TRIES.put (n + 1) r.txstat })
        else finishTx c 4 true q
      else q

def crcReceiveTimer (p : PortId) (c : Fin 3) (s : State) : State :=
  afterTx p c (.crcReceiveTimerExpiry p c) s.ports[p] (modPort p (crcExpiry c) s)

def execCrcReceiveTimerExpiry (p : PortId) (c : Fin 3) (s : State) :
    Host.Outcome State Fault Refusal :=
  .next (crcReceiveTimer p c s)

/-- tSinkTx passes (04 R92): the first message of the AMS may go. -/
def sinkTxPassed (q : Port) : Port :=
  if q.slotRuns 1 then
    (List.finRange 3).foldl (fun q c =>
      if q.result c == 1 then
        let q := q.modCtx c fun r => { r with txstat := F.CTX_TXSTAT.RESULT.put 2 r.txstat }
        { q with phw.txReady := q.phw.txReady.set c true }
      else q) (stopSlot 1 q)
  else q

def execTsinktxExpiry (p : PortId) (s : State) : Host.Outcome State Fault Refusal :=
  .next (modPort p sinkTxPassed s)

/-- No Chunk Request arrives (04 R97). -/
def chunkRequestMissing (c : Fin 3) (q : Port) : Port :=
  if q.slotRuns 2 && q.holdsPhy c then finishTx c 7 false q else q

def execTchunkSenderRequestExpiry (p : PortId) (c : Fin 3) (s : State) :
    Host.Outcome State Fault Refusal :=
  .next (afterTx p c (.tchunkSenderRequestExpiry p c) s.ports[p]
    (modPort p (chunkRequestMissing c) s))

def execTchunkSenderResponseExpiry (p : PortId) (s : State) : Host.Outcome State Fault Refusal :=
  .next (modPort p (fun q => if q.slotRuns 3 then stopSlot 3 (dropReasm q) else q) s)

/-! ## Ordered sets (04 R98 to R100, R121) -/

/-- What the engine does after a received Hard Reset. One of its own that waited is cancelled, and with
it a PORT_HARD_RESET (04 R100, R101). -/
def polHardReceived (p : PortId) (s : State) : State :=
  let s := heard p false s
  let s := endWait p (· == .hardReset) .cancelled [] s
  afterHardReset p 2 s

/-- HARD_RESET_RECEIVED (04 R84, R99). -/
def hardResetReceived (p : PortId) (s : State) : State :=
  let q := s.ports[p]
  if q.orient ≠ 0 && q.rxEnabled 0 then
    let s := modPort p (fun q =>
      let q := stopSlot 4 (hardResetCtxs (busyLine s.time q))
      { q with
        phw.hrWait := false, phw.bistCarrier := false
        pd.sigstat := F.PD_SIGSTAT.HR_RCVD.set q.pd.sigstat
        pd.evt := F.PD_EVT.HR_RCVD.set q.pd.evt }) s
    atPd p (.hardResetReceived p) (polHardReceived p) s
  else s

def execHardResetReceived (p : PortId) (s : State) : Host.Outcome State Fault Refusal :=
  .next (hardResetReceived p s)

/-- CABLE_RESET_RECEIVED has no effect and is not counted (04 R84). -/
def execCableResetReceived (_p : PortId) (s : State) : Host.Outcome State Fault Refusal := .next s

def execPdSignalHardReset (p : PortId) (s : State) : Host.Outcome State Fault Refusal :=
  .next (if hwUp s then signalHardReset p s else s)

/-- A Cable Reset waits for an idle line; only while VCONN source and DFP (04 Table PDE-3). -/
def signalCableReset (q : Port) : Port :=
  if q.vconnOn && q.isDfp then { q with phw.crWait := true } else q

def execPdSignalCableReset (p : PortId) (s : State) : Host.Outcome State Fault Refusal :=
  .next (if hwUp s then modPort p signalCableReset s else s)

def execPdSignalBistCm (p : PortId) (s : State) : Host.Outcome State Fault Refusal :=
  .next (if hwUp s then modPort p (fun q => if q.pol.testUse then startCarrier s.time q else q) s else s)

/-- tHardResetComplete expires (04 R100): HR_FAIL, and the engine proceeds as though it were sent. -/
def hardResetGivenUp (p : PortId) (s : State) : State :=
  let q := s.ports[p]
  if q.phw.hrWait && q.slotRuns 4 then
    atPd p (.thardResetCompleteExpiry p) (polHardSent p false) (modPort p (fun q => stopSlot 4 { q with
      phw.hrWait := false, pd.sigstat := F.PD_SIGSTAT.HR_FAIL.set q.pd.sigstat }) s)
  else s

def execThardResetCompleteExpiry (p : PortId) (s : State) : Host.Outcome State Fault Refusal :=
  .next (hardResetGivenUp p s)

/-- tBISTContMode expires (04 R121). -/
def carrierEnds (now : Nat) (q : Port) : Port :=
  if q.slotRuns 5 then
    stopSlot 5 { busyLine now q with
      phw.bistCarrier := false
      pd.sigstat := F.PD_SIGSTAT.BIST_END.set q.pd.sigstat
      pd.evt := F.PD_EVT.BIST_END.set q.pd.evt }
  else q

def execTbistContModeExpiry (p : PortId) (s : State) : Host.Outcome State Fault Refusal :=
  .next (modPort p (carrierEnds s.time) s)

/-! ## Register writes -/

def execPdRxrelWrite (p : PortId) (v : Word) (s : State) : Host.Outcome State Fault Refusal :=
  .next (if hwUp s then modPort p (releaseRx v) s else s)

/-- Slots 6 to 25 named by a write's bits (04 R122: the bits of slots 0 to 5 are ignored). -/
def slotBits (v : Word) : List (Fin 26) := (List.finRange 26).filter fun i => 6 ≤ i.val && bitOf v i.val

def execPdTmrstartWrite (p : PortId) (v : Word) (s : State) : Host.Outcome State Fault Refusal :=
  .next (if hwUp s then modPort p (fun q => (slotBits v).foldl (fun q i => startSlot s.time i q) q) s else s)

def execPdTmrstopWrite (p : PortId) (v : Word) (s : State) : Host.Outcome State Fault Refusal :=
  .next (if hwUp s then modPort p (fun q => (slotBits v).foldl (fun q i => stopSlot i q) q) s else s)

def execAmsEnd (p : PortId) (s : State) : Host.Outcome State Fault Refusal :=
  .next (if hwUp s then modPort p amsEnd s else s)

/-! ## Expiry of the engine's slots (04 R122, Table PDE-10) -/

/-- A running engine slot expires: its bit and PD_EVT.TMR are set, and the engine acts (01 R20). -/
def slotExpiry (p : PortId) (i : Fin 26) (c : Instr) (f : State → State) (s : State) : State :=
  if s.ports[p].slotRuns i then
    atPd p c (fun s => f (modPort p (ackSlot i) s)) (modPort p (expireSlot i) s)
  else s

/-- tSenderResponse (04 R92, R105, R107, 09 R252, R259): no answer came. -/
def polSenderResponse (p : PortId) (s : State) : State :=
  let q := s.ports[p]
  match (List.finRange 3).find? (fun c => q.result c == 1 && !q.isSource) with
  | some c => polTxEnd p c (modPort p (finishTx c 4 false) s)
  | none =>
    match q.pol.await with
    | some (.swapRequest _) => swapFails p .partnerTimeout s
    | some (.hostMsg t) =>
      let s := setAwait p none s
      match tagWait s t with
      | some w => endAms p (completeWait w .partnerTimeout [] s)
      | none => endAms p s
    | some .getRevision => endAms p (setAwait p none s)
    | _ => if q.attached then engineHardReset p (setAwait p none s) else s

def execTsenderResponseExpiry (p : PortId) (s : State) : Host.Outcome State Fault Refusal :=
  .next (slotExpiry p 6 (.tsenderResponseExpiry p) (polSenderResponse p) s)

/-- tTypeCSendSourceCap (04 R107): the capabilities are sent again. -/
def polSendCap (p : PortId) (s : State) : State :=
  let q := s.ports[p]
  if q.attached && q.isSource && q.pol.contract.isNone && q.pol.hr == .none &&
      !F.PRT_STATE.NOPD.on q.core.state then sendCaps p false s else s

def execTtypecSendSourceCapExpiry (p : PortId) (s : State) : Host.Outcome State Fault Refusal :=
  .next (slotExpiry p 7 (.ttypecSendSourceCapExpiry p) (polSendCap p) s)

/-- tSrcTransition (04 R106, Table PDE-7): the ramp or PS_RDY, or step S2 of a PR_Swap. -/
def polSrcTransition (p : PortId) (s : State) : State :=
  match s.ports[p].pol.swap with
  | some w => if w.step = .s1 then swapS2 p w s else s
  | none => runTransition p s

def execTsrcTransitionExpiry (p : PortId) (s : State) : Host.Outcome State Fault Refusal :=
  .next (slotExpiry p 8 (.tsrcTransitionExpiry p) (polSrcTransition p) s)

/-- tPSHardReset (04 R99 step 2): VBUS is driven to vSafe0V and VCONN goes off, with it the cable contexts (R86). -/
def polPsHardReset (p : PortId) (s : State) : State :=
  if s.ports[p].pol.hr = .psHardReset then
    cableCtxs p <| modPort p (fun q => { (vconnOpen (sinkOn (cenOff (gateOff q)))) with
      pol := { q.pol with hr := .discharge } }) s
  else s

def execTpsHardResetExpiry (p : PortId) (s : State) : Host.Outcome State Fault Refusal :=
  .next (slotExpiry p 9 (.tpsHardResetExpiry p) (polPsHardReset p) s)

/-- tSrcRecover (04 R99 step 3): VCONN where a powered cable is seen, and vSafe5V, return, on the reservation that
the caddy keeps; a port without one, after a PR_Swap had returned it, draws it anew. -/
def polSrcRecover (p : PortId) (s : State) : State :=
  if s.ports[p].pol.hr = .recover && s.ports[p].attached then
    let s := if s.ports[p].cableSeen then
        let s := vconnStart p (otherPin s.ports[p]) s
        if s.ports[p].vconnOn then slotOn p 18 (cableCtxs p s) else s
      else s
    if (s.cadp[p]).floor = 0 then
      let (s, r) := drawReserve p s
      match r with
      | some l => raise5 p (modPol p (fun m => { m with level := l }) s)
      | none => s
    else raise5 p s
  else s

def execTsrcRecoverExpiry (p : PortId) (s : State) : Host.Outcome State Fault Refusal :=
  .next (slotExpiry p 10 (.tsrcRecoverExpiry p) (polSrcRecover p) s)

/-- tPSSourceOn or tPSSourceOff during a PR_Swap starts error recovery (04 R116). -/
def polSwapLost (p : PortId) (s : State) : State :=
  if s.ports[p].pol.swap.isSome then errorRecovery p s else s

def execTpsSourceOnExpiry (p : PortId) (s : State) : Host.Outcome State Fault Refusal :=
  .next (slotExpiry p 11 (.tpsSourceOnExpiry p) (polSwapLost p) s)

def execTpsSourceOffExpiry (p : PortId) (s : State) : Host.Outcome State Fault Refusal :=
  .next (slotExpiry p 12 (.tpsSourceOffExpiry p) (polSwapLost p) s)

/-- A sink port sends Hard Reset (04 R122). -/
def polSinkReset (p : PortId) (s : State) : State :=
  if s.ports[p].isSource then s else engineHardReset p s

def execTpsTransitionExpiry (p : PortId) (s : State) : Host.Outcome State Fault Refusal :=
  .next (slotExpiry p 13 (.tpsTransitionExpiry p) (polSinkReset p) s)

/-- tSwapSourceStart after a swap to source (04 Table PDE-7, K3). -/
def polSwapStart (p : PortId) (s : State) : State :=
  if s.ports[p].isSource && s.ports[p].attached then sendCaps p false s else s

def execTswapSourceStartExpiry (p : PortId) (s : State) : Host.Outcome State Fault Refusal :=
  .next (slotExpiry p 14 (.tswapSourceStartExpiry p) (polSwapStart p) s)

/-- tVDMSenderResponse (04 R119). -/
def polVdmTimeout (p : PortId) (s : State) : State :=
  match s.ports[p].pol.await with
  | some (.hostMsg t) =>
    let s := setAwait p none s
    match tagWait s t with
    | some w => endAms p (completeWait w .partnerTimeout [] s)
    | none => endAms p s
  | some .discIdentity => endAms p (setAwait p none s)
  | _ => s

def execTvdmSenderResponseExpiry (p : PortId) (s : State) : Host.Outcome State Fault Refusal :=
  .next (slotExpiry p 15 (.tvdmSenderResponseExpiry p) (polVdmTimeout p) s)

/-- The host VDM budget ends (04 R118): every VDM that waits for the host is answered BUSY. -/
def polBudget (p : PortId) (s : State) : State :=
  (List.finRange 3).foldl (fun s (c : Fin 3) =>
    match s.ports[p].pol.hostVdm[c] with
    | none => s
    | some n =>
      let o := ((s.ports[p].pol.vdms.find? fun v => v.num == n && v.ctx == c).map
        (fun v => v.objs.headD 0)).getD 0
      answerVdm p c [vdmAnswerHdr o 3] (modPol p (fun l => { l with hostVdm := l.hostVdm.set c none }) s)) s

def execHostVdmBudgetExpiry (p : PortId) (s : State) : Host.Outcome State Fault Refusal :=
  .next (slotExpiry p 16 (.hostVdmBudgetExpiry p) (polBudget p) s)

/-- tDiscoverIdentity (04 R113): an unanswered attempt is repeated, up to 20 in all; then the cable
counts as 3 A, 20 V and not EPR-capable. -/
def polDiscover (p : PortId) (s : State) : State :=
  let s := endAms p s
  let l := s.ports[p].pol
  if (l.cable.map Cable.discovered).getD false || !s.ports[p].vconnOn then s
  else if l.cableTries < 20 then
    discoverCable p (modPol p (fun l => { l with cableTries := l.cableTries + 1 }) s)
  else modPol p (fun l => { l with cable := some { curr := 30, volt := 20, epr := false, discovered := false } }) s

def execTdiscoverIdentityExpiry (p : PortId) (s : State) : Host.Outcome State Fault Refusal :=
  .next (slotExpiry p 17 (.tdiscoverIdentityExpiry p) (polDiscover p) s)

/-- tVCONNStable (04 R98, R113, R117): PS_RDY of a VCONN_Swap; VCONN on again after a Cable Reset; or
cable discovery starts (startDiscovery). -/
def polVconnStable (p : PortId) (s : State) : State :=
  let q := s.ports[p]
  match q.pol.swap with
  | some w => if w.step = .vconnOn then sendCtrl p 6 false (.swapPsRdy 2) s else s
  | none =>
    if !q.attached then s
    else if !q.vconnOn then
      let s := vconnStart p (otherPin q) s
      if s.ports[p].vconnOn then slotOn p 18 (cableCtxs p s) else s
    else startDiscovery p s

def execTvconnStableExpiry (p : PortId) (s : State) : Host.Outcome State Fault Refusal :=
  .next (slotExpiry p 18 (.tvconnStableExpiry p) (polVconnStable p) s)

/-- tVCONNSourceTimeout (04 R117): Hard Reset, VCONN stays on. -/
def polVconnTimeout (p : PortId) (s : State) : State :=
  if s.ports[p].pol.swap.isSome then engineHardReset p s else s

def execTvconnSourceTimeoutExpiry (p : PortId) (s : State) : Host.Outcome State Fault Refusal :=
  .next (slotExpiry p 19 (.tvconnSourceTimeoutExpiry p) (polVconnTimeout p) s)

/-- tSourceEPRKeepAlive (04 R111): Hard Reset; the contract is lost with cause 6. -/
def polEprLost (p : PortId) (s : State) : State :=
  if F.PD_PHYCFG.EPR.on s.ports[p].pd.phycfg then hardResetFor p 6 s else s

def execTsourceEprKeepaliveExpiry (p : PortId) (s : State) : Host.Outcome State Fault Refusal :=
  .next (slotExpiry p 20 (.tsourceEprKeepaliveExpiry p) (polEprLost p) s)

def execTsinkEprKeepaliveExpiry (p : PortId) (s : State) : Host.Outcome State Fault Refusal :=
  .next (slotExpiry p 21 (.tsinkEprKeepaliveExpiry p) (polSinkReset p) s)

/-- tEnterEPR (04 R112 item 3, R122). -/
def polEnterEpr (p : PortId) (s : State) : State :=
  if s.ports[p].isSource then releaseHeld p s else softReset p 0 s

def execTenterEprExpiry (p : PortId) (s : State) : Host.Outcome State Fault Refusal :=
  .next (slotExpiry p 22 (.tenterEprExpiry p) (polEnterEpr p) s)

/-- tPPSTimeout (04 R108): Hard Reset; the contract is lost with cause 5. -/
def polPpsTimeout (p : PortId) (s : State) : State :=
  match s.ports[p].pol.contract with
  | some k => if k.kind = 1 && s.ports[p].isSource then hardResetFor p 5 s else s
  | none => s

def execTppsTimeoutExpiry (p : PortId) (s : State) : Host.Outcome State Fault Refusal :=
  .next (slotExpiry p 23 (.tppsTimeoutExpiry p) (polPpsTimeout p) s)

/-- tNoResponse (04 R99, R107): a Hard Reset while fewer than two have been sent; then a silent
partner stays at vSafe5V with NOPD, and the FEED_P port opens its sink path to it (06 R178). -/
def polNoResponse (p : PortId) (s : State) : State :=
  let q := s.ports[p]
  if !q.attached then s
  else if q.pol.hrCount < 2 then engineHardReset p s
  else if q.pol.spoke then s
  else
    let s := modPort p (fun q => { q with core.state := F.PRT_STATE.NOPD.set q.core.state }) s
    if q.isSource || !q.strained 5 then s else sinkPathOn p s

def execTnoResponseExpiry (p : PortId) (s : State) : Host.Outcome State Fault Refusal :=
  .next (slotExpiry p 24 (.tnoResponseExpiry p) (polNoResponse p) s)

/-- tErrorRecovery (04 R99): the port enters DETACHED. -/
def polErrorRecovery (p : PortId) (s : State) : State :=
  if s.ports[p].pol.errRecovery && s.ports[p].st = .bindingOff then endBindOff p s else s

def execTerrorRecoveryExpiry (p : PortId) (s : State) : Host.Outcome State Fault Refusal :=
  .next (slotExpiry p 25 (.terrorRecoveryExpiry p) (polErrorRecovery p) s)

/-- SWAP_FLAG_TIMEOUT (04 R116): the front die clears SWAP. -/
def execSwapFlagTimeout (p : PortId) (s : State) : Host.Outcome State Fault Refusal :=
  .next (modPort p (fun q => { q with pd.phycfg := F.PD_PHYCFG.SWAP.clr q.pd.phycfg }) s)

/-- No outcome within 20 ms of the Request (04 R105): Wait to a PD 3.x partner, Reject to PD 2.0. -/
def polOutcomeTimeout (p : PortId) (s : State) : State :=
  if s.ports[p].pol.reqWait then
    sendCtrl p (if revCode s.ports[p].ctx[0] = 1 then 4 else 12) false .waitMsg
      (modPol p (fun l => { l with reqWait := false, next := none }) s)
  else s

def execRequestOutcomeTimeout (p : PortId) (s : State) : Host.Outcome State Fault Refusal :=
  .next (atPd p (.requestOutcomeTimeout p) (polOutcomeTimeout p) s)

/-- The target that a millisecond of a PPS contract asks for (04 R108), with the operating current in mA: 20 mV lower,
to 3.3 V at the lowest, while the current is above the requested one by more than 150 mA; 20 mV higher, up to the
requested voltage, once it is below that level. -/
def ppsTarget (k : Contract) (curr t : Nat) : Nat :=
  if curr > 10 * k.curr + 150 then (if t > 165 then t - 1 else t)
  else if curr < 10 * k.curr + 150 && t < k.volt then t + 1
  else t

/-- PPS_TARGET_STEP (04 R108): the FBS target moves by the step; one above CEIL is refused (05 R131). -/
def polPpsStep (p : PortId) (curr : Nat) (s : State) : State :=
  match s.ports[p].pol.contract with
  | some k =>
    if k.kind = 1 && s.ports[p].isSource && s.ports[p].pol.next.isNone then
      let t := ppsTarget k curr s.ports[p].target
      if t > s.ports[p].target && targetRefused s.ports[p] t then refuseTarget p t s
      else modPort p (fun q => { (setFbs (20 * t) q) with
          pth.steep := F.PTH_STEEP.TARGET.put t q.pth.steep
          pth.ref := F.PTH_REF.REF.put t q.pth.ref }) s
    else s
  | none => s

def execPpsTargetStep (p : PortId) (curr : Nat) (s : State) : Host.Outcome State Fault Refusal :=
  .next (atPd p (.ppsTargetStep p curr) (polPpsStep p curr) s)

end Sys2Proof.Machine
end

