-- ==== Sys2Proof/Machine/Resume.lean ====
section
/-! DEFINITION. How an engine resumes a port after it has not run: it checks the port's context, then
handles what waits there in arrival order (01 R16, R20, R21). -/

namespace Sys2Proof.Machine
open Sys2Proof

/-- An expired slot acted on after the engine resumed. -/
def resumeSlot (p : PortId) (i : Fin 26) (f : State → State) (s : State) : State :=
  f (modPort p (ackSlot i) s)

/-- The engine's part of the commands of 03 and 05 that wait in a port's context. -/
def resumePath (i : Instr) (s : State) : State :=
  match i with
  | .cmpStrainerSample p _ _ => polPattern p s
  | .debDone p => polDebDone p s
  | .pddebExpiry p => polPddeb p s
  | .trippedDetach p => polTrippedDetach p s
  | .hardwareDetach p => polDetach p s
  | .tdrptryExpiry p => polDrpTry p s
  | .ttrydebExpiry p => polTryDeb p s
  | .rampDone p => polRampDone p s
  | .disDone p => polDisDone p s
  | .retryDue p => polRetry p s
  | .vconnOcp p => polVconnLost p s
  | .vconnAggOff p => polVconnLost p s
  | .vconnRev p => polVconnLost p s
  | .pthRetryClrWrite p => leaveHold p s
  | .eccUncorrectable _ _ who => match portOf who with
    | some p => polEcc p s
    | none => s
  | _ => s

/-- The engine's part of a message that waits in a port's context. -/
def resumeMessage (i : Instr) (s : State) : State :=
  match i with
  | .requestReceived p rdo rev => polRequest p rdo rev s
  | .eprRequestReceived p rdo pdo => polEprRequest p rdo pdo s
  | .eprModeEnter p => polEprEnter p s
  | .eprModeExit p => polEprExit p s
  | .prSwap p => polPrSwap p s
  | .drSwap p => polDrSwap p s
  | .vconnSwap p => polVconnSwap p s
  | .psRdyReceived p => polPsRdy p s
  | .vendorDefinedReceived p c objs => polVdm p c objs s
  | .cableDiscoverIdentityReply p curr volt epr rev => polCableReply p curr volt epr rev s
  | .getRevisionReply p rev => polRevision p rev s
  | .securityRequestReceived p c => sendNotSupported p c s
  | .frSwapReceived p => sendCtrl p 16 false .reply (heard p true s)
  | .alertReceived p ado => polAlert p ado s
  | .eprKeepalive p => polKeepalive p s
  | .softResetReceived p c => polSoftReset p c (modPort p releaseOldest s)
  | .pdMessageReceived p c m _ => polStored p c m s
  | .goodcrcReceived p c _ => polTxEnd p c s
  | .crcReceiveTimerExpiry p c => polTxEnd p c s
  | .tchunkSenderRequestExpiry p c => polTxEnd p c s
  | .pdSignalHardReset p => polHardSent p true s
  | .pdSignalCableReset p => polCableSent p s
  | .hardResetReceived p => polHardReceived p s
  | .thardResetCompleteExpiry p => polHardSent p false s
  | .requestOutcomeTimeout p => polOutcomeTimeout p s
  | .ppsTargetStep p curr => polPpsStep p curr s
  | i => resumePath i s

/-- The engine's part of anything that waits in a port's context: timer events, messages, the rest. -/
def policyStep (i : Instr) (s : State) : State :=
  match i with
  | .tsenderResponseExpiry p => resumeSlot p 6 (polSenderResponse p) s
  | .ttypecSendSourceCapExpiry p => resumeSlot p 7 (polSendCap p) s
  | .tsrcTransitionExpiry p => resumeSlot p 8 (polSrcTransition p) s
  | .tpsHardResetExpiry p => resumeSlot p 9 (polPsHardReset p) s
  | .tsrcRecoverExpiry p => resumeSlot p 10 (polSrcRecover p) s
  | .tpsSourceOnExpiry p => resumeSlot p 11 (polSwapLost p) s
  | .tpsSourceOffExpiry p => resumeSlot p 12 (polSwapLost p) s
  | .tpsTransitionExpiry p => resumeSlot p 13 (polSinkReset p) s
  | .tswapSourceStartExpiry p => resumeSlot p 14 (polSwapStart p) s
  | .tvdmSenderResponseExpiry p => resumeSlot p 15 (polVdmTimeout p) s
  | .hostVdmBudgetExpiry p => resumeSlot p 16 (polBudget p) s
  | .tdiscoverIdentityExpiry p => resumeSlot p 17 (polDiscover p) s
  | .tvconnStableExpiry p => resumeSlot p 18 (polVconnStable p) s
  | .tvconnSourceTimeoutExpiry p => resumeSlot p 19 (polVconnTimeout p) s
  | .tsourceEprKeepaliveExpiry p => resumeSlot p 20 (polEprLost p) s
  | .tsinkEprKeepaliveExpiry p => resumeSlot p 21 (polSinkReset p) s
  | .tenterEprExpiry p => resumeSlot p 22 (polEnterEpr p) s
  | .tppsTimeoutExpiry p => resumeSlot p 23 (polPpsTimeout p) s
  | .tnoResponseExpiry p => resumeSlot p 24 (polNoResponse p) s
  | .terrorRecoveryExpiry p => resumeSlot p 25 (polErrorRecovery p) s
  | i => resumeMessage i s

/-- The port has sent Accept for a new contract: the transition runs, or the engine has yet to learn of the
Accept's GoodCRC (01 R21). -/
def acceptSent (q : Port) : Bool := q.pol.accepted || q.pol.txNow[0] == some .accept

/-- The port is in the Hard Reset sequence (04 R99): a step of it runs, an ordered set waits for the line, or one
received or sent waits for the engine. -/
def hardResetRuns (q : Port) : Bool :=
  q.pol.hr != .none || q.phw.hrWait || q.pol.pend.any fun i =>
    match i with
    | .hardResetReceived _ => true
    | .pdSignalHardReset _ => true
    | .thardResetCompleteExpiry _ => true
    | _ => false

/-- The check of a port's context (01 R21): a CASTING_ON port restarts the negotiation with Soft_Reset, but not
after Accept, with NOPD, or in the Hard Reset sequence. -/
def checkContext (p : PortId) (s : State) : State :=
  let q := s.ports[p]
  if q.st = .castingOn && !acceptSent q && !F.PRT_STATE.NOPD.on q.core.state && !hardResetRuns q then
    softReset p 0 s
  else s

/-- The result that waits in a port's caddy window reaches the engine (06 R176). -/
def takeWindow (p : PortId) (s : State) : State :=
  let w := s.cad.wres[p]
  if F.CAD_WRES.VALID.on w then
    onCaddyResult p (F.CAD_WRES.OUTCOME.get w) (F.CAD_WRES.GOUT.get w) (ackResult p s)
  else s

/-- A due retry that waited for rows begins (05 R147). -/
def takeRetry (p : PortId) (s : State) : State :=
  if s.ports[p].retryIsDue then polRetry p s else s

/-- A port resumed by its engine (01 R21). -/
def resumePort (p : PortId) (s : State) : State :=
  let s := checkContext p s
  let l := s.ports[p].pol.pend
  let s := modPol p (fun l => { l with pend := [] }) s
  takeRetry p (takeWindow p (presentV5 p <| l.foldl (fun s i => policyNext p (policyStep i s)) s))

/-- Every port with a serving engine resumed, in order. -/
def resumePorts (l : List PortId) (s : State) : State :=
  forPorts l (fun p s => if portServed s p then resumePort p s else s) s

end Sys2Proof.Machine
end

