-- ==== Sys2Proof/Machine/EngineOps.lean ====
section
/-! DEFINITION. The engines as wholes: release and stop, failure, takeover by SE12 and fencing (01 R16,
R17, 12 R336, R337, 13 R359, R360). -/

namespace Sys2Proof.Machine
open Sys2Proof

/-- The core of an engine. -/
def coreOf (e : EngId) : CoreId := ⟨e.val, by omega⟩

/-- The control pair as a core. -/
def pairCore : CoreId := ⟨13, by omega⟩

/-- A core changed. -/
def modCore (c : CoreId) (f : Core → Core) (s : State) : State :=
  { s with cores := s.cores.set c (f s.cores[c]) }

/-- An engine's STATE code. -/
def engState (s : State) (e : EngId) : Nat := F.SE_STAT.STATE.get s.engines[e].se.stat

/-- An engine's STATE written. -/
def setEngState (n : Nat) (e : EngId) (s : State) : State :=
  modEng e (fun g => { g with se.stat := F.SE_STAT.STATE.put n g.se.stat }) s

/-- The state of a core at its beginning (13 R359): registers, predicates, cycle counter and latched lines
zero, the PC at 0; memories and encoding stay. -/
def clearCore (k : Core) : Core :=
  { k with g := Vector.replicate 16 0, p := Vector.replicate 4 false, pc := 0, cyc := 0,
           cycHi := none, tbHi := none, latched := 0, wait := none }

/-- RUN = 1 on a stopped engine (13 Table DWX-13): it runs from where it stopped, or waits again; CLR has
cleared its latched lines, and a stopped engine takes no SEV (13 R355). The control pair enables its
task watchdog, and EXP clears (12 R336). -/
def releaseEngine (e : EngId) (s : State) : State :=
  if engState s e ≠ 0 then s
  else
    let waits := s.cores[coreOf e].wait.isSome
    modEng e (fun g => { g with
      se.ctl := F.SE_CTL.RUN.set g.se.ctl
      se.stat := F.SE_STAT.STATE.put (if waits then 2 else 1) g.se.stat
      sew.ctl := F.SEW_CTL.EN.set g.sew.ctl
      sew.stat := F.SEW_STAT.EXP.clr g.sew.stat
      sewAt := s.time }) s

/-- RUN = 0, or the engine stopped by the control pair (13 Table DWX-13, 12 R336): at the next
instruction boundary, at once when waiting; its task watchdog is disabled. -/
def stopEngine (e : EngId) (s : State) : State :=
  modEng e (fun g => { g with
    se.ctl := F.SE_CTL.RUN.clr g.se.ctl
    se.stat := if F.SE_STAT.STATE.get g.se.stat = 3 then g.se.stat else F.SE_STAT.STATE.put 0 g.se.stat
    sew.ctl := F.SEW_CTL.EN.clr g.sew.ctl }) s

/-- CLR on a stopped or faulted engine (13 Table DWX-13): the core's state, FAULT, SE_FPC and PMERR are
zeroed and the PC is 0, and its timers are reset (14 R374); a faulted engine is then stopped. -/
def clearEngine (e : EngId) (s : State) : State :=
  if engState s e = 0 ∨ engState s e = 3 then
    let s := modCore (coreOf e) clearCore s
    modEng e (fun g => { g with
      se.stat := g.se.stat |> F.SE_STAT.STATE.clr |> F.SE_STAT.FAULT.clr |> F.SE_STAT.PMERR.clr
      se.fpc := 0, se.cychi := 0, cycLatched := false
      tmr := Vector.replicate 4 TmrRegs.reset, tmrHw := Vector.replicate 4 TmrHw.reset }) s
  else s

/-! ## Failure, takeover, fencing -/

/-- An engine is out of service. -/
def engFailed (s : State) (e : EngId) : Bool := bitOf s.saf.engmap e.val

/-- The skein SE12 holds. -/
def spareSkein (s : State) : Option (Fin 12) :=
  if F.SAF_ENGMAP.VALID.on s.saf.engmap then
    let k := F.SAF_ENGMAP.SKEIN.get s.saf.engmap
    if h : k < 12 then some ⟨k, h⟩ else none
  else none

/-- A port of a fenced skein (01 R17, 12 Table SAF-2): its fused safe state, then FENCED; its contract is
lost with cause 9, its contexts reset, its holding released. -/
def fencePort (p : PortId) (s : State) : State :=
  if s.ports[p].st = .fenced || unpopulated s p then s
  else
    let s := safeFused p s
    let s := loseContract p 9 0 s
    let s := resetContexts p s
    let s := modPort p (fun q => openPins (stopAbs (stopDeb ({ q with pol.pend := [] }.hwSt .fenced)))) s
    completeAll (fun w => w.port == p.val) .cancelled (caddyRelease p s)

/-- A skein is fenced (01 R17). -/
def fenceSkein (k : Fin 12) (s : State) : State :=
  setHealth 1 true (forPorts (portsOfSkein k.val) fencePort s)

/-- SKEIN: the failed engine, the skein, the cause and whether it is fenced (09 Table CMD-12). -/
def postSkein (e : EngId) (skein : Nat) (cause : Nat) (fenced : Bool) (s : State) : State :=
  postCp 1157 (BitVec.ofNat 32 (e.val + 256 * skein + 65536 * cause + if fenced then 131072 else 0)) s

/-- SE12 takes a skein over and resumes its ports (01 R16). -/
def takeOver (k : Fin 12) (s : State) : State :=
  let s := { s with saf := { s.saf with
    engmap := F.SAF_ENGMAP.VALID.set (F.SAF_ENGMAP.SKEIN.put k.val s.saf.engmap) } }
  setHealth 0 true (releaseEngine 12 (clearEngine 12 (stopEngine 12 s)))

/-- An engine fails, with cause 0 its self-test and 1 its task watchdog (01 R16, R17, 12 R336, R337): it
is stopped and out of service; SE12 takes its skein, or the skein is fenced. Its ports are resumed
by SE12 when `go`. -/
def engineFails (e : EngId) (cause : Nat) (go : Bool) (s : State) : State :=
  let s := stopEngine e s
  let s := { s with saf := { s.saf with engmap := setBit e.val s.saf.engmap } }
  if h : e.val < 12 then
    let k : Fin 12 := ⟨e.val, h⟩
    if (spareSkein s).isNone && !engFailed s 12 then
      let s := postSkein e k.val cause false (takeOver k s)
      if go then resumePorts (portsOfSkein k.val) s else s
    else postSkein e k.val cause true (fenceSkein k s)
  else
    match spareSkein s with
    | some k =>
      let s := { s with saf := { s.saf with
        engmap := F.SAF_ENGMAP.VALID.clr (F.SAF_ENGMAP.SKEIN.put 15 s.saf.engmap) } }
      postSkein e k.val cause true (fenceSkein k s)
    | none => postSkein e 15 cause false s

end Sys2Proof.Machine
end

