-- ==== Sys2Proof/Machine/CoreOps.lean ====
section
/-! DEFINITION. DWX cores: whether a core executes, its general registers, predicates and guard, and
faults (13_dwx_instruction_set.md R341, R342, R356). -/

namespace Sys2Proof.Machine
open Sys2Proof

/-- The engine of a core, or none for the control pair. -/
def engineCore (c : CoreId) : Option EngId := if h : c.val < 13 then some ⟨c.val, h⟩ else none

/-- A core's STATE code: 0 stopped, 1 running, 2 waiting, 3 faulted. -/
def coreState (s : State) (c : CoreId) : Nat :=
  match engineCore c with
  | some e => engState s e
  | none => s.boot.cpState

/-- A core's STATE written. -/
def setCoreState (n : Nat) (c : CoreId) (s : State) : State :=
  match engineCore c with
  | some e => setEngState n e s
  | none => { s with boot := { s.boot with cpState := n } }

/-- A core executes: its clock runs and it is running (10 R293, R294). -/
def coreRuns (s : State) (c : CoreId) : Bool :=
  coreState s c == 1 && !s.cru.standby &&
    match engineCore c with
    | some e => hwUp s && bitOf s.cru.regs.gate e.val
    | none => hwUp s

/-- A general register; g0 reads as zero. -/
def Core.reg (k : Core) (r : Fin 16) : Word := if r = 0 then 0 else k.g[r]

/-- A general register written; writes to g0 are ignored. -/
def Core.setReg (r : Fin 16) (v : Word) (k : Core) : Core :=
  if r = 0 then k else { k with g := k.g.set r v }

/-- A predicate; p0 reads as 1. -/
def Core.pred (k : Core) (i : Fin 4) : Bool := if i = 0 then true else k.p[i]

/-- A predicate written; writes to p0 are ignored. -/
def Core.setPred (i : Fin 4) (b : Bool) (k : Core) : Core :=
  if i = 0 then k else { k with p := k.p.set i b }

/-- The guard holds: the selected predicate XOR INV (13 R342). -/
def guardOn (k : Core) (gd : Fin 8) : Bool :=
  k.pred ⟨gd.val % 4, by omega⟩ != (4 ≤ gd.val)

/-- A core faults (13 R356): an engine enters the faulted state with the code and the parcel address; the
control pair stops and keeps no record. -/
def faultCore (c : CoreId) (code : Nat) (s : State) : State :=
  match engineCore c with
  | some e =>
    let pc := s.cores[c].pc
    modEng e (fun g => { g with
      se.stat := F.SE_STAT.FAULT.put code (F.SE_STAT.STATE.put 3 g.se.stat)
      se.fpc := F.SE_FPC.PC.put pc g.se.fpc }) s
  | none => { s with boot := { s.boot with cpState := 3 } }

end Sys2Proof.Machine
end

