-- ==== Sys2Proof/Machine/CodecOps.lean ====
section
/-! DEFINITION. The telemetry codec: channels, blocks, records and the ring (07_telemetry_codec.md R189
to R204). -/

namespace Sys2Proof.Machine
open Sys2Proof

/-! ## Channels (07 Table TEL-1, R191, R192) -/

/-- The port and the quantity of a port channel: 0 VBUS, 1 IBUS, 2 VCV. -/
def chanPort (ch : Fin 297) : Option (PortId × Fin 3) :=
  if h : ch.val < 288 then some (⟨ch.val % 96, by omega⟩, ⟨ch.val / 96, by omega⟩) else none

/-- The codes are signed: IBUS and the feed currents. -/
def chanSigned (ch : Nat) : Bool := (96 ≤ ch && ch < 192) || ch == 289 || ch == 291

/-- Frames in a block period. -/
def chanPeriod (ch : Nat) : Nat := if ch < 192 then 1 else if ch < 292 then 4 else 32

/-- The ADC of a channel, as 4n + a; VDD_CORE is measured by the control die. -/
def chanAdc (ch : Nat) : Option Nat :=
  if ch < 288 then some (4 * (ch % 96 / 24) + ch % 24 / 6)
  else if ch < 290 then some 3
  else if ch < 292 then some 11
  else if ch < 296 then some (4 * (ch - 292))
  else none

/-- An ADC has failed. -/
def adcOut (s : State) (a : Nat) : Bool := bitOf s.tel.adcfail a

/-- The channel is absent: its ADC has failed (07 R193), or its front die is not there: not joined, without supplies
or without its stitch link (01 Table ANA-5, 07 R190). -/
def chanAbsent (s : State) (ch : Nat) : Bool :=
  match chanAdc ch with
  | some a => adcOut s a || !bitOf s.saf.stat (a / 4)
  | none => false

/-- The port of a channel is of a fenced skein: its blocks are absent (01 Table ANA-5). -/
def chanFenced (s : State) (ch : Fin 297) : Bool :=
  match chanPort ch with
  | some (p, _) => (engineOf s (skeinOf p)).isNone
  | none => false

/-- The channel's streaming enable. -/
def chanEn (s : State) (ch : Fin 297) : Bool :=
  match chanPort ch with
  | some (p, i) => bitOf s.ports[p].tel.pcfg i.val
  | none => bitOf s.tel.sysen (ch.val - 288)

/-- The channel's k: values above 4 act as 4 (07 R194). -/
def chanK (s : State) (ch : Fin 297) : Nat :=
  min 4 (match chanPort ch with
    | some (p, i) => s.ports[p].tel.pcfg.toNat / 2 ^ (4 * i.val + 4) % 8
    | none => s.tel.sysk.toNat / 2 ^ (3 * (ch.val - 288)) % 8)

/-- The channel's threshold register. -/
def chanThr (s : State) (ch : Fin 297) : Word :=
  match chanPort ch with
  | some (p, i) =>
    let t := s.ports[p].tel
    if i = 0 then t.pthv else if i = 1 then t.pthi else t.pthc
  | none => s.tel.systhr.toList.getD (ch.val - 288) 0

/-- The value of a code. -/
def codeVal (ch c : Nat) : Int := if chanSigned ch && 2048 ≤ c then (c : Int) - 4096 else c

/-- The codec's state of a channel changed. -/
def modChan (ch : Fin 297) (f : Chan → Chan) (s : State) : State :=
  { s with codec := { s.codec with chans := s.codec.chans.set ch (f s.codec.chans[ch]) } }

/-- A flag of TEL_EVT set, and TELEMETRY posted (09 Table CMD-12). -/
def telEvent (f : Fld) (adc ch : Nat) (s : State) : State :=
  let s := { s with tel := { s.tel with evt := f.set s.tel.evt } }
  postCp 1155 (BitVec.ofNat 32 (s.tel.evt.toNat % 16 + 16 * adc + 65536 * ch)) s

/-! ## Samples (07 R194, R195) -/

/-- The latest-sample register. -/
def setLast (ch : Fin 297) (code : Nat) (s : State) : State :=
  let w : Word := BitVec.ofNat 32 code
  match chanPort ch with
  | some (p, i) => modPort p (fun q =>
      if i = 0 then { q with tel.pvbus := w } else if i = 1 then { q with tel.pibus := w }
      else { q with tel.pvcv := w }) s
  | none =>
    if h : ch.val - 288 < 9 then
      { s with tel := { s.tel with syslast := s.tel.syslast.set (ch.val - 288) w } }
    else s

/-- A threshold lies between two codes: they are on different sides of it. -/
def crosses (ch t a b : Nat) : Bool :=
  decide (codeVal ch t ≤ codeVal ch a) != decide (codeVal ch t ≤ codeVal ch b)

/-- A crossing that is reported: the event and the flag. -/
def postCrossing (ch : Fin 297) (hi up : Bool) (i code : Nat) (s : State) : State :=
  match chanPort ch with
  | some (p, n) =>
    let s := modPort p (fun q => { q with tel.pevt := setBit n.val q.tel.pevt }) s
    postPort p .telThreshold (BitVec.ofNat 32 (n.val + (if hi then 4 else 0) + (if up then 8 else 0)
      + 16 * i + 65536 * code)) s
  | none => telEvent F.TEL_EVT.SYS_THR 0 ch.val s

/-- One sample of a channel. -/
def telSample (ch : Fin 297) (code : Nat) (s : State) : State :=
  if chanAbsent s ch.val then s
  else
    let s := setLast ch code s
    let c := s.codec.chans[ch]
    let thr := chanThr s ch
    let c := if c.seen = 0 then
        let on := chanEn s ch && F.TEL_STAT.RUN.on s.tel.stat && !chanFenced s ch
        { c with k := chanK s ch, hiEn := bitOf thr 31, loEn := bitOf thr 15, on := on,
                 prev := if on && !c.on then none else c.prev,
                 block := if on then some s.codec.frame else none }
      else c
    let cross (en : Bool) (t : Nat) : Bool := en && match c.prev with
      | some a => crosses ch.val t a code
      | none => false
    let hi := cross c.hiEn (thr.toNat / 65536 % 4096)
    let lo := cross c.loEn (thr.toNat % 4096)
    -- of a port channel the first crossing of a block period alone (07 R195)
    let first := (hi || lo) && (!c.posted || 288 ≤ ch.val)
    let up := match c.prev with
      | some a => codeVal ch.val a < codeVal ch.val code
      | none => false
    let i := c.seen
    let s := modChan ch (fun _ => { c with
      seen := c.seen + 1, prev := some code, last := s.time, posted := c.posted || hi || lo,
      xs := if c.block.isSome then c.xs ++ [code] else c.xs,
      exact := if c.block.isSome then c.exact ++ [hi || lo] else c.exact }) s
    if first then postCrossing ch hi up (i % 32) code s else s

/-! ## Coding a block (07 R196, R197, R200) -/

/-- The low `w` bits of a number, the most significant first. -/
def bitsOf (w n : Nat) : List Bool := (List.range w).reverse.map fun i => n.testBit i

/-- Bits packed into bytes from bit 7 down, padded with zeros. -/
def packBits : Nat → List Bool → List Byte
  | 0, _ => []
  | n + 1, l =>
    let b := (l.take 8 ++ List.replicate (8 - (l.take 8).length) false).foldl
      (fun a x => 2 * a + (if x then 1 else 0)) 0
    BitVec.ofNat 8 b :: packBits n (l.drop 8)

/-- The quantiser: the m of each sample and the next predictor (07 R196). -/
def quantise (k : Nat) (lo hi : Int) : Int → List (Int × Bool) → List Nat
  | _, [] => []
  | p, (x, exact) :: t =>
    let e := x - p
    let step : Int := if k = 0 || exact then 1 else 2 * k + 1
    let q : Int := if k = 0 || exact then e else e.sign * ((e.natAbs + k) / (2 * k + 1) : Nat)
    let y := clampInt lo hi (p + q * step)
    let m := if 0 ≤ q then (2 * q).toNat else (-2 * q - 1).toNat
    m :: quantise k lo hi y t

/-- L(r). -/
def riceLen (r : Nat) (ms : List Nat) : Nat := (ms.map fun m => m / 2 ^ r + 1 + r).sum

/-- The smallest r with the smallest L(r). -/
def riceParam (ms : List Nat) : Nat :=
  (List.range 12).foldl (fun b r => if riceLen r ms < riceLen b ms then r else b) 0

/-- The Rice code of m. -/
def riceCode (r m : Nat) : List Bool := List.replicate (m / 2 ^ r) true ++ [false] ++ bitsOf r m

/-- A 12-bit or 18-bit field of a signed or unsigned value. -/
def fieldOf (w : Nat) (v : Int) : List Bool := bitsOf w (v % (2 ^ w : Nat)).toNat

/-- The record of a block: channel, first frame, k, the 32 codes and the crossings. -/
def blockRecord (ch frame k : Nat) (xs : List Nat) (exact : List Bool) : List Byte :=
  let vs := xs.map (codeVal ch)
  let lo := vs.foldl min (vs.headD 0)
  let hi := vs.foldl max (vs.headD 0)
  let pos := (List.range 32).filter fun i => exact.getD i false
  let k := if 7 < pos.length then 0 else k
  let pos := if k = 0 then [] else pos
  let ms := quantise k lo hi lo (vs.zip exact)
  let r := riceParam ms
  let n := (69 + 5 * pos.length + riceLen r ms + 7) / 8
  if 51 ≤ n then
    packBits 51 ([false, false] ++ bitsOf 9 ch ++ bitsOf 3 0 ++ bitsOf 4 0 ++ bitsOf 6 (frame % 64)
      ++ xs.flatMap (bitsOf 12))
  else
    packBits n ([false, true] ++ bitsOf 9 ch ++ bitsOf 3 k ++ bitsOf 4 r ++ bitsOf 6 (frame % 64)
      ++ fieldOf 12 lo ++ fieldOf 12 hi ++ fieldOf 18 vs.sum ++ bitsOf 3 pos.length
      ++ pos.flatMap (bitsOf 5) ++ ms.flatMap (riceCode r))

/-! ## Markers (07 Table TEL-7) -/

def timeMarker (t : Nat) : List Byte := packBits 9 ([true, false] ++ bitsOf 6 0 ++ bitsOf 64 t)
def gapMarker (count t0 t1 : Nat) : List Byte :=
  packBits 21 ([true, false] ++ bitsOf 3 1 ++ bitsOf 3 0 ++ bitsOf 32 count ++ bitsOf 64 t0 ++ bitsOf 64 t1)
def absentMarker (adc t : Nat) : List Byte :=
  packBits 10 ([true, false] ++ bitsOf 3 2 ++ bitsOf 3 0 ++ bitsOf 4 0 ++ bitsOf 4 adc ++ bitsOf 64 t)
def stopMarker (t : Nat) : List Byte :=
  packBits 9 ([true, false] ++ bitsOf 3 3 ++ bitsOf 3 0 ++ bitsOf 64 t)

/-! ## The ring (07 R199, R204) -/

/-- Bytes of the ring. -/
def ringSize : Nat := 524288

def telWoff (s : State) : Nat := F.TEL_WOFF.OFFSET.get s.tel.woff
def telRoff (s : State) : Nat := F.TEL_ROFF.OFFSET.get s.tel.roff

/-- The free space. -/
def telFree (s : State) : Nat := (telRoff s + 2 * ringSize - telWoff s - 1) % ringSize

/-- Bytes put at the write offset. -/
def ringBytes (l : List Byte) (s : State) : State :=
  let w := telWoff s
  let s := winWrite (0x80000 + w) l s
  { s with tel := { s.tel with woff := F.TEL_WOFF.OFFSET.put ((w + l.length) % ringSize) s.tel.woff } }

/-- The padding to the ring's end: the type 0b11 in its first byte; its other bits are not given. -/
def ringPad (s : State) : State :=
  let n := ringSize - telWoff s
  let (f, s) := takeFree Config.freeBytes s
  ringBytes ((f.headD 0 ||| 0xC0) :: padTo (n - 1) (f.drop 1)) s

/-- A record written whole, when it fits with the pad a wrap requires. -/
def putRecord (l : List Byte) (s : State) : Option State :=
  let wrap := ringSize < telWoff s + l.length
  let need := l.length + if wrap then ringSize - telWoff s else 0
  if need ≤ telFree s then some (ringBytes l (if wrap then ringPad s else s)) else none

/-- Dropping starts at the boundary `t` (07 R204). -/
def startDrop (t : Nat) (s : State) : State :=
  telEvent F.TEL_EVT.DROP_START 0 0 { s with
    tel := { s.tel with stat := F.TEL_STAT.DROPPING.set s.tel.stat }
    codec := { s.codec with dropAt := t, dropped := 0 } }

/-- A record at the boundary `t`: written, or from the first that does not fit on everything is discarded,
blocks being counted (07 R204). -/
def record (t : Nat) (block : Bool) (l : List Byte) (s : State) : State :=
  let lost (s : State) : State :=
    if block then
      { s with
        tel := { s.tel with drops := s.tel.drops + 1 }
        codec := { s.codec with
          dropped := s.codec.dropped + 1
          dropAt := if s.codec.dropped = 0 then t else s.codec.dropAt } }
    else s
  if F.TEL_STAT.DROPPING.on s.tel.stat then lost s
  else match putRecord l s with
    | some s => if block then { s with tel := { s.tel with blocks := s.tel.blocks + 1 } } else s
    | none => lost (startDrop t s)

/-- Writing resumes at a boundary with HYST KiB free: a GAP, then a TIME marker. -/
def ringRestart (t : Nat) (s : State) : State :=
  if F.TEL_STAT.DROPPING.on s.tel.stat && 1024 * max 1 (F.TEL_CTL.HYST.get s.tel.ctl) ≤ telFree s then
    let s := { s with tel := { s.tel with stat := F.TEL_STAT.DROPPING.clr s.tel.stat } }
    let s := record t false (gapMarker s.codec.dropped s.codec.dropAt t) s
    let s := record t false (timeMarker t) { s with
      tel := { s.tel with gaps := s.tel.gaps + 1 }, codec := { s.codec with dropped := 0 } }
    telEvent F.TEL_EVT.DROP_END 0 0 s
  else s

end Sys2Proof.Machine
end

