-- ==== Sys2Proof/Machine/Telemetry.lean ====
section
/-! DEFINITION. The telemetry rows: conversions, ADC failures, frame boundaries and the latching reads
(07_telemetry_codec.md R189 to R204, 08 R214). -/

namespace Sys2Proof.Machine
open Sys2Proof

/-- ADC_CONVERSION (07 R190, R194, R195). -/
def execAdcConversion (ch : Fin 297) (code : BitVec 12) (s : State) : Host.Outcome State Fault Refusal :=
  .next (if hwUp s then telSample ch code.toNat s else s)

/-- Every channel of an ADC gives up its block in progress. -/
def discardAdc (a : Nat) (s : State) : State :=
  let give (ch : Fin 297) : Chan :=
    let c := s.codec.chans[ch]
    if chanAdc ch.val = some a then
      { c with seen := 0, prev := none, on := false, block := none, xs := [], exact := [] }
    else c
  { s with codec := { s.codec with chans := Vector.ofFn give } }

/-- ADC_FAILURE (07 R193): flags, absent channels, and the ADC condition. -/
def execAdcFailure (a : Fin 16) (s : State) : Host.Outcome State Fault Refusal :=
  .next (if hwUp s && !adcOut s a.val then
    let ports := allPorts.filter fun p => 4 * (p.val / 24) + p.val % 24 / 6 == a.val
    let s := forPorts ports (fun p s => modPort p (fun q => { q with
      tel.pstat := F.TEL_PSTAT.FAIL.set q.tel.pstat, tel.pevt := F.TEL_PEVT.FAIL.set q.tel.pevt }) s) s
    let s := discardAdc a.val { s with
      tel := { s.tel with adcfail := setBit a.val s.tel.adcfail }
      codec := { s.codec with failed := s.codec.failed ++ [(a.val, s.time)] } }
    setHealth 3 true (telEvent F.TEL_EVT.ADC_FAIL a.val 0 s)
    else s)

/-- The channels whose block period ends between two frames. -/
def endingChans (f0 f1 : Nat) : List (Fin 297) :=
  (List.finRange 297).filter fun ch => f0 / chanPeriod ch.val != f1 / chanPeriod ch.val

/-- The blocks that complete at a boundary, in rising channel number: a block with its 32 samples is
written; one with fewer is discarded (log entry 28). -/
def putBlocks (t : Nat) (l : List (Fin 297)) (s : State) : State :=
  l.foldl (fun s ch =>
    let c := s.codec.chans[ch]
    match c.block with
    | some f => if c.xs.length = 32 then record t true (blockRecord ch.val f c.k c.xs c.exact) s else s
    | none => s) s

/-- The blocks of a boundary: where one of them does not fit, every block that completes at that boundary is dropped
(07 R204; log entry 96). -/
def writeBlocks (t : Nat) (l : List (Fin 297)) (s : State) : State :=
  let r := putBlocks t l s
  let s := if F.TEL_STAT.DROPPING.on r.tel.stat && !F.TEL_STAT.DROPPING.on s.tel.stat then
      putBlocks t l (startDrop t s)
    else r
  let fresh (ch : Fin 297) : Chan :=
    let c := s.codec.chans[ch]
    if l.contains ch then { c with seen := 0, posted := false, block := none, xs := [], exact := [] }
    else c
  { s with codec := { s.codec with chans := Vector.ofFn fresh } }

/-- Streaming ends at a boundary: STOP, blocks in progress discarded, TEL_STOP completes (07 R202). -/
def streamEnd (t : Nat) (s : State) : State :=
  let s := record t false (stopMarker t) s
  let off := fun (c : Chan) => { c with on := false, block := none, xs := [], exact := [] }
  let s := { s with
    tel := { s.tel with stat := F.TEL_STAT.RUN.clr s.tel.stat }
    codec := { s.codec with chans := s.codec.chans.map off } }
  let l := s.host.waits.filter fun w => w.kind == .telStop
  l.foldl (fun s w => completeWait w .ok (bytes8 (t / 512)) s) s

/-- FRAME_BOUNDARY (07 R192, R202, R204): the next frame begins; the records in the order of R202. -/
def frameBoundary (s : State) : State :=
  let f0 := s.codec.frame
  let f := max (f0 + 1) (s.time / 512)
  let t := 512 * f
  let s := { s with time := max s.time t, codec := { s.codec with frame := f } }
  let was := F.TEL_STAT.RUN.on s.tel.stat
  let en := F.TEL_CTL.EN.on s.tel.ctl
  let s := if en && !was then { s with tel := { s.tel with stat := F.TEL_STAT.RUN.set s.tel.stat } } else s
  let dropping := F.TEL_STAT.DROPPING.on s.tel.stat
  let s := ringRestart t s
  let resumed := dropping && !F.TEL_STAT.DROPPING.on s.tel.stat
  let s := if (en && !was) || (was && f % 32 == 0 && !resumed) then record t false (timeMarker t) s else s
  let s := if was || en then s.codec.failed.foldl (fun s x => record t false (absentMarker x.1 x.2) s) s else s
  let s := writeBlocks t (endingChans f0 f) { s with codec := { s.codec with failed := [] } }
  if was && !en then streamEnd t s else s

def execFrameBoundary (s : State) : Host.Outcome State Fault Refusal :=
  .next (if hwUp s && !s.cru.standby then frameBoundary s else s)

/-- TEL_FRAMELO_READ (07 Table TEL-13): TEL_FRAMEHI is latched. -/
def frameLatch (s : State) : State :=
  { s with
    tel := { s.tel with framehi := BitVec.ofNat 32 (s.codec.frame / 4294967296 % 8388608) }
    codec := { s.codec with hiLatched := true } }

def execTelFrameloRead (s : State) : Host.Outcome State Fault Refusal :=
  .next (if hwUp s then frameLatch s else s)

/-- The host link and the management target answer: from the end of fuse sensing on (08 R214, 10 R294, R297). -/
def linkAnswers (s : State) : Bool :=
  !(s.boot.phase == .held || s.boot.phase == .fuseFail || s.boot.phase == .clockFail) && !s.cru.standby

/-- HID_TIMELO read: HID_TIMEHI is latched (08 R214). -/
def timeLatch (s : State) : State :=
  { s with host := { s.host with timeHi := some (BitVec.ofNat 32 (s.time / 4294967296)) } }

def execHidTimeloRead (s : State) : Host.Outcome State Fault Refusal :=
  .next (if linkAnswers s then timeLatch s else s)

end Sys2Proof.Machine
end

