-- ==== Sys2Proof/Machine/Tick.lean ====
section
/-! DEFINITION. What passes in one microsecond with no command waiting: the device time advances, the
running timers count and the cores' cycle counters advance (log entry 3). -/

namespace Sys2Proof.Machine
open Sys2Proof

/-- Ticks of a running timer in a microsecond, by its clock (14 R361): the time base gives one, PERCLK
96 and FABCLK 240, before the prescaler; pin edges give none by themselves. -/
def tickSource (fab : Bool) (ctl : Word) : Nat :=
  match F.TMR_CTL.CLK.get ctl with
  | 1 => 1
  | 2 => if fab then 240 else 0
  | _ => if fab then 240 else 96

/-- A timer after `n` ticks of its source: the prescaler divides, and CNT falls, but never below zero
by itself: the underflow is a command of its own (14 R362, log entry 3). -/
def countTimer (n : Nat) (r : TmrRegs) (h : TmrHw) : TmrRegs × TmrHw :=
  if h.run then
    let d := F.TMR_CTL.PRE.get r.ctl + 1
    let k := (h.pre + n) / d
    ({ r with cnt := BitVec.ofNat 32 (r.cnt.toNat - k) }, { h with pre := (h.pre + n) % d })
  else (r, h)

/-- The level of pin TMRk: the lowest-numbered timer that drives it, else what is driven from outside
(14 R366, R367). -/
def pinLevel (s : State) (k : Nat) : Bool :=
  match s.tmr.toList.find? fun r => F.TMR_CTL.OUTEN.on r.ctl && F.TMR_CTL.PIN.get r.ctl == k with
  | some r => F.TMR_CTL.LEVEL.on r.ctl
  | none => if h : k < 8 then s.board.tmrPins[k] else false

/-- The timer's gate lets it count (14 R364): the gate applies to a control-die timer with a pin. -/
def gateOpen (s : State) (ctl : Word) : Bool :=
  let k := F.TMR_CTL.PIN.get ctl
  match F.TMR_CTL.GATE.get ctl with
  | 1 => k < 8 && pinLevel s k
  | 2 => k < 8 && !pinLevel s k
  | _ => true

/-- The clocks that the control-die timers count are up and ungated (14 R374). -/
def timersClocked (s : State) : Bool :=
  F.CRU_GATE.TMR.on s.cru.regs.gate && F.CRU_STAT.ROOT_PLL.on s.cru.regs.stat && !s.cru.standby

/-- CPUCLK cycles in a microsecond (10 Table CLK-3): 1,920 MHz over the divider, or XIN in bypass. -/
def cpuCycles (s : State) : Nat :=
  if F.CRU_STAT.ROOT_PLL.on s.cru.regs.stat then 1920 / max 1 s.cru.div else 24

/-- A core counts its cycles while it runs, waits or is faulted (13 R351). -/
def coreCounts (s : State) (c : CoreId) : Bool :=
  if h : c.val < 13 then F.SE_STAT.STATE.get s.engines[c.val].se.stat != 0 else s.boot.cpState != 0

/-- One microsecond passes. -/
def tick (s : State) : State :=
  let clk := timersClocked s
  let odd (i : Nat) : Bool := i % 2 == 1
  let step1 (i : Fin 16) : TmrRegs × TmrHw :=
    let r := s.tmr[i]
    if clk && !(odd i.val && F.TMR_CTL.CHAIN.on r.ctl) && gateOpen s r.ctl then
      countTimer (tickSource false r.ctl) r s.tmrHw[i]
    else (r, s.tmrHw[i])
  let eng (e : Engine) : Engine :=
    let q (i : Fin 4) : TmrRegs × TmrHw :=
      if odd i.val && F.TMR_CTL.CHAIN.on e.tmr[i].ctl then (e.tmr[i], e.tmrHw[i])
      else countTimer (tickSource true e.tmr[i].ctl) e.tmr[i] e.tmrHw[i]
    { e with tmr := Vector.ofFn fun i => (q i).1, tmrHw := Vector.ofFn fun i => (q i).2 }
  { s with
    time := s.time + 1
    tmr := Vector.ofFn fun i => (step1 i).1
    tmrHw := Vector.ofFn fun i => (step1 i).2
    engines := if s.cru.standby then s.engines else s.engines.map eng
    cores := if s.cru.standby then s.cores else Vector.ofFn fun (c : Fin 14) =>
      if coreCounts s c then
        { s.cores[c] with cyc := (s.cores[c].cyc +
            (if c.val < 13 then 240 else cpuCycles s)) % 18446744073709551616 }
      else s.cores[c] }

end Sys2Proof.Machine
end

