-- ==== Sys2Proof/Machine/Crypto.lean ====
section
/-! DEFINITION. SHA-256 and ECDSA P-256, which the spec names for image signatures and key hashes
(16 R396, 17 R414) and whose definitions are those of FIPS 180-4 and FIPS 186 (log entry 10). -/

namespace Sys2Proof.Machine
open Sys2Proof

/-! ## SHA-256 -/

/-- The first 64 primes. -/
def primes64 : List Nat :=
  (List.range 312).filter fun n => decide (2 ≤ n) && (List.range 18).all fun d => d < 2 || d ≥ n || n % d != 0

/-- The greatest n ≤ `hi` with n^k ≤ m, by `fuel` bisections. -/
def rootBelow (k m : Nat) : Nat → Nat → Nat → Nat
  | 0, lo, _ => lo
  | f + 1, lo, hi =>
    let mid := (lo + hi + 1) / 2
    if mid ^ k ≤ m then rootBelow k m f mid hi else rootBelow k m f lo (mid - 1)

/-- The first 32 bits of the fractional part of the k-th root of a prime. -/
def rootWord (k p : Nat) : Word := BitVec.ofNat 32 (rootBelow k (p * 2 ^ (32 * k)) 40 0 (2 ^ 38))

/-- The 64 round constants: cube roots of the first 64 primes. -/
def shaK : List Word := primes64.map (rootWord 3)

/-- The initial hash value: square roots of the first eight primes. -/
def shaH0 : List Word := (primes64.take 8).map (rootWord 2)

/-- Right rotation. -/
def rotr (w : Word) (n : Nat) : Word := (w >>> n) ||| (w <<< (32 - n))

/-- The 32-bit big-endian words of a list of bytes. -/
def beWords : Nat → List Byte → List Word
  | 0, _ => []
  | n + 1, l => BitVec.ofNat 32 ((l.take 4).foldl (fun a b => 256 * a + b.toNat) 0) :: beWords n (l.drop 4)

/-- The message schedule: words 16 to 63 after the block's 16, kept newest first. -/
def shaExtend : Nat → List Word → List Word
  | 0, w => w
  | n + 1, w =>
    let x := w.getD 14 0
    let y := w.getD 1 0
    let s0 := rotr x 7 ^^^ rotr x 18 ^^^ (x >>> 3)
    let s1 := rotr y 17 ^^^ rotr y 19 ^^^ (y >>> 10)
    shaExtend n ((w.getD 15 0 + s0 + w.getD 6 0 + s1) :: w)

/-- One round on the working variables a to h. -/
def shaRound (v : List Word) (kw : Word × Word) : List Word :=
  match v with
  | [a, b, c, d, e, f, g, h] =>
    let s1 := rotr e 6 ^^^ rotr e 11 ^^^ rotr e 25
    let ch := (e &&& f) ^^^ (~~~e &&& g)
    let t1 := h + s1 + ch + kw.1 + kw.2
    let s0 := rotr a 2 ^^^ rotr a 13 ^^^ rotr a 22
    let maj := (a &&& b) ^^^ (a &&& c) ^^^ (b &&& c)
    [t1 + (s0 + maj), a, b, c, d + t1, e, f, g]
  | _ => v

/-- One block of 64 bytes. -/
def shaBlock (h : List Word) (block : List Byte) : List Word :=
  let w := (shaExtend 48 (beWords 16 block).reverse).reverse
  (h.zip ((shaK.zip w).foldl shaRound h)).map fun (a, b) => a + b

/-- Every block of a padded message. -/
def shaBlocks : Nat → List Word → List Byte → List Word
  | 0, h, _ => h
  | n + 1, h, m => shaBlocks n (shaBlock h (m.take 64)) (m.drop 64)

/-- The bytes of a word, most significant first. -/
def beBytes (w : Word) : List Byte := (wordBytes w).reverse

/-- SHA-256. -/
def sha256 (m : List Byte) : List Byte :=
  let n := m.length
  let pad := List.replicate ((119 - n % 64) % 64) (0 : Byte)
  let m := m ++ [0x80] ++ pad ++ (bytes8 (8 * n)).reverse
  (shaBlocks (m.length / 64) shaH0 m).flatMap beBytes

/-! ## P-256 -/

def p256P : Nat := 2 ^ 256 - 2 ^ 224 + 2 ^ 192 + 2 ^ 96 - 1
def p256N : Nat := 0xFFFFFFFF00000000FFFFFFFFFFFFFFFFBCE6FAADA7179E84F3B9CAC2FC632551
def p256B : Nat := 0x5AC635D8AA3A93E7B3EBBD55769886BC651D06B0CC53B0F63BCE3C3E27D2604B
def p256Gx : Nat := 0x6B17D1F2E12C4247F8BCE6E563A440F277037D812DEB33A0F4A13945D898C296
def p256Gy : Nat := 0x4FE342E2FE1A7F9B8EE7EB4A7C0F9E162BCE33576B315ECECBB6406837BF51F5

/-- b^e mod m by squaring, over `fuel` bits of e. -/
def powMod (m : Nat) : Nat → Nat → Nat → Nat
  | 0, _, _ => 1 % m
  | f + 1, b, e =>
    let r := powMod m f (b * b % m) (e / 2)
    if e % 2 = 1 then b * r % m else r

/-- The inverse modulo a prime. -/
def invMod (m a : Nat) : Nat := powMod m 256 (a % m) (m - 2)

/-- Point addition on P-256; none is the point at infinity. -/
def ecAdd : Option (Nat × Nat) → Option (Nat × Nat) → Option (Nat × Nat)
  | none, q => q
  | p, none => p
  | some (x1, y1), some (x2, y2) =>
    if x1 = x2 && (y1 + y2) % p256P = 0 then none
    else
      let l := if x1 = x2 then (3 * x1 * x1 + (p256P - 3)) * invMod p256P (2 * y1) % p256P
        else (y2 + p256P - y1) * invMod p256P (x2 + p256P - x1) % p256P
      let x3 := (l * l + 2 * p256P - x1 - x2) % p256P
      some (x3, (l * (x1 + p256P - x3) + p256P - y1) % p256P)

/-- Scalar multiplication over `fuel` bits. -/
def ecMul : Nat → Nat → Option (Nat × Nat) → Option (Nat × Nat)
  | 0, _, _ => none
  | f + 1, k, p =>
    let r := ecMul f (k / 2) (ecAdd p p)
    if k % 2 = 1 then ecAdd p r else r

/-- The number of 32 big-endian bytes. -/
def beNat (l : List Byte) : Nat := l.foldl (fun a b => 256 * a + b.toNat) 0

/-- ECDSA P-256 verification of a digest: public key x then y, signature r then s, each 32 bytes most
significant first (17 Table UPD-2). -/
def ecdsaVerify (pub sig digest : List Byte) : Bool :=
  let x := beNat (pub.take 32)
  let y := beNat ((pub.drop 32).take 32)
  let r := beNat (sig.take 32)
  let s := beNat ((sig.drop 32).take 32)
  let z := beNat digest
  let onCurve := x < p256P && y < p256P &&
    y * y % p256P == (x * x * x + (p256P - 3) * x + p256B) % p256P
  let w := invMod p256N s
  0 < r && r < p256N && 0 < s && s < p256N && onCurve &&
  match ecAdd (ecMul 256 (z * w % p256N) (some (p256Gx, p256Gy))) (ecMul 256 (r * w % p256N) (some (x, y))) with
  | some (a, _) => a % p256N == r
  | none => false

end Sys2Proof.Machine
end

