-- ==== Sys2Proof/Machine/Otp.lean ====
section
/-! DEFINITION. Fuses, locks, seals, the lifecycle, sensing at a cold start, and the OTP controller
(16_fuses_keys_lifecycle.md). -/

namespace Sys2Proof.Machine
open Sys2Proof

/-! ## The array (16 R392 to R394) -/

/-- The region of a word (16 Table OTP-1). -/
def fuseRegion (w : Nat) : Nat :=
  if w < 0x100 then 0 else if w < 0x110 then 1 else if w < 0x130 then 2 else if w < 0x170 then 3
  else if w < 0x1B0 then 4 else if w < 0x230 then 5 else if w < 0x430 then 6 else 7

/-- The first and the last word of a region. -/
def regionSpan (r : Nat) : Nat × Nat :=
  match r with
  | 0 => (0x000, 0x0FF) | 1 => (0x100, 0x10F) | 2 => (0x110, 0x12F) | 3 => (0x130, 0x16F)
  | 4 => (0x170, 0x1AF) | 5 => (0x1B0, 0x22F) | 6 => (0x230, 0x42F) | _ => (0x430, 0x7FF)

/-- One-way words: the lifecycle steps, the revocation words and the levels (16 Table OTP-2). -/
def oneWay (w : Nat) : Bool :=
  (0x100 ≤ w && w ≤ 0x102) || (0x148 ≤ w && w ≤ 0x14A) || (0x170 ≤ w && w ≤ 0x1AF)

/-- A word of the array; an unlisted one is blank. -/
def fuseAt (s : State) (w : Nat) : FuseW := cget FuseW.blank s.otp.words w

/-- A word of the array written. -/
def setFuse (w : Nat) (x : FuseW) (s : State) : State :=
  { s with otp := { s.otp with words := cput FuseW.blank s.otp.words w x } }

/-- Set bits among the 39 of a mask. -/
def bitCount (m : Nat) : Nat := ((List.range 39).filter fun i => m.testBit i).length

/-- A read with the bits `m` of the codeword wrong (16 Table OTP-4): data and ECC, 0 clean, 1 corrected,
2 uncorrectable with the raw data. Three or more wrong bits read as free values. -/
def fuseRead (data : Word) (m : Nat) : Word × Nat :=
  match bitCount m with
  | 0 => (data, 0)
  | 1 => (data, 1)
  | 2 => (data ^^^ BitVec.ofNat 32 m, 2)
  | _ => ((Config.eccMiss data m).1, if (Config.eccMiss data m).2 then 1 else 2)

/-- The normal read of a word: region 1 is read without its check bits (16 R393). -/
def normalRead (s : State) (w : Nat) : Word × Nat :=
  let x := fuseAt s w
  if fuseRegion w = 1 then (x.data ^^^ BitVec.ofNat 32 x.nrm, 0) else fuseRead x.data x.nrm

/-- A region 1 word is set: at least 16 of its data bits read 1 (16 R393). -/
def wordSet (v : Word) : Bool := 16 ≤ bitCount v.toNat

/-- The codeword of a value: data and check bits; a blank word's is zero (16 R392). -/
def codeword (v : Word) : Nat := if v = 0 then 0 else v.toNat + 4294967296 * (Config.secded v % 128)

/-- Two of three lock fuses (16 R403). -/
def majority (v : Vector Bool 3) : Bool := 2 ≤ (v.toList.filter id).length

/-- The write lock of a region is in force. -/
def wLocked (s : State) (r : Nat) : Bool := if h : r < 8 then majority s.otp.wlock[r] else false

/-- The read lock of a region is in force. -/
def rLocked (s : State) (r : Nat) : Bool := if h : r < 8 then majority s.otp.rlock[r] else false

/-! ## Lifecycle, keys, level (16 R395 to R397) -/

/-- The lifecycle state: consecutive set words from LC_STEP1, as sensed at the last cold start. -/
def lifecycle (s : State) : Nat :=
  let st (w : Nat) : Bool := wordSet (shadowWord s w)
  if !st 0x100 then 0 else if !st 0x101 then 1 else if !st 0x102 then 2 else 3

/-- The fused level from the shadows (16 R397). -/
def fusedLevel (s : State) : Nat :=
  ((List.range 64).filter fun i => shadowWord s (0x170 + i) != 0).foldl (fun _ i => i + 1) 0

/-- The three key hashes: vendor, OEM 1, OEM 2. -/
def keyBase (k : Nat) : Nat := 0x130 + 8 * k

/-- The digest a key hash holds, read through `rd`. -/
def keyHash (rd : Nat → Word) (k : Nat) : List Byte :=
  (List.range 8).flatMap fun i => wordBytes (rd (keyBase k + i))

/-- A key is programmed and not revoked, read through `rd` (16 R396). -/
def keyLive (rd : Nat → Word) (k : Nat) : Bool :=
  ((List.range 8).any fun i => rd (keyBase k + i) != 0) && rd (0x148 + k) == 0

/-- A key's signatures are accepted in a lifecycle state (16 Table OTP-3). -/
def keyAccepted (rd : Nat → Word) (life k : Nat) : Bool :=
  keyLive rd k &&
  match life with
  | 0 | 1 => true
  | 2 => k != 0 || !(keyLive rd 1 || keyLive rd 2)
  | _ => false

/-- Programming of a word in a lifecycle state is permitted (16 Table OTP-3). -/
def lifePermits (s : State) (w : Nat) : Bool :=
  let r := fuseRegion w
  match lifecycle s with
  | 0 => !wLocked s r || oneWay w
  | 1 => r == 1 || r == 3 || r == 4 || r == 5 || r == 6
  | 2 => r == 1 || r == 4 || r == 6 || (0x148 ≤ w && w ≤ 0x14A)
  | _ => false

/-- The rules of the lifecycle steps and of revocation (16 R395, R396). -/
def oneWayRule (s : State) (w : Nat) (v : Word) : Bool :=
  let rd (a : Nat) : Word := (normalRead s a).1
  if 0x100 ≤ w && w ≤ 0x102 then
    v == 0xFFFFFFFF && (List.range (w - 0x100)).all fun i => wordSet (rd (0x100 + i))
  else if 0x148 ≤ w && w ≤ 0x14A && v != 0 then
    [0, 1, 2].any fun k => k + 0x148 != w && keyAccepted (fun a => if a = w then v else rd a) (lifecycle s) k
  else true

/-! ## Seals (16 R404) -/

/-- CRC-32C over a region's words, without the seal word and the one-way words. -/
def sealCrc (rd : Nat → Word) (r : Nat) : Word :=
  let (a, b) := regionSpan r
  crc32c (((List.range (b - a)).map (· + a)).flatMap fun w => if oneWay w then [] else wordBytes (rd w))

/-- The seal of a region is verified at an OTP_LOCK. -/
def sealVerified (s : State) (r : Nat) : Bool :=
  let (a, b) := regionSpan r
  let x := fuseAt s b
  (normalRead s b).1 == sealCrc (fun w => (normalRead s w).1) r && x.hi == 0 && x.lo == 0 &&
    ((List.range (b - a)).map (· + a)).all fun w => oneWay w || (normalRead s w).2 != 2

/-! ## Sensing at a cold start (16 R401, R407, R408; 11 R302) -/

/-- The safe value of an uncorrectable word of an unlocked region; a word without one in 16 Table OTP-5
reads a free value, one of region 6 its raw bits. -/
def safeFuse (free w : Nat) (raw : Word) : Word :=
  if fuseRegion w = 4 || (0x148 ≤ w && w ≤ 0x14A) then 0xFFFFFFFF
  else if 0x130 ≤ w && w ≤ 0x147 then 0
  else if 0x1B0 ≤ w && w ≤ 0x1B2 then 0xFFFFFFFF
  else if 0x1B3 ≤ w && w ≤ 0x1BE then 0
  else if fuseRegion w = 6 then raw
  else Config.freeWord free

/-- What sensing gathers: the shadows, the corrected and the uncorrectable words, and whether a word of
a write-locked region is uncorrectable. -/
structure Sensed where
  shadow : List (Nat × Word)
  corr : Nat
  uncorr : Nat
  bad : Bool
  deriving DecidableEq, Repr

/-- One word sensed. Words of regions 0 and 1 reach their users over wires and are not counted. -/
def senseWord (s : State) (acc : Sensed) (w : Nat) : Sensed :=
  let r := fuseRegion w
  let (v, e) := fuseRead (fuseAt s w).data (fuseAt s w).nrm
  let wired := if r = 1 then (fuseAt s w).data ^^^ BitVec.ofNat 32 (fuseAt s w).nrm else v
  if r = 0 || r = 1 then { acc with shadow := cput 0 acc.shadow w wired }
  else if e = 0 then { acc with shadow := cput 0 acc.shadow w v }
  else if e = 1 then { acc with shadow := cput 0 acc.shadow w v, corr := acc.corr + 1 }
  else if wLocked s r then { acc with bad := true }
  else { acc with shadow := cput 0 acc.shadow w (safeFuse (s.free + w) w v), uncorr := acc.uncorr + 1 }

/-- Every word is sensed into its shadow and RST_FUSE counts; false when a word of a write-locked region
is uncorrectable or its seal does not match. -/
def senseFuses (s : State) : State × Bool :=
  let acc := (s.otp.words.map Prod.fst).foldl (senseWord s) ⟨[], 0, 0, false⟩
  let sealsOk := [0, 2, 3, 5, 6, 7].all fun r => !wLocked s r ||
    cget 0 acc.shadow (regionSpan r).2 == sealCrc (cget 0 acc.shadow) r
  ({ s with
      shadow := acc.shadow, free := s.free + 2048
      rst := { s.rst with fuse := F.RST_FUSE.CORR.put acc.corr (F.RST_FUSE.UNCORR.put acc.uncorr 0) } },
    !acc.bad && sealsOk)

/-- The word as OTP_SHADOWw shows it: zero in a read-locked region (16 R406). -/
def shadowShown (s : State) (w : Nat) : Word :=
  if rLocked s (fuseRegion w) then 0 else shadowWord s w

/-! ## The controller (16 R398 to R403, R409) -/

/-- The OTP registers changed. -/
def modOtp (f : OtpRegs → OtpRegs) (s : State) : State :=
  { s with otp := { s.otp with regs := f s.otp.regs } }

/-- A program, a lock or a scan runs. -/
def otpBusy (s : State) : Bool := s.otp.op.isSome || F.OTP_STAT.SCANNING.on s.otp.regs.stat

/-- The refusal of a program, as a REASON of 09 Table CMD-10; 0: it is carried out (16 R398, R399). -/
def progReason (s : State) (w : Nat) (v : Word) : Nat :=
  let (cur, e) := normalRead s w
  let x := fuseAt s w
  let low := codeword x.data ^^^ x.lo
  let reburn := if e = 2 then low &&& codeword v == low else cur == v && v != 0
  if lifecycle s = 3 then 0x0E
  else if !oneWayRule s w v then 0x0E
  else if !reburn && !lifePermits s w then 0x0E
  else if wLocked s (fuseRegion w) && !oneWay w && !reburn && cur != v then 0x0A
  else if e = 2 then (if reburn then 0 else 0x0C)
  else if cur = 0 || cur = v then 0
  else 0x0C

/-- OTP_PROGRAM's result: PULSES, MARGIN, REASON (09 Table CMD-9). -/
def progResult (pulses : Nat) (mhigh mlow : Bool) (reason : Nat) : List Byte :=
  [BitVec.ofNat 8 pulses, BitVec.ofNat 8 ((if mhigh then 1 else 0) + (if mlow then 2 else 0)),
    BitVec.ofNat 8 reason]

/-- The status of the last operation. -/
def otpStatus (op pulses : Nat) (mhigh mlow : Bool) (reason : Nat) (busy : Bool) (w : Word) : Word :=
  w |> F.OTP_STAT.OP.put op |> F.OTP_STAT.PULSES.put pulses |> F.OTP_STAT.MHIGH.setTo mhigh
    |> F.OTP_STAT.MLOW.setTo mlow |> F.OTP_STAT.REASON.put reason |> F.OTP_STAT.BUSY.setTo busy

/-- The operation ends: its status, DONE, and the host command that waits for it. -/
def otpEnd (op pulses : Nat) (mhigh mlow : Bool) (reason : Nat) (s : State) : State :=
  let s := modOtp (fun r => { r with
    stat := otpStatus op pulses mhigh mlow reason false r.stat
    evt := F.OTP_EVT.DONE.set r.evt }) { s with otp := { s.otp with op := none } }
  let kind : WaitKind := if op = 4 then .otpProgram else .otpLock
  match findWait s (fun w => w.kind == kind) with
  | none => s
  | some w =>
    completeWait w .ok (if op = 4 then progResult pulses mhigh mlow reason
      else [BitVec.ofNat 8 reason]) s

/-- A program begins (16 R398): the first pulse starts, or a word that passes both references ends at
once with PULSES = 0. -/
def otpProgramStart (w : Nat) (v : Word) (s : State) : State :=
  let x := fuseAt s w
  if x.data = v && x.hi = 0 && x.lo = 0 then otpEnd 4 0 true true 0 s
  else modOtp (fun r => { r with stat := otpStatus 4 1 false false 0 true r.stat })
    { s with otp := { s.otp with op := some (.program w v 1) } }

/-- The fuses of one lock. -/
def lockFuses (s : State) (region : Nat) (read : Bool) : Vector Bool 3 :=
  if h : region < 8 then (if read then s.otp.rlock[region] else s.otp.wlock[region])
  else Vector.replicate 3 false

/-- One fuse of a lock programmed. -/
def burnLock (region : Nat) (read : Bool) (i : Fin 3) (s : State) : State :=
  if h : region < 8 then
    { s with otp := if read then { s.otp with rlock := s.otp.rlock.set region (s.otp.rlock[region].set i true) }
             else { s.otp with wlock := s.otp.wlock.set region (s.otp.wlock[region].set i true) } }
  else s

/-- The lock goes on with the fuses from `i`: programmed ones verify, the next blank one is pulsed; at the
end REASON is 0x00 when all three verify, else 0x0F (16 R403). -/
def lockFrom (region : Nat) (read : Bool) (ok : Nat) : List (Fin 3) → State → State
  | [], s => otpEnd (if read then 6 else 5) (F.OTP_STAT.PULSES.get s.otp.regs.stat)
      (ok == 3) (ok == 3) (if ok = 3 then 0 else 0x0F) s
  | i :: t, s =>
    if (lockFuses s region read)[i] then lockFrom region read (ok + 1) t s
    else modOtp (fun r => { r with stat := otpStatus (if read then 6 else 5) 1 false false 0 true r.stat })
      { s with otp := { s.otp with op := some (.lock region read i 1 ok) } }

/-- The refusal of a lock (16 R395, R403, R404). -/
def lockReason (s : State) (region : Nat) (read : Bool) : Nat :=
  if lifecycle s = 3 then 0x0E
  else if read then 0
  else if region = 1 || region = 4 then 0x0E
  else if !(lifePermits s (regionSpan region).2 || (lifecycle s = 0 && wLocked s region)) then 0x0E
  else if !sealVerified s region then 0x0D
  else 0

/-- A lock begins. -/
def otpLockStart (region : Nat) (read : Bool) (s : State) : State :=
  lockFrom region read 0 [0, 1, 2] s

/-- The fuses after the one being pulsed. -/
def laterFuses (i : Fin 3) : List (Fin 3) :=
  match i with | 0 => [1, 2] | 1 => [2] | 2 => []

/-- OTP_READ's answer (09 Table CMD-9): the words and two bits of ECC each; a read-locked region answers LOCKED with
REASON 0x0B (16 R406). Region 1 has no ECC. -/
def otpReadResult (word count : Nat) (s : State) : Status × List Byte :=
  let ws := (List.range count).map (word + ·)
  if ws.any fun w => rLocked s (fuseRegion w) then (.locked, [0x0B])
  else
    let r := ws.map (normalRead s)
    let ecc := ((List.range count).map fun i => 4 ^ i * ((r.map Prod.snd).getD i 0)).sum
    (.ok, padTo 12 (r.flatMap fun x => wordBytes x.1) ++ [BitVec.ofNat 8 ecc])

/-- The OTP_READ that has waited for a pulse completes (16 R400). -/
def serveReads (s : State) : State :=
  s.host.waits.foldl (fun s w =>
    match w.kind with
    | .otpRead word count =>
      let (st, res) := otpReadResult word count s
      completeWait w st res s
    | _ => s) s

/-- OTP_PULSE_DONE (16 R398, R403): a pulse has ended and the word, or the lock fuse, is verified; the
operation ends at the first passing verify or after the eighth. -/
def execOtpPulseDone (hi nrm lo : Nat) (s : State) : Host.Outcome State Fault Refusal :=
  let pass := hi == 0 && lo == 0
  .next (serveReads (match s.otp.op with
    | none => s
    | some (.program w v n) =>
      let s := setFuse w ⟨v, hi % 549755813888, nrm % 549755813888, lo % 549755813888⟩ s
      if pass || n ≥ 8 then otpEnd 4 n (hi == 0) (lo == 0) (if pass then 0 else 0x0F) s
      else modOtp (fun r => { r with stat := F.OTP_STAT.PULSES.put (n + 1) r.stat })
        { s with otp := { s.otp with op := some (.program w v (n + 1)) } }
    | some (.lock r rd i n ok) =>
      if pass then lockFrom r rd (ok + 1) (laterFuses i) (burnLock r rd i s)
      else if n ≥ 8 then lockFrom r rd ok (laterFuses i) s
      else modOtp (fun g => { g with stat := F.OTP_STAT.PULSES.put (n + 1) g.stat })
        { s with otp := { s.otp with op := some (.lock r rd i (n + 1) ok) } }))

/-! ## Operations of OTP_CMD (16 R409): ignored while BUSY -/

/-- OTP_ADDR.WORD. -/
def otpWord (s : State) : Nat := F.OTP_ADDR.WORD.get s.otp.regs.addr

/-- A read at one reference: data, ECC and DONE; a read-locked region's words read zero (16 R406). -/
def otpReadOp (op : Nat) (m : FuseW → Nat) (s : State) : State :=
  if F.OTP_STAT.BUSY.on s.otp.regs.stat then s
  else
    let w := otpWord s
    let x := fuseAt s w
    let (v, e) := if fuseRegion w = 1 then (x.data ^^^ BitVec.ofNat 32 (m x), 0)
      else fuseRead x.data (m x)
    let v := if rLocked s (fuseRegion w) then 0 else v
    modOtp (fun r => { r with
      rdata := v
      stat := F.OTP_STAT.ECC.put e (F.OTP_STAT.OP.put op r.stat)
      evt := F.OTP_EVT.DONE.set r.evt }) s

def execOtpCmdRead (s : State) : Host.Outcome State Fault Refusal :=
  .next (if cpWrites s then otpReadOp 1 FuseW.nrm s else s)
def execOtpCmdReadHigh (s : State) : Host.Outcome State Fault Refusal :=
  .next (if cpWrites s then otpReadOp 2 FuseW.hi s else s)
def execOtpCmdReadLow (s : State) : Host.Outcome State Fault Refusal :=
  .next (if cpWrites s then otpReadOp 3 FuseW.lo s else s)

/-- A refused operation: its REASON and DONE. -/
def otpRefuse (op reason : Nat) (s : State) : State :=
  modOtp (fun r => { r with
    stat := otpStatus op 0 false false reason false r.stat, evt := F.OTP_EVT.DONE.set r.evt }) s

/-- OTP_CMD_PROGRAM (16 R398). -/
def execOtpCmdProgram (s : State) : Host.Outcome State Fault Refusal :=
  .next (if cpWrites s then if otpBusy s then s
    else
      let w := otpWord s
      let v := s.otp.regs.wdata
      if progReason s w v = 0 then otpProgramStart w v s else otpRefuse 4 (progReason s w v) s else s)

/-- OTP_CMD_WRITE_LOCK (16 R403, R404). -/
def execOtpCmdWriteLock (s : State) : Host.Outcome State Fault Refusal :=
  .next (if cpWrites s then if otpBusy s then s
    else
      let r := otpWord s % 8
      if lockReason s r false = 0 then otpLockStart r false s else otpRefuse 5 (lockReason s r false) s else s)

/-- OTP_CMD_READ_LOCK (16 R406). -/
def execOtpCmdReadLock (s : State) : Host.Outcome State Fault Refusal :=
  .next (if cpWrites s then if otpBusy s then s
    else
      let r := otpWord s % 8
      if lockReason s r true = 0 then otpLockStart r true s else otpRefuse 6 (lockReason s r true) s else s)

/-! ## The margin scan (16 R402) -/

/-- A scan starts at word 0 with its counts at zero. -/
def otpScanStart (s : State) : State :=
  modOtp (fun r => { r with
    scan := 0, scanpos := F.OTP_SCANPOS.FIRST.put 0xFFFF 0
    stat := F.OTP_STAT.SCANNING.set (F.OTP_STAT.OP.put 7 r.stat) }) s

/-- OTP_CMD_SCAN_START. -/
def execOtpCmdScanStart (s : State) : Host.Outcome State Fault Refusal :=
  .next (if cpWrites s then if otpBusy s then s else otpScanStart s else s)

/-- The scan ends or is stopped. -/
def otpScanEnd (s : State) : State :=
  modOtp (fun r => { r with
    stat := F.OTP_STAT.SCANNING.clr r.stat, evt := F.OTP_EVT.SCAN_DONE.set r.evt }) s

/-- OTP_CMD_SCAN_STOP: a host scan under way is cancelled with it. -/
def execOtpCmdScanStop (s : State) : Host.Outcome State Fault Refusal :=
  .next (if cpWrites s then if F.OTP_STAT.SCANNING.on s.otp.regs.stat && !F.OTP_STAT.BUSY.on s.otp.regs.stat then
      completeAll (fun w => w.kind == .otpScan) .cancelled
        (otpScanEnd (modOtp (fun r => { r with stat := F.OTP_STAT.OP.put 8 r.stat }) s))
    else s else s)

/-- OTP_MARGIN_SCAN's result: SCANNED, WEAK, FIRST (09 Table CMD-9). -/
def scanResult (c : Nat × Nat × Nat) : List Byte := bytes2 c.1 ++ bytes2 c.2.1 ++ bytes2 c.2.2

/-- A word is weak (16 R401). -/
def weakWord (x : FuseW) : Bool := x.hi != x.lo || bitCount x.nrm == 1

/-- OTP_SCAN_WORD (16 R402). -/
def execOtpScanWord (s : State) : Host.Outcome State Fault Refusal :=
  .next (if !F.OTP_STAT.SCANNING.on s.otp.regs.stat then s
    else
      let w := F.OTP_SCANPOS.NEXT.get s.otp.regs.scanpos
      let x := fuseAt s w
      let first := F.OTP_SCANPOS.FIRST.get s.otp.regs.scanpos
      let s := modOtp (fun r => { r with
        scan := F.OTP_SCAN.SCANNED.put (w + 1) r.scan
        scanpos := F.OTP_SCANPOS.NEXT.put (w + 1) r.scanpos }) s
      let s := if weakWord x then
          postCp 1164 (BitVec.ofNat 32 (w + if 2 ≤ bitCount x.nrm then 65536 else 0))
            (modOtp (fun r => { r with
              scan := F.OTP_SCAN.WEAK.put (F.OTP_SCAN.WEAK.get r.scan + 1) r.scan
              scanpos := if first = 0xFFFF then F.OTP_SCANPOS.FIRST.put w r.scanpos else r.scanpos
              evt := F.OTP_EVT.WEAK.set r.evt }) s)
        else s
      if w = 0x7FF then
        let c := (2048, F.OTP_SCAN.WEAK.get s.otp.regs.scan, F.OTP_SCANPOS.FIRST.get s.otp.regs.scanpos)
        let s := otpScanEnd { s with otp := { s.otp with last := c } }
        match findWait s (fun v => v.kind == .otpScan) with
        | some v => completeWait v .ok (scanResult c) s
        | none => s
      else s)

/-- A warm start ends a running scan (16 R402). -/
def otpWarm (s : State) : State :=
  if F.OTP_STAT.SCANNING.on s.otp.regs.stat then otpScanEnd s else s

/-- A pulse that a loss of VDD_AON or VDD_IO33 cuts leaves the word, or the lock's fuse, with free bits;
under any other start the pulse runs to its end and what it left is as free (16 R400). -/
def otpCut (s : State) : State :=
  match s.otp.op with
  | none => s
  | some (.program w v _) =>
    let n := s.free
    { (setFuse w ⟨v, Config.freeNat n % 549755813888, Config.freeNat (n + 1) % 549755813888,
        Config.freeNat (n + 2) % 549755813888⟩ s) with free := n + 3 }
  | some (.lock r rd i _ _) =>
    let s' := { s with free := s.free + 1 }
    if Config.freeBit s.free then burnLock r rd i s' else s'

end Sys2Proof.Machine
end

