-- ==== Sys2Proof/Machine/FlashOps.lean ====
section
/-! DEFINITION. The external flash, images and their checks, and the boot table
(17_image_update.md R410 to R417). -/

namespace Sys2Proof.Machine
open Sys2Proof

/-! ## Flash bytes (17 R410) -/

/-- Flash bytes from an address on; an unlisted byte is erased. -/
def flashRead (s : State) (a n : Nat) : List Byte := cgetN (0xFF : Byte) s.flash.cells a n

/-- The 64 KiB sector of an address erased. Without its header's sector a slot holds no image that has
reached RUN (11 Table RST-9, RST_BOOT.NEW). -/
def flashErase (a : Nat) (s : State) : State :=
  let b := a / 65536 * 65536
  let r := s.boot.reached
  { s with
    flash := { s.flash with cells := s.flash.cells.filter fun c => c.1 < b || b + 65536 ≤ c.1 }
    boot := { s.boot with
      reached := if b = 0x100000 then r.set 0 false else if b = 0x700000 then r.set 1 false else r } }

/-- What a programmed byte holds: on an erased byte the data; the spec states no result of programming
any other byte to another value (a free value). -/
def programmed (free : Nat) (old new : Byte) : Byte :=
  if old = 0xFF || old = new then new else BitVec.ofNat 8 (Config.freeNat free)

/-- Bytes programmed from an address on. -/
def flashProgram (a : Nat) : List Byte → State → State
  | [], s => s
  | b :: t, s =>
    let old := cget (0xFF : Byte) s.flash.cells a
    let v := programmed s.free old b
    flashProgram (a + 1) t { s with
      free := s.free + 1
      flash := { s.flash with cells := cput (0xFF : Byte) s.flash.cells a v } }

/-- The first address of a slot (17 Table UPD-1). -/
def slotBase (slot : Nat) : Nat := if slot = 0 then 0x100000 else 0x700000

/-- The slot that runs. -/
def runSlot (s : State) : Nat := F.RST_BOOT.SLOT.get s.rst.boot

/-- The target slot of an update: the one that does not run (17 R417). -/
def targetSlot (s : State) : Nat := 1 - runSlot s

/-! ## The image header (17 R411 to R413) -/

/-- A little-endian field of a header. -/
def fieldAt (h : List Byte) (a n : Nat) : Nat := leNat ((h.drop a).take n)

def hdrVersion (h : List Byte) : Nat := fieldAt h 8 4
def hdrHitless (h : List Byte) : Bool := fieldAt h 7 1 % 2 == 1
def hdrHmin (h : List Byte) : Nat := fieldAt h 12 4
def hdrHmax (h : List Byte) : Nat := fieldAt h 16 4
def hdrArb (h : List Byte) : Nat := fieldAt h 22 1
def hdrNblk (h : List Byte) : Nat := fieldAt h 40 4
def hdrLength (h : List Byte) : Nat := fieldAt h 44 4
def hdrSchema (h : List Byte) : Nat := fieldAt h 148 2

/-- TRIALS, 0 meaning 120. -/
def hdrTrials (h : List Byte) : Nat := if fieldAt h 150 2 = 0 then 120 else fieldAt h 150 2

/-- FIRST, COUNT and BYTES of sub-image i. -/
def hdrSub (h : List Byte) (i : Nat) : Nat × Nat × Nat :=
  (fieldAt h (48 + 8 * i) 2, fieldAt h (50 + 8 * i) 2, fieldAt h (52 + 8 * i) 4)

/-- The retained ranges: base and length, up to the first of length 0. -/
def hdrRet (h : List Byte) : List (Nat × Nat) :=
  (((List.range 8).map fun i => (fieldAt h (80 + 8 * i) 4, fieldAt h (84 + 8 * i) 4)).takeWhile
    fun r => r.2 != 0)

/-- The length of the image's last block (17 R412). -/
def lastBlockLen (h : List Byte) : Nat := hdrLength h - 512 - 4096 * (hdrNblk h - 1)

/-- The length of block k. -/
def blockLen (h : List Byte) (k : Nat) : Nat := if k + 1 = hdrNblk h then lastBlockLen h else 4096

/-- The header is an image header: MAGIC, HLAYOUT and HCRC (17 Table UPD-2). -/
def hdrMagicOk (h : List Byte) : Bool :=
  h.length == 512 && fieldAt h 0 4 == 0x4D494B56 && fieldAt h 4 2 == 1 &&
    BitVec.ofNat 32 (fieldAt h 508 4) == crc32c (h.take 508)

/-- The sub-images follow one another from block 0 and fill the image (17 R413). -/
def subsOk (h : List Byte) : Bool :=
  let subs := (List.range 4).map (hdrSub h)
  let firsts := subs.foldl (fun (acc : Nat × Bool) x => (acc.1 + x.2.1, acc.2 && x.1 == acc.1)) (0, true)
  let last := (subs.filter fun x => x.2.1 != 0).getLast?
  firsts.2 && firsts.1 == hdrNblk h && (subs.all fun x => x.2.1 == (x.2.2 + 4091) / 4092) &&
    (hdrSub h 0).2.2 ≤ 4 * 393216 && (hdrSub h 2).2.2 ≤ 4 * 32768 &&
    match last with
    | some x => x.2.2 - 4092 * (x.2.1 - 1) + 4 == lastBlockLen h
    | none => false

/-- The reserved bytes and bits of a header are zero. -/
def hdrReservedOk (h : List Byte) : Bool :=
  fieldAt h 7 1 < 2 && fieldAt h 23 1 == 0 && ((h.drop 152).take 40).all (· == 0) &&
    ((h.drop 320).take 188).all (· == 0)

/-- NBLK and LENGTH within R411 and R412. -/
def hdrSizeOk (h : List Byte) : Bool :=
  1 ≤ hdrNblk h && hdrNblk h ≤ 1535 && 512 + 4096 * (hdrNblk h - 1) + 5 ≤ hdrLength h &&
    lastBlockLen h ≤ 4096

/-- The SHA-256 of PUBKEY is an accepted key hash (16 R396), by the shadows. -/
def keyOk (s : State) (h : List Byte) : Bool :=
  let d := sha256 ((h.drop 192).take 64)
  [0, 1, 2].any fun k => keyAccepted (shadowWord s) (lifecycle s) k && keyHash (shadowWord s) k == d

/-- The header checks of 17 Table UPD-3, in order: the status and REASON of the first that fails. -/
def headerCheck (s : State) (h : List Byte) : Option (Status × Nat) :=
  let unit := (h.drop 24).take 16
  let fused := (List.range 4).flatMap fun i => wordBytes (shadowWord s (0x111 + i))
  if !(hdrMagicOk h && hdrReservedOk h && hdrSizeOk h && subsOk h) then some (.imageInvalid, 0x01)
  else if fieldAt h 20 2 != (shadowWord s 0x110).toNat % 65536 then some (.imageBinding, 0x06)
  else if !(unit.all (· == 0)) && unit != fused then some (.imageBinding, 0x06)
  else if hdrArb h < fusedLevel s then some (.rollback, 0x07)
  else if !keyOk s h then some (.imageInvalid, 0x03)
  else none

/-- A block's CRC-32C matches its data (17 R412). -/
def blockCrcOk (b : List Byte) : Bool :=
  let n := b.length - 4
  BitVec.ofNat 32 (leNat (b.drop n)) == crc32c (b.take n)

/-- The header of a slot. -/
def slotHeader (s : State) (slot : Nat) : List Byte := flashRead s (slotBase slot) 512

/-- The slot holds a header (17 R417). -/
def slotHasHeader (s : State) (slot : Nat) : Bool := hdrMagicOk (slotHeader s slot)

/-- The address of block k of a slot. -/
def blockAddr (slot k : Nat) : Nat := slotBase slot + 0x1000 + 0x1000 * k

/-- Block k of a slot. -/
def slotBlock (s : State) (slot : Nat) (h : List Byte) (k : Nat) : List Byte :=
  flashRead s (blockAddr slot k) (blockLen h k)

/-- The signed digest (17 R414). -/
def imageDigest (s : State) (slot : Nat) (h : List Byte) : List Byte :=
  sha256 (h.take 256 ++ (List.range (hdrNblk h)).flatMap (slotBlock s slot h))

/-- The signature verifies (17 R414). -/
def signatureOk (s : State) (slot : Nat) (h : List Byte) : Bool :=
  ecdsaVerify ((h.drop 192).take 64) ((h.drop 256).take 64) (imageDigest s slot h) && keyOk s h

/-- Every block of a slot matches its CRC. -/
def blocksOk (s : State) (slot : Nat) (h : List Byte) : Bool :=
  (List.range (hdrNblk h)).all fun k => blockCrcOk (slotBlock s slot h k)

/-- The boot ROM's checks of C8 and C9 on a slot: the REASON of the first that fails, 0 on a pass. -/
def slotReason (s : State) (slot : Nat) : Nat :=
  let h := slotHeader s slot
  match headerCheck s h with
  | some (_, r) => r
  | none => if !blocksOk s slot h then 0x02 else if !signatureOk s slot h then 0x03 else 0

/-- VERSION of the other slot's image, 0 when it holds none (17 R417). -/
def otherVersion (s : State) : Nat :=
  let h := slotHeader s (targetSlot s)
  if hdrMagicOk h then hdrVersion h else 0

/-- The data bytes of sub-image i of a slot. -/
def subData (s : State) (slot : Nat) (h : List Byte) (i : Nat) : List Byte :=
  let (first, count, bytes) := hdrSub h i
  ((List.range count).flatMap fun k =>
    let b := slotBlock s slot h (first + k)
    b.take (b.length - 4)).take bytes

/-- Program words of a sub-image, the words that are not zero by address (17 R413). -/
def programWords : Nat → Nat → List Byte → List (Nat × Word)
  | 0, _, _ => []
  | n + 1, a, l =>
    let w : Word := BitVec.ofNat 32 (leNat (l.take 4) % 268435456)
    if w = 0 then programWords n (a + 1) (l.drop 4) else (a, w) :: programWords n (a + 1) (l.drop 4)

/-- The CP data initialisation applied to a data SRAM of zeros: records of ADDR, LEN and data, padded to
four bytes, up to a LEN of 0 (17 R413). -/
def dataInit : Nat → List Byte → List Host.Cell → List Host.Cell
  | 0, _, m => m
  | n + 1, l, m =>
    let a := leNat (l.take 4)
    let k := leNat ((l.drop 4).take 4)
    if k = 0 || l.length < 8 then m
    else dataInit n (l.drop (8 + (k + 3) / 4 * 4)) (cputN (0 : Byte) m a ((l.drop 8).take k))

/-! ## Boot table (17 R416) -/

/-- A boot table copy. -/
structure BootTab where
  gen : Nat
  primary : Nat
  trial : Bool
  fallback : Nat
  verA : Nat
  verB : Nat
  deriving DecidableEq, Repr

/-- The address of a copy. -/
def bootAddr (c : Nat) : Nat := if c = 0 then 0 else 0x80000

/-- A copy, when it is valid. -/
def bootCopy (s : State) (c : Nat) : Option BootTab :=
  let b := flashRead s (bootAddr c) 32
  if fieldAt b 0 4 == 0x54424B56 && BitVec.ofNat 32 (fieldAt b 28 4) == crc32c (b.take 28) then
    some { gen := fieldAt b 4 4, primary := fieldAt b 8 1 % 2, trial := fieldAt b 9 1 == 1,
           fallback := fieldAt b 10 1 % 2, verA := fieldAt b 12 4, verB := fieldAt b 16 4 }
  else none

/-- The valid copy with the higher generation. -/
def bootTable (s : State) : Option BootTab :=
  match bootCopy s 0, bootCopy s 1 with
  | some a, some b => some (if a.gen < b.gen then b else a)
  | some a, none => some a
  | none, b => b

/-- The bytes of a copy. -/
def BootTab.bytes (t : BootTab) : List Byte :=
  let b := bytes4 0x54424B56 ++ bytes4 t.gen ++ [BitVec.ofNat 8 t.primary, if t.trial then 1 else 0,
    BitVec.ofNat 8 t.fallback, 0] ++ bytes4 t.verA ++ bytes4 t.verB ++ List.replicate 8 0
  b ++ wordBytes (crc32c b)

/-- The copy with the lower generation, or an invalid one, is written with one above the higher
generation (17 R416). -/
def writeBootTab (t : BootTab) (s : State) : State :=
  let c := match bootCopy s 0, bootCopy s 1 with
    | none, _ => 0
    | some _, none => 1
    | some a, some b => if a.gen < b.gen then 0 else 1
  let g := match bootTable s with
    | some x => x.gen + 1
    | none => 1
  flashProgram (bootAddr c) { t with gen := g }.bytes (flashErase (bootAddr c) s)

/-- The boot table with a change; a table that is not valid is taken as slot A without trial. -/
def changeBootTab (f : BootTab → BootTab) (s : State) : State :=
  writeBootTab (f ((bootTable s).getD ⟨0, 0, false, 0, 0, 0⟩)) s

/-- The version of a slot in the table. -/
def BootTab.setVer (slot v : Nat) (t : BootTab) : BootTab :=
  if slot = 0 then { t with verA := v } else { t with verB := v }

/-- The image of a trial ends: PRIMARY becomes FALLBACK and TRIAL 0 (17 R425). -/
def endTrial (s : State) : State :=
  changeBootTab (fun t => { t with primary := t.fallback, trial := false }) s

/-! ## Writing a slot (17 R417) -/

/-- The header sector of a slot erased: the slot reads as absent. -/
def eraseHeader (slot : Nat) (s : State) : State := flashErase (slotBase slot) s

/-- A block written at its place; a sector is erased before the first write into it. -/
def writeBlock (slot k : Nat) (b : List Byte) (s : State) : State :=
  let a := blockAddr slot k
  let s := if a % 65536 = 0 then flashErase a s else s
  flashProgram a b s

/-- FLASH_SLOT follows the verification of a slot's program or erase (12 Table SAF-5). -/
def slotVerify (ok : Bool) (s : State) : State := setHealth 6 (!ok) s

/-- UPDATE: STATE and REASON (09 Table CMD-12). -/
def postUpdate (s : State) : State :=
  postCp 1161 (BitVec.ofNat 32 (s.upd.st % 8 + 256 * s.upd.reason)) s

/-- The update enters a state with a REASON; a change posts UPDATE (17 R418). -/
def updTo (st reason : Nat) (s : State) : State :=
  let old := s.upd.st
  let s := { s with upd := { s.upd with st := st, reason := reason } }
  if st = old then s else postUpdate s

/-- REMAIN of the trial window, in seconds. -/
def trialRemain (s : State) : Nat :=
  match s.flash.trialEnd with
  | some t => (t - s.time + 999999) / 1000000
  | none => 0

end Sys2Proof.Machine
end

