-- ==== Sys2Proof/Machine/Settings.lean ====
section
/-! DEFINITION. The settings: what they hold, their two copies in the flash, loading at mailbox ready and
saving (09_command_and_event_reference.md R276 to R278). -/

namespace Sys2Proof.Machine
open Sys2Proof

/-! ## The content (09 R276) -/

/-- What the settings keep of a port. -/
def portSetOf (q : Port) (pcfg : Word) : PortSet where
  core := q.core
  cc := q.cc
  kaAck := F.CTX_CTL.KA_ACK.on q.ctx[0].ctl
  pth := q.pth
  cur := q.cur
  tel := q.tel
  pcfg := pcfg
  caps := q.pol.caps
  eprCaps := q.pol.eprCaps
  drSwapOk := q.pol.drSwapOk
  prSwapOk := q.pol.prSwapOk
  vconnSwapOk := q.pol.vconnSwapOk
  advUnchunk := q.pol.advUnchunk
  rpct := q.pol.rpct
  enabled := q.pol.enabled

/-- The running configuration. -/
def runningSettings (s : State) : Settings where
  ports := Vector.ofFn fun p => portSetOf s.ports[p] (s.cadp[p]).regs.pcfg
  cad := s.cad.regs
  fed := s.feeds.regs
  tel := s.tel
  routes := s.host.routes
  weighted := s.host.weighted
  twtAddr := s.twt.regs.addr
  identity := s.kept.identity
  svids := s.kept.svids
  roots := s.kept.roots

/-- The defaults of 09 R277 item 3: reset values, every populated port enabled. -/
def defaultSettings (s : State) : Settings where
  ports := Vector.ofFn fun p =>
    { portSetOf Port.reset CadPortRegs.reset.pcfg with enabled := !unpopulated s p }
  cad := CadRegs.reset
  fed := FeedRegs.reset
  tel := TelRegs.reset
  routes := []
  weighted := false
  twtAddr := 0
  identity := []
  svids := []
  roots := []

/-- The breaker curve of the settings is written and committed, where it is not the one in force. -/
def loadCurve (x : CurveRegs) (q : Port) : Port :=
  if x.cpt = q.cur.cpt ∧ F.PTH_CCFG.NPTS.get x.ccfg = F.PTH_CCFG.NPTS.get q.cur.ccfg
      ∧ F.PTH_CCFG.COOL.get x.ccfg = F.PTH_CCFG.COOL.get q.cur.ccfg then q
  else commitCurve { q with cur.cpt := x.cpt, cur.ccfg := x.ccfg }

/-- The configuration fields of a port written from the settings; CAPT_EN stays 1 where the fuse FORCED
holds it (03 R80). -/
def loadPort (x : PortSet) (ok : Bool) (q : Port) : Port :=
  let capt := (x.core.capt &&& 0xFF05) ||| (q.core.capt &&& 0x18)
  let q := loadCurve x.cur q
  let q := { q with
    core.cfg := x.core.cfg
    core.capt := if F.PRT_CAPT.FORCED.on capt then F.PRT_CAPT.CAPT_EN.set capt else capt
    core.idrec := x.core.idrec
    cc.tick := x.cc.tick, cc.deb := x.cc.deb, cc.drp := x.cc.drp
    cc.ctl := F.CC_CTL.HW_DRP.put (F.CC_CTL.HW_DRP.get x.cc.ctl) q.cc.ctl
    cc.vctl := F.VCONN_CTL.VCONN_RES.put (F.VCONN_CTL.VCONN_RES.get x.cc.vctl) q.cc.vctl
    pth.steep := F.PTH_STEEP.RATE.put (F.PTH_STEEP.RATE.get x.pth.steep) q.pth.steep
    pth.ctl := F.PTH_CTL.TRIM_EN.put (F.PTH_CTL.TRIM_EN.get x.pth.ctl) q.pth.ctl
    pth.inrush := x.pth.inrush, pth.fast := x.pth.fast, pth.ov := x.pth.ov, pth.rev := x.pth.rev
    pth.sense := x.pth.sense, pth.fbcal := x.pth.fbcal, pth.cnv := x.pth.cnv, pth.dis := x.pth.dis
    pth.retry := F.PTH_RETRY.MAX.put (F.PTH_RETRY.MAX.get x.pth.retry) q.pth.retry
    tel.pcfg := x.tel.pcfg, tel.pthv := x.tel.pthv, tel.pthi := x.tel.pthi, tel.pthc := x.tel.pthc
    pol.caps := x.caps, pol.eprCaps := x.eprCaps
    pol.drSwapOk := x.drSwapOk, pol.prSwapOk := x.prSwapOk, pol.vconnSwapOk := x.vconnSwapOk
    pol.advUnchunk := x.advUnchunk, pol.rpct := x.rpct, pol.enabled := ok && x.enabled }
  q.modCtx 0 fun c => { c with ctl := F.CTX_CTL.KA_ACK.setTo x.kaAck c.ctl }

/-- The caddy's configuration fields written from the settings. -/
def loadCad (x r : CadRegs) : CadRegs :=
  { r with
    ctl := F.CAD_CTL.HOLD.put (F.CAD_CTL.HOLD.get x.ctl) r.ctl, rowcfg := x.rowcfg
    pool := F.CAD_POOL.POOLSZ.put (F.CAD_POOL.POOLSZ.get x.pool) r.pool
    shed := x.shed, lima := x.lima, limb := x.limb, limp := x.limp, eff := x.eff }

/-- FED_PPORT as written: a write that names a port that is not bidirectional is ignored (05 Table PTH-14). -/
def acceptPport (s : State) (new old : Word) : Word :=
  let ok := match portOf (F.FED_PPORT.PORT.get new) with
    | some p => bidirectional s p
    | none => false
  if ok then new else old

/-- The settings applied to the device (09 R277); a front die that has not joined has them when it joins (10 R282,
DEDUCED, log entry 97). -/
def applySettings (x : Settings) (s : State) : State :=
  let s := { s with
    ports := Vector.ofFn fun p => loadPort x.ports[p] (!unpopulated s p) s.ports[p]
    cadp := Vector.ofFn fun p => { s.cadp[p] with
      regs.pcfg := (x.ports[p]).pcfg, actPcfg := (x.ports[p]).pcfg }
    cad := { s.cad with regs := loadCad x.cad s.cad.regs, act := loadCad x.cad s.cad.act } }
  let s := modFed' s x.fed
  { s with
    tel := { s.tel with sysen := x.tel.sysen, sysk := x.tel.sysk, systhr := x.tel.systhr,
                        ctl := F.TEL_CTL.HYST.put (F.TEL_CTL.HYST.get x.tel.ctl) s.tel.ctl }
    host := { s.host with routes := x.routes, weighted := x.weighted }
    twt := { s.twt with regs := { s.twt.regs with
      addr := (x.twtAddr &&& 0x7F7F0300) ||| (s.twt.regs.addr &&& 0x7F) } }
    kept := { s.kept with identity := x.identity, svids := x.svids, roots := x.roots } }
where
  /-- The feed logic's configuration. -/
  modFed' (s : State) (x : FeedRegs) : State :=
    { s with feeds := { s.feeds with regs := { s.feeds.regs with
        ctl := x.ctl, wina := x.wina, winb := x.winb, winp := x.winp,
        pport := acceptPport s x.pport s.feeds.regs.pport } } }

/-! ## The copies (09 Table CMD-13; their places in the area: log entry 22) -/

/-- The address of a settings copy. -/
def settingsAddr (c : Fin 2) : Nat := 0xD00000 + 0x40000 * c.val

/-- FORMAT of the running image's schema (17 Table UPD-2). -/
def schemaFormat (s : State) : Nat := hdrSchema s.boot.img

/-- FORMAT and GEN of a copy that is valid: MAGIC, HCRC and CRC are correct. A copy whose body this
device did not write counts as not valid: the spec leaves its layout to the image (log entry 23). -/
def settingsCopy (s : State) (c : Fin 2) : Option (Nat × Nat) :=
  let h := flashRead s (settingsAddr c) 64
  let n := fieldAt h 12 4
  if fieldAt h 0 4 == 0x54534B56 && BitVec.ofNat 32 (fieldAt h 20 4) == crc32c (h.take 20)
      && n ≤ 262080
      && BitVec.ofNat 32 (fieldAt h 16 4) == crc32c (flashRead s (settingsAddr c + 64) n)
      && (s.kept.copies[c]).isSome then some (fieldAt h 4 2, fieldAt h 8 4)
  else none

/-- The copy that is loaded, if one is, and the outcome of 09 R277. -/
def settingsChoice (s : State) : Option (Fin 2) × Nat :=
  let fmt := schemaFormat s
  let older (f : Nat) : Nat := if f < fmt then 1 else 2
  match settingsCopy s 0, settingsCopy s 1 with
  | none, none => (none, 3)
  | some (f, _), none => if f = fmt then (some 0, 4) else (none, older f)
  | none, some (f, _) => if f = fmt then (some 1, 4) else (none, older f)
  | some (f, g), some (f', g') =>
    let hi : Fin 2 := if g < g' then 1 else 0
    let (fh, fl) := if g < g' then (f', f) else (f, f')
    if fh = fmt then (some hi, 0)
    else if fl = fmt then (some (1 - hi), 5)
    else (none, older fh)

/-- The settings loaded at mailbox ready, and SETTINGS posted (09 R277). -/
def loadSettings (s : State) : State :=
  let (c, out) := settingsChoice s
  let x := match c with
    | some c => (s.kept.copies[c]).getD (defaultSettings s)
    | none => defaultSettings s
  postSys 1160 (BitVec.ofNat 32 out) (applySettings x s)

/-- One copy written: its four sectors erased, the header and a body programmed. The body's bytes are
laid out by the image's schema, so they and their number are free values. -/
def writeSettingsCopy (c : Fin 2) (gen : Nat) (x : Settings) (s : State) : State :=
  let (body, s) := takeFree Config.freeBytes s
  let body := body.take 262080
  let h := bytes4 0x54534B56 ++ bytes2 (schemaFormat s) ++ [0, 0] ++ bytes4 gen ++ bytes4 body.length
    ++ wordBytes (crc32c body)
  let h := padTo 64 (h ++ wordBytes (crc32c h))
  let a := settingsAddr c
  let s := [0, 1, 2, 3].foldl (fun s i => flashErase (a + 65536 * i) s) s
  let s := flashProgram a (h ++ body) s
  { s with kept := { s.kept with copies := s.kept.copies.set c (some x) } }

/-- The settings written to the older copy and then to the other, with one generation above the higher
found (09 R276, R278). A copy that fails its verification counts as not written: it keeps what it
held (log entry 24). Answers the generation and the copies written. -/
def writeSettings (x : Settings) (okOld okNew : Bool) (s : State) : State × Nat × Nat :=
  let g0 := (settingsCopy s 0).map Prod.snd
  let g1 := (settingsCopy s 1).map Prod.snd
  let gen := max (g0.getD 0) (g1.getD 0) + 1
  let old : Fin 2 := match g0, g1 with
    | none, _ => 0
    | some _, none => 1
    | some a, some b => if b < a then 1 else 0
  let s := if okOld then writeSettingsCopy old gen x s else s
  let s := if okNew then writeSettingsCopy (1 - old) gen x s else s
  (s, gen, (if okOld then 1 else 0) + (if okNew then 1 else 0))

/-- The copies whose flash area a write through the flash controller touches are no longer known. -/
def forgetCopies (a n : Nat) (s : State) : State :=
  let keep (c : Fin 2) : Bool := settingsAddr c + 0x40000 ≤ a || a + n ≤ settingsAddr c
  { s with kept := { s.kept with
      copies := Vector.ofFn fun c => if keep c then s.kept.copies[c] else none } }

end Sys2Proof.Machine
end

