-- ==== Sys2Proof/Machine/StartOps.lean ====
section
/-! DEFINITION. Starts: the reset of the control die, cold and warm starts, image entry, failed starts
and RUN (11_cold_warm_restarts.md R300 to R315). -/

namespace Sys2Proof.Machine
open Sys2Proof

/-! ## The flash across a reset (11 R314, 12 R335) -/

/-- A byte that a retained range names, by control-pair address (01 Table ANA-6). -/
def retByte (s : State) (a : Nat) : Byte :=
  if a < 0x100000 then cget (0 : Byte) s.cores[pairCore].dmem a else cget (0 : Byte) s.sram a

/-- Bytes of the control pair's data SRAM or of the shared SRAM, by control-pair address (01 Table ANA-6). -/
def cpRam (s : State) (a n : Nat) : List Byte := (List.range n).map fun i => retByte s (a + i)

/-- Such bytes written; outside both memories nothing is. -/
def cpRamPut (a : Nat) (l : List Byte) (s : State) : State :=
  if a < 0x100000 then modCore pairCore (fun k => { k with dmem := cputN (0 : Byte) k.dmem a l }) s
  else if a < 0x300000 then { s with sram := cputN (0 : Byte) s.sram a l }
  else s

/-- Flash bytes that hold values the spec does not state. -/
def flashFree (a n : Nat) (s : State) : State :=
  let (l, s) := takeFree Config.freeBytes s
  { s with flash := { s.flash with cells := cputN (0xFF : Byte) s.flash.cells a (padTo n l) } }

/-- What an operation does to the flash and the SRAM. A program past the end of its page has no stated
result. -/
def flcEffect (o : FlcOp) (s : State) : State :=
  match o.op with
  | 1 => cpRamPut o.sram (flashRead s o.addr o.len) s
  | 2 =>
    let s := forgetCopies o.addr o.len s
    if o.addr % 256 + o.len ≤ 256 then flashProgram o.addr (cpRam s o.sram o.len) s
    else flashFree (o.addr / 256 * 256) 256 s
  | 3 => flashErase o.addr (forgetCopies (o.addr / 65536 * 65536) 65536 s)
  | _ => s

/-- An operation that the flash did not end within 3 s: what it wrote is not stated. -/
def flcTimeout (o : FlcOp) (s : State) : State :=
  match o.op with
  | 2 => flashFree o.addr o.len (forgetCopies o.addr o.len s)
  | 3 => flashFree (o.addr / 65536 * 65536) 65536 (forgetCopies (o.addr / 65536 * 65536) 65536 s)
  | _ => s

/-- The flash is busy with a program or an erase. -/
def flashBusy (s : State) : Bool :=
  match s.flash.op with
  | some o => o.op == 2 || o.op == 3
  | none => false

/-- The flash's part of a reset of the control die: a program or an erase under way goes on in the flash; a page has
all its bytes by then, an erase goes on. -/
def flashReset (s : State) : State :=
  match s.flash.op with
  | some o =>
    if o.op = 2 then { (flcEffect o s) with flash.op := none }
    else if o.op = 3 then s
    else { s with flash.op := none }
  | none => s

/-! ## Resets -/

/-- A port of a reset front die (02 Table BAL-5): everything at reset, the sink on where VBUS may stand
until it is below vSafe0V. -/
def offPort (q : Port) : Port :=
  if q.gateOn || F.PTH_STAT.DIS_ON.on q.pth.stat || q.hw.safeWait || q.hw.ride.isSome || q.strained 4 then
    let r := sinkOn Port.reset
    { r with cc.out := setBit 12 r.cc.out, hw.safeWait := true }
  else Port.reset

/-- A port whose control-die part is reset and whose front-die part stays (10 R297). -/
def controlPort (q : Port) : Port :=
  { Port.reset with cc := q.cc, pth := q.pth, cur := q.cur, hw := q.hw, copy := q.copy }

/-- The control die reset: what stays is the ports and feeds given, the VDD_AON domain, the flash with an erase that it
is carrying out, the fuse array, what has been recorded of the images, the update whose end is still to be reported,
the pins, the LED chain, the front dies' supplies, and the queue of commands. -/
def controlReset (ports : Vector Port 96) (feeds : Feeds) (s : State) : State :=
  let s := flashReset s
  { State.reset with
    pending := s.pending
    free := s.free
    ports := ports
    feeds := feeds
    wdg := { Wdog.reset with wdo := s.wdg.wdo }
    rst := { RstRegs.reset with cnt := s.rst.cnt, retver := s.rst.retver, strap := s.rst.strap }
    boot := { Boot.reset with
      reached := s.boot.reached, prevSlot := s.boot.prevSlot, bist := s.boot.bist,
      postRun := s.boot.postRun, rstLow := s.boot.rstLow, supplyDown := s.boot.supplyDown }
    otp := { Otp.reset with words := s.otp.words, wlock := s.otp.wlock, rlock := s.otp.rlock }
    flash := { Flash.reset with cells := s.flash.cells, op := s.flash.op }
    upd := s.upd
    kept := { Kept.reset with copies := s.kept.copies }
    diag := { Diag.reset with supplied := s.diag.supplied }
    board := { s.board with frames := 0, sdFlag := false, cryptoFlag := false } }

/-! ## Start bookkeeping -/

/-- RST_CAUSE of a start: kind, cause and flags (11 Table RST-9). -/
def causeWord (kind cause : Nat) (flags : Word) : Word :=
  F.RST_CAUSE.KIND.put kind (F.RST_CAUSE.CAUSE.put cause flags)

/-- No flag. -/
def noFlag : Word := 0

/-- WFAIL, and CFAIL of a slot. -/
def wfail (s : State) : Nat := F.RST_CNT.WFAIL.get s.rst.cnt
def cfail (slot : Nat) (s : State) : Nat :=
  if slot = 0 then F.RST_CNT.CFAIL_A.get s.rst.cnt else F.RST_CNT.CFAIL_B.get s.rst.cnt

def setWfail (n : Nat) (s : State) : State :=
  { s with rst := { s.rst with cnt := F.RST_CNT.WFAIL.put n s.rst.cnt } }
def setCfail (slot n : Nat) (s : State) : State :=
  { s with rst := { s.rst with
      cnt := if slot = 0 then F.RST_CNT.CFAIL_A.put n s.rst.cnt else F.RST_CNT.CFAIL_B.put n s.rst.cnt } }

/-- A flag of RST_CAUSE set. -/
def addCause (f : Fld) (s : State) : State :=
  { s with rst := { s.rst with cause := f.set s.rst.cause } }

/-- An update that a start finds under way is abandoned, and UPDATE is posted after RUN (11 R314, 17
Table UPD-5); a cold start ends every other update state. -/
def updateCold (s : State) : State :=
  if s.upd.st = 1 ∨ s.upd.st = 2 then updTo 7 0 { s with upd := { Update.reset with st := s.upd.st } }
  else { s with upd := Update.reset }

def updateWarm (s : State) : State :=
  if s.upd.st = 1 ∨ s.upd.st = 2 then updTo 7 0 { s with upd := { Update.reset with st := s.upd.st } }
  else { s with upd := { s.upd with card := false } }

/-! ## Cold start (11 R301) -/

/-- The strap address of the management target, ADDR1 (02 Table BAL-9). -/
def strapAddr (s : State) : State :=
  let st := s.rst.strap
  let addr := 0x48 + 2 * F.RST_STRAP.TMR1.get st + F.RST_STRAP.TMR0.get st
  { s with twt := { s.twt with regs := { s.twt.regs with addr := F.TWT_ADDR.ADDR1.put addr s.twt.regs.addr } } }

/-- What the fuses and the straps set at C2 and C3: the link's width (02 Table BAL-9), the captive fuses
(03 R80). -/
def applyFuses (s : State) : State :=
  let port (p : PortId) : Port :=
    let q := s.ports[p]
    let c := q.core.capt
    let c := F.PRT_CAPT.CABLED.setTo (fusedCabled s p) c
    { q with core.capt := if fusedForced s p then F.PRT_CAPT.CAPT_EN.set (F.PRT_CAPT.FORCED.set c) else c }
  { s with
    host := { s.host with quad := F.RST_STRAP.TMR2.on s.rst.strap }
    ports := Vector.ofFn port }

/-- C1 to C3: every port at Table BAL-5 and both feed gates off (R303), the strap pins sampled (02 R46), fuse
sensing; the LED chain takes the all-zero frame of the reset's release (02 R50), and the crystal amplifier stops
where XIN is a reference input (10 R284). -/
def coldStart (cause : Nat) (flags : Word) (s : State) : State :=
  let s := otpCut s
  let s := controlReset (s.ports.map offPort) Feeds.reset s
  let s := { s with rst := { s.rst with cause := causeWord 2 cause flags, strap := s.board.straps &&& 0x1F } }
  let s := { s with
    boot := { s.boot with phase := .clocks }
    cru := { s.cru with
      amp := !F.RST_STRAP.TMR3.on s.rst.strap
      regs := { s.cru.regs with stat := F.CRU_STAT.PGOOD.set (F.CRU_STAT.LPO_OK.set s.cru.regs.stat) } }
    board := { s.board with led := List.replicate 192 false } }
  let (s, ok) := senseFuses (updateCold s)
  let s := strapAddr (applyFuses s)
  if ok then s else { s with boot := { s.boot with phase := .fuseFail } }

/-- The ROM service loader (11 R313): every front die in reset, the frame of 02 R50 in the LED chain. -/
def enterLoader (s : State) : State :=
  { s with
    loader := Loader.reset
    boot := { s.boot with phase := .loader }
    board := { s.board with
      led := (List.range 192).map fun i => i % 2 == 0, frames := s.board.frames + 1 } }

/-! ## Programs and self-test (11 R305, 17 R413) -/

/-- Program words of a sub-image. -/
def subWords (s : State) (slot : Nat) (h : List Byte) (i : Nat) : List (Nat × Word) :=
  let l := subData s slot h i
  programWords ((l.length + 3) / 4) 0 l

/-- An engine stopped at its beginning with the image's program (11 R305); its data SRAM stays. -/
def loadEngine (words : List (Nat × Word)) (compact : Bool) (e : EngId) (s : State) : State :=
  let s := clearEngine e (stopEngine e s)
  let s := modCore (coreOf e) (fun k => { clearCore k with pmem := words, compact := compact }) s
  modEng e (fun g => { g with se.stat := F.SE_STAT.ENC.setTo compact g.se.stat }) s

/-- The self-test of one engine: it fails (01 R16, R17, 12 R337), or the engine is released where a skein
is its own. -/
def testEngine (e : EngId) (s : State) : State :=
  if engFailed s e then s
  else if bitOf s.boot.bist e.val then engineFails e 0 false s
  else if e.val < 12 || (spareSkein s).isSome then releaseEngine e s
  else s

/-- Every engine loaded, then tested: SE12 first, then SE0 to SE11. -/
def loadEngines (slot : Nat) (h : List Byte) (s : State) : State :=
  let words := subWords s slot h 2
  let compact := (fieldAt h 6 1).testBit 1
  let all := List.finRange 13
  let s := all.foldl (fun s e => loadEngine words compact e s) s
  all.foldl (fun s e => testEngine e s) (testEngine 12 s)

/-- Image entry (11 C9, W4): the control pair runs the image, the start timer starts, and the engines are
loaded and tested (C10, W5, W6); in a warm start they then check their contexts and resume their ports (W7). A cold
start applies the CP data initialisation. -/
def imageEntry (cold : Bool) (slot : Nat) (s : State) : State :=
  let h := slotHeader s slot
  let pair (k : Core) : Core :=
    { clearCore k with
      pmem := subWords s slot h 0
      dmem := if cold then dataInit 262144 (subData s slot h 1) [] else k.dmem
      compact := (fieldAt h 6 1).testBit 0 }
  let isNew := if slot = 0 then !s.boot.reached[0] else !s.boot.reached[1]
  let s := modCore pairCore pair s
  let s := { s with
    rst := { s.rst with boot := F.RST_BOOT.SLOT.put slot (F.RST_BOOT.NEW.setTo isNew s.rst.boot) }
    boot := { s.boot with
      phase := if cold then .entered else .warm
      startAt := some s.time, img := h, cpState := 1 } }
  let s := loadEngines slot h s
  if cold then s else resumePorts allPorts s

/-! ## The choice of the slot at a cold start (11 R304, R311, 17 R426) -/

/-- The candidates tried in order: a slot whose count is 3 is passed over; one that fails a check gets the
count 3, and its reason is reported after mailbox ready; with none left the loader runs. -/
def trySlots : List Nat → Bool → State → State
  | [], _, s => enterLoader s
  | slot :: t, switched, s =>
    if 3 ≤ cfail slot s then trySlots t true s
    else
      let r := slotReason s slot
      if r = 0 then
        imageEntry true slot (if switched then addCause F.RST_CAUSE.SLOTSW s else s)
      else
        let s := setCfail slot 3 { s with upd := { s.upd with reason := r } }
        trySlots t true (postUpdate s)

/-- C7: the loader when SVC_RX was sampled low or the device is DECOMMISSIONED (02 R47, 16 R395); else the
boot table's slot. An image on trial gives way to the fallback, and the update is abandoned. -/
def chooseSlot (s : State) : State :=
  if !F.RST_STRAP.SVC_RX.on s.rst.strap || lifecycle s = 3 then enterLoader s
  else
    match bootTable s with
    | none => trySlots [0, 1] false s
    | some t =>
      if t.trial then
        let s := updTo 7 0 (addCause F.RST_CAUSE.SLOTSW (endTrial s))
        trySlots [t.fallback, 1 - t.fallback] true s
      else trySlots [t.primary, 1 - t.primary] false s

/-! ## Warm start (11 R306, R307) -/

/-- Commands consumed before W1 and not completed end with CANCELLED and in no other way (01 R23, 08 R228). -/
def cancelLater (s : State) : State :=
  { s with host := { s.host with
      waits := s.host.waits.map (fun w => { w with fence := false, kind := .cancelled }) ++
        s.host.consumed.map fun c => ⟨c.tag, c.opc, c.port, false, .cancelled, c.ranges⟩
      consumed := [] } }

/-- What the identity block shows now (08 R214). -/
def idShown (s : State) : IdShown where
  fwver := BitVec.ofNat 32 (hdrVersion s.boot.img)
  proto := BitVec.ofNat 32 (fieldAt s.boot.img 144 4)
  slot := runSlot s
  warms := s.boot.warms

/-- W1: the control pair in reset, engines stopped, READY cleared, rows paused; the watchdog's
configuration and the two-wire controllers reset, a fuse scan ended; what was consumed will be cancelled. -/
def warmBegin (r : WarmReq) (s : State) : State :=
  let safe := safeHigh s
  let old := runSlot s
  let shown := if s.boot.phase = .warm then s.boot.shown else idShown s
  let s := cancelLater s
  let s := { s with
    rst := { s.rst with
      cause := causeWord r.kind r.cause (if r.switched then F.RST_CAUSE.SLOTSW.set 0 else 0) }
    boot := { s.boot with
      phase := .warm, ready := false, waiting := none, warms := min 255 (s.boot.warms + 1), startAt := none, cpState := 0, due := none,
      safeW1 := if s.boot.phase = .warm then s.boot.safeW1 else safe,
      shown := shown,
      prevSlot := if r.slot = old then s.boot.prevSlot else old }
    cad := { s.cad with regs := { s.cad.regs with stat := F.CAD_STAT.PAUSED.set s.cad.regs.stat } }
    wdg := { s.wdg with regs := WdgRegs.reset, at_ := 0 }
    twc := Vector.replicate 2 Twc.reset }
  let s := (List.finRange 13).foldl (fun s e => stopEngine e s) s
  updateWarm (otpWarm s)

/-- The RW fields of the front-die registers that hold configuration, as the copy of 01 R31 is compared (log entry
95). -/
def frontImage (r : FrontRegs) : List Word :=
  [r.cc.tick, r.cc.deb, r.cc.drp, r.cc.vctl &&& 0xFF00, r.pth.inrush, r.pth.fast, r.pth.ov, r.pth.rev, r.pth.sense,
    r.pth.fbcal, r.pth.cnv, r.pth.dis, r.pth.evten, r.pth.ctl &&& 0x8, r.pth.steep &&& 0x7F,
    r.pth.retry &&& 0x7000000, r.cur.ccfg &&& 0xFF001F, r.tel.pcfg, r.tel.pthv, r.tel.pthi, r.tel.pthc,
    r.tel.pevten] ++ r.cur.cpt.toList

/-- Item 3 of the retention check (01 R31, 11 R307): the copy equals the front die, on the dies whose stitch link is
up. -/
def copiesAgree (s : State) : Bool :=
  allPorts.all fun p => !linkUp s (dieOf p) ||
    match s.ports[p].copy with
    | some c => frontImage c == frontImage s.ports[p].front
    | none => true

/-- The retention check (11 R307). -/
def retained (r : WarmReq) (s : State) : Bool :=
  let ranges := hdrRet s.boot.img
  let within (m a : Nat) : Bool :=
    ranges.any fun (b, n) =>
      let x := if m = 2 then a + 0x100000 else a
      b ≤ x + 3 && x < b + n
  let eccOk := s.diag.bad.all fun (m, a) => !((m == 1 || m == 2) && within m a)
  let sumOk := !F.RST_BOOT.SUMV.on s.rst.boot || crc32c (ranges.flatMap fun (b, n) =>
    (List.range n).map fun i => retByte s (b + i)) == s.rst.retsum
  let h := slotHeader s r.slot
  let v := s.rst.retver.toNat
  let verOk := v == hdrVersion h || (hdrHitless h && hdrHmin h ≤ v && v ≤ hdrHmax h)
  eccOk && sumOk && copiesAgree s && verOk

/-- Every block of the CP program sub-image and of the engine program matches its CRC (11 R305, R310). -/
def programsOk (slot : Nat) (s : State) : Bool :=
  let h := slotHeader s slot
  [0, 2].all fun i =>
    let (first, count, _) := hdrSub h i
    (List.range count).all fun k => blockCrcOk (slotBlock s slot h (first + k))

/-- RUN and SUMV are cleared by every start. -/
def clearRun (s : State) : State :=
  { s with rst := { s.rst with boot := F.RST_BOOT.RUN.clr (F.RST_BOOT.SUMV.clr s.rst.boot) } }

/-- A failed warm start counted; the next warm start, or none when it was the second (11 R311, R312). An
image that never reached RUN gives way to the slot that ran before it, and the update is abandoned. -/
def afterWarmFail (slot : Nat) (s : State) : State × Option WarmReq :=
  let n := wfail s + 1
  if 2 ≤ n then (setWfail 0 s, none)
  else
    let s := setWfail n s
    let fresh := if slot = 0 then !s.boot.reached[0] else !s.boot.reached[1]
    let prev := s.boot.prevSlot
    if fresh && prev != slot && cfail prev s < 3 then
      (updTo 7 0 s, some ⟨0, 7, prev, true⟩)
    else (s, some ⟨0, 7, slot, false⟩)

/-- W2 to W6. A retention check that fails makes a cold start with cause 6; a block that does not match is
a failed start, after which `again` makes the next warm start. -/
def warmLoad (again : WarmReq → State → State) (r : WarmReq) (s : State) : State :=
  if !retained r s then coldStart 6 noFlag (clearRun s)
  else
    let s := clearRun s
    if programsOk r.slot s then imageEntry false r.slot s
    else match afterWarmFail r.slot s with
      | (s, some r) => again r s
      | (s, none) => coldStart 4 (F.RST_CAUSE.WFAILED.set 0) s

/-- W1 to W6, with a wait at W2 while the flash is busy (11 R314). The second failed start makes a cold start. -/
def runWarm : Nat → WarmReq → State → State
  | 0, _, s => coldStart 4 (F.RST_CAUSE.WFAILED.set 0) s
  | n + 1, r, s =>
    let s := warmBegin r s
    if flashBusy s then { s with boot.waiting := some r } else warmLoad (runWarm n) r s

/-- A warm start. -/
def warmStart (r : WarmReq) (s : State) : State := runWarm 2 r s

/-- The flash is ready: a warm start that waited for it at W2 goes on, and so does a cold start at C7. -/
def flashReady (s : State) : State :=
  match s.boot.waiting with
  | some r => warmLoad (runWarm 1) r { s with boot.waiting := none }
  | none =>
    if s.boot.phase = .raise && F.CRU_STAT.OP.get s.cru.regs.stat == 3 && s.cru.seq.isNone then chooseSlot s else s

/-! ## Failed starts (11 R310, R311) -/

/-- The slot that a cold start under way starts: the one entered, else the boot table's. -/
def slotInStart (s : State) : Nat :=
  if s.boot.phase = .entered then runSlot s
  else match bootTable s with
    | some t => if t.trial then t.fallback else t.primary
    | none => if 3 ≤ cfail 0 s then 1 else 0

/-- The start under way has failed (11 Table RST-5). -/
def failStart (s : State) : State :=
  if s.boot.phase = .warm then
    match afterWarmFail (runSlot s) s with
    | (s, some r) => warmStart r s
    | (s, none) => coldStart 4 (F.RST_CAUSE.WFAILED.set 0) s
  else
    let slot := slotInStart s
    coldStart 4 (F.RST_CAUSE.CFAILED.set 0) (setCfail slot (min 3 (cfail slot s + 1)) s)

/-- A start is under way, with the boot ROM or an image running. -/
def starting (s : State) : Bool :=
  s.boot.phase == .clocks || s.boot.phase == .raise || s.boot.phase == .entered || s.boot.phase == .warm

/-! ## RUN (11 R309) -/

/-- RESTART (09 Table CMD-12). -/
def postRestart (s : State) : State :=
  let kind := F.RST_CAUSE.KIND.get s.rst.cause
  let cause := F.RST_CAUSE.CAUSE.get s.rst.cause
  postSys 1159 (BitVec.ofNat 32 (kind + 256 * cause + 65536 * s.boot.warms)) s

/-- The events that waited for RUN are posted. -/
def postWaiting (s : State) : State :=
  let l := s.boot.postRun
  l.foldl (fun s (t, src, d) => postSysAt t src d s) { s with boot := { s.boot with postRun := [] } }

/-- The running image's boot-table entry is on trial: the update is in its trial, and the window is armed
(17 R423). -/
def armTrial (s : State) : State :=
  match bootTable s with
  | some t =>
    if t.trial && t.primary == runSlot s then
      let s := if s.upd.st = 4 then updTo 5 0 s else s
      if s.flash.trialEnd.isSome then s
      else { s with flash := { s.flash with trialEnd := some (s.time + 1000000 * hdrTrials s.boot.img) } }
    else if s.upd.st = 4 then updTo 7 0 s else s
  | none => s

/-- Commands consumed before W1 and not completed complete with CANCELLED (01 R23). -/
def cancelAll (s : State) : State := completeAll (fun w => w.kind == .cancelled) .cancelled s

/-- RST_BOOT.RUN written (11 R309): READY, the counters, and the end of a cold or a warm start. The
firmware has written RST_RETVER before it. -/
def runWritten (s : State) : State :=
  let slot := runSlot s
  let warm := s.boot.phase = .warm
  let s := { s with
    rst := { s.rst with
      boot := F.RST_BOOT.RUN.set (F.RST_BOOT.NEW.clr s.rst.boot)
      retver := BitVec.ofNat 32 (hdrVersion s.boot.img) }
    boot := { s.boot with
      phase := .running, ready := true, startAt := none,
      reached := if slot = 0 then s.boot.reached.set 0 true else s.boot.reached.set 1 true } }
  let s := setWfail 0 (setCfail slot 0 s)
  if warm then
    let s := { s with cad := { s.cad with regs := { s.cad.regs with
      stat := F.CAD_STAT.PAUSED.clr s.cad.regs.stat } } }
    let s := cancelAll s
    consumeRing (forPorts allPorts enablePort (armTrial (postWaiting (postRestart s))))
  else
    let s := postRestart (loadSettings s)
    forPorts allPorts enablePort (armTrial (postWaiting s))

/-- A clock failure (10 R297): every port takes its fused safe state, and every control-die block outside
VDD_AON is held in reset; the feed gates stay; an OTP pulse runs to its end (16 R400). -/
def clockFailure (s : State) : State :=
  if s.boot.phase = .held ∨ s.boot.phase = .fuseFail ∨ s.boot.phase = .clockFail then s
  else
    let s := forPorts allPorts safeFused (otpCut s)
    let s := strapAddr (controlReset (s.ports.map controlPort) s.feeds s)
    { s with boot := { s.boot with phase := .clockFail } }

end Sys2Proof.Machine
end

