-- ==== Sys2Proof/Machine/Restart.lean ====
section
/-! DEFINITION. The rows of resets and starts, and of the operator controls: RST_N, power-up, RUN, the
start timer, RST_REQ, RST_CNT, the LED chain, the card detect (11_cold_warm_restarts.md, 02 R44 to R50). -/

namespace Sys2Proof.Machine
open Sys2Proof

/-- The control die comes out of reset when neither RST_N nor a rail holds it (10 R281). -/
def release (s : State) : State :=
  if s.boot.phase = .held && !s.boot.rstLow && !s.boot.supplyDown then coldStart 5 noFlag s else s

/-- POWER_UP (10 R281): the straps and the self-test outcomes of the cold start are the row's. -/
def execPowerUp (straps bist : Word) (s : State) : Host.Outcome State Fault Refusal :=
  .next (if s.boot.phase = .held then
    release { s with
      board := { s.board with straps := straps }
      boot := { s.boot with supplyDown := false, bist := bist } }
    else s)

/-- RST_N_ASSERT (02 R44): every front die and the control die in reset; WDO is low (02 Table BAL-8). -/
def execRstNAssert (s : State) : Host.Outcome State Fault Refusal :=
  .next (
    let s := controlReset (s.ports.map offPort) Feeds.reset (otpCut s)
    { s with wdg.wdo := false, boot := { s.boot with phase := .held, rstLow := true } })

/-- RST_N_RELEASE (02 R44): a cold start with cause 5; the failed-start counters stay (11 R311). -/
def execRstNRelease (straps bist : Word) (s : State) : Host.Outcome State Fault Refusal :=
  .next (if s.boot.phase = .held then
    release { s with
      board := { s.board with straps := straps }
      boot := { s.boot with rstLow := false, bist := bist } }
    else s)

/-- RUN (11 R309): the image entered writes RST_BOOT.RUN. -/
def execRun (s : State) : Host.Outcome State Fault Refusal :=
  .next (if cpUp s && !cpRuns s then runWritten s else s)

/-- START_TIMER_EXPIRY (11 R309, R310). -/
def execStartTimerExpiry (s : State) : Host.Outcome State Fault Refusal :=
  .next (if s.boot.startAt.isSome then failStart s else s)

/-- FLASH_BUSY_TIMEOUT (11 R314): the flash is reset, with what it was writing open, and the start fails. -/
def execFlashBusyTimeout (s : State) : Host.Outcome State Fault Refusal :=
  .next (if s.boot.phase = .raise || s.boot.phase = .warm then
    failStart (match s.flash.op with
      | some o => { (flcTimeout o s) with flash.op := none }
      | none => s)
    else s)

/-- A request of firmware or of a command for a warm start of the running slot; during a start it is not
carried out (11 R315). -/
def requestWarm (cause : Nat) (s : State) : State :=
  if cpRuns s then warmStart ⟨0, cause, runSlot s, false⟩ s else s

/-- A hitless activation of a slot. -/
def requestHitless (slot : Nat) (s : State) : State :=
  if cpRuns s then warmStart ⟨1, 0, slot, false⟩ s else s

/-- A cold start that firmware requests. -/
def requestCold (s : State) : State := if cpRuns s then coldStart 0 noFlag s else s

def execRstReqWarm (s : State) : Host.Outcome State Fault Refusal := .next (requestWarm 0 s)
def execRstReqHitless (slot : Fin 2) (s : State) : Host.Outcome State Fault Refusal :=
  .next (requestHitless slot.val s)
def execRstReqCold (s : State) : Host.Outcome State Fault Refusal := .next (requestCold s)

def execRstCntClrA (s : State) : Host.Outcome State Fault Refusal :=
  .next (if cpUp s then setCfail 0 0 s else s)
def execRstCntClrB (s : State) : Host.Outcome State Fault Refusal :=
  .next (if cpUp s then setCfail 1 0 s else s)

/-! ## LED chain and card (02 R48 to R50, 17 R419) -/

/-- Bit 1 and bit 0 of a port (02 Table BAL-10); `blink` is the phase common to all ports. -/
def ledBits (blink : Bool) (s : State) (p : PortId) : Bool × Bool :=
  if dieHeld s (dieOf p) then (true, blink)
  else match s.ports[p].st with
    | .parked | .detached => (false, false)
    | .attachWait | .castingOn | .bindingOff => (false, blink)
    | .contracted => (false, true)
    | .tripped | .retryWait => (blink, false)
    | .fenced => (true, false)

/-- A frame in the order of 02 R48: P95 bit 1 first, P00 bit 0 last. -/
def ledFrame (s : State) : List Bool :=
  let blink := s.board.frames / 25 % 2 == 1
  allPorts.reverse.flatMap fun p => [(ledBits blink s p).1, (ledBits blink s p).2]

/-- LED_FRAME (02 R48): while STATUS shows 000, 100 or 111, and PERCLK reaches the chain (10 R293). -/
def execLedFrame (s : State) : Host.Outcome State Fault Refusal :=
  .next (if s.boot.phase = .running && !s.cru.standby && F.CRU_GATE.LED.on s.cru.regs.gate then
    { s with board := { s.board with led := ledFrame s, frames := s.board.frames + 1 } }
    else s)

end Sys2Proof.Machine
end

