-- ==== Sys2Proof/Machine/Clock.lean ====
section
/-! DEFINITION. The clock root, the operating points and their sequencer, gating and standby
(10_clock_root_and_supplies.md R284 to R298). -/

namespace Sys2Proof.Machine
open Sys2Proof

/-- The clock root changed. -/
def modCru (f : Cru → Cru) (s : State) : State := { s with cru := f s.cru }

/-- CRU_STAT changed. -/
def cruStat (f : Word → Word) (s : State) : State :=
  modCru (fun c => { c with regs := { c.regs with stat := f c.regs.stat } }) s

/-- A flag of CRU_EVT set. -/
def cruEvt (f : Fld) (s : State) : State :=
  modCru (fun c => { c with regs := { c.regs with evt := f.set c.regs.evt } }) s

/-- STATUS 110 while XIN or the PLL is awaited. -/
def setClk110 (b : Bool) (s : State) : State := { s with boot := { s.boot with clk110 := b } }

/-! ## Operating points (10 R289 to R292) -/

/-- The CPUCLK divider of a point (10 Table CLK-3). -/
def pointDiv (op : Nat) : Nat :=
  match op with
  | 3 => 4 | 2 => 6 | 1 => 8 | _ => 16

/-- The VSEL code of a point: CRU_OPV's field, or the reset code where the field is below it. -/
def pointCode (s : State) (op : Nat) : Nat :=
  let w := s.cru.regs.opv
  match op with
  | 3 => max 2 (F.CRU_OPV.OP3.get w)
  | 2 => max 1 (F.CRU_OPV.OP2.get w)
  | 1 => F.CRU_OPV.OP1.get w
  | _ => F.CRU_OPV.OP0.get w

/-- The present operating point. -/
def opNow (s : State) : Nat := F.CRU_STAT.OP.get s.cru.regs.stat

/-- CRU_DVFS.TARGET. -/
def opTarget (s : State) : Nat := F.CRU_DVFS.TARGET.get s.cru.regs.dvfs

/-- The sequence under way, with DVFS_BUSY. -/
def setSeq (q : Option DvfsSeq) (s : State) : State :=
  cruStat (F.CRU_STAT.DVFS_BUSY.setTo q.isSome) (modCru (fun c => { c with seq := q }) s)

/-- The sequencer takes up TARGET when no sequence runs and TARGET is not the present point: a raise drives
VSEL and waits for PGOOD_CORE; a lower moves the divider first (10 R290). -/
def dvfsStart (s : State) : State :=
  let t := opTarget s
  if s.cru.seq.isSome || !F.CRU_STAT.ROOT_PLL.on s.cru.regs.stat || t == opNow s then s
  else if opNow s < t then
    let back := s.cru.vsel
    setSeq (some (.raise t back)) (modCru (fun c => { c with vsel := pointCode s t }) s)
  else setSeq (some (.steps t)) s

/-- TARGET written by the boot ROM or the wake logic. -/
def raiseTo3 (s : State) : State :=
  dvfsStart (modCru (fun c => { c with regs := { c.regs with
    dvfs := F.CRU_DVFS.TARGET.put 3 c.regs.dvfs } }) s)

/-- CRU_DVFS_WRITE (10 R290). -/
def execCruDvfsWrite (v : Word) (s : State) : Host.Outcome State Fault Refusal :=
  .next (if cpWrites s then
    dvfsStart (modCru (fun c => { c with regs := { c.regs with dvfs := v &&& 0x00FF0003 } }) s)
    else s)

/-- PGOOD_STABLE (10 R290, step 2 of a raise). -/
def execPgoodStable (s : State) : Host.Outcome State Fault Refusal :=
  .next (
    let s := if s.boot.phase = .held then s else cruStat F.CRU_STAT.PGOOD.set s
    match s.cru.seq with
    | some (.raise t _) => setSeq (some (.steps t)) s
    | _ => s)

/-- The sequence ends at its point: OP and DVFS_DONE; a lower then drives VSEL. A TARGET written meanwhile
is acted on; at C6 of a cold start the slot is chosen next, once the flash is ready (11 Table RST-2, R314). -/
def dvfsDone (t : Nat) (s : State) : State :=
  let lower := t < opNow s
  let s := if lower then modCru (fun c => { c with vsel := pointCode s t }) s else s
  let s := cruEvt F.CRU_EVT.DVFS_DONE (cruStat (F.CRU_STAT.OP.put t) (setSeq none s))
  if s.boot.phase = .raise && t = 3 then (if flashBusy s then s else chooseSlot s) else dvfsStart s

/-- DIVIDER_STEP (10 R290): one integer step toward the point's divider. -/
def execDividerStep (s : State) : Host.Outcome State Fault Refusal :=
  .next (match s.cru.seq with
    | some (.steps t) =>
      let d := s.cru.div
      let g := pointDiv t
      let d' := if g < d then d - 1 else if d < g then d + 1 else d
      let s := modCru (fun c => { c with div := d' }) s
      if d' = g then dvfsDone t s else s
    | _ => s)

/-- The boot ROM asks again for OP3 when its raise was abandoned (log entry 25). -/
def bootAgain (s : State) : State := if s.boot.phase = .raise then dvfsStart s else s

/-- PG_TMO (10 R291): the previous code returns to VSEL; divider and OP stay. A TARGET written during the
sequence is then acted on. -/
def execPgTmo (s : State) : Host.Outcome State Fault Refusal :=
  .next (match s.cru.seq with
    | some (.raise t back) =>
      let s := cruEvt F.CRU_EVT.PG_TMO (setSeq none (modCru (fun c => { c with vsel := back }) s))
      if opTarget s = t then bootAgain s else dvfsStart s
    | _ => s)

/-- PG_LOST (10 R291): /16 and OP0 at once; VSEL stays. While a raise waits for PGOOD_CORE only the level
changes. -/
def execPgLost (s : State) : Host.Outcome State Fault Refusal :=
  .next (if F.CRU_STAT.ROOT_PLL.on s.cru.regs.stat then
    let s := cruStat F.CRU_STAT.PGOOD.clr s
    match s.cru.seq with
    | some (.raise _ _) => s
    | _ =>
      let s := setSeq none (modCru (fun c => { c with div := 16 }) s)
      bootAgain (cruEvt F.CRU_EVT.PG_LOST (cruStat F.CRU_STAT.OP.clr s))
    else s)

/-! ## Reference and root (10 R284, R285) -/

/-- XIN_QUALIFIED. -/
def execXinQualified (s : State) : Host.Outcome State Fault Refusal :=
  .next (if s.boot.phase = .clocks then setClk110 false (cruStat F.CRU_STAT.XIN_OK.set s) else s)

/-- XIN_QUALIFY_TIMEOUT. -/
def execXinQualifyTimeout (s : State) : Host.Outcome State Fault Refusal :=
  .next (if s.boot.phase = .clocks && !F.CRU_STAT.XIN_OK.on s.cru.regs.stat then setClk110 true s else s)

/-- The counts of the window in which lock was judged: an accepted XIN count, and a root count within 2 of
it; the counts themselves are free. -/
def lockCounts (s : State) : State :=
  let (a, s) := takeFree Config.freeNat s
  let (b, s) := takeFree Config.freeNat s
  let x := 21096 + a % 4684
  modCru (fun c => { c with regs := { c.regs with
    xcnt := F.CRU_XCNT.ROOT.put (x - 2 + b % 5) (F.CRU_XCNT.XIN.put x c.regs.xcnt) } }) s

/-- The root on the PLL. -/
def rootOnPll (s : State) : State :=
  cruStat (fun w => F.CRU_STAT.ROOT_PLL.set (F.CRU_STAT.PLL_LOCK.set w)) (lockCounts s)

/-- PLL_LOCK: the root moves to the PLL (C5) and the boot ROM raises to OP3 (C6). -/
def execPllLock (s : State) : Host.Outcome State Fault Refusal :=
  .next (if s.boot.phase = .clocks && F.CRU_STAT.XIN_OK.on s.cru.regs.stat then
    let s := setClk110 false (rootOnPll (modCru (fun c => { c with lockFails := 0 }) s))
    raiseTo3 { s with boot := { s.boot with phase := .raise } }
    else s)

/-- PLL_LOCK_TIMEOUT: tried again; after the third, STATUS 110. -/
def execPllLockTimeout (s : State) : Host.Outcome State Fault Refusal :=
  .next (if s.boot.phase = .clocks && F.CRU_STAT.XIN_OK.on s.cru.regs.stat then
    let n := s.cru.lockFails + 1
    let s := modCru (fun c => { c with lockFails := n }) s
    if 3 ≤ n then setClk110 true s else s
    else s)

/-! ## Clock failures (10 R296 to R298) -/

def execClockLoss (s : State) : Host.Outcome State Fault Refusal := .next (clockFailure s)
def execLpoLoss (s : State) : Host.Outcome State Fault Refusal := .next (clockFailure s)

/-- SPREAD_LOCK_FAILURE (10 R287): judged with spread on. -/
def execSpreadLockFailure (s : State) : Host.Outcome State Fault Refusal :=
  .next (if F.CRU_STAT.SS_ON.on s.cru.regs.stat then clockFailure s else s)

/-- CLOCK_RECOVERY (10 R298): a cold start with cause 4. -/
def execClockRecovery (s : State) : Host.Outcome State Fault Refusal :=
  .next (if s.boot.phase = .clockFail then coldStart 4 (F.RST_CAUSE.CLKFAIL.set 0) s else s)

/-! ## Spread, gating (10 R287, R293) -/

/-- CRU_PLLCTL_WRITE: the write, and the change as the next modulation period takes it; in bypass the spread
is off. -/
def execCruPllctlWrite (v : Word) (s : State) : Host.Outcome State Fault Refusal :=
  .next (if cpWrites s then
    let new := v &&& 0xFFF1
    let old := s.cru.regs.pllctl
    let s := modCru (fun c => { c with regs := { c.regs with pllctl := new } }) s
    if F.CRU_STAT.ROOT_PLL.on s.cru.regs.stat && new != old then
      cruEvt F.CRU_EVT.SS_APPLIED (cruStat (F.CRU_STAT.SS_ON.setTo (F.CRU_PLLCTL.SS_EN.on new)) s)
    else s
    else s)

/-- An engine holds a skein. -/
def holdsSkein (s : State) (e : EngId) : Bool :=
  (List.finRange 12).any fun k => engineOf s k == some e

/-- A CRU_GATE value is refused (10 R293): a child without its parent, a gated engine that holds a skein, a
gated link of a die whose ports are not all PARKED or FENCED. -/
def gateRefused (s : State) (v : Word) : Bool :=
  let idle (p : PortId) : Bool := s.ports[p].st == .parked || s.ports[p].st == .fenced
  (!bitOf v 31 && (v &&& 0x001FC000) != 0) || (!bitOf v 30 && (v &&& 0x0F000000) != 0) ||
    ((List.finRange 13).any fun e => !bitOf v e.val && holdsSkein s e) ||
    ((List.finRange 4).any fun d => !bitOf v (24 + d.val) && !(portsOfDie d).all idle)

/-- CRU_GATE_WRITE. -/
def execCruGateWrite (v : Word) (s : State) : Host.Outcome State Fault Refusal :=
  .next (if cpWrites s then
    let v := v &&& 0xCF1FDFFF
    if gateRefused s v then cruEvt F.CRU_EVT.GATE_REF s
    else modCru (fun c => { c with regs := { c.regs with gate := v } }) s
    else s)

/-! ## Standby (10 R294, R295) -/

/-- The conditions of standby. -/
def standbyOk (s : State) : Bool :=
  cpRuns s && !s.cru.standby && s.host.session.toNat / 65536 == 0 && s.host.consumed.isEmpty &&
    s.host.waits.isEmpty && !F.TEL_STAT.RUN.on s.tel.stat &&
    allPorts.all fun p => s.ports[p].st == .parked || s.ports[p].st == .detached || s.ports[p].st == .fenced

/-- STANDBY_ENTER: CPUCLK, FABCLK and PERCLK stop and the PLL is powered down. Firmware writes ENTER only
when the conditions hold (log entry 26). -/
def execStandbyEnter (s : State) : Host.Outcome State Fault Refusal :=
  .next (if standbyOk s then
    let s := setSeq none (modCru (fun c => { c with standby := true, vsel := 0, div := 16 }) s)
    cruStat (fun w => w |> F.CRU_STAT.ROOT_PLL.clr |> F.CRU_STAT.PLL_LOCK.clr |> F.CRU_STAT.SS_ON.clr
      |> F.CRU_STAT.OP.clr) s
    else s)

/-- The spread of CRU_PLLCTL applies to the PLL that has locked again (10 R287, DEDUCED, log entry 98). -/
def spreadOn (s : State) : State :=
  if F.CRU_PLLCTL.SS_EN.on s.cru.regs.pllctl then
    cruEvt F.CRU_EVT.SS_APPLIED (cruStat F.CRU_STAT.SS_ON.set s)
  else s

/-- WAKE: the PLL locks again, the raise to OP3 begins, and the source is recorded: 0 management target,
1 HQ_CS_N, 2 CC_CHG, 3 UPDATE_BTN_N, 4 SD_CD_N; the engines run on with what came meanwhile. -/
def wake (cause : Fin 5) (s : State) : State :=
  if s.cru.standby then
    let s := modCru (fun c => { c with
      standby := false
      regs := { c.regs with stby := F.CRU_STBY.CAUSE.put (2 ^ cause.val) c.regs.stby } }) s
    resumePorts allPorts (raiseTo3 (cruEvt F.CRU_EVT.WAKE (spreadOn (rootOnPll s))))
  else s

def execWake (cause : Fin 5) (s : State) : Host.Outcome State Fault Refusal := .next (wake cause s)

end Sys2Proof.Machine
end

