-- ==== Sys2Proof/Machine/Feeds.lean ====
section
/-! DEFINITION. The feed logic: qualification, loss, and the break-before-make switch
(05_power_path_and_breaker.md R153 to R155). -/

namespace Sys2Proof.Machine
open Sys2Proof

/-- The code of a feed in FED_CTL and FED_STAT. -/
def Feed.code : Feed → Nat
  | .a => 1 | .b => 2 | .p => 3

/-- The feed a code names. -/
def Feed.ofCode (n : Nat) : Option Feed :=
  match n with
  | 1 => some .a | 2 => some .b | 3 => some .p | _ => none

/-- The feed registers changed. -/
def modFed (f : FeedRegs → FeedRegs) (s : State) : State :=
  { s with feeds := { s.feeds with regs := f s.feeds.regs } }

/-- The feeds named in FED_CTL, in order; a feed named twice is used at its first position. -/
def feedOrder (r : FeedRegs) : List Feed :=
  ([F.FED_CTL.FIRST.get r.ctl, F.FED_CTL.SECOND.get r.ctl, F.FED_CTL.THIRD.get r.ctl].filterMap
    Feed.ofCode)

/-- The port named in FED_PPORT serves as a feed: a bidirectional port in sink role with its sink path
enabled (05 R153). The engine enables the path with its converter; the feed logic then raises and lowers its gate
(log entry 94). -/
def feedPServes (s : State) : Bool :=
  F.FED_PPORT.VALID.on s.feeds.regs.pport &&
  match portOf (F.FED_PPORT.PORT.get s.feeds.regs.pport) with
  | some p => bidirectional s p && !s.ports[p].isSource && s.ports[p].attached &&
      F.PTH_CTL.CEN_EN.on s.ports[p].pth.ctl
  | none => false

/-- A feed is qualified. -/
def feedQual (s : State) (f : Feed) : Bool :=
  bitOf s.feeds.regs.stat (3 + Feed.code f) && (f != .p || feedPServes s)

/-- The active feed. -/
def activeFeed (s : State) : Option Feed := Feed.ofCode (F.FED_STAT.ACTIVE.get s.feeds.regs.stat)

/-- A switch is in progress (05 Table PTH-8). -/
def feedSwitching (s : State) : Bool := F.FED_STAT.SWITCHING.on s.feeds.regs.stat

/-- FEED: FED_EVT and the active feed (09 Table CMD-12). -/
def postFeed (s : State) : State :=
  postCp 1153 (BitVec.ofNat 32 (s.feeds.regs.evt.toNat % 64
    + 256 * F.FED_STAT.ACTIVE.get s.feeds.regs.stat)) s

/-- A flag of FED_EVT set and FEED posted. -/
def feedEvt (f : Fld) (s : State) : State :=
  postFeed (modFed (fun r => { r with evt := f.set r.evt }) s)

/-- The FEED condition follows the failed feeds (12 Table SAF-5). -/
def syncFeedHealth (s : State) : State := setHealth 2 (!s.feeds.failed.isEmpty) s

/-- The stitch link of the die that drives a feed is down (05 R155). -/
def feedLinkDown (s : State) (f : Feed) : Bool :=
  match f with
  | .a => !bitOf s.saf.stat 0
  | .b => !bitOf s.saf.stat 2
  | .p => false

/-- The front die's gate of a feed: that of FEED_P is its port's. -/
def Feed.die : Feed → Option (Fin 2)
  | .a => some 0 | .b => some 1 | .p => none

/-- A feed's gate is driven on. -/
def feedGate (s : State) (f : Feed) : Bool :=
  match Feed.die f, portOf (F.FED_PPORT.PORT.get s.feeds.regs.pport) with
  | some d, _ => s.feeds.gates[d]
  | none, some p => s.ports[p].gateOn
  | none, none => false

/-- A feed's gate driven: of FEED_P by raising or lowering its port's sink path (05 R153). -/
def driveGate (f : Feed) (on : Bool) (s : State) : State :=
  match Feed.die f, portOf (F.FED_PPORT.PORT.get s.feeds.regs.pport) with
  | some d, _ => { s with feeds := { s.feeds with gates := s.feeds.gates.set d on } }
  | none, some p => if on then modPort p sinkPathUp s else modPort p gateOff s
  | none, none => s

/-- The control die orders a feed's gate: with the die's stitch link down it keeps its state (02 R41). -/
def orderGate (f : Feed) (on : Bool) (s : State) : State :=
  if feedLinkDown s f then s else driveGate f on s

/-- A feed that can be selected: qualified, with its gate in reach (02 R41). -/
def feedReady (s : State) (f : Feed) : Bool := feedQual s f && (!feedLinkDown s f || feedGate s f)

/-- Step 2 is confirmed (05 R155): the old feed's gate is off, and while its die has no stitch link the second wire
shows the feed's voltage below its UV threshold. -/
def bbmClear (s : State) : Bool :=
  match activeFeed s with
  | none => true
  | some f => !feedGate s f && (!feedLinkDown s f ||
      (match Feed.die f with
        | some d => s.feeds.under[d]
        | none => true))

/-- The feed of the bus, which the budget follows (06 R177). -/
def setSource (n : Nat) (s : State) : State :=
  { s with cad := { s.cad with regs := { s.cad.regs with
      stat := F.CAD_STAT.SOURCE.put n s.cad.regs.stat } } }

/-- Step 2 (05 Table PTH-8): the first qualified feed in the order is selected and its gate raised; with
none qualified no feed is active. -/
def selectFeed (s : State) : State :=
  match (feedOrder s.feeds.regs).find? (feedReady s) with
  | some f =>
    let s := modFed (fun r => { r with
      stat := F.FED_STAT.ACTIVE.put (Feed.code f) (F.FED_STAT.SWITCHING.set r.stat) }) s
    orderGate f true { s with feeds := { s.feeds with rising := some f } }
  | none =>
    let s := modFed (fun r => { r with
      stat := F.FED_STAT.ACTIVE.clr (F.FED_STAT.SWITCHING.clr r.stat) }) s
    setSource 0 { s with feeds := { s.feeds with rising := none } }

/-- Step 2 is held: the old feed's die has no stitch link (05 R155). -/
def holdBbm (f : Feed) (s : State) : State :=
  if feedLinkDown s f then
    syncFeedHealth (feedEvt F.FED_EVT.BBM_WAIT { s with
      feeds := { s.feeds with failed := f :: s.feeds.failed.filter (· != f) } })
  else s

/-- Step 1 (05 Table PTH-8): the old feed opens and SWITCHING is set. -/
def beginSwitch (old : Feed) (s : State) : State :=
  let s := modFed (fun r => { r with stat := F.FED_STAT.SWITCHING.set r.stat }) (orderGate old false s)
  holdBbm old { s with feeds := { s.feeds with rising := none } }

/-- The selection of R153 when no switch runs: a lost active feed, no active feed, or RETURN to an
earlier one. -/
def evalFeeds (s : State) : State :=
  if feedSwitching s then s
  else
    let want := (feedOrder s.feeds.regs).find? (feedReady s)
    match activeFeed s with
    | none => if want.isSome then selectFeed s else s
    | some f =>
      if feedQual s f then
        if F.FED_CTL.RETURN.on s.feeds.regs.ctl && want.isSome && want != some f then beginSwitch f s
        else s
      else beginSwitch f s

/-- The stitch link of a die has gone down: the switch of a feed that it drives waits for its wires (05 R155). -/
def feedLinkLost (d : DieId) (s : State) : State :=
  match activeFeed s with
  | some f =>
    if feedSwitching s && s.feeds.rising.isNone && ((f == .a && d.val == 0) || (f == .b && d.val == 2)) then holdBbm f s
    else s
  | none => s

/-- The second wire of a feed's die (05 R155). -/
def setUnder (f : Feed) (v : Bool) (s : State) : State :=
  match Feed.die f with
  | some d => { s with feeds := { s.feeds with under := s.feeds.under.set d v } }
  | none => s

/-- FEED_QUALIFIED (05 R153): of a die whose stitch link is up. -/
def execFeedQualified (f : Feed) (s : State) : Host.Outcome State Fault Refusal :=
  .next (if hwUp s && !feedLinkDown s f && (f != .p || feedPServes s) then
      let s := modFed (fun r => { r with stat := setBit (3 + Feed.code f) r.stat }) s
      let s := setUnder f false s
      evalFeeds (syncFeedHealth { s with feeds := { s.feeds with failed := s.feeds.failed.filter (· != f) } })
    else s)

/-- The flag of a lost feed. -/
def lostFlag : Feed → Fld
  | .a => F.FED_EVT.LOST_A | .b => F.FED_EVT.LOST_B | .p => F.FED_EVT.LOST_P

/-- The die's own part of a loss (05 R154, 02 R41): it opens the feed, without the control die. The row does not say
which of the three detections acted, so whether the second wire shows an undervoltage is a free value (log entry
94). -/
def dieLosesFeed (f : Feed) (s : State) : State :=
  let (u, s) := takeFree Config.freeBit s
  driveGate f false (if u then setUnder f true s else s)

/-- FEED_LOST (05 R154): the active feed's loss begins a switch; the loss of the feed that is rising
begins another. -/
def execFeedLost (f : Feed) (s : State) : Host.Outcome State Fault Refusal :=
  let s := dieLosesFeed f s
  .next (if hwUp s then
      let s := modFed (fun r => { r with stat := clrBit (3 + Feed.code f) r.stat }) s
      let s := feedEvt (lostFlag f) s
      if activeFeed s = some f && (!feedSwitching s || s.feeds.rising == some f) then beginSwitch f s
      else s
    else s)

/-- FEED_BBM_DONE (05 Table PTH-8, step 2; R155). -/
def execFeedBbmDone (s : State) : Host.Outcome State Fault Refusal :=
  .next (if feedSwitching s && s.feeds.rising.isNone && bbmClear s then selectFeed s else s)

/-- FEED_SWITCHED (05 Table PTH-8, step 4; 06 R177, R179). -/
def execFeedSwitched (s : State) : Host.Outcome State Fault Refusal :=
  .next (match s.feeds.rising with
    | some f =>
      let s := modFed (fun r => { r with stat := F.FED_STAT.SWITCHING.clr r.stat })
        { s with feeds := { s.feeds with rising := none } }
      evalFeeds (feedEvt F.FED_EVT.SWITCHED (setSource (Feed.code f) s))
    | none => s)

/-- FEED_NONE (05 R155): with no feed qualified for 1 ms every port in source role binds off at once. -/
def execFeedNone (s : State) : Host.Outcome State Fault Refusal :=
  .next (if hwUp s && !([Feed.a, Feed.b, Feed.p].any (feedQual s)) then
      forPorts allPorts (fun p s =>
        if s.ports[p].attached && s.ports[p].isSource then bindOff p 4 10 s else s)
        (feedEvt F.FED_EVT.NONE s)
    else s)

/-- FEED_DEGRADED_TIMEOUT (12 R338): a feed named in FED_CTL is not qualified within 10 s. -/
def execFeedDegradedTimeout (f : Feed) (s : State) : Host.Outcome State Fault Refusal :=
  .next (if hwUp s && (feedOrder s.feeds.regs).contains f && !feedQual s f then
      syncFeedHealth { s with feeds := { s.feeds with failed := f :: s.feeds.failed.filter (· != f) } }
    else s)

end Sys2Proof.Machine
end

