-- ==== Sys2Proof/Machine/Diagnostics.lean ====
section
/-! DEFINITION. Supplies, stitch links, temperature, ride-through, lockstep and ECC (10 R281 to R283,
12_safety_watchdog_degraded.md R322 to R329). -/

namespace Sys2Proof.Machine
open Sys2Proof

/-! ## Supplies and links -/

/-- SUPPLY_DETECTOR_FALL (10 R281): the control die in reset at once; each front die acts as on a loss of its
link. A loss of VDD_AON clears RST_CNT and RST_RETVER (11 R311, R317). -/
def execSupplyDetectorFall (aon : Bool) (s : State) : Host.Outcome State Fault Refusal :=
  .next (
    let s := forPorts allPorts (fun p s => modPort p openPins (safeFused p s)) s
    let s := controlReset (s.ports.map controlPort) s.feeds (otpCut s)
    { s with
      boot := { s.boot with phase := .held, supplyDown := true }
      rst := if aon then { s.rst with cnt := 0, retver := 0 } else s.rst })

/-- The supplies of a front die. -/
def setSupplied (d : DieId) (v : Bool) (s : State) : State :=
  { s with diag := { s.diag with supplied := s.diag.supplied.set d v } }

/-- FRONT_DIE_JOIN (10 R282): the die reports its three rails above their detectors. -/
def execFrontDieJoin (d : DieId) (s : State) : Host.Outcome State Fault Refusal :=
  .next (gainLink d (setSupplied d true s))

/-- STITCH_LINK_TRAINED (12 R324): of a die with its supplies. -/
def execStitchLinkTrained (d : DieId) (s : State) : Host.Outcome State Fault Refusal :=
  .next (if s.diag.supplied[d] then gainLink d s else s)

/-- A port whose front die has lost its supplies (02 R38, 10 R283): no gate, no converter, no VCONN, no termination; a
discharge while VFR_Fn still allows it. The front die's registers return with their reset values, but for those that
R150, R165 and the events keep; the control die's copy keeps the values they had (01 R31, log entry 95). -/
def unsupplied (discharge : Bool) (q : Port) : Port :=
  let r := { q with
    copy := some (q.copy.getD q.front)
    cc := CcRegs.reset
    pth := { PathRegs.reset with ceil := q.pth.ceil, retry := q.pth.retry, evt := q.pth.evt }
    cur := CurveRegs.reset
    tel := TelPortRegs.reset
    hw := { q.hw with curve := [], heat := 0, vdis := none, deb := none, ride := none, safeWait := discharge } }
  if discharge then { (sinkOn r) with cc.out := setBit 12 r.cc.out } else r

/-- FRONT_DIE_SUPPLY_LOSS (10 R283): every port of the die "off", then a stitch-link loss. How long VFR_Fn allows the
discharge is a free value. -/
def execFrontDieSupplyLoss (d : DieId) (s : State) : Host.Outcome State Fault Refusal :=
  let (vfr, s) := takeFree Config.freeBit s
  let s := feedLinkLost d (loseLink d safePort s)
  .next (forPorts (portsOfDie d) (fun p s => modPort p (unsupplied vfr) s) (setSupplied d false s))

/-- STITCH_LINK_LOSS (12 R324; 05 R155). -/
def execStitchLinkLoss (d : DieId) (s : State) : Host.Outcome State Fault Refusal :=
  .next (if linkUp s d then feedLinkLost d (loseLink d safeFused s) else s)

/-- VCN_SUPPLY_LOSS (10 R283): every VCONN switch of the die opens, and each port concerned goes on as one that has
lost VCONN (03 R73). -/
def execVcnSupplyLoss (d : DieId) (s : State) : Host.Outcome State Fault Refusal :=
  .next (forPorts ((portsOfDie d).filter fun p => s.ports[p].vconnOn)
    (fun p s => atPolicy p (.vconnAggOff p) (polVconnLost p) (modPort p vconnOpen s)) s)

/-! ## Temperature and ride-through (12 R322, R325) -/

/-- OVER_TEMPERATURE: a die-level hold with every port "off"; THERMAL in place of STITCH. -/
def execOverTemperature (d : DieId) (s : State) : Host.Outcome State Fault Refusal :=
  .next (if dieHot s d || !hwUp s then s
    else
      let s := safEvt F.SAF_EVT.HOT (modSafStat (setBit (4 + d.val)) s)
      holdDie d safePort (postThermal d true s))

/-- TEMPERATURE_RELEASE: the die leaves the hold. -/
def execTemperatureRelease (d : DieId) (s : State) : Host.Outcome State Fault Refusal :=
  .next (if dieHot s d then endHoldOf true d (modSafStat (clrBit (4 + d.val)) s) else s)

/-- RIDE_THROUGH_EXPIRY (12 R322): "off" after at most 50 ms. -/
def execRideThroughExpiry (p : PortId) (s : State) : Host.Outcome State Fault Refusal :=
  .next (if s.ports[p].hw.ride.isSome then endHold (dieOf p) (safePort p s) else s)

/-! ## Lockstep (12 R327, R338) -/

/-- 24 hours in µs. -/
def dayMicros : Nat := 86400000000

/-- The mismatches of the last 24 h counted into SAF_LSCNT.DAY. -/
def lockstepDay (s : State) : State :=
  { s with saf := { s.saf with
      lscnt := F.SAF_LSCNT.DAY.put (min 255 s.diag.mismatches.length) s.saf.lscnt } }

/-- LOCKSTEP_MISMATCH: recorded; a warm start with cause 3 at once, or a failed start during one. LOCKSTEP
is posted after RUN, and the condition is set when this is the fourth within 24 h. -/
def execLockstepMismatch (s : State) : Host.Outcome State Fault Refusal :=
  .next (if hwUp s then
    let recent := s.diag.mismatches.filter fun t => s.time < t + dayMicros
    let s := lockstepDay (safEvt F.SAF_EVT.LOCKSTEP { s with
      diag := { s.diag with mismatches := s.time :: recent }
      saf := { s.saf with
        lscnt := F.SAF_LSCNT.TOTAL.put (min 65535 (F.SAF_LSCNT.TOTAL.get s.saf.lscnt + 1)) s.saf.lscnt } })
    let n := s.diag.mismatches.length
    let s := keepEvent 1166 (BitVec.ofNat 32 (min 255 n)) s
    let s := if cpRuns s then warmStart ⟨0, 3, runSlot s, false⟩ s else failStart s
    if s.boot.phase = .warm && 4 ≤ s.diag.mismatches.length then setHealth 5 true s else s
    else s)

/-- LOCKSTEP_AGE_OUT: the oldest mismatch leaves the 24 h. -/
def execLockstepAgeOut (s : State) : Host.Outcome State Fault Refusal :=
  .next (
    let s := lockstepDay { s with diag := { s.diag with mismatches := s.diag.mismatches.dropLast } }
    if s.diag.mismatches.length < 4 then setHealth 5 false s else s)

/-! ## ECC (12 R328, R329) -/

/-- SAF_ECCCNT.DAY and the ECC condition follow the 24 hourly counts. -/
def eccDay (s : State) : State :=
  let n := s.diag.hours.toList.sum
  let thr := F.SAF_ECCTHR.THR.get s.saf.eccthr
  let before := bitOf s.saf.health 4
  let s := { s with saf := { s.saf with ecccnt := F.SAF_ECCCNT.DAY.put (min 65535 n) s.saf.ecccnt } }
  let s := if thr < n && !before then safEvt F.SAF_EVT.ECC_THR s else s
  setHealth 4 (thr < n) s

/-- A single-bit error corrected, counted and written back. -/
def eccCorrect (s : State) : State :=
  eccDay { s with
    diag := { s.diag with hours := s.diag.hours.set 0 (s.diag.hours[0] + 1) }
    saf := { s.saf with
      ecccnt := F.SAF_ECCCNT.TOTAL.put (min 65535 (F.SAF_ECCCNT.TOTAL.get s.saf.ecccnt + 1)) s.saf.ecccnt } }

/-- A double-bit error recorded: SAF_ERRADDR, SAF_ERRMEM, UNCORR, ECC with bit 8. -/
def eccRecord (mem addr : Nat) (s : State) : State :=
  let s := safEvt F.SAF_EVT.UNCORR { s with
    diag := { s.diag with bad := (mem, addr) :: s.diag.bad.filter (· ≠ (mem, addr)) }
    saf := { s.saf with
      erraddr := BitVec.ofNat 32 addr
      errmem := F.SAF_ERRMEM.VALID.set (F.SAF_ERRMEM.MEM.put mem s.saf.errmem) } }
  postCp 1167 (BitVec.ofNat 32 (mem + 256)) s

/-- The reaction of the hardware's own memories (12 Table SAF-3): `who` is the port whose context, or whose
holding or request, holds the word. The protocol hardware stops using the port's contexts at once; the engine acts
when it runs. -/
def eccReact (mem who : Nat) (s : State) : State :=
  match portOf who with
  | none => s
  | some p =>
    if mem = 5 then
      atPolicy p (.eccUncorrectable 5 0 who) (polEcc p) (modPort p (fun q =>
        enableCtx 2 false (enableCtx 1 false (enableCtx 0 false q))) s)
    else if mem = 6 then caddyRelease p (bindOffs [p] s)
    else s

/-- The core that made the access. -/
def eccAccessor (mem who : Nat) : Option CoreId :=
  if mem = 0 ∨ mem = 1 then some 13
  else if mem = 2 ∨ mem = 3 ∨ mem = 4 then (if h : who < 14 then some ⟨who, h⟩ else none)
  else none

/-- ECC_UNCORRECTABLE: the word recorded, a bus error to the accessing core, the memory's reaction. -/
def execEccUncorrectable (mem : Fin 7) (addr who : Nat) (s : State) : Host.Outcome State Fault Refusal :=
  .next (if hwUp s then
    let s := eccRecord mem.val addr s
    let s := match eccAccessor mem.val who with
      | some c => if coreRuns s c then faultCore c 5 s else s
      | none => s
    eccReact mem.val who s
    else s)

/-- SCRUB_READ: `wrong` bits of the word are wrong; the scrubber reads codes 1, 2, 4, 5 and 6, and pauses
during a warm start. -/
def execScrubRead (mem : Fin 7) (addr who : Nat) (wrong : Fin 3) (s : State) :
    Host.Outcome State Fault Refusal :=
  .next (if hwUp s && s.boot.phase != .warm && mem.val != 0 && mem.val != 3 && !s.cru.standby then
    if wrong.val = 1 then eccCorrect s
    else if wrong.val = 2 then eccReact mem.val who (eccRecord mem.val addr s)
    else s
    else s)

/-- ECC_HOUR_ROLL: the oldest hour leaves DAY. -/
def execEccHourRoll (s : State) : Host.Outcome State Fault Refusal :=
  .next (eccDay { s with diag := { s.diag with
    hours := Vector.ofFn fun i => if h : i.val = 0 then 0 else s.diag.hours[i.val - 1] } })

end Sys2Proof.Machine
end

