-- ==== Sys2Proof/Machine/Watchdog.lean ====
section
/-! DEFINITION. The window watchdog, the engine task watchdogs and the engine control registers
(12_safety_watchdog_degraded.md R330 to R340, 13 R360). -/

namespace Sys2Proof.Machine
open Sys2Proof

/-- The watchdog's registers changed. -/
def modWdg (f : WdgRegs → WdgRegs) (s : State) : State := { s with wdg := { s.wdg with regs := f s.wdg.regs } }

/-- The watchdog runs. -/
def wdgOn (s : State) : Bool := F.WDG_CTL.EN.on s.wdg.regs.ctl && !s.cru.standby

/-- LOCK is set. -/
def wdgLocked (s : State) : Bool := F.WDG_CTL.LOCK.on s.wdg.regs.ctl

/-- A period starts: the window opens at once when OPEN is 0. -/
def wdgPeriod (s : State) : State :=
  let s := { s with wdg := { s.wdg with at_ := s.time } }
  modWdg (fun r => { r with
    stat := F.WDG_STAT.KEY1.clr (F.WDG_STAT.WOPEN.setTo (F.WDG_CFG.OPEN.get r.cfg == 0) r.stat) }) s

/-- Ten seconds in µs. -/
def tenSeconds : Nat := 10000000

/-- An expiry (12 R334) of a KIND: recorded, WDO high, then a warm start with cause 2; the second within
10 s makes a cold start with cause 4 and WDG2. During a start it is a failed start (11 R310). WATCHDOG
is posted after RUN. -/
def wdgExpire (kind : Nat) (s : State) : State :=
  let s := modWdg (fun r => { r with cause := F.WDG_CAUSE.KIND.put kind r.cause }) s
  let again : Bool := match s.wdg.lastExp with
    | some t => decide (s.time ≤ t + tenSeconds)
    | none => false
  let s := keepEvent 1169 s.wdg.regs.fail { s with wdg := { s.wdg with lastExp := some s.time, wdo := true } }
  if again then
    let s := if s.boot.phase = .entered then
        setCfail (runSlot s) (min 3 (cfail (runSlot s) s + 1)) s
      else s
    coldStart 4 (F.RST_CAUSE.WDG2.set 0) s
  else if cpRuns s then warmStart ⟨0, 2, runSlot s, false⟩ s
  else failStart s

/-- WDG_CTL_WRITE (12 R330): EN, which LOCK keeps set, and LOCK. -/
def execWdgCtlWrite (v : Word) (s : State) : Host.Outcome State Fault Refusal :=
  .next (if cpWrites s then
    let was := F.WDG_CTL.EN.on s.wdg.regs.ctl
    let en := F.WDG_CTL.EN.on v || (was && wdgLocked s)
    let s := modWdg (fun r => { r with
      ctl := F.WDG_CTL.EN.setTo en (if F.WDG_CTL.LOCK.on v then F.WDG_CTL.LOCK.set r.ctl else r.ctl) }) s
    if en && !was then wdgPeriod s
    else if !en then modWdg (fun r => { r with stat := F.WDG_STAT.KEY1.clr (F.WDG_STAT.WOPEN.clr r.stat) }) s
    else s
    else s)

/-- The expected count of a task: 0 acts as 1 (12 R332). -/
def taskExpected (s : State) (i : Nat) : Nat := max 1 (s.wdg.regs.exp.toNat / 4 ^ i % 4)

/-- The count of a task. -/
def taskCount (s : State) (i : Nat) : Nat :=
  if i < 8 then s.wdg.regs.cntlo.toNat / 16 ^ i % 16 else s.wdg.regs.cnthi.toNat / 16 ^ (i - 8) % 16

/-- The enabled tasks that `f` selects, as a bitmap. -/
def taskMap (s : State) (f : Nat → Bool) : Nat :=
  ((List.range 16).map fun i => if bitOf s.wdg.regs.tasken i && f i then 2 ^ i else 0).sum

/-- The second key inside the window: the tasks are compared; a failure is an expiry of KIND TASK, else
the counts return to zero and a period starts (12 R331, R332). -/
def wdgService (s : State) : State :=
  let few := taskMap s fun i => taskCount s i < taskExpected s i
  let many := taskMap s fun i => taskExpected s i < taskCount s i
  if few ≠ 0 ∨ many ≠ 0 then
    wdgExpire 4 (modWdg (fun r => { r with
      fail := F.WDG_FAIL.FEW.put few (F.WDG_FAIL.MANY.put many r.fail) }) s)
  else wdgPeriod (modWdg (fun r => { r with cntlo := 0, cnthi := 0 }) s)

/-- WDG_KEY_WRITE (12 R331): a key before the window is an expiry EARLY, one that is not the key expected
next an expiry KEY. -/
def execWdgKeyWrite (v : Word) (s : State) : Host.Outcome State Fault Refusal :=
  .next (if cpWrites s && wdgOn s then
    let k := F.WDG_KEY.KEY.get v
    let second := F.WDG_STAT.KEY1.on s.wdg.regs.stat
    if !F.WDG_STAT.WOPEN.on s.wdg.regs.stat && (k == 0x9E3C || k == 0x61C3) then wdgExpire 2 s
    else if k != (if second then 0x61C3 else 0x9E3C) then wdgExpire 3 s
    else if second then wdgService s
    else modWdg (fun r => { r with stat := F.WDG_STAT.KEY1.set r.stat }) s
    else s)

/-- WDG_CHKIN (12 R332): the task's count rises and saturates at 15. -/
def execWdgChkin (task : Fin 16) (s : State) : Host.Outcome State Fault Refusal :=
  .next (if cpWrites s && taskCount s task.val < 15 then
    modWdg (fun r =>
      if task.val < 8 then { r with cntlo := r.cntlo + BitVec.ofNat 32 (16 ^ task.val) }
      else { r with cnthi := r.cnthi + BitVec.ofNat 32 (16 ^ (task.val - 8)) }) s
    else s)

/-- WDG_WINDOW_OPEN (12 R330). -/
def execWdgWindowOpen (s : State) : Host.Outcome State Fault Refusal :=
  .next (if wdgOn s then modWdg (fun r => { r with stat := F.WDG_STAT.WOPEN.set r.stat }) s else s)

/-- WDG_PERIOD_END (12 R330): an expiry LATE. -/
def execWdgPeriodEnd (s : State) : Host.Outcome State Fault Refusal :=
  .next (if wdgOn s then wdgExpire 1 s else s)

/-- WDO_PULSE_END (12 R334). -/
def execWdoPulseEnd (s : State) : Host.Outcome State Fault Refusal :=
  .next { s with wdg := { s.wdg with wdo := false } }

/-! ## Engine task watchdogs and engine control (12 R336, 13 R360) -/

/-- SEW_KICK: any write by the engine restarts the timeout. -/
def sewKick (e : EngId) (s : State) : State := modEng e (fun g => { g with sewAt := s.time }) s

def execSewKick (e : EngId) (s : State) : Host.Outcome State Fault Refusal :=
  .next (if engineRunning s e then sewKick e s else s)

/-- TASK_WATCHDOG_EXPIRY: EXP, and the engine is out of service; a faulted engine's watchdog counts on
(13 R356). -/
def execTaskWatchdogExpiry (e : EngId) (s : State) : Host.Outcome State Fault Refusal :=
  .next (if hwUp s && !s.cru.standby && F.SEW_CTL.EN.on s.engines[e].sew.ctl && engState s e ≠ 0 then
    engineFails e 1 true (modEng e (fun g => { g with sew.stat := F.SEW_STAT.EXP.set g.sew.stat }) s)
    else s)

/-- The skeins an engine serves. -/
def skeinsOf (s : State) (e : EngId) : List (Fin 12) :=
  (List.finRange 12).filter fun k => engineOf s k == some e

/-- SE_CTL_RUN: RUN written by the control pair. An engine that is released resumes its ports (01 R21). -/
def setRun (e : EngId) (run : Bool) (s : State) : State :=
  if run then
    if engState s e = 0 then
      let s := releaseEngine e s
      resumePorts ((skeinsOf s e).flatMap fun k => portsOfSkein k.val) s
    else s
  else stopEngine e s

def execSeCtlRun (e : EngId) (run : Bool) (s : State) : Host.Outcome State Fault Refusal :=
  .next (if cpWrites s then setRun e run s else s)

/-- SE_CTL_CLR. -/
def execSeCtlClr (e : EngId) (s : State) : Host.Outcome State Fault Refusal :=
  .next (if cpWrites s then clearEngine e s else s)

/-- SE_PMDATA: a word stored at ADDR of an engine that is stopped or faulted, and ADDR advances; else PMERR. -/
def pmWrite (e : EngId) (v : Word) (s : State) : State :=
  if engState s e = 0 ∨ engState s e = 3 then
    let a := F.SE_PMADDR.ADDR.get s.engines[e].se.pmaddr
    let s := modCore (coreOf e) (fun k => { k with pmem := cput 0 k.pmem a (v &&& 0x0FFFFFFF) }) s
    modEng e (fun g => { g with se.pmaddr := F.SE_PMADDR.ADDR.put (a + 1) g.se.pmaddr }) s
  else modEng e (fun g => { g with se.stat := F.SE_STAT.PMERR.set g.se.stat }) s

def execSePmdataWrite (e : EngId) (v : Word) (s : State) : Host.Outcome State Fault Refusal :=
  .next (if cpWrites s then pmWrite e v s else s)

/-- SE_CYCLO read: the high half is latched into SE_CYCHI (13 R360). -/
def cycLatch (e : EngId) (s : State) : State :=
  let hi := BitVec.ofNat 32 (s.cores[coreOf e].cyc / 4294967296)
  modEng e (fun g => { g with se.cychi := hi, cycLatched := true }) s

def execSeCycloRead (e : EngId) (s : State) : Host.Outcome State Fault Refusal :=
  .next (if hwUp s then cycLatch e s else s)

end Sys2Proof.Machine
end

