-- ==== Sys2Proof/Machine/Timers.lean ====
section
/-! DEFINITION. The timers of the control die and of the engines (14_timers_and_counters.md). -/

namespace Sys2Proof.Machine
open Sys2Proof

/-- A timer: its registers and the part they do not show. -/
abbrev Tmr := TmrRegs × TmrHw

/-- Timer n of a block; an engine has four. -/
def tmrAt (s : State) (b : TmrBlk) (n : Nat) : Option Tmr :=
  match b with
  | .control => if h : n < 16 then some (s.tmr[n], s.tmrHw[n]) else none
  | .engine e => if h : n < 4 then some (s.engines[e].tmr[n], s.engines[e].tmrHw[n]) else none

/-- Timer n of a block written. -/
def putTmr (b : TmrBlk) (n : Nat) (x : Tmr) (s : State) : State :=
  match b with
  | .control => if h : n < 16 then { s with tmr := s.tmr.set n x.1, tmrHw := s.tmrHw.set n x.2 } else s
  | .engine e =>
    if h : n < 4 then modEng e (fun g => { g with tmr := g.tmr.set n x.1, tmrHw := g.tmrHw.set n x.2 }) s
    else s

/-- Timer n of a block changed. -/
def modTmr (b : TmrBlk) (n : Nat) (f : Tmr → Tmr) (s : State) : State :=
  match tmrAt s b n with
  | some x => putTmr b n (f x) s
  | none => s

/-- The block's clock runs and its registers answer (14 R374). -/
def tmrUp (s : State) (b : TmrBlk) : Bool :=
  hwUp s && match b with
    | .control => timersClocked s
    | .engine _ => !s.cru.standby

/-- A pin action on the output level: 1 set, 2 clear, 3 toggle (14 R366). -/
def pinAct (code : Nat) (ctl : Word) : Word :=
  match code with
  | 1 => F.TMR_CTL.LEVEL.set ctl
  | 2 => F.TMR_CTL.LEVEL.clr ctl
  | 3 => F.TMR_CTL.LEVEL.setTo (!F.TMR_CTL.LEVEL.on ctl) ctl
  | _ => ctl

/-- CNT loaded from RELOAD, the prescaler cleared, the compare armed (14 R362, R363). -/
def loadTmr (x : Tmr) : Tmr := ({ x.1 with cnt := x.1.reload }, { x.2 with pre := 0, armed := true })

/-- The compare fires: MATCH, ACT_M, disarmed (14 R365). -/
def fireTmr (x : Tmr) : Tmr :=
  ({ x.1 with
      evt := F.TMR_EVT.MATCH.set x.1.evt
      ctl := pinAct (F.TMR_CTL.ACT_M.get x.1.ctl) x.1.ctl }, { x.2 with armed := false })

/-- An armed compare fires once CNT is at most CMP. -/
def fireDue (x : Tmr) : Tmr := if x.2.armed && x.1.cnt ≤ x.1.cmp then fireTmr x else x

/-- An underflow (14 R362): the load, UF, ACT_U, the compare armed; ONESHOT stops the timer. A match on the
same tick follows. -/
def underflow (x : Tmr) : Tmr :=
  let once := F.TMR_CTL.ONESHOT.on x.1.ctl
  fireDue ({ x.1 with
      cnt := x.1.reload
      evt := F.TMR_EVT.UF.set x.1.evt
      ctl := pinAct (F.TMR_CTL.ACT_U.get x.1.ctl) x.1.ctl },
    { x.2 with armed := true, run := x.2.run && !once })

/-- One tick (14 R362); whether it underflowed. -/
def tickTmr (x : Tmr) : Tmr × Bool :=
  if !x.2.run then (x, false)
  else if x.1.cnt = 0 then (underflow x, true)
  else (fireDue ({ x.1 with cnt := x.1.cnt - 1 }, x.2), false)

/-- Timer n is the high timer of a chain (14 R370). -/
def isHigh (s : State) (b : TmrBlk) (n : Nat) : Bool :=
  n % 2 == 1 && match tmrAt s b n with
    | some x => F.TMR_CTL.CHAIN.on x.1.ctl
    | none => false

/-- The low timer's underflow is a tick of the high timer. -/
def chainTick (b : TmrBlk) (n : Nat) (s : State) : State :=
  if n % 2 == 0 && isHigh s b (n + 1) then modTmr b (n + 1) (fun x => (tickTmr x).1) s else s

/-- The timers whose bit is set in a word, of those the block has. -/
def tmrBits (b : TmrBlk) (v : Word) : List Nat :=
  (List.range (match b with
    | .control => 16
    | .engine _ => 4)).filter fun n => bitOf v n

/-- Every timer named in a word changed. -/
def forTmrs (b : TmrBlk) (v : Word) (f : Tmr → Tmr) (s : State) : State :=
  (tmrBits b v).foldl (fun s n => modTmr b n f s) s

/-- TMR_ENSET: start (14 R362). -/
def tmrStart (b : TmrBlk) (v : Word) : State → State :=
  forTmrs b v fun x => let y := loadTmr x; fireDue (y.1, { y.2 with run := true })

/-- TMR_ENCLR: stop, CNT held. -/
def tmrStop (b : TmrBlk) (v : Word) : State → State := forTmrs b v fun x => (x.1, { x.2 with run := false })

/-- TMR_RELNOW (14 R363). -/
def tmrRelnow (b : TmrBlk) (v : Word) : State → State := forTmrs b v fun x => fireDue (loadTmr x)

/-- A write of CMP arms the compare, which fires at once when it is already passed (14 R365). -/
def tmrCmp (b : TmrBlk) (n : Nat) (v : Word) : State → State :=
  modTmr b n fun x => fireDue ({ x.1 with cmp := v }, { x.2 with armed := true })

def execTmrEnset (b : TmrBlk) (v : Word) (s : State) : Host.Outcome State Fault Refusal :=
  .next (if tmrUp s b then tmrStart b v s else s)
def execTmrEnclr (b : TmrBlk) (v : Word) (s : State) : Host.Outcome State Fault Refusal :=
  .next (if tmrUp s b then tmrStop b v s else s)
def execTmrRelnow (b : TmrBlk) (v : Word) (s : State) : Host.Outcome State Fault Refusal :=
  .next (if tmrUp s b then tmrRelnow b v s else s)
def execTmrCmpWrite (b : TmrBlk) (n : Fin 16) (v : Word) (s : State) : Host.Outcome State Fault Refusal :=
  .next (if tmrUp s b then tmrCmp b n.val v s else s)

/-- The timer takes ticks: it runs, is no high timer of a chain, and its gate is open. -/
def ticking (s : State) (b : TmrBlk) (n : Nat) : Bool :=
  tmrUp s b && !isHigh s b n && match tmrAt s b n with
    | some x => x.2.run && (match b with
        | .control => gateOpen s x.1.ctl
        | .engine _ => true)
    | none => false

/-- TMR_UNDERFLOW (14 R362): the count has passed zero. -/
def execTmrUnderflow (b : TmrBlk) (n : Fin 16) (s : State) : Host.Outcome State Fault Refusal :=
  .next (if ticking s b n.val then chainTick b n.val (modTmr b n.val underflow s) else s)

/-- TMR_MATCH (14 R365): the count has come down to CMP. -/
def execTmrMatch (b : TmrBlk) (n : Fin 16) (s : State) : Host.Outcome State Fault Refusal :=
  .next (if ticking s b n.val then
    modTmr b n.val (fun x =>
      if x.2.armed then fireTmr ({ x.1 with cnt := if x.1.cmp < x.1.cnt then x.1.cmp else x.1.cnt }, x.2)
      else x) s
    else s)

/-- The edge is of the kind EDGE selects. -/
def edgeTaken (ctl : Word) (rising : Bool) : Bool :=
  match F.TMR_CTL.EDGE.get ctl with
  | 1 => rising
  | 2 => !rising
  | 3 => true
  | _ => false

/-- A capture (14 R369): CAP, CAPF or OVR. -/
def captureTmr (x : Tmr) : Tmr :=
  ({ x.1 with
      cap := x.1.cnt
      evt := if F.TMR_EVT.CAPF.on x.1.evt then F.TMR_EVT.OVR.set x.1.evt else F.TMR_EVT.CAPF.set x.1.evt },
    x.2)

/-- A counted edge passes the prescaler (14 R361). -/
def edgeTick (n : Nat) (s : State) : State :=
  match tmrAt s .control n with
  | none => s
  | some x =>
    if !x.2.run || F.TMR_CTL.CLK.get x.1.ctl != 2 then s
    else if x.2.pre < F.TMR_CTL.PRE.get x.1.ctl then
      putTmr .control n (x.1, { x.2 with pre := x.2.pre + 1 }) s
    else
      let (y, u) := tickTmr (x.1, { x.2 with pre := 0 })
      let s := putTmr .control n y s
      if u then chainTick .control n s else s

/-- TMR_CAPTURE: an edge on the pin that timer n selects. The capture comes before the edge is counted. A low
timer's capture also copies the high timer's count (14 R371). -/
def execTmrCapture (n : Fin 16) (rising : Bool) (s : State) : Host.Outcome State Fault Refusal :=
  .next (
    let ctl := s.tmr[n].ctl
    let k := F.TMR_CTL.PIN.get ctl
    if h : k < 8 then
      let s := { s with board := { s.board with tmrPins := s.board.tmrPins.set k rising } }
      if tmrUp s .control && edgeTaken ctl rising && !isHigh s .control n.val then
        let s := modTmr .control n.val captureTmr s
        let s := if n.val % 2 == 0 && isHigh s .control (n.val + 1) then
            modTmr .control (n.val + 1) (fun x => ({ x.1 with cap := x.1.cnt }, x.2)) s
          else s
        if gateOpen s ctl then edgeTick n.val s else s
      else s
    else s)

/-- A read of CNT: a chained low timer's latches the high count; a high timer's ends the latch (14 R371). -/
def tmrCntLatch (b : TmrBlk) (n : Nat) (s : State) : State :=
  if isHigh s b n then modTmr b (n - 1) (fun x => (x.1, { x.2 with hi := none })) s
  else if isHigh s b (n + 1) then
    match tmrAt s b (n + 1) with
    | some y => modTmr b n (fun x => (x.1, { x.2 with hi := some y.1.cnt })) s
    | none => s
  else s

/-- CNT as it reads. -/
def tmrCnt (s : State) (b : TmrBlk) (n : Nat) : Word :=
  match tmrAt s b n with
  | none => 0
  | some x =>
    if isHigh s b n then
      match tmrAt s b (n - 1) with
      | some y => y.2.hi.getD x.1.cnt
      | none => x.1.cnt
    else x.1.cnt

def execTmrCntRead (b : TmrBlk) (n : Fin 16) (s : State) : Host.Outcome State Fault Refusal :=
  .next (if tmrUp s b then tmrCntLatch b n.val s else s)

/-- A timer drives its event line: a flag set and enabled (14 R373). -/
def tmrPending (x : Tmr) : Bool := (x.1.evt &&& x.1.evten) &&& 0xF != 0

/-- ENSTAT and PEND. -/
def tmrMap (s : State) (b : TmrBlk) (f : Tmr → Bool) : Word :=
  BitVec.ofNat 32 (((List.range 16).map fun n => match tmrAt s b n with
    | some x => if f x then 2 ^ n else 0
    | none => 0).sum)

end Sys2Proof.Machine
end

