-- ==== Sys2Proof/Machine/TwoWire.lean ====
section
/-! DEFINITION. The management target and the two-wire controllers (15_two_wire_buses.md, 08 R229, R230). -/

namespace Sys2Proof.Machine
open Sys2Proof

/-! ## Management target (15 R377 to R383) -/

/-- The management target answers: from the end of fuse sensing, in every STATUS but 101 (08 R229). -/
def mtAnswers (s : State) : Bool := !(s.boot.phase == .held || s.boot.phase == .fuseFail)

/-- The target's state changed. -/
def modTwt (f : Twt → Twt) (s : State) : State := { s with twt := f s.twt }

/-- A flag of TWT_EVT set. -/
def twtEvt (f : Fld) (s : State) : State :=
  modTwt (fun t => { t with regs := { t.regs with evt := f.set t.regs.evt } }) s

/-- TWT_STAT changed. -/
def twtStat (f : Word → Word) (s : State) : State :=
  modTwt (fun t => { t with regs := { t.regs with stat := f t.regs.stat } }) s

/-- The address matches (15 R378): none, on ADDR1 or by mask, or on ADDR2. -/
def mtMatch (s : State) (a : Nat) : Option Bool :=
  let w := s.twt.regs.addr
  let a1 := F.TWT_ADDR.ADDR1.get w
  let mode := F.TWT_ADDR.MODE.get w
  let mask := F.TWT_ADDR.MASK.get w
  if a < 8 || 0x78 ≤ a then none
  else if mode = 2 then
    (if a ||| mask == a1 ||| mask then some false else none)
  else if a = a1 then some false
  else if mode = 1 && a == F.TWT_ADDR.ADDR2.get w then some true
  else none

/-- A transaction ends: an incomplete register is discarded; a write sets WRITE. -/
def mtEnd (s : State) : State :=
  if F.TWT_STAT.ACTIVE.on s.twt.regs.stat then
    let s := twtStat F.TWT_STAT.ACTIVE.clr (modTwt (fun t => { t with part := [], snap := none }) s)
    if s.twt.reading then s else twtEvt F.TWT_EVT.WRITE s
  else s

/-- A START with an address that matches begins a transaction; the one before it has ended. -/
def mtBegin (a : Nat) (read : Bool) (s : State) : State :=
  let s := mtEnd s
  match mtMatch s a with
  | none => s
  | some second =>
    twtStat (fun w => F.TWT_STAT.ACTIVE.set (F.TWT_STAT.LAST.setTo second w))
      (modTwt (fun t => { t with reading := read, first := !read, part := [], snap := none }) s)

/-- MT_ADDRESS_MATCH. -/
def execMtAddressMatch (addr : Fin 128) (read : Bool) (s : State) : Host.Outcome State Fault Refusal :=
  .next (if mtAnswers s && !s.cru.standby then mtBegin addr.val read s else s)

/-- MT_STANDBY_MATCH (15 R381): the match wakes the device. -/
def execMtStandbyMatch (addr : Fin 128) (read : Bool) (s : State) : Host.Outcome State Fault Refusal :=
  .next (if s.cru.standby && (mtMatch s addr.val).isSome then
    wake 0 (twtEvt F.TWT_EVT.WAKE (mtBegin addr.val read s))
    else s)

/-- MT_STOP. -/
def execMtStop (s : State) : Host.Outcome State Fault Refusal := .next (mtEnd s)

/-- MT_TRANSACTION_TIMEOUT (15 R382). -/
def execMtTransactionTimeout (s : State) : Host.Outcome State Fault Refusal :=
  .next (if F.TWT_STAT.ACTIVE.on s.twt.regs.stat then
    let n := min 65535 (F.TWT_STAT.TMOCNT.get s.twt.regs.stat + 1)
    twtEvt F.TWT_EVT.TMO (twtStat (fun w =>
        F.TWT_STAT.TMOCNT.put n (F.TWT_STAT.ACTIVE.clr (F.TWT_STAT.STRETCH.clr w)))
      (modTwt (fun t => { t with part := [], snap := none }) s))
    else s)

/-! ## The target's registers (08 Table HST-8) -/

/-- A vector of group n is pending and enabled. -/
def groupPend (s : State) (n : Nat) : Bool :=
  (List.range 16).any fun i => vecPending s (16 * n + i) && vecEnabled s (16 * n + i)

/-- Bits 3:0 that `f` gives for the four groups. -/
def groupBits (f : Nat → Bool) : Nat := ((List.range 4).map fun n => if f n then 2 ^ n else 0).sum

/-- MT_HEALTH. -/
def mtHealth (s : State) : Word :=
  BitVec.ofNat 32 (healthBits s + if replaceLow s then 2147483648 else 0)

/-- A register as it reads. -/
def mtRead (s : State) (reg : Nat) : Word :=
  match reg with
  | 0 => 0x36394B56
  | 1 => BitVec.ofNat 32 (s.host.session.toNat % 65536 * 65536 + (if s.boot.ready then 256 else 0)
      + statusCode s)
  | 2 => BitVec.ofNat 32 (16 * groupBits (groupPend s) + groupBits (alertLow s))
  | 3 => mtHealth s
  | 4 => BitVec.ofNat 32 (65536 * s.host.errcnt + (if s.host.quad then 2 else 0)
      + F.RST_STRAP.TMR2.get s.rst.strap)
  | _ => 0

/-- The link returns to the strap mode and ERRCNT clears; device state is not changed (08 R210). -/
def linkReset (s : State) : State :=
  { s with host := { s.host with
      quad := F.RST_STRAP.TMR2.on s.rst.strap, errcnt := 0, resetArmed := false } }

/-- A warm start through MT_RECOVER: in STATUS 000 and 111 (08 R230). -/
def recoverWarm (s : State) : State :=
  if statusCode s = 0 ∨ statusCode s = 7 then requestWarm 1 s else s

/-- A cold start through MT_RECOVER: in every state except 101 and 110. -/
def recoverCold (s : State) : State :=
  if mtAnswers s && statusCode s != 5 && statusCode s != 6 then coldStart 1 noFlag s else s

def execMtRecoverLinkReset (s : State) : Host.Outcome State Fault Refusal :=
  .next (if mtAnswers s then linkReset s else s)
def execMtRecoverWarmStart (s : State) : Host.Outcome State Fault Refusal := .next (recoverWarm s)
def execMtRecoverColdStart (s : State) : Host.Outcome State Fault Refusal := .next (recoverCold s)

/-- A write of a register of the target: MT_RECOVER with its key. -/
def mtWrite (reg : Nat) (w : Word) (s : State) : State :=
  if reg = 5 && w.toNat / 16777216 == 0xA5 then
    match w.toNat % 4 with
    | 1 => linkReset s
    | 2 => recoverWarm s
    | 3 => recoverCold s
    | _ => s
  else s

/-- A data byte received: the pointer, or a byte of a register, which takes the write at its highest byte;
the bytes of a register that the transaction has not sent whole are discarded (log entry 29). -/
def mtReceive (b : Byte) (s : State) : State :=
  if s.twt.first then modTwt (fun t => { t with ptr := b.toNat, first := false }) s
  else
    let p := s.twt.ptr
    let part := if p % 4 = 0 then [b] else if s.twt.part.length = p % 4 then s.twt.part ++ [b] else []
    let full := p % 4 == 3 && part.length == 4
    let s := modTwt (fun t => { t with ptr := (p + 1) % 256, part := if full then [] else part }) s
    if full then mtWrite (p / 4) (BitVec.ofNat 32 (leNat part)) s else s

/-- A data byte sent, from the snapshot of its register (15 R379). -/
def mtSend (s : State) : State :=
  let p := s.twt.ptr
  let w := match s.twt.snap with
    | some (r, w) => if r = p / 4 && p % 4 != 0 then w else mtRead s (p / 4)
    | none => mtRead s (p / 4)
  modTwt (fun t => { t with
    ptr := (p + 1) % 256, snap := some (p / 4, w), out := some ((wordBytes w).getD (p % 4) 0) }) s

/-- MT_DATA_BYTE: received in a write; in a read the byte is the target's. -/
def execMtDataByte (b : Byte) (s : State) : Host.Outcome State Fault Refusal :=
  .next (if mtAnswers s && !s.cru.standby && F.TWT_STAT.ACTIVE.on s.twt.regs.stat then
    if s.twt.reading then mtSend s else mtReceive b s
    else s)

/-! ## Controllers BC0 and BC1 (15 R384 to R391) -/

/-- A controller's state changed. -/
def modTwc (b : Fin 2) (f : Twc → Twc) (s : State) : State := { s with twc := s.twc.set b (f s.twc[b]) }

/-- The controller is clocked and answers: PERCLK runs and its gate is open (10 R293, 15 R391). -/
def twcUp (s : State) (b : Fin 2) : Bool :=
  hwUp s && !s.cru.standby && F.CRU_STAT.ROOT_PLL.on s.cru.regs.stat && bitOf s.cru.regs.gate (14 + b.val)

/-- WLEN and RLEN of the transfer: above 4,096, 4,096. -/
def twcWlen (t : Twc) : Nat := min 4096 (F.TWC_XLEN.WLEN.get t.regs.xlen)
def twcRlen (t : Twc) : Nat := min 4096 (F.TWC_XLEN.RLEN.get t.regs.xlen)

/-- A flag of TWC_EVT set. -/
def twcFlag (f : Fld) (t : Twc) : Twc := { t with regs := { t.regs with evt := f.set t.regs.evt } }

/-- Bytes move from the transmit FIFO to the bus while the transfer has bytes to send; TXLOW when the FIFO
has fallen to 8 bytes with bytes still to be written (log entry 30). -/
def twcPump (t : Twc) : Twc :=
  match t.xfer with
  | none => t
  | some x =>
    if x.waitBus then t
    else
      let n := twcWlen t - t.sent.length
      let t := { t with sent := t.sent ++ t.tx.take n, tx := t.tx.drop n }
      if t.sent.length + t.tx.length < twcWlen t then twcFlag F.TWC_EVT.TXLOW t else t

/-- WDONE and RDONE. -/
def doneWord (w r : Nat) : Word := F.TWC_DONE.WDONE.put w (F.TWC_DONE.RDONE.put r 0)

/-- BUS (09 Table CMD-12). -/
def postBus (b : Fin 2) (bit : Nat) (s : State) : State := postCp 1168 (BitVec.ofNat 32 (b.val + 2 ^ bit)) s

/-- The result of BUS_XFER: WDONE, RDONE and the rest. -/
def busResult (w r : Nat) (rest : List Byte) : List Byte := bytes2 w ++ bytes2 r ++ rest

/-- A host command's transfer on a bus. -/
def isBusWait (b : Fin 2) (w : Wait) : Bool :=
  match w.kind with
  | .busXfer b' _ => b == b'
  | _ => false

/-- The host command that waits for a bus completes. -/
def busComplete (b : Fin 2) (st : Status) (result : List Byte) (s : State) : State :=
  match findWait s (isBusWait b) with
  | some w => completeWait w st result s
  | none => s

/-- A transfer ends: DONE with the flags that `f` sets, WDONE and RDONE; BUSY clears. -/
def twcEnd (b : Fin 2) (f : Twc → Twc) (w r : Nat) (s : State) : State :=
  modTwc b (fun t =>
    let t := twcFlag F.TWC_EVT.DONE (f t)
    { t with
      sent := [], rest := [], xfer := none
      regs := { t.regs with done := doneWord w r, stat := F.TWC_STAT.BUSY.clr t.regs.stat } }) s

/-- The line check and recovery of 15 R386: whether the bus is free in the end. A transfer that finds the bus free
clears STUCK; a recovery by TWC_CMD.RECOVER is no transfer and leaves it. -/
def busRecover (b : Fin 2) (forced : Bool) (check : BusCheck) (s : State) : State × Bool :=
  let freed (s : State) : State :=
    if forced then s
    else modTwc b (fun t => { t with regs := { t.regs with stat := F.TWC_STAT.STUCK.clr t.regs.stat } }) s
  let stuck (s : State) : State :=
    postBus b 9 (modTwc b (fun t =>
      let t := twcFlag F.TWC_EVT.STUCK t
      { t with regs := { t.regs with stat := F.TWC_STAT.STUCK.set t.regs.stat } }) s)
  match check with
  | .free => if forced then (freed (postBus b 8 (modTwc b (twcFlag F.TWC_EVT.RECOV) s)), true) else (freed s, true)
  | .sdaHeld n =>
    if n ≤ 9 then (freed (postBus b 8 (modTwc b (twcFlag F.TWC_EVT.RECOV) s)), true) else (stuck s, false)
  | .sclLow => (stuck s, false)

/-- GO (15 R384): after the bus check the transfer is on the bus, or STUCK ends it with no bytes sent. -/
def twcStart (b : Fin 2) (check : BusCheck) (s : State) : State :=
  let s := modTwc b (fun t => { t with
    sent := []
    xfer := some ⟨0, false, false⟩
    regs := { t.regs with
      stat := F.TWC_STAT.BUSY.set t.regs.stat, done := 0, arb := F.TWC_ARB.TRIES.clr t.regs.arb } }) s
  let (s, free) := busRecover b false check s
  if free then modTwc b twcPump s
  else busComplete b .partnerTimeout (busResult 0 0 []) (twcEnd b id 0 0 s)

/-- The transfer set up on a controller: its gate open, the target, the lengths, the bytes to write. -/
def busSetup (b : Fin 2) (addr wlen rlen : Nat) (rstart : Bool) (data : List Byte) (s : State) : State :=
  let s := { s with cru := { s.cru with regs := { s.cru.regs with
      gate := (if b = 0 then F.CRU_GATE.BC0 else F.CRU_GATE.BC1).set s.cru.regs.gate } } }
  modTwc b (fun t => { t with
    tx := data
    regs := { t.regs with
      ctl := F.TWC_CTL.EN.set t.regs.ctl
      xaddr := F.TWC_XADDR.ADDR.put addr (F.TWC_XADDR.RSTART.setTo rstart t.regs.xaddr)
      xlen := F.TWC_XLEN.WLEN.put wlen (F.TWC_XLEN.RLEN.put rlen t.regs.xlen) } }) s

/-- The data of a BUS_XFER stand in the bulk area (09 Table CMD-9). -/
def BusJob.range (j : BusJob) : Bool := decide (40 < j.wlen) || decide (12 < j.rlen)

/-- The range of a BUS_XFER, or none. -/
def BusJob.place (j : BusJob) : Nat := if j.range then j.boff else 0xFFFFFFFF

/-- A BUS_XFER goes on the bus, with the bytes of its entry or of its range. -/
def busStart (b : Fin 2) (j : BusJob) (s : State) : State :=
  let data := if j.range then winRead s (0x40000 + j.boff) j.wlen else padTo j.wlen j.wdata
  twcStart b j.check (busSetup b j.addr j.wlen j.rlen j.rstart data s)

/-- The BUS_XFER that waited takes the bus the ended transfer has left (15 R389). -/
def serveBus (b : Fin 2) (s : State) : State :=
  match s.twc[b].xfer, s.twc[b].queued with
  | none, some j =>
    let s := modTwc b (fun t => { t with queued := none }) s
    let waits := s.host.waits.map fun w => if w.kind = .busQueued b then { w with kind := .busXfer b j.place } else w
    busStart b j { s with host := { s.host with waits := waits } }
  | _, _ => s

/-- A BUS_XFER that has waited 50 ms completes with BUSY (15 R389). -/
def busPatience (b : Fin 2) (s : State) : State :=
  match s.twc[b].queued with
  | some j =>
    if j.since + 50000 ≤ s.time then
      let s := modTwc b (fun t => { t with queued := none }) s
      match findWait s (fun w => w.kind == .busQueued b) with
      | some w => completeWait w .busy [] s
      | none => s
    else s
  | none => s

/-- TWC_GO. -/
def execTwcGo (b : Fin 2) (check : BusCheck) (s : State) : Host.Outcome State Fault Refusal :=
  .next (if twcUp s b && F.TWC_CTL.EN.on s.twc[b].regs.ctl && (s.twc[b].xfer).isNone then
    serveBus b (twcStart b check s)
    else s)

/-- A transfer is on the bus: under way, not waiting after a loss, and not held by a full receive FIFO after its last
byte. -/
def twcOnBus (s : State) (b : Fin 2) : Bool :=
  match s.twc[b].xfer with
  | some x => !x.waitBus && s.twc[b].rest.isEmpty
  | none => false

/-- TWC_NACK (15 R385). -/
def execTwcNack (b : Fin 2) (wdone : Nat) (s : State) : Host.Outcome State Fault Refusal :=
  .next (if twcOnBus s b then
    let w := min wdone (twcWlen s.twc[b])
    serveBus b (busComplete b .partnerReject (busResult w 0 []) (twcEnd b (twcFlag F.TWC_EVT.NACK) w 0 s))
    else s)

/-- TWC_SCL_TIMEOUT (15 R385). -/
def execTwcSclTimeout (b : Fin 2) (wdone rdone : Nat) (s : State) : Host.Outcome State Fault Refusal :=
  .next (if twcOnBus s b then
    let w := min wdone (twcWlen s.twc[b])
    let r := min rdone (twcRlen s.twc[b])
    serveBus b (busComplete b .partnerTimeout (busResult w r []) (twcEnd b (twcFlag F.TWC_EVT.TMO) w r s))
    else s)

/-- TWC_ARBITRATION_LOSS (15 R387): the place of the loss, and the attempts lost. -/
def execTwcArbitrationLoss (b : Fin 2) (byte bit : Nat) (s : State) : Host.Outcome State Fault Refusal :=
  .next (if twcOnBus s b then
    modTwc b (fun t =>
      let n := match t.xfer with
        | some x => x.lost + 1
        | none => 1
      { t with
        xfer := some ⟨n, true, false⟩
        regs := { t.regs with
          arb := F.TWC_ARB.TRIES.put (min 7 n) (F.TWC_ARB.BYTE.put byte (F.TWC_ARB.BIT.put bit t.regs.arb)) } }) s
    else s)

/-- The transfer repeated from the START (15 R388): the FIFO's bytes return, of a transfer of at most 32
bytes; a longer one is written again, which the firmware does at once for a host command. -/
def twcRepeat (host : Bool) (t : Twc) : Twc :=
  let n := match t.xfer with
    | some x => x.lost
    | none => 0
  twcPump { t with
    tx := if host || t.sent.length ≤ 32 then t.sent ++ t.tx else t.tx
    sent := []
    xfer := some ⟨n, false, false⟩
    regs := { t.regs with done := 0 } }

/-- TWC_RETRY: repeated, or ARBL after the last permitted attempt. -/
def execTwcRetry (b : Fin 2) (s : State) : Host.Outcome State Fault Refusal :=
  .next (match s.twc[b].xfer with
    | some x =>
      if !x.waitBus then s
      else if x.lost ≤ F.TWC_CTL.RETRY.get s.twc[b].regs.ctl then modTwc b (twcRepeat (findWait s (isBusWait b)).isSome) s
      else
        let arb := s.twc[b].regs.arb
        let s := twcEnd b (twcFlag F.TWC_EVT.ARBL) 0 0 s
        serveBus b (busComplete b .arbitrationLost
          (busResult 0 0 [BitVec.ofNat 8 (min 255 (F.TWC_ARB.BYTE.get arb)),
            BitVec.ofNat 8 (F.TWC_ARB.BIT.get arb)]) s)
    | none => s)

/-- TWC_TXD_WRITE: a byte appended; a write to a full FIFO is discarded. -/
def twcTxd (b : Fin 2) (v : Word) (s : State) : State :=
  modTwc b (fun t =>
    if 32 ≤ t.tx.length then t else twcPump { t with tx := t.tx ++ [v.extractLsb' 0 8] }) s

def execTwcTxdWrite (b : Fin 2) (v : Word) (s : State) : Host.Outcome State Fault Refusal :=
  .next (if twcUp s b then twcTxd b v s else s)

/-- Bytes taken into the receive FIFO while it has room; RXHIGH when it reaches 24 bytes. -/
def twcTake (t : Twc) : Twc :=
  let n := 32 - t.rx.length
  let u := { t with rx := t.rx ++ t.rest.take n, rest := t.rest.drop n }
  if t.rx.length < 24 && 24 ≤ u.rx.length then twcFlag F.TWC_EVT.RXHIGH u else u

/-- TWC_RXD_READ: the oldest byte removed; a byte that the full FIFO held back follows, and with the last of them the
transfer ends (15 R384). -/
def twcRxd (b : Fin 2) (s : State) : State :=
  let held := !s.twc[b].rest.isEmpty
  let s := modTwc b (fun t => twcTake { t with rx := t.rx.drop 1 }) s
  if held && s.twc[b].rest.isEmpty then serveBus b (twcEnd b id (twcWlen s.twc[b]) (twcRlen s.twc[b]) s) else s

def execTwcRxdRead (b : Fin 2) (s : State) : Host.Outcome State Fault Refusal :=
  .next (if twcUp s b then twcRxd b s else s)

/-- TWC_CMD_RECOVER: ignored while BUSY, and on a controller that is not enabled, which drives no line. -/
def execTwcCmdRecover (b : Fin 2) (check : BusCheck) (s : State) : Host.Outcome State Fault Refusal :=
  .next (if twcUp s b && F.TWC_CTL.EN.on s.twc[b].regs.ctl && (s.twc[b].xfer).isNone then
    (busRecover b true check s).1 else s)

/-- TWC_CMD_ABORT: the transfer ends after the present byte with a STOP. -/
def execTwcCmdAbort (b : Fin 2) (wdone rdone : Nat) (s : State) : Host.Outcome State Fault Refusal :=
  .next (if twcUp s b && (s.twc[b].xfer).isSome then
    let w := min wdone (twcWlen s.twc[b])
    let r := min rdone (twcRlen s.twc[b])
    serveBus b (busComplete b .cancelled (busResult w r []) (twcEnd b id w r s))
    else s)

/-- The bytes read reach the receive FIFO, or the host command's range or result (15 R389). A full receive FIFO holds
the bus and the transfer goes on (R384). -/
def busDone (b : Fin 2) (w : Nat) (data : List Byte) (s : State) : State :=
  match findWait s (isBusWait b) with
  | none =>
    let s := modTwc b (fun t => twcTake { t with rest := data }) s
    if s.twc[b].rest.isEmpty then twcEnd b id w data.length s else s
  | some c =>
    let s := twcEnd b id w data.length s
    let boff := match c.kind with
      | .busXfer _ o => o
      | _ => 0xFFFFFFFF
    let s := if boff = 0xFFFFFFFF then s else bulkWrite (boff + w) data s
    completeWait c .ok (busResult w data.length (if boff = 0xFFFFFFFF then data.take 12 else [])) s

/-- TWC_TRANSFER_DONE: every byte has been sent and acknowledged, and `rdata` read. -/
def execTwcTransferDone (b : Fin 2) (rdata : List Byte) (s : State) : Host.Outcome State Fault Refusal :=
  .next (
    let t := s.twc[b]
    if twcOnBus s b && t.sent.length == twcWlen t then
      let data := padTo (twcRlen t) rdata
      serveBus b (busDone b (twcWlen t) data s)
    else s)

end Sys2Proof.Machine
end

