-- ==== Sys2Proof/Machine/RegMap.lean ====
section
/-! DEFINITION. The register maps: each register's offset in its block, what a bus write reaches by the access
codes of Table SCP-4 (00_scope.md R7), and where the block holds it. A register that shows another part of the
state, and a field whose write acts, stand in BusMap. -/

namespace Sys2Proof.Machine
open Sys2Proof

/-- A register of a block. -/
structure Reg (α : Type) where
  off : Nat
  acc : Access
  get : α → Word
  set : Word → α → α

/-- Bits that a write replaces, that a 1 clears, that a lock governs; a register that no write reaches. -/
def rw (m : Word) : Access := { rw := m }
def w1c (m : Word) : Access := { w1c := m }
def rwl (m : Word) : Access := { rwl := m }
def ro : Access := {}

/-- An offset as it reads; a reserved offset reads 0. -/
def regRead {α : Type} (l : List (Reg α)) (off : Nat) (x : α) : Word :=
  match l.find? (·.off == off) with
  | some r => r.get x
  | none => 0

/-- A bus write at an offset, by the access codes; a reserved offset takes none. -/
def regWrite {α : Type} (l : List (Reg α)) (locked : Bool) (off : Nat) (v : Word) (x : α) : α :=
  match l.find? (·.off == off) with
  | some r => r.set (r.acc.write locked (r.get x) v) x
  | none => x

/-- Port core registers (03 R80). -/
def coreRegs : List (Reg Port) :=
  [⟨0x000, (rw 0xF1FF), (·.core.state), fun w q => { q with core.state := w }⟩,  -- PRT_STATE
   ⟨0x004, (rw 0x4F), (·.core.cfg), fun w q => { q with core.cfg := w }⟩,  -- PRT_CFG
   ⟨0x008, (rw 0xFF05), (·.core.capt), fun w q => { q with core.capt := w }⟩,  -- PRT_CAPT
   ⟨0x00C, (w1c 0x1FF), (·.core.evt), fun w q => { q with core.evt := w }⟩,  -- PRT_EVT
   ⟨0x010, (rw 0x1FF), (·.core.evten), fun w q => { q with core.evten := w }⟩]  -- PRT_EVTEN
  ++
  ((List.finRange 8).map fun i =>  -- PRT_IDRECi; IDREC0 29:16 and IDREC6 are reserved
    ⟨0x020 + 4 * i.val, (rw (if i = 0 then 0xC000FFFF else if i = 6 then 0 else 0xFFFFFFFF)), (·.core.idrec[i]),
      fun w q => { q with core.idrec := q.core.idrec.set i w }⟩)

/-- CC and comparator registers (03 R81); CC_CTL, CMP_STR and VCONN_CTL are written by their own commands,
and CMP_LATCH keeps a bit whose condition is present (03 R57). -/
def ccRegs : List (Reg Port) :=
  [⟨0x100, ro, (·.cc.ctl), fun w q => { q with cc.ctl := w }⟩,  -- CC_CTL
   ⟨0x104, ro, (·.cc.stat), fun w q => { q with cc.stat := w }⟩,  -- CC_STAT
   ⟨0x108, (rw 0xC7), (·.cc.tick), fun w q => { q with cc.tick := w }⟩,  -- CC_TICK
   ⟨0x10C, (rw 0xFFF00FF), (·.cc.deb), fun w q => { q with cc.deb := w }⟩,  -- CC_DEB
   ⟨0x110, (rw 0xFFFFFF7F), (·.cc.drp), fun w q => { q with cc.drp := w }⟩,  -- CC_DRP
   ⟨0x114, ro, (·.cc.vctl), fun w q => { q with cc.vctl := w }⟩,  -- VCONN_CTL
   ⟨0x118, (w1c 0x1E), (·.cc.vstat), fun w q => { q with cc.vstat := w }⟩,  -- VCONN_STAT
   ⟨0x120, ro, (·.cc.latch), fun w q => { q with cc.latch := w }⟩,  -- CMP_LATCH
   ⟨0x124, ro, (·.cc.out), fun w q => { q with cc.out := w }⟩]  -- CMP_OUT
  ++
  ((List.finRange 8).map fun i =>  -- CMP_CFGi
    ⟨0x140 + 8 * i.val, (rw 0xC3FF), (·.cc.cfg[i]),
      fun w q => { q with cc.cfg := q.cc.cfg.set i w }⟩) ++
  ((List.finRange 8).map fun i =>  -- CMP_STRi
    ⟨0x144 + 8 * i.val, ro, (·.cc.str[i]), fun w q => { q with cc.str := q.cc.str.set i w }⟩)

/-- Registers of a message context (04 R124). -/
def ctxRegs : List (Reg CtxRegs) :=
  [⟨0x000, (rw 0xF1), (·.ctl), fun w r => { r with ctl := w }⟩,  -- CTX_CTL
   ⟨0x004, ro, (·.id), fun w r => { r with id := w }⟩,  -- CTX_ID
   ⟨0x00C, (w1c 0x300), (·.txstat), fun w r => { r with txstat := w }⟩,  -- CTX_TXSTAT
   ⟨0x010, (rw 0xFFFFFFFF), (·.rxcnt), fun w r => { r with rxcnt := w }⟩,  -- CTX_RXCNT
   ⟨0x014, ro, (·.xfer), fun w r => { r with xfer := w }⟩]  -- CTX_XFER

/-- PD shared registers (04 R125). -/
def pdRegs : List (Reg Port) :=
  [⟨0x500, (rw 0xF17), (·.pd.phycfg), fun w q => { q with pd.phycfg := w }⟩,  -- PD_PHYCFG
   ⟨0x504, ro, (·.pd.phystat), fun w q => { q with pd.phystat := w }⟩,  -- PD_PHYSTAT
   ⟨0x50C, (w1c 0x1F), (·.pd.sigstat), fun w q => { q with pd.sigstat := w }⟩,  -- PD_SIGSTAT
   ⟨0x510, (rw 0xFFFF), (·.pd.rev), fun w q => { q with pd.rev := w }⟩,  -- PD_REV
   ⟨0x514, (w1c 0x7FF), (·.pd.evt), fun w q => { q with pd.evt := w }⟩,  -- PD_EVT
   ⟨0x518, (rw 0x7FF), (·.pd.evten), fun w q => { q with pd.evten := w }⟩,  -- PD_EVTEN
   ⟨0x520, (w1c 0x3FFFFFF), (·.pd.tmrstat), fun w q => { q with pd.tmrstat := w }⟩,  -- PD_TMRSTAT
   ⟨0x524, ro, (·.pd.tmrrun), fun w q => { q with pd.tmrrun := w }⟩,  -- PD_TMRRUN
   ⟨0x530, ro, (·.pd.rxhead), fun w q => { q with pd.rxhead := w }⟩,  -- PD_RXHEAD
   ⟨0x5D8, (rw 0x1), (·.pd.txwin), fun w q => { q with pd.txwin := w }⟩,  -- PD_TXWIN
   ⟨0x5E0, (rw 0xFFFFFFFF), (·.pd.bistcnt), fun w q => { q with pd.bistcnt := w }⟩]  -- PD_BISTCNT
  ++
  ((List.finRange 26).map fun i =>  -- PD_TMRVi
    ⟨0x540 + 4 * i.val, (rw 0xFFFF), (·.pd.tmrv[i]),
      fun w q => { q with pd.tmrv := q.pd.tmrv.set i w }⟩) ++
  ((List.finRange 4).map fun i =>  -- PD_RXDESCi
    ⟨0x5C0 + 4 * i.val, ro, (·.pd.rxdesc[i]),
      fun w q => { q with pd.rxdesc := q.pd.rxdesc.set i w }⟩) ++
  ((List.finRange 2).map fun i =>  -- PD_TXDESCi
    ⟨0x5D0 + 4 * i.val, (rw 0x1FF), (·.pd.txdesc[i]),
      fun w q => { q with pd.txdesc := q.pd.txdesc.set i w }⟩)

/-- Path registers (05 R156); PATH_EN, CEN_EN, DIS_EN, TARGET and CLR act by their own commands. -/
def pathRegs : List (Reg Port) :=
  [⟨0x600, (rw 0x8), (·.pth.ctl), fun w q => { q with pth.ctl := w }⟩,  -- PTH_CTL
   ⟨0x604, ro, (·.pth.stat), fun w q => { q with pth.stat := w }⟩,  -- PTH_STAT
   ⟨0x608, (rw 0x7F), (·.pth.steep), fun w q => { q with pth.steep := w }⟩,  -- PTH_STEEP
   ⟨0x60C, ro, (·.pth.ref), fun w q => { q with pth.ref := w }⟩,  -- PTH_REF
   ⟨0x610, ro, (·.pth.ceil), fun w q => { q with pth.ceil := w }⟩,  -- PTH_CEIL
   ⟨0x614, (rw 0x3FF), (·.pth.rating), fun w q => { q with pth.rating := w }⟩,  -- PTH_RATING
   ⟨0x618, (rw 0x7F), (·.pth.inrush), fun w q => { q with pth.inrush := w }⟩,  -- PTH_INRUSH
   ⟨0x61C, (rw 0xFF), (·.pth.fast), fun w q => { q with pth.fast := w }⟩,  -- PTH_FAST
   ⟨0x620, (rw 0x3F1F1F), (·.pth.ov), fun w q => { q with pth.ov := w }⟩,  -- PTH_OV
   ⟨0x624, (rw 0x1F), (·.pth.rev), fun w q => { q with pth.rev := w }⟩,  -- PTH_REV
   ⟨0x628, (rw 0x3FF), (·.pth.sense), fun w q => { q with pth.sense := w }⟩,  -- PTH_SENSE
   ⟨0x62C, (rw 0xFFFFFFFF), (·.pth.fbcal), fun w q => { q with pth.fbcal := w }⟩,  -- PTH_FBCAL
   ⟨0x630, ro, (·.pth.fbs), fun w q => { q with pth.fbs := w }⟩,  -- PTH_FBS
   ⟨0x634, (rw 0x1F), (·.pth.cnv), fun w q => { q with pth.cnv := w }⟩,  -- PTH_CNV
   ⟨0x638, (rw 0x3FF), (·.pth.dis), fun w q => { q with pth.dis := w }⟩,  -- PTH_DIS
   ⟨0x63C, (rw 0x7000000), (·.pth.retry), fun w q => { q with pth.retry := w }⟩,  -- PTH_RETRY
   ⟨0x640, (w1c 0xF1FFF), (·.pth.evt), fun w q => { q with pth.evt := w }⟩,  -- PTH_EVT
   ⟨0x644, (rw 0xF1FFF), (·.pth.evten), fun w q => { q with pth.evten := w }⟩]  -- PTH_EVTEN

/-- Breaker curve registers (05 R157). -/
def curveRegs : List (Reg Port) :=
  [⟨0x740, (rw 0xFF001F), (·.cur.ccfg), fun w q => { q with cur.ccfg := w }⟩,  -- PTH_CCFG
   ⟨0x744, (w1c 0x2), (·.cur.cstat), fun w q => { q with cur.cstat := w }⟩]  -- PTH_CSTAT
  ++
  ((List.finRange 16).map fun i =>  -- PTH_CPTi
    ⟨0x700 + 4 * i.val, (rw 0x3FFFFFF), (·.cur.cpt[i]),
      fun w q => { q with cur.cpt := q.cur.cpt.set i w }⟩)

/-- Telemetry registers of a port (07 R207). -/
def telPortRegs : List (Reg Port) :=
  [⟨0x800, (rw 0x7777), (·.tel.pcfg), fun w q => { q with tel.pcfg := w }⟩,  -- TEL_PCFG
   ⟨0x804, ro, (·.tel.pstat), fun w q => { q with tel.pstat := w }⟩,  -- TEL_PSTAT
   ⟨0x808, ro, (·.tel.pvbus), fun w q => { q with tel.pvbus := w }⟩,  -- TEL_PVBUS
   ⟨0x80C, ro, (·.tel.pibus), fun w q => { q with tel.pibus := w }⟩,  -- TEL_PIBUS
   ⟨0x810, ro, (·.tel.pvcv), fun w q => { q with tel.pvcv := w }⟩,  -- TEL_PVCV
   ⟨0x820, (rw 0x8FFF8FFF), (·.tel.pthv), fun w q => { q with tel.pthv := w }⟩,  -- TEL_PTHV
   ⟨0x824, (rw 0x8FFF8FFF), (·.tel.pthi), fun w q => { q with tel.pthi := w }⟩,  -- TEL_PTHI
   ⟨0x828, (rw 0x8FFF8FFF), (·.tel.pthc), fun w q => { q with tel.pthc := w }⟩,  -- TEL_PTHC
   ⟨0x830, (w1c 0xF), (·.tel.pevt), fun w q => { q with tel.pevt := w }⟩,  -- TEL_PEVT
   ⟨0x834, (rw 0xF), (·.tel.pevten), fun w q => { q with tel.pevten := w }⟩]  -- TEL_PEVTEN

/-- Feed logic registers (05 R158). -/
def feedRegs : List (Reg FeedRegs) :=
  [⟨0x800, (rw 0x80FFFF3F), (·.ctl), fun w r => { r with ctl := w }⟩,  -- FED_CTL
   ⟨0x804, ro, (·.stat), fun w r => { r with stat := w }⟩,  -- FED_STAT
   ⟨0x808, (w1c 0x3F), (·.evt), fun w r => { r with evt := w }⟩,  -- FED_EVT
   ⟨0x80C, (rw 0xFF), (·.pport), fun w r => { r with pport := w }⟩,  -- FED_PPORT
   ⟨0x810, (rw 0x3FF03FF), (·.wina), fun w r => { r with wina := w }⟩,  -- FED_WINA
   ⟨0x814, (rw 0x3FF03FF), (·.winb), fun w r => { r with winb := w }⟩,  -- FED_WINB
   ⟨0x818, (rw 0x3FF03FF), (·.winp), fun w r => { r with winp := w }⟩]  -- FED_WINP

/-- Caddy registers (06 R187). -/
def cadRegs : List (Reg CadRegs) :=
  [⟨0x000, (rw 0xFF01), (·.ctl), fun w r => { r with ctl := w }⟩,  -- CAD_CTL
   ⟨0x004, (rw 0x3F033F), (·.rowcfg), fun w r => { r with rowcfg := w }⟩,  -- CAD_ROWCFG
   ⟨0x008, ro, (·.stat), fun w r => { r with stat := w }⟩,  -- CAD_STAT
   ⟨0x00C, (w1c 0x7F), (·.evt), fun w r => { r with evt := w }⟩,  -- CAD_EVT
   ⟨0x010, (rw 0x7F), (·.evten), fun w r => { r with evten := w }⟩,  -- CAD_EVTEN
   ⟨0x014, ro, (·.rowlo), fun w r => { r with rowlo := w }⟩,  -- CAD_ROWLO
   ⟨0x018, ro, (·.rowhi), fun w r => { r with rowhi := w }⟩,  -- CAD_ROWHI
   ⟨0x01C, ro, (·.budget), fun w r => { r with budget := w }⟩,  -- CAD_BUDGET
   ⟨0x020, ro, (·.commit), fun w r => { r with commit := w }⟩,  -- CAD_COMMIT
   ⟨0x024, (rw 0xFFFF), (·.pool), fun w r => { r with pool := w }⟩,  -- CAD_POOL
   ⟨0x028, (rw 0xFF00FF), (·.shed), fun w r => { r with shed := w }⟩,  -- CAD_SHED
   ⟨0x02C, ro, (·.deficit), fun w r => { r with deficit := w }⟩,  -- CAD_DEFICIT
   ⟨0x030, (rw 0xFFFFF), (·.lima), fun w r => { r with lima := w }⟩,  -- CAD_LIMA
   ⟨0x034, (rw 0xFFFFF), (·.limb), fun w r => { r with limb := w }⟩,  -- CAD_LIMB
   ⟨0x038, (rw 0xFFFFF), (·.limp), fun w r => { r with limp := w }⟩]  -- CAD_LIMP
  ++
  ((List.finRange 8).map fun i =>  -- CAD_EFFi
    ⟨0x040 + 4 * i.val, (rw 0x3FF03FF), (·.eff[i]), fun w r => { r with eff := r.eff.set i w }⟩)

/-- Codec registers (07 R208). -/
def telRegs : List (Reg TelRegs) :=
  [⟨0x000, (rw 0xFF01), (·.ctl), fun w r => { r with ctl := w }⟩,  -- TEL_CTL
   ⟨0x004, ro, (·.stat), fun w r => { r with stat := w }⟩,  -- TEL_STAT
   ⟨0x008, ro, (·.woff), fun w r => { r with woff := w }⟩,  -- TEL_WOFF
   ⟨0x00C, (rw 0x7FFFF), (·.roff), fun w r => { r with roff := w }⟩,  -- TEL_ROFF
   ⟨0x014, ro, (·.drops), fun w r => { r with drops := w }⟩,  -- TEL_DROPS
   ⟨0x018, ro, (·.gaps), fun w r => { r with gaps := w }⟩,  -- TEL_GAPS
   ⟨0x01C, ro, (·.blocks), fun w r => { r with blocks := w }⟩,  -- TEL_BLOCKS
   ⟨0x020, ro, (·.framelo), fun w r => { r with framelo := w }⟩,  -- TEL_FRAMELO
   ⟨0x024, ro, (·.framehi), fun w r => { r with framehi := w }⟩,  -- TEL_FRAMEHI
   ⟨0x028, (rw 0x1FF), (·.sysen), fun w r => { r with sysen := w }⟩,  -- TEL_SYSEN
   ⟨0x02C, (rw 0x7FFFFFF), (·.sysk), fun w r => { r with sysk := w }⟩,  -- TEL_SYSK
   ⟨0x030, ro, (·.adcfail), fun w r => { r with adcfail := w }⟩,  -- TEL_ADCFAIL
   ⟨0x034, (w1c 0xF), (·.evt), fun w r => { r with evt := w }⟩,  -- TEL_EVT
   ⟨0x038, (rw 0xF), (·.evten), fun w r => { r with evten := w }⟩]  -- TEL_EVTEN
  ++
  ((List.finRange 9).map fun i =>  -- TEL_SYSTHRi
    ⟨0x040 + 4 * i.val, (rw 0x8FFF8FFF), (·.systhr[i]),
      fun w r => { r with systhr := r.systhr.set i w }⟩) ++
  ((List.finRange 9).map fun i =>  -- TEL_SYSLASTi
    ⟨0x080 + 4 * i.val, ro, (·.syslast[i]), fun w r => { r with syslast := r.syslast.set i w }⟩)

/-- Clock root registers (10 R299). -/
def cruRegs : List (Reg CruRegs) :=
  [⟨0x000, ro, (·.stat), fun w r => { r with stat := w }⟩,  -- CRU_STAT
   ⟨0x004, (w1c 0x3F), (·.evt), fun w r => { r with evt := w }⟩,  -- CRU_EVT
   ⟨0x008, (rw 0x3F), (·.evten), fun w r => { r with evten := w }⟩,  -- CRU_EVTEN
   ⟨0x010, ro, (·.xcnt), fun w r => { r with xcnt := w }⟩,  -- CRU_XCNT
   ⟨0x020, ro, (·.pllctl), fun w r => { r with pllctl := w }⟩,  -- CRU_PLLCTL
   ⟨0x030, ro, (·.dvfs), fun w r => { r with dvfs := w }⟩,  -- CRU_DVFS
   ⟨0x034, (rw 0xFF), (·.opv), fun w r => { r with opv := w }⟩,  -- CRU_OPV
   ⟨0x040, ro, (·.gate), fun w r => { r with gate := w }⟩,  -- CRU_GATE
   ⟨0x050, ro, (·.stby), fun w r => { r with stby := w }⟩]  -- CRU_STBY

/-- Restart registers (11 R317). -/
def rstRegs : List (Reg RstRegs) :=
  [⟨0x100, ro, (·.cause), fun w r => { r with cause := w }⟩,  -- RST_CAUSE
   ⟨0x108, (rw 0x2), (·.boot), fun w r => { r with boot := w }⟩,  -- RST_BOOT
   ⟨0x10C, ro, (·.cnt), fun w r => { r with cnt := w }⟩,  -- RST_CNT
   ⟨0x110, (rw 0xFFFFFFFF), (·.retsum), fun w r => { r with retsum := w }⟩,  -- RST_RETSUM
   ⟨0x114, (rw 0xFFFFFFFF), (·.retver), fun w r => { r with retver := w }⟩,  -- RST_RETVER
   ⟨0x11C, ro, (·.fuse), fun w r => { r with fuse := w }⟩,  -- RST_FUSE
   ⟨0x120, ro, (·.strap), fun w r => { r with strap := w }⟩]  -- RST_STRAP

/-- Watchdog registers (12 R339). -/
def wdgRegs : List (Reg WdgRegs) :=
  [⟨0x000, ro, (·.ctl), fun w r => { r with ctl := w }⟩,  -- WDG_CTL
   ⟨0x004, (rwl 0xFFFFFF), (·.cfg), fun w r => { r with cfg := w }⟩,  -- WDG_CFG
   ⟨0x00C, ro, (·.stat), fun w r => { r with stat := w }⟩,  -- WDG_STAT
   ⟨0x010, (rwl 0xFFFF), (·.tasken), fun w r => { r with tasken := w }⟩,  -- WDG_TASKEN
   ⟨0x014, (rwl 0xFFFFFFFF), (·.exp), fun w r => { r with exp := w }⟩,  -- WDG_EXP
   ⟨0x01C, ro, (·.cntlo), fun w r => { r with cntlo := w }⟩,  -- WDG_CNTLO
   ⟨0x020, ro, (·.cnthi), fun w r => { r with cnthi := w }⟩,  -- WDG_CNTHI
   ⟨0x024, ro, (·.fail), fun w r => { r with fail := w }⟩,  -- WDG_FAIL
   ⟨0x028, ro, (·.cause), fun w r => { r with cause := w }⟩,  -- WDG_CAUSE
   ⟨0x02C, (rwl 0xFF), (·.wdocfg), fun w r => { r with wdocfg := w }⟩]  -- WDO_CFG

/-- Safety registers (12 R339). -/
def safRegs : List (Reg SafRegs) :=
  [⟨0x100, ro, (·.stat), fun w r => { r with stat := w }⟩,  -- SAF_STAT
   ⟨0x104, (w1c 0x3F), (·.evt), fun w r => { r with evt := w }⟩,  -- SAF_EVT
   ⟨0x108, (rw 0x3F), (·.evten), fun w r => { r with evten := w }⟩,  -- SAF_EVTEN
   ⟨0x10C, (rw 0xFF), (·.ttrip), fun w r => { r with ttrip := w }⟩,  -- SAF_TTRIP
   ⟨0x110, (rw 0xFFFF), (·.eccthr), fun w r => { r with eccthr := w }⟩,  -- SAF_ECCTHR
   ⟨0x114, ro, (·.ecccnt), fun w r => { r with ecccnt := w }⟩,  -- SAF_ECCCNT
   ⟨0x118, ro, (·.lscnt), fun w r => { r with lscnt := w }⟩,  -- SAF_LSCNT
   ⟨0x11C, ro, (·.health), fun w r => { r with health := w }⟩,  -- SAF_HEALTH
   ⟨0x130, ro, (·.erraddr), fun w r => { r with erraddr := w }⟩,  -- SAF_ERRADDR
   ⟨0x134, ro, (·.errmem), fun w r => { r with errmem := w }⟩,  -- SAF_ERRMEM
   ⟨0x140, ro, (·.engmap), fun w r => { r with engmap := w }⟩]  -- SAF_ENGMAP

/-- Engine control registers (13 R360). -/
def seRegs : List (Reg SeRegs) :=
  [⟨0x000, ro, (·.ctl), fun w r => { r with ctl := w }⟩,  -- SE_CTL
   ⟨0x004, ro, (·.stat), fun w r => { r with stat := w }⟩,  -- SE_STAT
   ⟨0x008, ro, (·.fpc), fun w r => { r with fpc := w }⟩,  -- SE_FPC
   ⟨0x00C, (rw 0x7FFF), (·.pmaddr), fun w r => { r with pmaddr := w }⟩,  -- SE_PMADDR
   ⟨0x024, ro, (·.cychi), fun w r => { r with cychi := w }⟩]  -- SE_CYCHI

/-- Task watchdog registers (12 R340). -/
def sewRegs : List (Reg SewRegs) :=
  [⟨0x100, (rw 0xFF01), (·.ctl), fun w r => { r with ctl := w }⟩,  -- SEW_CTL
   ⟨0x108, ro, (·.stat), fun w r => { r with stat := w }⟩]  -- SEW_STAT

/-- Registers of a timer (14 R375). -/
def tmrRegs : List (Reg TmrRegs) :=
  [⟨0x000, (rw 0xFFFFFCF), (·.ctl), fun w r => { r with ctl := w }⟩,  -- TMR_CTL
   ⟨0x004, ro, (·.cnt), fun w r => { r with cnt := w }⟩,  -- TMR_CNT
   ⟨0x008, (rw 0xFFFFFFFF), (·.reload), fun w r => { r with reload := w }⟩,  -- TMR_RELOAD
   ⟨0x00C, ro, (·.cmp), fun w r => { r with cmp := w }⟩,  -- TMR_CMP
   ⟨0x010, ro, (·.cap), fun w r => { r with cap := w }⟩,  -- TMR_CAP
   ⟨0x014, (w1c 0xF), (·.evt), fun w r => { r with evt := w }⟩,  -- TMR_EVT
   ⟨0x018, (rw 0xF), (·.evten), fun w r => { r with evten := w }⟩]  -- TMR_EVTEN

/-- Two-wire target registers (15 R390). -/
def twtRegs : List (Reg TwtRegs) :=
  [⟨0x000, (rw 0x7F7F0300), (·.addr), fun w r => { r with addr := w }⟩,  -- TWT_ADDR
   ⟨0x004, ro, (·.stat), fun w r => { r with stat := w }⟩,  -- TWT_STAT
   ⟨0x008, (w1c 0x7), (·.evt), fun w r => { r with evt := w }⟩,  -- TWT_EVT
   ⟨0x00C, (rw 0x7), (·.evten), fun w r => { r with evten := w }⟩]  -- TWT_EVTEN

/-- Registers of a two-wire controller (15 R391). -/
def twcRegs : List (Reg TwcRegs) :=
  [⟨0x000, (rw 0x70F), (·.ctl), fun w r => { r with ctl := w }⟩,  -- TWC_CTL
   ⟨0x004, (rw 0x17F), (·.xaddr), fun w r => { r with xaddr := w }⟩,  -- TWC_XADDR
   ⟨0x008, (rw 0x1FFF1FFF), (·.xlen), fun w r => { r with xlen := w }⟩,  -- TWC_XLEN
   ⟨0x014, ro, (·.stat), fun w r => { r with stat := w }⟩,  -- TWC_STAT
   ⟨0x018, (w1c 0xFF), (·.evt), fun w r => { r with evt := w }⟩,  -- TWC_EVT
   ⟨0x01C, (rw 0xFF), (·.evten), fun w r => { r with evten := w }⟩,  -- TWC_EVTEN
   ⟨0x020, ro, (·.arb), fun w r => { r with arb := w }⟩,  -- TWC_ARB
   ⟨0x028, ro, (·.done), fun w r => { r with done := w }⟩]  -- TWC_DONE

/-- OTP controller registers (16 R409). -/
def otpRegs : List (Reg OtpRegs) :=
  [⟨0x004, (rw 0x7FF), (·.addr), fun w r => { r with addr := w }⟩,  -- OTP_ADDR
   ⟨0x008, (rw 0xFFFFFFFF), (·.wdata), fun w r => { r with wdata := w }⟩,  -- OTP_WDATA
   ⟨0x00C, ro, (·.rdata), fun w r => { r with rdata := w }⟩,  -- OTP_RDATA
   ⟨0x010, ro, (·.stat), fun w r => { r with stat := w }⟩,  -- OTP_STAT
   ⟨0x014, (w1c 0x7), (·.evt), fun w r => { r with evt := w }⟩,  -- OTP_EVT
   ⟨0x018, (rw 0x7), (·.evten), fun w r => { r with evten := w }⟩,  -- OTP_EVTEN
   ⟨0x030, ro, (·.scan), fun w r => { r with scan := w }⟩,  -- OTP_SCAN
   ⟨0x034, ro, (·.scanpos), fun w r => { r with scanpos := w }⟩]  -- OTP_SCANPOS

/-- Flash controller registers (17 R430). -/
def flcRegs : List (Reg FlcRegs) :=
  [⟨0x000, (rw 0xF1F), (·.ctl), fun w r => { r with ctl := w }⟩,  -- FLC_CTL
   ⟨0x008, (rw 0xFFFFFF), (·.addr), fun w r => { r with addr := w }⟩,  -- FLC_ADDR
   ⟨0x00C, (rw 0xFFFFFFFF), (·.sram), fun w r => { r with sram := w }⟩,  -- FLC_SRAM
   ⟨0x010, (rw 0x1FFF), (·.len), fun w r => { r with len := w }⟩,  -- FLC_LEN
   ⟨0x014, ro, (·.stat), fun w r => { r with stat := w }⟩,  -- FLC_STAT
   ⟨0x018, (w1c 0x7), (·.evt), fun w r => { r with evt := w }⟩,  -- FLC_EVT
   ⟨0x01C, (rw 0x7), (·.evten), fun w r => { r with evten := w }⟩,  -- FLC_EVTEN
   ⟨0x020, ro, (·.trial), fun w r => { r with trial := w }⟩]  -- FLC_TRIAL

end Sys2Proof.Machine
end

