-- ==== Sys2Proof/Machine/HostCmd.lean ====
section
/-! DEFINITION. What every host command has in common: when the device carries it out, the order of
commands, host errors, sessions, the ports of a command (08 R218 to R226, R242, 09 R243 to R246). -/

namespace Sys2Proof.Machine
open Sys2Proof

/-- The device carries out host commands: mailbox ready, with the firmware running. -/
def hostServed (s : State) : Bool := cpRuns s && cpWrites s

/-- A session is open: HID_SESSION.CUR is not zero. -/
def sessionOpen (s : State) : Bool := s.host.session.toNat / 65536 != 0

/-- The tags of the completions that host software has not read (08 R219). -/
def unreadTags (s : State) : List Nat :=
  (List.range ((cplTail s + 1024 - cplHead s) % 1024)).map fun i =>
    leNat (winRead s (0x20000 + 32 * ((cplHead s + i) % 512)) 2) % 512

/-- No other outstanding command carries the command's tag (08 R219). -/
def tagFree (h : Hdr) (opc : Nat) (s : State) : Bool :=
  h.tag < 512 && !(s.host.waits.any fun w => w.tag == h.tag) && !(unreadTags s).contains h.tag &&
    s.host.consumed.all fun c =>
      c.tag != h.tag || (c.opc == opc && c.port == h.port && c.fence == h.fence)

/-- The same port and opcode group (08 R223). -/
def sameOrder (h : Hdr) (opc port o : Nat) : Bool := port == h.port && o / 256 == opc / 256

/-- A command that acts on, or answers BUSY for, one that still waits: PORT_ENABLE and PORT_DISABLE on a
PORT_DISABLE (05 R152), PORT_HARD_RESET on the commands of its port that it cancels (09 R254), UPD_FROM_CARD,
UPD_BEGIN and UPD_ABORT on an update from the card (09 R267, R269, 17 R418), OTP_PROGRAM, OTP_MARGIN_SCAN and
OTP_LOCK on an OTP operation (16 R402). -/
def actsOn (opc : Nat) (w : Wait) : Bool :=
  match opc with
  | 0x102 | 0x103 => w.kind == .parked
  | 0x107 => w.kind != .hardReset && w.kind != .parked
  | 0x701 | 0x702 | 0x707 => w.kind == .card
  | 0x902 | 0x903 | 0x904 => w.kind == .otpProgram || w.kind == .otpScan || w.kind == .otpLock
  | _ => false

/-- A consumed command acts with FENCE: it carries it, or it is GOODBYE, or HELLO in a session (08 R226). -/
def Consumed.fences (c : Consumed) (s : State) : Bool :=
  c.fence || c.opc == 2 || (c.opc == 1 && s.host.session.toNat / 65536 != 0)

/-- An earlier command must complete first (08 R223): one of the same port and group, one with FENCE, or,
for a command with FENCE, any. -/
def blocked (h : Hdr) (opc : Nat) (fence : Bool) (s : State) : Bool :=
  ((s.host.consumed.takeWhile fun c => c.tag != h.tag).any fun c =>
    fence || c.fences s || sameOrder h opc c.port c.opc) ||
  s.host.waits.any fun w => fence || w.fence || (sameOrder h opc w.port w.opc && !actsOn opc w)

/-- A bulk range lies in the bulk area (09 R243, 08 Table HST-2). -/
def bulkOk (boff n : Nat) : Bool := boff + n ≤ 262144

/-- A bulk range that may be left out. -/
def bulkOpt (boff n : Nat) : Bool := boff == 0xFFFFFFFF || bulkOk boff n

/-- Bytes of the bulk area. -/
def bulkRead (s : State) (boff n : Nat) : List Byte := winRead s (0x40000 + boff) n

/-- A host command carried out: nothing happens while the device serves no command or an earlier one must
complete first; a host error stops (08 R242); outside a session, LOCKED (08 R226). -/
def command (h : Hdr) (opc : Nat) (fence anySession bad : Bool) (f : State → State) (s : State) :
    Host.Outcome State Fault Refusal :=
  if !hostServed s || blocked h opc fence s then .next s
  else if bad || !tagFree h opc s then .fault .hostError
  else if anySession || sessionOpen s then .next (f s)
  else .next (complete h.tag opc h.port .locked [] s)

/-- A command of the system part, whose PORT is 0xFF. -/
def sysCommand (h : Hdr) (opc : Nat) (bad : Bool) (f : State → State) (s : State) :
    Host.Outcome State Fault Refusal :=
  command h opc h.fence false (bad || h.port != 255) f s

/-- The engine, or the control pair in its place, can answer for a port: an engine serves it, or it is
FENCED or unpopulated. -/
def portReach (s : State) (p : PortId) : Bool :=
  portServed s p || s.ports[p].st == .fenced || unpopulated s p

/-- A command of a port (09 R245): carried out by the engine when it serves the port. -/
def portCommand (h : Hdr) (opc : Nat) (bad : Bool) (f : PortId → State → State) (s : State) :
    Host.Outcome State Fault Refusal :=
  match portOf h.port with
  | none => command h opc h.fence false true (fun s => s) s
  | some p => command h opc h.fence false bad (fun s => if portReach s p then f p s else s) s

/-- A completion with OK. -/
def done (h : Hdr) (opc : Nat) (result : List Byte) (s : State) : State :=
  complete h.tag opc h.port .ok result s

/-- A completion with another status. -/
def refuse (h : Hdr) (opc : Nat) (st : Status) (s : State) : State := complete h.tag opc h.port st [] s

/-- A port command that does not apply on an unpopulated port (09 R245) nor outside the states `ok`. -/
def applies (h : Hdr) (opc : Nat) (ok : Port → Bool) (f : PortId → State → State) (p : PortId)
    (s : State) : State :=
  if unpopulated s p || !ok s.ports[p] then refuse h opc .portState s else f p s

end Sys2Proof.Machine
end

