-- ==== Sys2Proof/Machine/Update.lean ====
section
/-! DEFINITION. Image updates: from the host, from the card, by the button; activation, trial and commit; the
flash controller's operations (17_image_update.md R415 to R426, R430, 09 R267 to R270). -/

namespace Sys2Proof.Machine
open Sys2Proof

/-! ## The course of an update -/

/-- An update may begin: states 0, 6 and 7, with no card update reading its header (17 R418). -/
def updFree (s : State) : Bool := (s.upd.st == 0 || s.upd.st == 6 || s.upd.st == 7) && !s.upd.card

/-- The first 8 bytes of the result of UPD_FROM_CARD: SLOT, REASON, VERSION (09 Table CMD-9). -/
def cardResult (s : State) : List Byte :=
  [BitVec.ofNat 8 s.upd.slot, BitVec.ofNat 8 s.upd.reason, 0, 0] ++ bytes4 (hdrVersion s.upd.hdr)

/-- The command that waits for a card update completes. -/
def cardComplete (st : Status) (s : State) : State :=
  match findWait s (fun w => w.kind == .card) with
  | some w => completeWait w st (cardResult s) s
  | none => s

/-- An update ends in the abandoned state (17 R415). -/
def abandon (reason : Nat) (s : State) : State :=
  updTo 7 reason { s with upd := { s.upd with card := false } }

/-- A card update fails. -/
def cardFails (st : Status) (reason : Nat) (s : State) : State := cardComplete st (abandon reason s)

/-- An update opened by a header that passed the checks: the header sector is erased, state 1 (17 R417,
R418). -/
def openUpdate (hdr : List Byte) (s : State) : State :=
  let slot := targetSlot s
  let s := eraseHeader slot s
  updTo 1 0 { s with upd := { s.upd with slot := slot, hdr := hdr, next := 0 } }

/-- A block that matched its CRC written and read back (17 R417): the next block is expected, or state 2 is
entered after the last; a mismatch ends the update. -/
def putBlock (b : List Byte) (verified : Bool) (s : State) : State × Bool :=
  let s := writeBlock s.upd.slot s.upd.next b s
  let ok := verified && flashRead s (blockAddr s.upd.slot s.upd.next) b.length == b
  let s := slotVerify ok s
  if ok then
    let s := { s with upd := { s.upd with next := s.upd.next + 1 } }
    (if s.upd.next = hdrNblk s.upd.hdr then updTo 2 0 s else s, true)
  else (abandon 0x02 s, false)

/-- The end of an update (17 R414, R417): the signature verified, the header written and read back; answers
the REASON, 0 on success. -/
def finishUpdate (verified : Bool) (s : State) : State × Nat :=
  if !signatureOk s s.upd.slot s.upd.hdr then (abandon 0x03 s, 0x03)
  else
    let s := flashProgram (slotBase s.upd.slot) s.upd.hdr s
    let ok := verified && slotHeader s s.upd.slot == s.upd.hdr
    let s := slotVerify ok s
    if ok then (updTo 3 0 { s with upd := { s.upd with card := false } }, 0)
    else (abandon 0x02 s, 0x02)

/-! ## Activation (17 R422) -/

/-- The image in the target slot is hitless-compatible with the running version. -/
def hitlessOk (s : State) : Bool :=
  let v := hdrVersion s.boot.img
  hdrHitless s.upd.hdr && hdrHmin s.upd.hdr ≤ v && v ≤ hdrHmax s.upd.hdr

/-- The boot table written for the trial; the restart begins 1 ms later (09 R270). -/
def activate (hitless : Bool) (s : State) : State :=
  let slot := s.upd.slot
  let run := runSlot s
  let s := changeBootTab (fun t => ({ t with primary := slot, trial := true, fallback := run }).setVer slot
    (hdrVersion s.upd.hdr)) s
  let s := updTo 4 0 s
  { s with boot := { s.boot with due := some (s.time + 1000, if hitless then .warm 1 slot else .cold 0) } }

/-! ## Host commands -/

/-- UPD_BEGIN (17 R418). LEN is not among the checks of 17 Table UPD-3. -/
def updBegin (h : Hdr) (boff : Nat) (s : State) : State :=
  if !updFree s then refuse h 0x702 .busy s
  else
    let hdr := bulkRead s boff 512
    match headerCheck s hdr with
    | some (st, r) =>
      complete h.tag 0x702 h.port st [0, BitVec.ofNat 8 r] (abandon r s)
    | none =>
      let s := openUpdate hdr { s with upd := Update.reset }
      done h 0x702 ([BitVec.ofNat 8 s.upd.slot, 0, 0, 0] ++ bytes4 (hdrNblk hdr)) s

def execUpdBegin (h : Hdr) (_len boff : Nat) (s : State) : Host.Outcome State Fault Refusal :=
  sysCommand h 0x702 (!bulkOk boff 512) (updBegin h boff) s

/-- A REASON that the spec does not state (a command of an update that is not open): a free value. -/
def freeReason (s : State) : Byte × State :=
  let (n, s) := takeFree Config.freeNat s
  (BitVec.ofNat 8 n, s)

/-- UPD_BLOCK (09 R269). -/
def updBlock (h : Hdr) (index boff blen : Nat) (verified : Bool) (s : State) : State :=
  let s0 := s
  let next (s : State) (r : Byte) : List Byte := bytes4 s.upd.next ++ [r]
  if (s.upd.st != 1 && s.upd.st != 2) || s.upd.card then
    let (r, s) := freeReason s
    complete h.tag 0x703 h.port .imageInvalid (next s r) s
  else if index + 1 = s.upd.next then done h 0x703 (next s 0) s
  else if s.upd.st != 1 || index != s.upd.next then
    complete h.tag 0x703 h.port .imageInvalid (next s 0x04) s
  else
    let b := bulkRead s0 boff blen
    if blen != blockLen s.upd.hdr index || !blockCrcOk b then
      let s := abandon 0x02 s
      complete h.tag 0x703 h.port .imageInvalid (next s 0x02) s
    else
      let (s, ok) := putBlock b verified s
      if ok then done h 0x703 (next s 0) s
      else complete h.tag 0x703 h.port .imageInvalid (next s 0x02) s

def execUpdBlock (h : Hdr) (index boff blen : Nat) (verified : Bool) (s : State) :
    Host.Outcome State Fault Refusal :=
  sysCommand h 0x703 (!bulkOk boff blen || blen < 5 || blen > 4096) (updBlock h index boff blen verified) s

/-- UPD_END (17 R418). -/
def updEnd (h : Hdr) (verified : Bool) (s : State) : State :=
  if s.upd.st != 2 || s.upd.card then
    let (r, s) := freeReason s
    complete h.tag 0x704 h.port .imageInvalid [r] s
  else
    match finishUpdate verified s with
    | (s, 0) => done h 0x704 [0] s
    | (s, r) => complete h.tag 0x704 h.port .imageInvalid [BitVec.ofNat 8 r] s

def execUpdEnd (h : Hdr) (verified : Bool) (s : State) : Host.Outcome State Fault Refusal :=
  sysCommand h 0x704 false (updEnd h verified) s

/-- UPD_ACTIVATE (17 R422, 09 R269). -/
def updActivate (h : Hdr) (mode : Nat) (s : State) : State :=
  if s.upd.st != 3 then complete h.tag 0x705 h.port .imageInvalid [0x01] s
  else if s.boot.due.isSome then refuse h 0x705 .busy s
  else if mode = 0 && !hitlessOk s then complete h.tag 0x705 h.port .imageInvalid [0x05] s
  else done h 0x705 [0] (activate (mode == 0) s)

def execUpdActivate (h : Hdr) (mode : Nat) (s : State) : Host.Outcome State Fault Refusal :=
  sysCommand h 0x705 (1 < mode) (updActivate h mode) s

/-- UPD_STATE (09 Table CMD-9). -/
def updStateResult (s : State) : List Byte :=
  [BitVec.ofNat 8 s.upd.st, BitVec.ofNat 8 s.upd.slot, 0, 0] ++ bytes4 s.upd.next ++
    bytes2 (trialRemain s) ++ [0, 0] ++ bytes4 (hdrVersion s.upd.hdr)

def execUpdState (h : Hdr) (s : State) : Host.Outcome State Fault Refusal :=
  sysCommand h 0x706 false (fun s => done h 0x706 (updStateResult s) s) s

/-- UPD_ABORT (09 R269): an outstanding update command is cancelled, and an update that has not been
activated is abandoned. -/
def updAbort (h : Hdr) (s : State) : State :=
  let st := s.upd.st
  let s := if st = 1 ∨ st = 2 ∨ st = 3 then abandon 0 s
    else if s.upd.card then abandon 0 s else s
  let s := completeAll (fun w => w.kind == .card) .cancelled s
  done h 0x707 [BitVec.ofNat 8 st] s

def execUpdAbort (h : Hdr) (s : State) : Host.Outcome State Fault Refusal :=
  sysCommand h 0x707 false (updAbort h) s

/-! ## Card update (17 R419 to R421) -/

/-- A card update begins: the card is to be read. -/
def cardBegin (act : Nat) (s : State) : State :=
  { s with upd := { Update.reset with st := s.upd.st, act := act, card := true } }

/-- UPD_FROM_CARD. -/
def updFromCard (h : Hdr) (act : Nat) (s : State) : State :=
  if !updFree s then refuse h 0x701 .busy s
  else if s.board.card then addWait h 0x701 .card (cardBegin act s)
  else complete h.tag 0x701 h.port .imageInvalid [0, 0x08] (abandon 0x08 s)

def execUpdFromCard (h : Hdr) (act : Nat) (name : List Byte) (s : State) :
    Host.Outcome State Fault Refusal :=
  sysCommand h 0x701 (2 < act || 32 < name.length) (updFromCard h act) s

/-- UPDATE_BTN_PRESS (02 R45, 17 R420): in the running states, of which standby is one that the press ends (10
R295); the press latches event line 14. The row is a press after a release: one held through a reset is no second
row. -/
def execUpdateBtnPress (s : State) : Host.Outcome State Fault Refusal :=
  let s := wake 3 s
  .next (if hostServed s then
    let start := s.board.card && updFree s
    let s := modCore pairCore (fun k => { k with latched := setBit 14 k.latched }) s
    let s := if start then cardBegin 1 s else s
    postSys 1163 (if start then 3 else 1) s
    else s)

/-- SD_CD_N_CHANGE (17 R419, Table UPD-6): CARD is posted; a removal ends a card update that still reads the card. -/
def execSdCdNChange (present : Bool) (s : State) : Host.Outcome State Fault Refusal :=
  .next (
    let s := { s with board := { s.board with card := present } }
    if hwUp s then
      let s := postCp 1162 (if present then 1 else 0) s
      if !present && s.upd.card && s.upd.st != 2 then cardFails .imageInvalid 0x08 s else s
    else s)

/-- The signature of a card update verified, and what ACT asks for (17 R420). -/
def cardFinish (s : State) : State :=
  match finishUpdate true s with
  | (s, 0) =>
    match s.upd.act with
    | 0 => cardComplete .ok s
    | 1 =>
      if hitlessOk s then cardComplete .ok (activate true s)
      else cardComplete .ok { s with upd := { s.upd with reason := 0x05 } }
    | _ => cardComplete .ok (activate false s)
  | (s, _) => cardComplete .imageInvalid s

/-- What the SD host has brought (17 R419): the header, or the next block. -/
def cardRead (r : CardRead) (s : State) : State :=
  match r with
  | .error => cardFails .imageInvalid 0x08 s
  | .notFound => cardFails .imageInvalid 0x09 s
  | .data b =>
    if s.upd.st = 1 then
      if b.length != blockLen s.upd.hdr s.upd.next || !blockCrcOk b then cardFails .imageInvalid 0x02 s
      else match putBlock b true s with
        | (s, true) => s
        | (s, false) => cardComplete .imageInvalid s
    else if s.upd.st = 2 then s
    else match headerCheck s b with
      | some (st, r) => cardFails st r s
      | none => openUpdate b s

/-- The SD host, or the crypto block, has raised its event flags; the firmware, when it runs, handles and
clears them. -/
def sdFlag (s : State) : State := { s with board := { s.board with sdFlag := !hostServed s } }
def cryptoFlag (s : State) : State := { s with board := { s.board with cryptoFlag := !hostServed s } }

/-- SD_TRANSFER_DONE. -/
def execSdTransferDone (r : CardRead) (s : State) : Host.Outcome State Fault Refusal :=
  .next (if hwUp s && F.CRU_GATE.SD.on s.cru.regs.gate && !s.cru.standby then
    let s := sdFlag s
    if hostServed s && s.upd.card then cardRead r s else s
    else s)

/-- An authentication whose verification is under way. -/
def authVerifying (w : Wait) : Bool :=
  match w.kind with
  | .auth _ step _ _ _ _ _ => step == 4 || step == 5
  | _ => false

/-- CRYPTO_DONE (04 R120, 17 R414): the verification of an authentication, with its outcome, or that of a
card's image, whose outcome the flash contents decide. -/
def execCryptoDone (ok : Bool) (s : State) : Host.Outcome State Fault Refusal :=
  .next (if hwUp s && F.CRU_GATE.CRYPTO.on s.cru.regs.gate && !s.cru.standby then
    let s := cryptoFlag s
    if hostServed s then
      match findWait s authVerifying with
      | some w => authVerified ok w s
      | none => if s.upd.card && s.upd.st == 2 then cardFinish s else s
    else s
    else s)

/-! ## Flash controller (17 R417, R430) -/

/-- FLC registers changed. -/
def modFlc (f : FlcRegs → FlcRegs) (s : State) : State :=
  { s with flash := { s.flash with regs := f s.flash.regs } }

def flcEvt (f : Fld) (s : State) : State := modFlc (fun r => { r with evt := f.set r.evt }) s

def flcBusy (s : State) : Bool := F.FLC_STAT.BUSY.on s.flash.regs.stat

/-- Flash address, and LEN; the spec states no number of bytes for a LEN outside 1 to 4,096. -/
def flcAddr (s : State) : Nat := F.FLC_ADDR.ADDR.get s.flash.regs.addr
def flcLen (s : State) : Nat × State :=
  let n := F.FLC_LEN.LEN.get s.flash.regs.len
  if 1 ≤ n ∧ n ≤ 4096 then (n, s)
  else
    let (x, s) := takeFree Config.freeNat s
    (x % 4096 + 1, s)

/-- An operation starts. -/
def flcStart (op len : Nat) (s : State) : State :=
  let addr := flcAddr s
  let sram := s.flash.regs.sram.toNat / 4 * 4
  let stat (w : Word) : Word := F.FLC_STAT.BUSY.set (if op = 2 ∨ op = 3 then F.FLC_STAT.FBUSY.set w else w)
  let s := modFlc (fun r => { r with stat := stat r.stat }) s
  { s with flash := { s.flash with op := some ⟨op, addr, sram, len⟩ } }

/-- The range [a, a + n) meets the range [b, b + m). -/
def meets (a n b m : Nat) : Bool := a < b + m && b < a + n

/-- The boot-table area (17 Table UPD-1). -/
def inBootArea (a n : Nat) : Bool := meets a n 0 0x10000 || meets a n 0x80000 0x10000

/-- The running slot. -/
def inRunSlot (s : State) (a n : Nat) : Bool := meets a n (slotBase (runSlot s)) 0x600000

/-- A program or an erase with a key (17 R417): a key that is neither is ignored; a refusal sets PROT. -/
def flcWrite (op key a n len : Nat) (s : State) : State :=
  if key ≠ 0x3C96 ∧ key ≠ 0xB07A then s
  else if inRunSlot s a n || (inBootArea a n != (key == 0xB07A)) then flcEvt F.FLC_EVT.PROT s
  else flcStart op len s

/-- A write of FLC_CMD acts: the control pair writes it, and no operation is under way. -/
def flcTakes (s : State) : Bool := cpWrites s && !flcBusy s

def flcRead (s : State) : State := let (n, s) := flcLen s; flcStart 1 n s
def flcProgram (key : Nat) (s : State) : State :=
  let (n, s) := flcLen s
  flcWrite 2 key (flcAddr s) n n s
def flcErase (key : Nat) (s : State) : State :=
  flcWrite 3 key (flcAddr s / 65536 * 65536) 65536 0 s

def execFlcCmdRead (s : State) : Host.Outcome State Fault Refusal :=
  .next (if flcTakes s then flcRead s else s)
def execFlcCmdProgram (key : Nat) (s : State) : Host.Outcome State Fault Refusal :=
  .next (if flcTakes s then flcProgram key s else s)
def execFlcCmdErase (key : Nat) (s : State) : Host.Outcome State Fault Refusal :=
  .next (if flcTakes s then flcErase key s else s)
def execFlcCmdReset (s : State) : Host.Outcome State Fault Refusal :=
  .next (if flcTakes s then flcStart 4 0 s else s)
def execFlcCmdStatus (s : State) : Host.Outcome State Fault Refusal :=
  .next (if flcTakes s then flcStart 5 0 s else s)

/-- FLC_OPERATION_DONE, in a start of what the flash went on with (11 R314): `fsr` is the flash's status register; not `ok`: it stayed busy for 3 s. -/
def flcDone (ok : Bool) (fsr : Byte) (s : State) : State :=
  match s.flash.op with
  | none => s
  | some o =>
    let s := if ok then flcEffect o s else flcEvt F.FLC_EVT.TIMEOUT (flcTimeout o s)
    let s := { s with flash := { s.flash with op := none } }
    let stat (w : Word) : Word :=
      F.FLC_STAT.FBUSY.setTo (!ok) (F.FLC_STAT.BUSY.clr (if o.op = 5 then F.FLC_STAT.FSR.put fsr.toNat w else w))
    modFlc (fun r => { r with evt := F.FLC_EVT.DONE.set r.evt, stat := stat r.stat }) s

def execFlcOperationDone (ok : Bool) (fsr : Byte) (s : State) : Host.Outcome State Fault Refusal :=
  .next (if hwUp s then
      let s := flcDone ok fsr s
      if s.boot.waiting.isSome && !flashBusy s then flashReady s else s
    else match s.flash.op with
      | some o => flashReady { (if ok then flcEffect o s else flcTimeout o s) with flash.op := none }
      | none => s)

/-! ## Trial (17 R423 to R425) -/

/-- The level of the committed image programmed where it exceeds the fused one: ARB_L of the level. -/
def raiseLevel (s : State) : State :=
  let n := hdrArb s.boot.img
  if fusedLevel s < n && !otpBusy s && progReason s (0x16F + n) 0xFFFFFFFF == 0 then otpProgramStart (0x16F + n) 0xFFFFFFFF s else s

/-- FLC_TRIAL_COMMIT (17 R424): the boot table with TRIAL 0, the window stopped, the level raised. -/
def commitTrial (s : State) : State :=
  match s.flash.trialEnd with
  | none => s
  | some _ =>
    let on := match bootTable s with | some t => t.trial | none => false
    let s := if on then changeBootTab (fun t => { t with trial := false }) s else s
    let s := { s with flash := { s.flash with trialEnd := none } }
    raiseLevel (if s.upd.st = 5 then updTo 6 0 s else s)

def execFlcTrialCommit (s : State) : Host.Outcome State Fault Refusal :=
  .next (if cpWrites s then commitTrial s else s)

/-- TRIAL_WINDOW_EXPIRY (17 R425): the fallback slot by a warm start with cause 7. -/
def trialExpiry (s : State) : State :=
  match s.flash.trialEnd with
  | none => s
  | some _ =>
    let s := endTrial { s with flash := { s.flash with trialEnd := none } }
    let slot := match bootTable s with | some t => t.primary | none => targetSlot s
    warmStart ⟨0, 7, slot, true⟩ (updTo 7 0 s)

def execTrialWindowExpiry (s : State) : Host.Outcome State Fault Refusal :=
  .next (if hwUp s then trialExpiry s else s)

end Sys2Proof.Machine
end

