-- ==== Sys2Proof/Machine/BusMap.lean ====
section
/-! DEFINITION. The data maps of the cores: the control pair's (01 Table ANA-6, Table ANA-7) and the engines' (13
Table DWX-11); what a register shows at a read, and what a write of it does. -/

namespace Sys2Proof.Machine
open Sys2Proof

/-- What an access of a core comes to: done, a bus error (01 R30), or a block whose registers the spec does not
give. -/
inductive Bus (α : Type) where
  | ok (a : α)
  | err
  | notGiven (base : Nat)

/-- Where an address of a core's map lies. -/
inductive Place where
  | dmem (a : Nat)
  | sram (a : Nat)
  | port (p : PortId) (off : Nat)
  | engine (e : EngId) (off : Nat)
  | block (n off : Nat)
  | blank
  | notGiven (base : Nat)
  | none

/-- The state a command leaves, where it answers one. -/
def after (o : Host.Outcome State Fault Refusal) (s : State) : State :=
  match o with
  | .next t => t
  | _ => s

/-! ## Event lines (13 R352) -/

/-- The ports of the skein that an engine serves, by line; of SE12 the skein it holds. -/
def servedPort (s : State) (e : EngId) (k : Nat) : Option PortId :=
  match (skeinsOf s e).head? with
  | some q => if k < 8 then portOf (8 * q.val + k) else none
  | none => none

/-- SE_MAP: the skein served, 15 for none (01 R16). -/
def skeinCode (s : State) (e : EngId) : Nat := ((skeinsOf s e).head?.map (·.val)).getD 15

/-- Any flag set and enabled in PRT_EVT, PD_EVT, PTH_EVT or TEL_PEVT. -/
def portLine (q : Port) : Bool :=
  q.core.evt &&& q.core.evten != 0 || q.pd.evt &&& q.pd.evten != 0
    || q.pth.evt &&& q.pth.evten != 0 || q.tel.pevt &&& q.tel.pevten != 0

/-- The number whose bit i is `f i`, below `n`. -/
def bitMap (n : Nat) (f : Nat → Bool) : Nat := ((List.range n).map fun i => if f i then 2 ^ i else 0).sum

/-- The level lines of an engine (13 Table DWX-8a). -/
def engineLines (s : State) (e : EngId) : Word :=
  let port (f : PortId → Bool) (k : Nat) : Bool := ((servedPort s e k).map f).getD false
  let any (f : PortId → Bool) : Bool := (List.range 8).any (port f)
  let caddy := any fun p => F.CAD_WRES.VALID.on s.cad.wres[p]
  let space := any fun p => !s.ports[p].pol.held.isEmpty && s.ports[p].pol.queue.length ≤ 24
  BitVec.ofNat 32 (bitMap 14 fun i =>
    if i < 8 then port (fun p => portLine s.ports[p]) i
    else if i = 8 then caddy
    else if i = 9 then space
    else ((tmrAt s (.engine e) (i - 10)).map tmrPending).getD false)

/-- A byte of the management target moves in a transaction: its register access is pending. -/
def mtLine (s : State) : Bool := F.TWT_STAT.ACTIVE.on s.twt.regs.stat

/-- The level lines of the control pair (13 Table DWX-8b); the service UART gives no flag (log entry 31). -/
def pairLines (s : State) : Word :=
  let on (a b : Word) : Bool := a &&& b != 0
  BitVec.ofNat 32 (bitMap 14 fun i =>
    match i with
    | 1 => mtLine s
    | 2 => on s.cru.regs.evt s.cru.regs.evten
    | 3 => on s.saf.evt s.saf.evten
    | 4 => on s.cad.regs.evt s.cad.regs.evten || s.feeds.regs.evt != 0
    | 5 => on s.tel.evt s.tel.evten
    | 6 => allPorts.any fun p => !s.ports[p].pol.queue.isEmpty
    | 7 => on s.otp.regs.evt s.otp.regs.evten
    | 8 => on s.flash.regs.evt s.flash.regs.evten
    | 9 => s.board.sdFlag
    | 10 => s.board.cryptoFlag
    | 12 => s.twc.toList.any fun t => on t.regs.evt t.regs.evten
    | 13 => (List.range 16).any fun n => ((tmrAt s .control n).map tmrPending).getD false
    | _ => false)

/-- EVPEND of a core: the level lines and the latched ones. -/
def evpend (s : State) (c : CoreId) : Word :=
  (match engineCore c with
    | some e => engineLines s e
    | none => pairLines s) ||| s.cores[c].latched

/-! ## What registers show at a read -/

/-- A count of microseconds in units of `u`, rounded up. -/
def unitsUp (u n : Nat) : Nat := (n + u - 1) / u

/-- A port-block offset that the front die holds (01 Table ANA-7). -/
def frontOff (off : Nat) : Bool := (0x100 ≤ off && off < 0x200) || (0x600 ≤ off && off < 0x900)

/-- PTH_STAT: VSAFE0 and CV_RDY are slots 4 and 6; LIMIT while a ramp runs is a free value. -/
def pthStat (s : State) (q : Port) : Word :=
  let w := F.PTH_STAT.CV_RDY.setTo (q.strained 6) (F.PTH_STAT.VSAFE0.setTo (!q.strained 4) q.pth.stat)
  if q.ramping then F.PTH_STAT.LIMIT.setTo (Config.freeBit s.free) w else w

/-- PTH_HEAT: the heat in 1/65,536. -/
def heatCode (q : Port) : Nat := clampNat 0 65535 (q.hw.heat * 65536).floor.toNat

/-- The channels of a port form blocks. -/
def telOn (s : State) (p : PortId) (i : Nat) : Bool :=
  if h : 96 * i + p.val < 297 then s.codec.chans[96 * i + p.val].block.isSome else false

/-- TEL_PSTAT (07 R191). -/
def telPstat (s : State) (p : PortId) : Word :=
  F.TEL_PSTAT.ADC.put (p.val % 24 / 6) (F.TEL_PSTAT.VBUS_ON.setTo (telOn s p 0)
    (F.TEL_PSTAT.IBUS_ON.setTo (telOn s p 1) (F.TEL_PSTAT.VCV_ON.setTo (telOn s p 2) s.ports[p].tel.pstat)))

/-- Receive buffer k or the shown transmit buffer, as the block's bytes. -/
def msgWord (q : Port) (off : Nat) : Word :=
  let b := if off < 0xE20 then q.phw.rxbuf.toList.getD ((off - 0xA00) / 264) []
    else q.phw.txbuf.toList.getD (F.PD_TXWIN.SEL.get q.pd.txwin) []
  let o := if off < 0xE20 then (off - 0xA00) % 264 else off - 0xE20
  BitVec.ofNat 32 (leNat (((padTo 264 b).drop o).take 4))

/-- PD_PHYSTAT (04 Table PDE-15): TXING while a frame is on the wire; whether the line carries another's frame is a
free value, with ORIENT = 0b00 the PHY neither sends nor receives (04 R85). -/
def phyStat (s : State) (q : Port) : Word :=
  let tx := decide (s.time < q.hw.txUntil)
  let live := q.orient != 0
  let rx := live && !tx && Config.freeBit s.free
  q.pd.phystat |> F.PD_PHYSTAT.TXING.setTo tx |> F.PD_PHYSTAT.RXING.setTo rx
    |> F.PD_PHYSTAT.LINE_BUSY.setTo (tx || rx || (live && Config.freeBit (s.free + 1)))

/-- PD_TMRRUN: the slots whose period has begun (04 R123). -/
def runShown (s : State) (q : Port) : Word :=
  (List.finRange 26).foldl (fun w (i : Fin 26) => if s.time < q.phw.tmrStart[i] then clrBit i.val w else w) q.pd.tmrrun

/-- CMP_OUT: RAW as the slots show it (03 Table ATT-23), the strained outputs. -/
def cmpOut (q : Port) : Word :=
  (List.finRange 8).foldl (fun w (n : Fin 8) => putBit n.val (rawShown q n) w) q.cc.out

/-- An offset of a port block as it reads; with the stitch link down the front die's read 0 (01 R32). -/
def portRead (s : State) (p : PortId) (off : Nat) : Word :=
  let q := s.ports[p]
  if frontOff off && !linkUp s (dieOf p) then 0
  else if 0x540 ≤ off && off < 0x540 + 4 * 26 then
    let i : Fin 26 := ⟨(off - 0x540) / 4 % 26, Nat.mod_lt _ (by omega)⟩
    F.PD_TMRV.REMAIN.put (min 65535 (slotRemain s.time q i)) q.pd.tmrv[i]
  else if 0x200 ≤ off && off < 0x500 then
    let c : Fin 3 := ⟨(off - 0x200) / 256 % 3, Nat.mod_lt _ (by omega)⟩
    regRead ctxRegs (off % 256) q.ctx[c]
  else if 0xA00 ≤ off then (if off < 0xF28 then msgWord q off else 0)
  else
    match off with
    | 0x124 => cmpOut q
    | 0x504 => phyStat s q
    | 0x524 => runShown s q
    | 0x604 => pthStat s q
    | 0x630 => fbsNow s.time q
    | 0x60C => F.PTH_REF.REF.put (refNow s.time q) 0
    | 0x63C => F.PTH_RETRY.REMAIN.put (min 65535 (unitsUp 1000 (q.hw.retryEnd.getD s.time - s.time))) q.pth.retry
    | 0x648 => BitVec.ofNat 32 (heatCode q)
    | 0x804 => telPstat s p
    | _ => regRead (coreRegs ++ ccRegs ++ pdRegs ++ pathRegs ++ curveRegs ++ telPortRegs) off q

/-- The caddy and feed block (06 R187, 05 R158). -/
def caddyRead (s : State) (off : Nat) : Word :=
  let at_ (b : Nat) (f : PortId → Word) : Word := ((portOf ((off - b) / 4)).map f).getD 0
  if off = 0x14 then BitVec.ofNat 32 s.cad.row
  else if off = 0x18 then s.cad.rowHi.getD (BitVec.ofNat 32 (s.cad.row / 4294967296))
  else if off < 0x100 then regRead cadRegs off s.cad.regs
  else if off < 0x300 then at_ 0x100 fun p => s.cadp[p].regs.pcfg
  else if off < 0x500 then at_ 0x300 fun p => s.cadp[p].regs.phold
  else if off < 0x800 then at_ 0x500 (cadPreq s)
  else regRead feedRegs off s.feeds.regs

/-- Frame number bits 54:32. -/
def frameHigh (s : State) : Word := BitVec.ofNat 32 (s.codec.frame / 4294967296 % 8388608)

/-- The telemetry codec (07 R208). -/
def codecRead (s : State) (off : Nat) : Word :=
  match off with
  | 0x10 => BitVec.ofNat 32 (telFree s)
  | 0x20 => BitVec.ofNat 32 s.codec.frame
  | 0x24 => if s.codec.hiLatched then s.tel.framehi else frameHigh s
  | _ => regRead telRegs off s.tel

/-- The clock root and the restart registers (10 R299, 11 R317); RST_TMR counts down to a failed start. -/
def cruRead (s : State) (off : Nat) : Word :=
  if off = 0x118 then
    match s.boot.startAt with
    | some t => BitVec.ofNat 32 (unitsUp 1000 (2000000 - (s.time - t)))
    | none => if s.boot.phase = .running then 0 else 2000
  else if off < 0x100 then regRead cruRegs off s.cru.regs
  else regRead rstRegs off s.rst

/-- WDG_STAT: REMAIN and RECENT with what the register holds. -/
def wdgStat (s : State) : Word :=
  let ms := if wdgOn s then
      unitsUp 1000 (1000 * clampNat 10 1000 (F.WDG_CFG.PERIOD.get s.wdg.regs.cfg) - (s.time - s.wdg.at_)) else 0
  let recent : Bool := match s.wdg.lastExp with
    | some t => decide (s.time ≤ t + tenSeconds)
    | none => false
  F.WDG_STAT.REMAIN.put (min 65535 ms) (F.WDG_STAT.RECENT.setTo recent s.wdg.regs.stat)

/-- The watchdog and safety block (12 R339). -/
def safetyRead (s : State) (off : Nat) : Word :=
  if off = 0x0C then wdgStat s
  else if off = 0x100 then safStat s
  else if 0x120 ≤ off && off < 0x12C then shadowWord s (0x1BC + (off - 0x120) / 4)
  else if off < 0x100 then regRead wdgRegs off s.wdg.regs
  else regRead safRegs off s.saf

/-- A timer block: 0x20 per timer, the common registers at `top` (14 R375, R376). -/
def timerRead (s : State) (b : TmrBlk) (top off : Nat) : Word :=
  if !tmrUp s b then 0
  else if off = top + 8 then tmrMap s b fun x => x.2.run
  else if off = top + 16 then tmrMap s b tmrPending
  else if top ≤ off then 0
  else if off % 32 = 4 then tmrCnt s b (off / 32)
  else ((tmrAt s b (off / 32)).map fun x => regRead tmrRegs (off % 32) x.1).getD 0

/-- TWC_STAT: the levels of the FIFOs; BUSBUSY while a transfer waits for the bus. -/
def twcStat (t : Twc) : Word :=
  let wait : Bool := (t.xfer.map (·.waitBus)).getD false
  F.TWC_STAT.RXLVL.put (min 32 t.rx.length) (F.TWC_STAT.TXLVL.put (min 32 t.tx.length)
    (F.TWC_STAT.BUSBUSY.setTo wait t.regs.stat))

/-- TWC_RXD: the oldest byte, or EMPTY. -/
def twcRxdWord (t : Twc) : Word :=
  match t.rx with
  | b :: _ => b.setWidth 32
  | [] => F.TWC_RXD.EMPTY.set 0

/-- A two-wire controller (15 R391). -/
def twcRead (s : State) (off : Nat) : Word :=
  if h : off / 256 < 2 then
    let b : Fin 2 := ⟨off / 256, h⟩
    let t := s.twc[b]
    if !twcUp s b then 0
    else
      match off % 256 with
      | 0x04 => F.TWC_XADDR.GO.setTo (F.TWC_STAT.BUSY.on t.regs.stat) t.regs.xaddr
      | 0x10 => twcRxdWord t
      | 0x14 => twcStat t
      | o => regRead twcRegs o t.regs
  else 0

/-- OTP_LOCKST (16 R403). -/
def lockst (s : State) : Word := BitVec.ofNat 32 (256 * bitMap 8 (rLocked s) + bitMap 8 (wLocked s))

/-- The OTP controller (16 R409); a word of a read-locked region reads zero in the shadow window (16 R406). -/
def otpRead (s : State) (off : Nat) : Word :=
  match off with
  | 0x20 => lockst s
  | 0x24 => BitVec.ofNat 32 (lifecycle s)
  | 0x28 => BitVec.ofNat 32 (fusedLevel s)
  | _ =>
    if 0x2000 ≤ off && off < 0x4000 then
      shadowShown s ((off - 0x2000) / 4)
    else regRead otpRegs off s.otp.regs

/-- The flash controller (17 R430). -/
def flcRead4 (s : State) (off : Nat) : Word :=
  if off = 0x20 then
    F.FLC_TRIAL.ARMED.setTo s.flash.trialEnd.isSome (F.FLC_TRIAL.REMAIN.put (min 1023 (trialRemain s)) 0)
  else regRead flcRegs off s.flash.regs

/-- The event router: four routes to a word (08 R236). -/
def routerRead (s : State) (off : Nat) : Word :=
  BitVec.ofNat 32 (leNat ((List.range 4).map fun i => if off + i < 1216 then routeOf s (off + i) else 0))

/-- An engine's control block (13 R360, 12 R340, 14 R376, 06 R188). -/
def engineRead (s : State) (e : EngId) (off : Nat) : Word :=
  let g := s.engines[e]
  let k := s.cores[coreOf e]
  let wres (i : Nat) : Word := ((servedPort s e i).map fun p => s.cad.wres[p]).getD 0
  match off with
  | 0x14 => evpend s (coreOf e)
  | 0x18 => BitVec.ofNat 32 (skeinCode s e)
  | 0x20 => BitVec.ofNat 32 k.cyc
  | 0x24 => if g.cycLatched then g.se.cychi else BitVec.ofNat 32 (k.cyc / 4294967296)
  | 0x108 =>
    let left := 100 * max 1 (F.SEW_CTL.TMO.get g.sew.ctl) - (s.time - g.sewAt)
    F.SEW_STAT.REMAIN.put (if F.SEW_CTL.EN.on g.sew.ctl then min 255 (unitsUp 100 left) else 0) g.sew.stat
  | _ =>
    if off < 0x100 then regRead seRegs off g.se
    else if off < 0x200 then regRead sewRegs off g.sew
    else if off < 0x300 then timerRead s (.engine e) 0x80 (off - 0x200)
    else if 0x8020 ≤ off && off < 0x8040 then wres ((off - 0x8020) / 4)
    else 0

/-- A register as it reads. -/
def placeRead (s : State) (pl : Place) : Word :=
  match pl with
  | .port p off => portRead s p off
  | .engine e off => engineRead s e off
  | .block 0 off => cruRead s off
  | .block 1 off => otpRead s off
  | .block 2 off => safetyRead s off
  | .block 3 off => timerRead s .control 0x200 off
  | .block 4 off => regRead twtRegs off s.twt.regs
  | .block 5 off => twcRead s off
  | .block 9 off => flcRead4 s off
  | .block 11 off => caddyRead s off
  | .block 12 off => codecRead s off
  | .block 13 off => routerRead s off
  | _ => 0

/-- What a read does beside answering: the latches of double-word counts, and TWC_RXD's removal; the free bits of
PTH_STAT.LIMIT and of PD_PHYSTAT are used up. A read of CAD_ROWHI releases the half that CAD_ROWLO latched, so that
a later one shows the live half (DESIGN CHOICE, log entry 89). -/
def readEffect (pl : Place) (s : State) : State :=
  match pl with
  | .port _ 0x504 => { s with free := s.free + 2 }
  | .port p 0x604 => if s.ports[p].ramping then { s with free := s.free + 1 } else s
  | .block 11 0x14 => after (execCadRowloRead s) s
  | .block 11 0x18 => { s with cad := { s.cad with rowHi := none } }
  | .block 12 0x20 => frameLatch s
  | .block 12 0x24 => { s with codec := { s.codec with hiLatched := false } }
  | .block 3 off => if off % 32 = 4 && off < 0x200 && tmrUp s .control then tmrCntLatch .control (off / 32) s else s
  | .block 5 off =>
    if h : off / 256 < 2 then
      if off % 256 = 0x10 && twcUp s ⟨off / 256, h⟩ then twcRxd ⟨off / 256, h⟩ s else s
    else s
  | .engine e off =>
    if off = 0x20 then cycLatch e s
    else if off = 0x24 then modEng e (fun g => { g with cycLatched := false }) s
    else if 0x200 ≤ off && off < 0x280 && off % 32 = 4 then tmrCntLatch (.engine e) ((off - 0x200) / 32) s
    else s
  | _ => s

end Sys2Proof.Machine
end

