-- ==== Sys2Proof/Machine/BusWrite.lean ====
section
/-! DEFINITION. Writes by a core: the plain part of a register by its access codes, then what its other fields do
(the tables of the register maps), and the loads and stores of the two data maps (13 R350, R358, R359). -/

namespace Sys2Proof.Machine
open Sys2Proof

/-! ## The plain part of a register write (00 R7) -/

/-- Bytes written into a message buffer at a word's place. -/
def putWord (o : Nat) (v : Word) (b : List Byte) : List Byte :=
  let b := padTo 264 b
  b.take o ++ wordBytes v ++ b.drop (o + 4)

/-- A word of a message buffer of a port written. -/
def msgWrite (off : Nat) (v : Word) (q : Port) : Port :=
  if off < 0xE20 then
    let k : Fin 4 := ⟨(off - 0xA00) / 264 % 4, Nat.mod_lt _ (by omega)⟩
    { q with phw.rxbuf := q.phw.rxbuf.set k (putWord ((off - 0xA00) % 264) v q.phw.rxbuf[k]) }
  else
    let k : Fin 2 := ⟨F.PD_TXWIN.SEL.get q.pd.txwin % 2, Nat.mod_lt _ (by omega)⟩
    { q with phw.txbuf := q.phw.txbuf.set k (putWord (off - 0xE20) v q.phw.txbuf[k]) }

/-- A register of a message context: clearing EN aborts the context's transmission (04 R86); KA_ACK stands in the
SOP context only. -/
def ctxWrite (c : Fin 3) (off : Nat) (v : Word) (q : Port) : Port :=
  let v := if off = 0 && c != 0 then F.CTX_CTL.KA_ACK.clr v else v
  let q := if off = 0 && !F.CTX_CTL.EN.on v then abortTx c q else q
  q.modCtx c (regWrite ctxRegs false off v)

/-- PRT_STATE, PRT_CAPT and PD_PHYCFG keep what hardware holds: STATE of a fenced port (03 R61), CAPT_EN of a
forced one (03 R77), and the time SWAP was set (04 R116). -/
def keepHeld (now : Nat) (old new : Port) : Port :=
  let new := if old.st = .fenced then
      { new with core.state := F.PRT_STATE.STATE.put (F.PRT_STATE.STATE.get old.core.state) new.core.state }
    else new
  let new := if F.PRT_CAPT.FORCED.on old.core.capt then
      { new with core.capt := F.PRT_CAPT.CAPT_EN.put (F.PRT_CAPT.CAPT_EN.get old.core.capt) new.core.capt } else new
  if F.PD_PHYCFG.SWAP.on new.pd.phycfg && !F.PD_PHYCFG.SWAP.on old.pd.phycfg then
    { new with phw.swapSince := now } else new

/-- A write of PRT_STATE changed the port's state: the entry into DETACHED, PARKED, TRIPPED or FENCED releases its
holding, lowers CEIL and clears CAD_LIM (06 R165). -/
def enteredState (p : PortId) (old : PortSt) (s : State) : State :=
  let st := s.ports[p].st
  if st ≠ old && (st = .detached || st = .parked || st = .tripped || st = .fenced) then caddyRelease p s else s

/-- The plain fields of a port block's offset. -/
def portPlain (p : PortId) (off : Nat) (v : Word) (s : State) : State :=
  if frontOff off && !linkUp s (dieOf p) then s
  else
    let old := s.ports[p].st
    let s := modFront p (fun q =>
      if 0xA00 ≤ off then (if off < 0xF28 then msgWrite off v q else q)
      else if 0x200 ≤ off && off < 0x500 then
        ctxWrite ⟨(off - 0x200) / 256 % 3, Nat.mod_lt _ (by omega)⟩ (off % 256) v q
      else keepHeld s.time q
        (regWrite (coreRegs ++ ccRegs ++ pdRegs ++ pathRegs ++ curveRegs ++ telPortRegs) false off v q)) s
    if off = 0 then enteredState p old (modPort p syncTxOk s) else s

/-- The plain fields of the caddy's and the feed logic's registers; the feeds are evaluated anew. -/
def caddyPlain (off : Nat) (v : Word) (s : State) : State :=
  if off < 0x100 then
    { s with cad := { s.cad with regs := regWrite cadRegs false off v s.cad.regs } }
  else if off < 0x300 then
    match portOf ((off - 0x100) / 4) with
    | some p => modCad p (fun c => { c with regs.pcfg := (rw 0xFF33).write false c.regs.pcfg v }) s
    | none => s
  else if off < 0x800 then s
  else
    let old := s.feeds.regs
    let new := regWrite feedRegs false off v old
    evalFeeds (modFed (fun _ => { new with pport := acceptPport s new.pport old.pport }) s)

/-- The plain fields of a timer's registers; CHAIN stands in odd timers only (14 R370). -/
def timerPlain (b : TmrBlk) (top off : Nat) (v : Word) (s : State) : State :=
  if top ≤ off || !tmrUp s b then s
  else
    let v := if off % 32 = 0 && off / 32 % 2 == 0 then F.TMR_CTL.CHAIN.clr v else v
    -- the pins and actions of an engine's timer are reserved, and PIN reads 0xF (14 R376)
    let v := match b with
      | .engine _ => if off % 32 = 0 then (v &&& 0x0FFF0000) ||| 0xF else v
      | .control => v
    modTmr b (off / 32) (fun x => (regWrite tmrRegs false (off % 32) v x.1, x.2)) s

/-- SEW_CTL: the timeout runs from the write that sets EN. -/
def sewPlain (e : EngId) (off : Nat) (v : Word) (s : State) : State :=
  modEng e (fun g =>
    let r := regWrite sewRegs false off v g.sew
    let began := F.SEW_CTL.EN.on r.ctl && !F.SEW_CTL.EN.on g.sew.ctl
    { g with sew := r, sewAt := if began then s.time else g.sewAt }) s

/-- The plain fields of an engine's control block; the engine's own writes leave SE_CTL and SE_PMADDR, and the caddy
window is the engine's alone (06 R166). -/
def enginePlain (own : Bool) (e : EngId) (off : Nat) (v : Word) (s : State) : State :=
  if off < 0x100 then (if own then s else modEng e (fun g => { g with se := regWrite seRegs false off v g.se }) s)
  else if off < 0x200 then sewPlain e off v s
  else if off < 0x300 then timerPlain (.engine e) 0x80 (off - 0x200) v s
  else if 0x8020 ≤ off && off < 0x8040 && own then
    match servedPort s e ((off - 0x8020) / 4) with
    | some p =>
      { s with cad := { s.cad with wres := s.cad.wres.set p ((w1c 0x80000000).write false s.cad.wres[p] v) } }
    | none => s
  else s

/-- Four routes of the event router; a route's bit 6 stays 0. -/
def routerPlain (off : Nat) (v : Word) (s : State) : State :=
  (List.range 4).foldl (fun s i =>
    if off + i < 1216 then setRoute (off + i) ((wordBytes v).getD i 0 &&& 0xBF) s else s) s

/-- The plain part of a write at a place (00 R7). -/
def placePlain (own : Bool) (pl : Place) (v : Word) (s : State) : State :=
  match pl with
  | .port p off => portPlain p off v s
  | .engine e off => enginePlain own e off v s
  | .block 0 off =>
    if off < 0x100 then modCru (fun c => { c with regs := regWrite cruRegs false off v c.regs }) s
    else { s with rst := regWrite rstRegs false off v s.rst }
  | .block 1 off => modOtp (regWrite otpRegs false off v) s
  | .block 2 off =>
    if off < 0x100 then modWdg (regWrite wdgRegs (wdgLocked s) off v) s
    else { s with saf := regWrite safRegs false off v s.saf }
  | .block 3 off => timerPlain .control 0x200 off v s
  | .block 4 off => modTwt (fun t => { t with regs := regWrite twtRegs false off v t.regs }) s
  | .block 5 off =>
    if h : off / 256 < 2 then
      if twcUp s ⟨off / 256, h⟩ then
        modTwc ⟨off / 256, h⟩ (fun t => { t with regs := regWrite twcRegs false (off % 256) v t.regs }) s
      else s
    else s
  | .block 9 off => modFlc (regWrite flcRegs false off v) s
  | .block 11 off => caddyPlain off v s
  | .block 12 off => { s with tel := regWrite telRegs false off v s.tel }
  | .block 13 off => routerPlain off v s
  | _ => s

/-! ## Fields whose write acts -/

/-- The path's enables (05 R127, R130, R133): each follows the value written. -/
def pathCtl (p : PortId) (v : Word) (s : State) : State :=
  let q := s.ports[p]
  let s := after (execCenEnWrite p (F.PTH_CTL.CEN_EN.on v) s) s
  let s := if F.PTH_CTL.PATH_EN.on v then after (execGateRampStart p s) s
    else if F.PTH_CTL.PATH_EN.on q.pth.ctl then modPort p gateOff s else s
  if F.PTH_CTL.DIS_EN.on v then (if F.PTH_CTL.DIS_EN.on q.pth.ctl then s else modPort p sinkOn s)
  else modPort p sinkOff s

/-- PD_SIGNAL (04 Table PDE-3). -/
def pdSignal (p : PortId) (v : Word) (s : State) : State :=
  let s := if F.PD_SIGNAL.HARD_RESET.on v then after (execPdSignalHardReset p s) s else s
  let s := if F.PD_SIGNAL.CABLE_RESET.on v then after (execPdSignalCableReset p s) s else s
  if F.PD_SIGNAL.BIST_CM.on v then after (execPdSignalBistCm p s) s else s

/-- A port block's acting fields. -/
def portAct (p : PortId) (off : Nat) (v : Word) (s : State) : State :=
  if frontOff off && !linkUp s (dieOf p) then s
  else if 0x140 ≤ off && off < 0x180 then
    if off % 8 = 4 then after (execCmpStrWrite p ⟨(off - 0x140) / 8 % 8, Nat.mod_lt _ (by omega)⟩ v s) s else s
  else if 0x200 ≤ off && off < 0x500 then
    if off % 256 = 8 && F.CTX_TXCMD.SEND.on v then
      after (execCtxTxcmdSend p ⟨(off - 0x200) / 256 % 3, Nat.mod_lt _ (by omega)⟩
        ⟨F.CTX_TXCMD.BUF.get v % 2, Nat.mod_lt _ (by omega)⟩ (F.CTX_TXCMD.AMS.on v) s) s
    else s
  else
    match off with
    | 0x100 => after (execCcCtlWrite p v s) s
    | 0x120 => modPort p (writeLatch v) s
    | 0x114 => after (execVconnCtlWrite p v s) s
    | 0x500 => if F.PD_PHYCFG.AMS_END.on v then after (execAmsEnd p s) s else s
    | 0x508 => pdSignal p v s
    | 0x528 => after (execPdTmrstartWrite p v s) s
    | 0x52C => after (execPdTmrstopWrite p v s) s
    | 0x534 => after (execPdRxrelWrite p v s) s
    | 0x600 => pathCtl p v s
    | 0x608 => after (execTargetWrite p (F.PTH_STEEP.TARGET.get v) s) s
    | 0x63C => if F.PTH_RETRY.CLR.on v then after (execPthRetryClrWrite p s) s else s
    | 0x740 => if F.PTH_CCFG.COMMIT.on v then after (execCurveCommit p s) s else s
    | _ => s

/-- CAD_WREQk (06 Table CAD-3); other kinds submit nothing. -/
def cadWreq (p : PortId) (v : Word) (s : State) : State :=
  let volt := F.CAD_WREQ.VOLT.get v
  let pout := F.CAD_WREQ.POUT.get v
  match F.CAD_WREQ.KIND.get v with
  | 0 => after (execReserve p s) s
  | 1 => after (execPrearm p volt pout s) s
  | 2 => after (execCaddyRequest p volt pout s) s
  | 3 => after (execDone p volt pout s) s
  | 4 => after (execWithdraw p s) s
  | _ => s

/-- The clock root's and the restart logic's acting fields. -/
def cruAct (off : Nat) (v : Word) (s : State) : State :=
  match off with
  | 0x20 => after (execCruPllctlWrite v s) s
  | 0x30 => after (execCruDvfsWrite v s) s
  | 0x40 => after (execCruGateWrite v s) s
  | 0x50 => if F.CRU_STBY.ENTER.on v then after (execStandbyEnter s) s else s
  | 0x104 =>
    if F.RST_REQ.KEY.get v = 0x5A3C then
      match F.RST_REQ.KIND.get v with
      | 1 => after (execRstReqWarm s) s
      | 2 => after (execRstReqHitless ⟨F.RST_REQ.SLOT.get v % 2, Nat.mod_lt _ (by omega)⟩ s) s
      | 3 => after (execRstReqCold s) s
      | _ => s
    else s
  | 0x108 => if F.RST_BOOT.RUN.on v then after (execRun s) s else s
  | 0x10C =>
    let s := if F.RST_CNT.CLR_A.on v then after (execRstCntClrA s) s else s
    if F.RST_CNT.CLR_B.on v then after (execRstCntClrB s) s else s
  | _ => s

/-- OTP_CMD with its key (16 R409). -/
def otpCmd (v : Word) (s : State) : State :=
  if F.OTP_CMD.KEY.get v != 0x7A1C then s
  else
    match F.OTP_CMD.OP.get v with
    | 1 => after (execOtpCmdRead s) s
    | 2 => after (execOtpCmdReadHigh s) s
    | 3 => after (execOtpCmdReadLow s) s
    | 4 => after (execOtpCmdProgram s) s
    | 5 => after (execOtpCmdWriteLock s) s
    | 6 => after (execOtpCmdReadLock s) s
    | 7 => after (execOtpCmdScanStart s) s
    | 8 => after (execOtpCmdScanStop s) s
    | _ => s

/-- FLC_CMD (17 R430). -/
def flcCmd (v : Word) (s : State) : State :=
  match F.FLC_CMD.OP.get v with
  | 1 => after (execFlcCmdRead s) s
  | 2 => after (execFlcCmdProgram (F.FLC_CMD.KEY.get v) s) s
  | 3 => after (execFlcCmdErase (F.FLC_CMD.KEY.get v) s) s
  | 4 => after (execFlcCmdReset s) s
  | 5 => after (execFlcCmdStatus s) s
  | _ => s

/-- The state of the lines that a bus check meets: a free value (log entry 1). -/
def freeCheck (s : State) : BusCheck × State :=
  let (n, s) := takeFree Config.freeNat s
  (match n % 3 with
    | 0 => .free
    | 1 => .sdaHeld (n / 3)
    | _ => .sclLow, s)

/-- A controller's acting fields; RECOVER and ABORT end with what the bus then does. -/
def twcAct (b : Fin 2) (off : Nat) (v : Word) (s : State) : State :=
  match off with
  | 0x04 =>
    if F.TWC_XADDR.GO.on v then
      let (check, s) := freeCheck s
      after (execTwcGo b check s) s
    else s
  | 0x0C => after (execTwcTxdWrite b v s) s
  | 0x24 =>
    let s := if F.TWC_CMD.RECOVER.on v then
        let (check, s) := freeCheck s
        after (execTwcCmdRecover b check s) s
      else s
    if F.TWC_CMD.ABORT.on v then
      let (n, s) := takeFree Config.freeNat s
      after (execTwcCmdAbort b (n % 4097) (n / 4097 % 4097) s) s
    else s
  | _ => s

/-- A timer block's common registers and CMP (14 R375). -/
def timerAct (b : TmrBlk) (top off : Nat) (v : Word) (s : State) : State :=
  if off = top then after (execTmrEnset b v s) s
  else if off = top + 4 then after (execTmrEnclr b v s) s
  else if off = top + 12 then after (execTmrRelnow b v s) s
  else if off < top && off % 32 = 12 then after (execTmrCmpWrite b ⟨off / 32 % 16, Nat.mod_lt _ (by omega)⟩ v s) s
  else s

/-- An engine control block's acting fields: SE_CTL and SE_PMDATA for the control pair, SEW_KICK and the caddy window
for the engine (06 R166). -/
def engineAct (own : Bool) (e : EngId) (off : Nat) (v : Word) (s : State) : State :=
  if off = 0 && !own then
    let s := if F.SE_CTL.CLR.on v then after (execSeCtlClr e s) s else s
    after (execSeCtlRun e (F.SE_CTL.RUN.on v) s) s
  else if off = 0x10 && !own then after (execSePmdataWrite e v s) s
  else if off = 0x104 && own then after (execSewKick e s) s
  else if 0x200 ≤ off && off < 0x300 then timerAct (.engine e) 0x80 (off - 0x200) v s
  else if 0x8000 ≤ off && off < 0x8020 && own then
    match servedPort s e ((off - 0x8000) / 4) with
    | some p => cadWreq p v s
    | none => s
  else s

/-- What the fields of a register with a behaviour of their own do. -/
def placeAct (own : Bool) (pl : Place) (v : Word) (s : State) : State :=
  match pl with
  | .port p off => portAct p off v s
  | .engine e off => engineAct own e off v s
  | .block 0 off => cruAct off v s
  | .block 1 0 => otpCmd v s
  | .block 2 0x00 => after (execWdgCtlWrite v s) s
  | .block 2 0x08 => after (execWdgKeyWrite v s) s
  | .block 2 0x110 => eccDay s
  | .block 2 0x18 => after (execWdgChkin ⟨v.toNat % 16, Nat.mod_lt _ (by omega)⟩ s) s
  | .block 3 off => timerAct .control 0x200 off v s
  | .block 5 off => if h : off / 256 < 2 then twcAct ⟨off / 256, h⟩ (off % 256) v s else s
  | .block 9 0x04 => flcCmd v s
  | .block 9 0x20 =>
    if F.FLC_TRIAL.COMMIT.on v && F.FLC_TRIAL.KEY.get v == 0xC3 then after (execFlcTrialCommit s) s else s
  | _ => s

/-- A write of a register by a core. -/
def placeWrite (own : Bool) (pl : Place) (v : Word) (s : State) : State :=
  placeAct own pl v (placePlain own pl v s)

/-! ## The address maps -/

/-- The control pair's map (01 Table ANA-6). The registers of the host link's device side, the service UART, the
SD host, the crypto block and the front dies are not given. -/
def pairPlace (a : Nat) : Place :=
  if a < 0x100000 then .dmem a
  else if a < 0x300000 then .sram a
  else if a < 0x40000000 then .none
  else if a < 0x400E0000 then
    let n := (a - 0x40000000) / 0x10000
    if n = 6 || n = 7 || n = 8 || n = 10 then .notGiven (0x40000000 + 0x10000 * n)
    else .block n (a % 0x10000)
  else if 0x40100000 ≤ a && a < 0x40140000 then .notGiven (a / 0x10000 * 0x10000)
  else if h : 0x40200000 ≤ a ∧ a < 0x40260000 then
    .port ⟨(a - 0x40200000) / 0x1000, by omega⟩ (a % 0x1000)
  else if h : 0x40300000 ≤ a ∧ a < 0x403D0000 then
    .engine ⟨(a - 0x40300000) / 0x10000, by omega⟩ (a % 0x10000)
  else .none

/-- An engine's map (13 Table DWX-11); without a skein its port window holds nothing. -/
def enginePlace (s : State) (e : EngId) (a : Nat) : Place :=
  if a < 0x10000 then .dmem a
  else if 0x100000 ≤ a && a < 0x300000 then .sram a
  else if 0x10000000 ≤ a && a < 0x10008000 then
    match servedPort s e ((a - 0x10000000) / 0x1000) with
    | some p => .port p (a % 0x1000)
    | none => .none
  else if 0x20000000 ≤ a && a < 0x20010000 then .engine e (a - 0x20000000)
  else .none

/-- Where an address of a core's map lies. -/
def placeOf (s : State) (c : CoreId) (a : Nat) : Place :=
  match engineCore c with
  | some e => enginePlace s e a
  | none => pairPlace a

/-- A word known to be uncorrectable, among those a load reads (12 R328). -/
def badWord (s : State) (c : CoreId) (pl : Place) : Option (Nat × Nat) :=
  match pl with
  | .dmem a => if c = 13 then s.diag.bad.find? (· = (1, a / 4 * 4)) else none
  | .sram a => s.diag.bad.find? (· = (2, (a - 0x100000) / 4 * 4))
  | _ => none

/-- A load of 1, 2 or 4 bytes at an aligned address: the value and what the read does (13 R350). -/
def busLoad (c : CoreId) (a n : Nat) (s : State) : Bus (Word × State) :=
  let pl := placeOf s c a
  match pl with
  | .none => .err
  | .notGiven b => if n = 4 then .notGiven b else .err
  | .dmem a => .ok (BitVec.ofNat 32 (leNat (cgetN (0 : Byte) s.cores[c].dmem a n)), s)
  | .sram a => .ok (BitVec.ofNat 32 (leNat (cgetN (0 : Byte) s.sram a n)), s)
  | _ => if n = 4 then .ok (placeRead s pl, readEffect pl s) else .err

/-- A whole word stored gives its place a good codeword again (12 R328). -/
def mended (c : CoreId) (pl : Place) (n : Nat) (s : State) : State :=
  match badWord s c pl with
  | some w => if n = 4 then { s with diag := { s.diag with bad := s.diag.bad.filter (· ≠ w) } } else s
  | none => s

/-- A store of the low 1, 2 or 4 bytes of a word at an aligned address (13 R350). -/
def busStore (c : CoreId) (a n : Nat) (v : Word) (s : State) : Bus State :=
  let pl := placeOf s c a
  let bytes := (wordBytes v).take n
  match pl with
  | .none => .err
  | .notGiven b => if n = 4 then .notGiven b else .err
  | .dmem x => .ok (modCore c (fun k => { k with dmem := cputN (0 : Byte) k.dmem x bytes }) (mended c pl n s))
  | .sram x =>
    let t := mended c pl n s
    .ok { t with sram := cputN (0 : Byte) t.sram x bytes }
  | _ => if n = 4 then .ok (placeWrite (engineCore c).isSome pl v s) else .err

/-- REGISTER_WRITE (00 R7): the fields without behaviour of their own, at an address of the control pair's map. -/
def execRegisterWrite (addr : Nat) (v : Word) (s : State) : Host.Outcome State Fault Refusal :=
  match pairPlace addr with
  | .notGiven b => .refused (.blockNotGiven b)
  | pl => .next (if hwUp s && addr % 4 == 0 then placePlain false pl v s else s)

end Sys2Proof.Machine
end

