-- ==== Sys2Proof/Machine/Flags.lean ====
section
/-! DEFINITION. The compares of the DWX cores and how they write a predicate (13 R349). DWX has no condition
flags: the predicates p1 to p3 are all a compare writes. -/

namespace Sys2Proof.Machine
open Sys2Proof

/-- The relations of the compares. -/
inductive Rel where
  | eq | ne | lt | ge | ltu | geu
  deriving DecidableEq, Repr

/-- A relation of two words: LT and GE signed, LTU and GEU unsigned. -/
def Rel.holds (r : Rel) (x y : Word) : Bool :=
  match r with
  | .eq => x == y
  | .ne => x != y
  | .lt => x.slt y
  | .ge => !x.slt y
  | .ltu => x.ult y
  | .geu => !x.ult y

/-- The predicate after a compare, by MODE (13 R349); MODE 0b11 is illegal. -/
def combine (mode : Fin 4) (old r : Bool) : Option Bool :=
  match mode with
  | 0 => some r
  | 1 => some (old && r)
  | 2 => some (old || r)
  | 3 => none

/-- PGET: bits 3:0 are p3 to p0. -/
def predWord (k : Core) : Word :=
  BitVec.ofNat 32 (1 + (if k.pred 1 then 2 else 0) + (if k.pred 2 then 4 else 0) + (if k.pred 3 then 8 else 0))

/-- PPUT: p1 to p3 from bits 1 to 3. -/
def putPreds (w : Word) (k : Core) : Core :=
  Core.setPred 3 (bitOf w 3) (Core.setPred 2 (bitOf w 2) (Core.setPred 1 (bitOf w 1) k))

end Sys2Proof.Machine
end

