-- ==== Sys2Proof/Machine/Operands.lean ====
section
/-! DEFINITION. The issue of a DWX instruction: its form, its parcels, its guard, its operands and its faults (13
R342 to R347, R356). -/

namespace Sys2Proof.Machine
open Sys2Proof

/-- Parcels an instruction takes (13 R344). -/
def Form.parcels (f : Form) : Nat :=
  match f with
  | .short => 1
  | _ => 2

/-- The form belongs to the encoding the core executes (13 R344). -/
def encodes (k : Core) (f : Form) : Bool := (f != .wide) == k.compact

/-- Parcels of a core's program memory (13 R343). -/
def progSize (c : CoreId) : Nat := if c = 13 then 0xC0000 else 0x10000

/-- The core's program counter moved past the instruction. -/
def advance (c : CoreId) (f : Form) : State → State :=
  modCore c fun k => { k with pc := k.pc + Form.parcels f }

/-- An instruction issues: on a core that executes its encoding. A parcel outside program memory is fault 2; with
a false guard only the program counter moves (13 R342). -/
def issue (c : CoreId) (f : Form) (gd : Fin 8) (body : State → Host.Outcome State Fault Refusal) (s : State) :
    Host.Outcome State Fault Refusal :=
  let k := s.cores[c]
  if !(coreRuns s c && encodes k f) then .next s
  else if progSize c < k.pc + Form.parcels f then .next (faultCore c 2 s)
  else if guardOn k gd then body s
  else .next (advance c f s)

/-- An instruction that writes a register with what it reads from the core's state. -/
def writesReg (c : CoreId) (f : Form) (gd : Fin 8) (d : Fin 16) (v : Core → Word) (s : State) :
    Host.Outcome State Fault Refusal :=
  issue c f gd (fun s => .next (advance c f (modCore c (fun k => Core.setReg d (v k) k) s))) s

/-- An instruction with two register operands. -/
def alu (c : CoreId) (f : Form) (gd : Fin 8) (d s1 t : Fin 16) (op : Word → Word → Word) (s : State) :
    Host.Outcome State Fault Refusal :=
  writesReg c f gd d (fun k => op (k.reg s1) (k.reg t)) s

/-- An instruction with a register and a constant. -/
def aluImm (c : CoreId) (f : Form) (gd : Fin 8) (d s1 : Fin 16) (x : Word) (op : Word → Word → Word) (s : State) :
    Host.Outcome State Fault Refusal :=
  writesReg c f gd d (fun k => op (k.reg s1) x) s

/-- A compare (13 R349); MODE 0b11 is fault 1. -/
def compare (c : CoreId) (f : Form) (gd : Fin 8) (mode pd : Fin 4) (r : Rel) (x y : Core → Word) (s : State) :
    Host.Outcome State Fault Refusal :=
  issue c f gd (fun s =>
    let k := s.cores[c]
    match combine mode (k.pred pd) (r.holds (x k) (y k)) with
    | some b => .next (advance c f (modCore c (Core.setPred pd b) s))
    | none => .next (faultCore c 1 s)) s

/-- The address of a load or store: base plus signed offset, modulo 2^32. -/
def memAddr (k : Core) (b : Fin 16) (off : Int) : Nat := (k.reg b + BitVec.ofInt 32 off).toNat

/-- The word with the low n bytes of `v`, sign-extended when `sx`. -/
def extendTo (n : Nat) (sx : Bool) (v : Word) : Word :=
  match n, sx with
  | 1, true => (v.setWidth 8).signExtend 32
  | 2, true => (v.setWidth 16).signExtend 32
  | _, _ => v

/-- A load of n bytes (13 R350): misaligned fault 3, bus error fault 4, a word known uncorrectable fault 5. -/
def load (c : CoreId) (f : Form) (gd : Fin 8) (d b : Fin 16) (off : Int) (n : Nat) (sx : Bool) (s : State) :
    Host.Outcome State Fault Refusal :=
  issue c f gd (fun s =>
    let a := memAddr s.cores[c] b off
    if a % n ≠ 0 then .next (faultCore c 3 s)
    else match badWord s c (placeOf s c a) with
      | some (m, w) => .next (faultCore c 5 (eccRecord m w s))
      | none =>
        match busLoad c a n s with
        | .ok (v, t) => .next (advance c f (modCore c (Core.setReg d (extendTo n sx v)) t))
        | .err => .next (faultCore c 4 s)
        | .notGiven base => .refused (.blockNotGiven base)) s

/-- A store of the low n bytes of d (13 R350). -/
def store (c : CoreId) (f : Form) (gd : Fin 8) (d b : Fin 16) (off : Int) (n : Nat) (s : State) :
    Host.Outcome State Fault Refusal :=
  issue c f gd (fun s =>
    let a := memAddr s.cores[c] b off
    if a % n ≠ 0 then .next (faultCore c 3 s)
    else match busStore c a n (s.cores[c].reg d) (advance c f s) with
      | .ok t => .next t
      | .err => .next (faultCore c 4 s)
      | .notGiven base => .refused (.blockNotGiven base)) s

/-- A change of the program counter: in the wide encoding an odd target or offset is fault 1 (13 R347). With `link`
the address of the next instruction is written to g15. -/
def jump (c : CoreId) (f : Form) (gd : Fin 8) (link : Bool) (target : Core → Nat) (odd : Core → Bool) (s : State) :
    Host.Outcome State Fault Refusal :=
  issue c f gd (fun s =>
    let k := s.cores[c]
    if f == .wide && odd k then .next (faultCore c 1 s)
    else
      let back := BitVec.ofNat 32 (k.pc + Form.parcels f)
      .next (modCore c (fun k =>
        { (if link then Core.setReg 15 back k else k) with pc := target k }) s)) s

/-- A branch: PC plus a signed offset in parcels. -/
def branch (c : CoreId) (f : Form) (gd : Fin 8) (link : Bool) (off : Int) (s : State) :
    Host.Outcome State Fault Refusal :=
  jump c f gd link (fun k => (BitVec.ofNat 32 k.pc + BitVec.ofInt 32 off).toNat) (fun _ => off % 2 != 0) s

/-- A jump: a register plus a signed offset in parcels. -/
def jumpReg (c : CoreId) (f : Form) (gd : Fin 8) (link : Bool) (r : Fin 16) (off : Int) (s : State) :
    Host.Outcome State Fault Refusal :=
  jump c f gd link (fun k => memAddr k r off) (fun k => memAddr k r off % 2 != 0) s

end Sys2Proof.Machine
end

