-- ==== Sys2Proof/Machine/Dwx.lean ====
section
/-! DEFINITION. The DWX instructions (13_dwx_instruction_set.md Tables DWX-4, DWX-5, DWX-6), each on a core and in a
form of its encoding. -/

namespace Sys2Proof.Machine
open Sys2Proof

/-! ## Arithmetic and logic -/

/-- The high word of a signed product. -/
def mulHigh (x y : Word) : Word := BitVec.ofInt 32 (x.toInt * y.toInt / 4294967296)

/-- The high word of an unsigned product. -/
def mulHighU (x y : Word) : Word := BitVec.ofNat 32 (x.toNat * y.toNat / 4294967296)

/-- A word shifted left, right, or right with its sign. -/
def shl (x : Word) (n : Nat) : Word := x <<< n
def shr (x : Word) (n : Nat) : Word := x >>> n
def sar (x : Word) (n : Nat) : Word := x.sshiftRight n

def execAdd (c : CoreId) (f : Form) (gd : Fin 8) (d s1 t : Fin 16) (s : State) :
    Host.Outcome State Fault Refusal :=
  alu c f gd d s1 t (· + ·) s
def execSub (c : CoreId) (f : Form) (gd : Fin 8) (d s1 t : Fin 16) (s : State) :
    Host.Outcome State Fault Refusal :=
  alu c f gd d s1 t (· - ·) s
def execAnd (c : CoreId) (f : Form) (gd : Fin 8) (d s1 t : Fin 16) (s : State) :
    Host.Outcome State Fault Refusal :=
  alu c f gd d s1 t (· &&& ·) s
def execOr (c : CoreId) (f : Form) (gd : Fin 8) (d s1 t : Fin 16) (s : State) :
    Host.Outcome State Fault Refusal :=
  alu c f gd d s1 t (· ||| ·) s
def execXor (c : CoreId) (f : Form) (gd : Fin 8) (d s1 t : Fin 16) (s : State) :
    Host.Outcome State Fault Refusal :=
  alu c f gd d s1 t (· ^^^ ·) s
def execShl (c : CoreId) (f : Form) (gd : Fin 8) (d s1 t : Fin 16) (s : State) :
    Host.Outcome State Fault Refusal :=
  alu c f gd d s1 t (fun x y => shl x (y.toNat % 32)) s
def execShr (c : CoreId) (f : Form) (gd : Fin 8) (d s1 t : Fin 16) (s : State) :
    Host.Outcome State Fault Refusal :=
  alu c f gd d s1 t (fun x y => shr x (y.toNat % 32)) s
def execSar (c : CoreId) (f : Form) (gd : Fin 8) (d s1 t : Fin 16) (s : State) :
    Host.Outcome State Fault Refusal :=
  alu c f gd d s1 t (fun x y => sar x (y.toNat % 32)) s
def execMul (c : CoreId) (f : Form) (gd : Fin 8) (d s1 t : Fin 16) (s : State) :
    Host.Outcome State Fault Refusal :=
  alu c f gd d s1 t (· * ·) s
def execMulhu (c : CoreId) (f : Form) (gd : Fin 8) (d s1 t : Fin 16) (s : State) :
    Host.Outcome State Fault Refusal :=
  alu c f gd d s1 t mulHighU s
def execMulhs (c : CoreId) (f : Form) (gd : Fin 8) (d s1 t : Fin 16) (s : State) :
    Host.Outcome State Fault Refusal :=
  alu c f gd d s1 t mulHigh s
def execMin (c : CoreId) (f : Form) (gd : Fin 8) (d s1 t : Fin 16) (s : State) :
    Host.Outcome State Fault Refusal :=
  alu c f gd d s1 t (fun x y => if x.slt y then x else y) s
def execMax (c : CoreId) (f : Form) (gd : Fin 8) (d s1 t : Fin 16) (s : State) :
    Host.Outcome State Fault Refusal :=
  alu c f gd d s1 t (fun x y => if x.slt y then y else x) s
def execMinu (c : CoreId) (f : Form) (gd : Fin 8) (d s1 t : Fin 16) (s : State) :
    Host.Outcome State Fault Refusal :=
  alu c f gd d s1 t (fun x y => if x.ult y then x else y) s
def execMaxu (c : CoreId) (f : Form) (gd : Fin 8) (d s1 t : Fin 16) (s : State) :
    Host.Outcome State Fault Refusal :=
  alu c f gd d s1 t (fun x y => if x.ult y then y else x) s

/-! ## Constants -/

def execAddi (c : CoreId) (f : Form) (gd : Fin 8) (d s1 : Fin 16) (imm : Int) (s : State) :
    Host.Outcome State Fault Refusal :=
  aluImm c f gd d s1 (BitVec.ofInt 32 imm) (· + ·) s
def execAndi (c : CoreId) (f : Form) (gd : Fin 8) (d s1 : Fin 16) (imm : Nat) (s : State) :
    Host.Outcome State Fault Refusal :=
  aluImm c f gd d s1 (BitVec.ofNat 32 imm) (· &&& ·) s
def execOri (c : CoreId) (f : Form) (gd : Fin 8) (d s1 : Fin 16) (imm : Nat) (s : State) :
    Host.Outcome State Fault Refusal :=
  aluImm c f gd d s1 (BitVec.ofNat 32 imm) (· ||| ·) s
def execXori (c : CoreId) (f : Form) (gd : Fin 8) (d s1 : Fin 16) (imm : Nat) (s : State) :
    Host.Outcome State Fault Refusal :=
  aluImm c f gd d s1 (BitVec.ofNat 32 imm) (· ^^^ ·) s
def execShli (c : CoreId) (f : Form) (gd : Fin 8) (d s1 : Fin 16) (n : Fin 32) (s : State) :
    Host.Outcome State Fault Refusal :=
  writesReg c f gd d (fun k => shl (k.reg s1) n.val) s
def execShri (c : CoreId) (f : Form) (gd : Fin 8) (d s1 : Fin 16) (n : Fin 32) (s : State) :
    Host.Outcome State Fault Refusal :=
  writesReg c f gd d (fun k => shr (k.reg s1) n.val) s
def execSari (c : CoreId) (f : Form) (gd : Fin 8) (d s1 : Fin 16) (n : Fin 32) (s : State) :
    Host.Outcome State Fault Refusal :=
  writesReg c f gd d (fun k => sar (k.reg s1) n.val) s

/-- MOVL: the constant, zero-extended. -/
def execMovl (c : CoreId) (f : Form) (gd : Fin 8) (d : Fin 16) (imm : BitVec 16) (s : State) :
    Host.Outcome State Fault Refusal :=
  writesReg c f gd d (fun _ => imm.setWidth 32) s

/-- MOVH: bits 31:16; the low half stays. -/
def execMovh (c : CoreId) (f : Form) (gd : Fin 8) (d : Fin 16) (imm : BitVec 16) (s : State) :
    Host.Outcome State Fault Refusal :=
  writesReg c f gd d (fun k => imm ++ (k.reg d).setWidth 16) s

/-! ## Compares -/

def execCeq (c : CoreId) (f : Form) (gd : Fin 8) (mode pd : Fin 4) (s1 t : Fin 16) (s : State) :
    Host.Outcome State Fault Refusal :=
  compare c f gd mode pd .eq (·.reg s1) (·.reg t) s
def execCne (c : CoreId) (f : Form) (gd : Fin 8) (mode pd : Fin 4) (s1 t : Fin 16) (s : State) :
    Host.Outcome State Fault Refusal :=
  compare c f gd mode pd .ne (·.reg s1) (·.reg t) s
def execClt (c : CoreId) (f : Form) (gd : Fin 8) (mode pd : Fin 4) (s1 t : Fin 16) (s : State) :
    Host.Outcome State Fault Refusal :=
  compare c f gd mode pd .lt (·.reg s1) (·.reg t) s
def execCge (c : CoreId) (f : Form) (gd : Fin 8) (mode pd : Fin 4) (s1 t : Fin 16) (s : State) :
    Host.Outcome State Fault Refusal :=
  compare c f gd mode pd .ge (·.reg s1) (·.reg t) s
def execCltu (c : CoreId) (f : Form) (gd : Fin 8) (mode pd : Fin 4) (s1 t : Fin 16) (s : State) :
    Host.Outcome State Fault Refusal :=
  compare c f gd mode pd .ltu (·.reg s1) (·.reg t) s
def execCgeu (c : CoreId) (f : Form) (gd : Fin 8) (mode pd : Fin 4) (s1 t : Fin 16) (s : State) :
    Host.Outcome State Fault Refusal :=
  compare c f gd mode pd .geu (·.reg s1) (·.reg t) s
def execCeqi (c : CoreId) (f : Form) (gd : Fin 8) (mode pd : Fin 4) (s1 : Fin 16) (imm : Int) (s : State) :
    Host.Outcome State Fault Refusal :=
  compare c f gd mode pd .eq (·.reg s1) (fun _ => BitVec.ofInt 32 imm) s
def execCnei (c : CoreId) (f : Form) (gd : Fin 8) (mode pd : Fin 4) (s1 : Fin 16) (imm : Int) (s : State) :
    Host.Outcome State Fault Refusal :=
  compare c f gd mode pd .ne (·.reg s1) (fun _ => BitVec.ofInt 32 imm) s
def execClti (c : CoreId) (f : Form) (gd : Fin 8) (mode pd : Fin 4) (s1 : Fin 16) (imm : Int) (s : State) :
    Host.Outcome State Fault Refusal :=
  compare c f gd mode pd .lt (·.reg s1) (fun _ => BitVec.ofInt 32 imm) s
def execCgei (c : CoreId) (f : Form) (gd : Fin 8) (mode pd : Fin 4) (s1 : Fin 16) (imm : Int) (s : State) :
    Host.Outcome State Fault Refusal :=
  compare c f gd mode pd .ge (·.reg s1) (fun _ => BitVec.ofInt 32 imm) s
def execCltui (c : CoreId) (f : Form) (gd : Fin 8) (mode pd : Fin 4) (s1 : Fin 16) (imm : Int) (s : State) :
    Host.Outcome State Fault Refusal :=
  compare c f gd mode pd .ltu (·.reg s1) (fun _ => BitVec.ofInt 32 imm) s
def execCgeui (c : CoreId) (f : Form) (gd : Fin 8) (mode pd : Fin 4) (s1 : Fin 16) (imm : Int) (s : State) :
    Host.Outcome State Fault Refusal :=
  compare c f gd mode pd .geu (·.reg s1) (fun _ => BitVec.ofInt 32 imm) s

/-! ## Loads and stores -/

def execLdb (c : CoreId) (f : Form) (gd : Fin 8) (d b : Fin 16) (off : Int) (s : State) :
    Host.Outcome State Fault Refusal :=
  load c f gd d b off 1 false s
def execLdbs (c : CoreId) (f : Form) (gd : Fin 8) (d b : Fin 16) (off : Int) (s : State) :
    Host.Outcome State Fault Refusal :=
  load c f gd d b off 1 true s
def execLdh (c : CoreId) (f : Form) (gd : Fin 8) (d b : Fin 16) (off : Int) (s : State) :
    Host.Outcome State Fault Refusal :=
  load c f gd d b off 2 false s
def execLdhs (c : CoreId) (f : Form) (gd : Fin 8) (d b : Fin 16) (off : Int) (s : State) :
    Host.Outcome State Fault Refusal :=
  load c f gd d b off 2 true s
def execLdw (c : CoreId) (f : Form) (gd : Fin 8) (d b : Fin 16) (off : Int) (s : State) :
    Host.Outcome State Fault Refusal :=
  load c f gd d b off 4 false s
def execStb (c : CoreId) (f : Form) (gd : Fin 8) (d b : Fin 16) (off : Int) (s : State) :
    Host.Outcome State Fault Refusal :=
  store c f gd d b off 1 s
def execSth (c : CoreId) (f : Form) (gd : Fin 8) (d b : Fin 16) (off : Int) (s : State) :
    Host.Outcome State Fault Refusal :=
  store c f gd d b off 2 s
def execStw (c : CoreId) (f : Form) (gd : Fin 8) (d b : Fin 16) (off : Int) (s : State) :
    Host.Outcome State Fault Refusal :=
  store c f gd d b off 4 s

/-! ## Branches and jumps -/

def execBr (c : CoreId) (f : Form) (gd : Fin 8) (off : Int) (s : State) :
    Host.Outcome State Fault Refusal :=
  branch c f gd false off s
def execCall (c : CoreId) (f : Form) (gd : Fin 8) (off : Int) (s : State) :
    Host.Outcome State Fault Refusal :=
  branch c f gd true off s
def execJr (c : CoreId) (f : Form) (gd : Fin 8) (r : Fin 16) (off : Int) (s : State) :
    Host.Outcome State Fault Refusal :=
  jumpReg c f gd false r off s
def execCallr (c : CoreId) (f : Form) (gd : Fin 8) (r : Fin 16) (off : Int) (s : State) :
    Host.Outcome State Fault Refusal :=
  jumpReg c f gd true r off s

/-- RET: JR g15, #0. -/
def execRet (c : CoreId) (f : Form) (gd : Fin 8) (s : State) :
    Host.Outcome State Fault Refusal :=
  jumpReg c f gd false 15 0 s

/-! ## Compact register operations -/

def execMov (c : CoreId) (f : Form) (gd : Fin 8) (d s1 : Fin 16) (s : State) :
    Host.Outcome State Fault Refusal :=
  writesReg c f gd d (·.reg s1) s
def execMovi (c : CoreId) (f : Form) (gd : Fin 8) (d : Fin 16) (n : Fin 8) (s : State) :
    Host.Outcome State Fault Refusal :=
  writesReg c f gd d (fun _ => BitVec.ofNat 32 n.val) s
def execNot (c : CoreId) (f : Form) (gd : Fin 8) (d : Fin 16) (s : State) :
    Host.Outcome State Fault Refusal :=
  writesReg c f gd d (fun k => ~~~(k.reg d)) s
def execNeg (c : CoreId) (f : Form) (gd : Fin 8) (d : Fin 16) (s : State) :
    Host.Outcome State Fault Refusal :=
  writesReg c f gd d (fun k => -(k.reg d)) s
def execSextb (c : CoreId) (f : Form) (gd : Fin 8) (d : Fin 16) (s : State) :
    Host.Outcome State Fault Refusal :=
  writesReg c f gd d (fun k => extendTo 1 true (k.reg d)) s
def execSexth (c : CoreId) (f : Form) (gd : Fin 8) (d : Fin 16) (s : State) :
    Host.Outcome State Fault Refusal :=
  writesReg c f gd d (fun k => extendTo 2 true (k.reg d)) s
def execZexth (c : CoreId) (f : Form) (gd : Fin 8) (d : Fin 16) (s : State) :
    Host.Outcome State Fault Refusal :=
  writesReg c f gd d (fun k => ((k.reg d).setWidth 16).setWidth 32) s

/-! ## System functions -/

def execNop (c : CoreId) (f : Form) (gd : Fin 8) (s : State) :
    Host.Outcome State Fault Refusal :=
  issue c f gd (fun s => .next (advance c f s)) s

/-- SKEIN: the skein served; 15 for the control pair. -/
def skeinReg (s : State) (c : CoreId) : Word :=
  match engineCore c with
  | some e => BitVec.ofNat 32 (skeinCode s e)
  | none => 15

/-- A special register as it reads (13 Table DWX-7). -/
def readSr (s : State) (c : CoreId) (sr : Fin 32) : Word :=
  let k := s.cores[c]
  match sr.val with
  | 0 => BitVec.ofNat 32 k.cyc
  | 1 => k.cycHi.getD (highWord k.cyc)
  | 2 => evpend s c
  | 4 => BitVec.ofNat 32 (c.val + if k.compact then 256 else 0)
  | 5 => BitVec.ofNat 32 s.time
  | 6 => k.tbHi.getD (highWord s.time)
  | 7 => skeinReg s c
  | _ => 0

/-- What a read of a special register latches or ends. -/
def srEffect (now : Nat) (sr : Fin 32) (k : Core) : Core :=
  match sr.val with
  | 0 => { k with cycHi := some (highWord k.cyc) }
  | 1 => { k with cycHi := none }
  | 5 => { k with tbHi := some (highWord now) }
  | 6 => { k with tbHi := none }
  | _ => k

def execMfs (c : CoreId) (f : Form) (gd : Fin 8) (d : Fin 16) (sr : Fin 32) (s : State) :
    Host.Outcome State Fault Refusal :=
  issue c f gd (fun s =>
    let v := readSr s c sr
    .next (advance c f (modCore c (fun k => Core.setReg d v (srEffect s.time sr k)) s))) s

/-- MTS: EVCLR clears latched lines; a reserved or read-only number ignores the write (13 R351). -/
def execMts (c : CoreId) (f : Form) (gd : Fin 8) (sr : Fin 32) (r : Fin 16) (s : State) :
    Host.Outcome State Fault Refusal :=
  issue c f gd (fun s =>
    .next (advance c f (modCore c (fun k =>
      if sr.val = 3 then { k with latched := k.latched &&& ~~~(k.reg r) } else k) s))) s

/-- A wait ends (13 R353): the snapshot is written and its latched lines are cleared. -/
def endWaiting (c : CoreId) (d : Fin 16) (snap : Word) (pc : Nat) : State → State :=
  modCore c fun k =>
    let k := Core.setReg d snap k
    { k with latched := k.latched &&& ~~~snap, wait := none, pc := pc }

/-- The cycle counter has reached a deadline. -/
def deadlineMet (k : Core) (deadline : Option Nat) : Bool :=
  match deadline with
  | some t => t ≤ k.cyc
  | none => false

/-- A wait on masked lines, ended at once when its condition holds at issue. -/
def waitOn (c : CoreId) (f : Form) (d : Fin 16) (mask : Word) (deadline : Option Nat) (s : State) : State :=
  let snap := evpend s c &&& mask
  let next := s.cores[c].pc + Form.parcels f
  if snap ≠ 0 || deadlineMet s.cores[c] deadline then endWaiting c d snap next s
  else setCoreState 2 c (modCore c (fun k => { k with wait := some ⟨d, mask, deadline, next⟩ }) s)

def execWfe (c : CoreId) (f : Form) (gd : Fin 8) (d r : Fin 16) (s : State) :
    Host.Outcome State Fault Refusal :=
  issue c f gd (fun s => .next (waitOn c f d (s.cores[c].reg r) none s)) s

/-- The next register of a pair. -/
def pairHigh (r : Fin 16) : Fin 16 := ⟨(r.val + 1) % 16, Nat.mod_lt _ (by omega)⟩

/-- WUNTIL (13 R354): an odd pair is fault 1. -/
def execWuntil (c : CoreId) (f : Form) (gd : Fin 8) (d r : Fin 16) (s : State) :
    Host.Outcome State Fault Refusal :=
  issue c f gd (fun s =>
    let k := s.cores[c]
    if r.val % 2 = 1 then .next (faultCore c 1 s)
    else .next (waitOn c f d (k.reg d)
      (some ((k.reg r).toNat + 4294967296 * (k.reg (pairHigh r)).toNat)) s)) s

/-- A core waits in WFE or WUNTIL and its clock runs. -/
def coreWaits (s : State) (c : CoreId) : Bool :=
  coreState s c == 2 && !s.cru.standby && hwUp s &&
    match engineCore c with
    | some e => bitOf s.cru.regs.gate e.val
    | none => true

/-- The wait a core is in, once its condition holds. -/
def wakes (timed : Bool) (c : CoreId) (s : State) : State :=
  match s.cores[c].wait with
  | some w =>
    let snap := evpend s c &&& w.mask
    if coreWaits s c && w.deadline.isSome == timed && (snap != 0 || deadlineMet s.cores[c] w.deadline) then
      setCoreState 1 c (endWaiting c w.d snap w.next s)
    else s
  | none => s

def execWfeWake (c : CoreId) (s : State) : Host.Outcome State Fault Refusal := .next (wakes false c s)
def execWuntilWake (c : CoreId) (s : State) : Host.Outcome State Fault Refusal := .next (wakes true c s)

/-- A core takes an SEV: a stopped or faulted engine discards it (13 R355). -/
def takesSev (s : State) (c : CoreId) : Bool :=
  match engineCore c with
  | some e => engState s e == 1 || engState s e == 2
  | none => true

/-- SEV: the issuing core's line, 16 to 29, on every core named in bits 13:0. -/
def raiseSev (c : CoreId) (w : Word) (s : State) : State :=
  (List.finRange 14).foldl (fun s x =>
    if bitOf w x.val && takesSev s x then
      modCore x (fun k => { k with latched := setBit (16 + c.val) k.latched }) s
    else s) s

def execSev (c : CoreId) (f : Form) (gd : Fin 8) (r : Fin 16) (s : State) :
    Host.Outcome State Fault Refusal :=
  issue c f gd (fun s => .next (advance c f (raiseSev c (s.cores[c].reg r) s))) s
def execPget (c : CoreId) (f : Form) (gd : Fin 8) (d : Fin 16) (s : State) :
    Host.Outcome State Fault Refusal :=
  writesReg c f gd d predWord s
def execPput (c : CoreId) (f : Form) (gd : Fin 8) (r : Fin 16) (s : State) :
    Host.Outcome State Fault Refusal :=
  issue c f gd (fun s => .next (advance c f (modCore c (fun k => putPreds (k.reg r) k) s))) s

/-- FENCE: every store has reached its target when it is made. -/
def execFence (c : CoreId) (f : Form) (gd : Fin 8) (s : State) :
    Host.Outcome State Fault Refusal :=
  issue c f gd (fun s => .next (advance c f s)) s

end Sys2Proof.Machine
end

