-- ==== Sys2Proof/Machine/TelRing.lean ====
section
/-! DEFINITION. The records of the telemetry ring as a reader finds them: their lengths, and whether an offset lies
on a record boundary (07 R199 to R201, R205). -/

namespace Sys2Proof.Machine
open Sys2Proof

/-- The bits of bytes, the most significant of each byte first. -/
def byteBits (l : List Byte) : List Bool := l.flatMap fun b => (List.range 8).map fun i => b.getLsbD (7 - i)

/-- The number that bits spell, the most significant first. -/
def bitsNat (l : List Bool) : Nat := l.foldl (fun n b => 2 * n + b.toNat) 0

/-- Bits after `n` Rice codes of parameter `r`: each is one bits, a zero bit, and r bits. -/
def skipRice (r n : Nat) (l : List Bool) : List Bool :=
  match n with
  | 0 => l
  | n + 1 => skipRice r n ((l.dropWhile (· == true)).drop (r + 1))

/-- The length of a marker by its subtype (07 Table TEL-7); other subtypes are not written. -/
def markerLen (sub : Nat) : Nat :=
  match sub with
  | 1 => 21
  | 2 => 10
  | _ => 9

/-- The length of the record that begins with the bytes `l`, with `rest` bytes to the ring's end. -/
def recordLen (l : List Byte) (rest : Nat) : Nat :=
  let b := byteBits (l.take 51)
  match bitsNat (b.take 2) with
  | 0 => 51
  | 1 =>
    let nx := bitsNat ((b.drop 66).take 3)
    let left := skipRice (bitsNat ((b.drop 14).take 4)) 32 (b.drop (69 + 5 * nx))
    (b.length - left.length + 7) / 8
  | 2 => markerLen (bitsNat ((b.drop 2).take 3))
  | _ => rest

/-- An offset is reached from another, record by record, no further than TEL_WOFF. -/
def reached (s : State) (t : Nat) : Nat → Nat → Bool
  | 0, o => o == t
  | n + 1, o =>
    o == t || (o != telWoff s &&
      reached s t n ((o + recordLen (winRead s (0x80000 + o) 51) (ringSize - o)) % ringSize))

/-- A read offset that lies on a record boundary, not beyond TEL_WOFF (07 R205). -/
def onRecord (s : State) (t : Nat) : Bool := reached s t 58255 (telRoff s)

end Sys2Proof.Machine
end

