-- ==== Sys2Proof/Machine/Link.lean ====
section
/-! DEFINITION. The host link: its transactions, the host window, the doorbells, event transfers
(08_host_link_and_mailboxes.md R209 to R217, R233 to R238). -/

namespace Sys2Proof.Machine
open Sys2Proof

/-! ## The host window (08 R213 to R215) -/

/-- The doorbells take writes: from mailbox ready on, and in a warm start (08 R214, R228). -/
def doorbellsUp (s : State) : Bool := linkAnswers s && (s.boot.phase == .warm || s.boot.phase == .running)

/-- HID_PROTO: the image's protocol versions. -/
def protoWord (s : State) : Word := BitVec.ofNat 32 (fieldAt s.boot.img 144 4)

/-- A register of the identity block (08 Table HST-3); before READY in a cold start only the ROM's registers; in a
warm start each but READY and STATUS as it was before (08 R214). -/
def idWord (s : State) (off : Nat) : Word :=
  let up := doorbellsUp s
  let k := if s.boot.phase = .warm then s.boot.shown else idShown s
  match off with
  | 0x000 => 0x36394B56
  | 0x004 => F.HID_CLASS.LAYOUT.put 1 (F.HID_CLASS.CLASS.put (shadowWord s 0x110).toNat 0)
  | 0x010 => shadowWord s 0x111
  | 0x014 => shadowWord s 0x112
  | 0x018 => shadowWord s 0x113
  | 0x01C => shadowWord s 0x114
  | 0x020 => if up then k.fwver else 0
  | 0x024 => if up then k.proto else 0
  | 0x028 => if up then s.host.session else 0
  | 0x02C => F.HID_STATE.WARMS.put k.warms (F.HID_STATE.SLOT.put k.slot
      (F.HID_STATE.READY.setTo s.boot.ready (F.HID_STATE.STATUS.put (statusCode s) 0)))
  | 0x030 => if up then BitVec.ofNat 32 s.time else 0
  | 0x034 => if up then s.host.timeHi.getD (highWord s.time) else 0
  | _ => 0

/-- A doorbell register (08 Table HST-4). -/
def dbWord (s : State) (off : Nat) : Word :=
  let d := s.host.db
  match off with
  | 0x1000 => d.cmdTail
  | 0x1004 => d.cmdHead
  | 0x1008 => d.cplTail
  | 0x100C => d.cplHead
  | 0x1010 => d.evtTail
  | 0x1014 => d.evtHead
  | 0x1018 => d.evtLost
  | 0x101C => s.tel.woff
  | 0x1020 => s.tel.roff
  | 0x1024 => BitVec.ofNat 32 (telFree s)
  | 0x1030 => d.vpendlo
  | 0x1034 => d.vpendhi
  | 0x1040 => d.venlo
  | 0x1044 => d.venhi
  | 0x1048 => d.alertcfg
  | 0x104C => d.cplvec
  | _ => 0

/-- A place in the memory part of the window: rings, bulk area, telemetry ring (08 Table HST-2). -/
def windowMem (a : Nat) : Bool :=
  (0x10000 ≤ a && a < 0x18000) || (0x20000 ≤ a && a < 0x24000) || (0x30000 ≤ a && a < 0x100000)

/-- A byte of the window; an address that no region lists reads 0. -/
def hostByte (s : State) (a : Nat) : Byte :=
  if a < 0x1000 then (wordBytes (idWord s (a / 4 * 4))).getD (a % 4) 0
  else if a < 0x1100 then (wordBytes (dbWord s (a / 4 * 4))).getD (a % 4) 0
  else if windowMem a then cget (0 : Byte) s.host.window a
  else 0

/-! ## Doorbell writes (08 R217, R234) -/

/-- The doorbell registers changed. -/
def modDb (f : DbRegs → DbRegs) (s : State) : State := { s with host := { s.host with db := f s.host.db } }

/-- Commands outstanding with `n` new ones (08 R219). -/
def outstanding (s : State) (n : Nat) : Nat :=
  s.host.consumed.length + s.host.waits.length + (unreadTags s).length + n

/-- DB_CMD_TAIL: none where the index is a host error (08 Table HST-13). The doorbell line is raised, and the
entries are consumed while the device serves commands. -/
def writeCmdTail (v : Word) (s : State) : Option State :=
  let t := F.DB_CMD_TAIL.INDEX.get v
  let n := (t + 1024 - cmdHead s) % 1024
  if 512 < n || 512 < outstanding s n then none
  else
    let s1 := modDb (fun d => { d with cmdTail := F.DB_CMD_TAIL.INDEX.put t 0 }) s
    let s1 := if t = cmdTail s then s1 else modCore pairCore (fun k => { k with latched := setBit 0 k.latched }) s1
    some (if hostServed s1 then consumeRing s1 else s1)

/-- DB_CPL_HEAD: moved forward, not beyond the tail. -/
def writeCplHead (v : Word) (s : State) : Option State :=
  let t := F.DB_CPL_HEAD.INDEX.get v
  if (t + 1024 - cplHead s) % 1024 ≤ (cplTail s + 1024 - cplHead s) % 1024 then
    some (modDb (fun d => { d with cplHead := F.DB_CPL_HEAD.INDEX.put t 0 }) s)
  else none

/-- DB_EVT_HEAD: moved forward, not beyond the tail; an overflow ends when 64 entries are free (08 R235). -/
def writeEvtHead (v : Word) (s : State) : Option State :=
  let t := F.DB_EVT_HEAD.INDEX.get v
  if (t + 8192 - evtHead s) % 8192 ≤ evtUsed s then
    some (ringResume (modDb (fun d => { d with evtHead := F.DB_EVT_HEAD.INDEX.put t 0 }) s))
  else none

/-- DB_TEL_ROFF is a write of TEL_ROFF (08 R217); a drop ends at the next frame boundary that finds the space
(07 R204). -/
def writeTelRoff (v : Word) (s : State) : Option State :=
  let t := F.TEL_ROFF.OFFSET.get v
  if onRecord s t then some { s with tel := { s.tel with roff := F.TEL_ROFF.OFFSET.put t s.tel.roff } } else none

/-- DB_VPENDLO or DB_VPENDHI: the vectors written with 1 are no longer pending. -/
def clearVectors (hi : Bool) (v : Word) (s : State) : State :=
  let base := if hi then 32 else 0
  let s := modDb (fun d =>
    if hi then { d with vpendhi := d.vpendhi &&& ~~~v } else { d with vpendlo := d.vpendlo &&& ~~~v }) s
  { s with host := { s.host with
      ripe := s.host.ripe.filter fun i => i < base || base + 32 ≤ i || !bitOf v (i - base) } }

/-- A doorbell word received whole; none where it is a host error. -/
def doorbell (off : Nat) (v : Word) (s : State) : Option State :=
  if !doorbellsUp s then some s
  else
    match off with
    | 0x1000 => writeCmdTail v s
    | 0x100C => writeCplHead v s
    | 0x1014 => writeEvtHead v s
    | 0x1020 => writeTelRoff v s
    | 0x1030 => some (clearVectors false v s)
    | 0x1034 => some (clearVectors true v s)
    | 0x1040 => some (modDb (fun d => { d with venlo := v }) s)
    | 0x1044 => some (modDb (fun d => { d with venhi := v }) s)
    | 0x1048 => some (reripe (modDb (fun d => { d with alertcfg := v }) s))
    | 0x104C => some (modDb (fun d => { d with cplvec := v &&& 0xBF }) s)
    | _ => some s

/-- The doorbells that the host writes. -/
def hostWrites (off : Nat) : Bool :=
  [0x1000, 0x100C, 0x1014, 0x1020, 0x1030, 0x1034, 0x1040, 0x1044, 0x1048, 0x104C].contains off

/-- The next state, or a host error. -/
def orError (o : Option State) : Host.Outcome State Fault Refusal :=
  match o with
  | some s => .next s
  | none => .fault .hostError

def execDbCmdTailWrite (v : Word) (s : State) : Host.Outcome State Fault Refusal := orError (doorbell 0x1000 v s)
def execDbCplHeadWrite (v : Word) (s : State) : Host.Outcome State Fault Refusal := orError (doorbell 0x100C v s)
def execDbEvtHeadWrite (v : Word) (s : State) : Host.Outcome State Fault Refusal := orError (doorbell 0x1014 v s)
def execDbTelRoffWrite (v : Word) (s : State) : Host.Outcome State Fault Refusal := orError (doorbell 0x1020 v s)
def execDbVpendClear (hi : Bool) (v : Word) (s : State) : Host.Outcome State Fault Refusal :=
  orError (doorbell (if hi then 0x1034 else 0x1030) v s)

/-- ALERT_HOLDOFF_EXPIRY (08 R234): a vector has been pending for its hold-off. -/
def execAlertHoldoffExpiry (v : Fin 64) (s : State) : Host.Outcome State Fault Refusal :=
  .next (if vecPending s v.val && !s.host.ripe.contains v.val then
    { s with host := { s.host with ripe := v.val :: s.host.ripe } } else s)

/-! ## Link transactions (08 R209 to R212) -/

/-- A transaction of the link, which ends a RESET_ENABLE. -/
def transaction (f : State → Host.Outcome State Fault Refusal) (s : State) : Host.Outcome State Fault Refusal :=
  if linkAnswers s then f { s with host := { s.host with resetArmed := false } } else .next s

/-- MT_LINK.ERRCNT rises, to 0xFFFF at most. -/
def linkError (s : State) : State := { s with host := { s.host with errcnt := min 65535 (s.host.errcnt + 1) } }

/-- The address of the burst's byte i. -/
def burstAddr (addr i : Nat) : Nat := (addr + i) % 16777216

/-- A burst reaches the word at `w`. -/
def touches (addr n w : Nat) : Bool := 0 < n && (w + 3 + 16777216 - addr % 16777216) % 16777216 < n + 3

/-- The bytes of a READ; those of a range that the device owns are free values (08 R220, Table HST-13). -/
def readBytes (addr len : Nat) (s : State) : List Byte × State :=
  let out := (List.range len).map fun i => hostByte s (burstAddr addr i)
  let owned (i : Nat) : Bool := bulkOwned s (burstAddr addr i)
  if (List.range len).any owned then
    let (l, s) := takeFree Config.freeBytes s
    ((List.range len).map fun i => if owned i then l.getD i 0 else out.getD i 0, s)
  else (out, s)

/-- READ (08 R211, R212): each word is one snapshot; HID_TIMELO latches HID_TIMEHI. -/
def execRead (addr len : Nat) (s : State) : Host.Outcome State Fault Refusal :=
  transaction (fun s =>
    let s := if touches addr len 0x30 then timeLatch s else s
    let (out, s) := readBytes addr len s
    let hi := if touches addr len 0x34 then none else s.host.timeHi
    .next { s with host := { s.host with out := out, timeHi := hi } }) s

/-- A read-only region whose writes are counted (08 R211). -/
def readOnlyArea (a : Nat) : Bool :=
  a < 0x1000 || (0x20000 ≤ a && a < 0x24000) || (0x30000 ≤ a && a < 0x40000) || (0x80000 ≤ a && a < 0x100000)

/-- A command slot that belongs to the device (08 R217). -/
def slotOwned (s : State) (a : Nat) : Bool :=
  0x10000 ≤ a && a < 0x18000 &&
    ((a - 0x10000) / 64 + 512 - cmdHead s % 512) % 512 < (cmdTail s + 1024 - cmdHead s) % 1024

/-- A byte of the window's memory written by the host; in a range that the device owns it becomes a free value (08
R220, Table HST-13). -/
def hostPut (a : Nat) (b : Byte) (s : State) : State :=
  if bulkOwned s a then
    let (l, s) := takeFree Config.freeBytes s
    winWrite a [l.headD 0] s
  else winWrite a [b] s

/-- A byte of a WRITE: the command ring and the bulk area take it; a doorbell word acts at its fourth byte, when
the burst holds all four. None is a host error (08 Table HST-13). -/
def putByte (addr : Nat) (data : List Byte) (i : Nat) (s : State) : Option State :=
  let a := burstAddr addr i
  if 0x1000 ≤ a && a < 0x1100 then
    if !hostWrites (a / 4 * 4) then some s
    else if i < a % 4 || data.length ≤ i + (3 - a % 4) then (if doorbellsUp s then none else some s)
    else if a % 4 = 3 then doorbell (a / 4 * 4) (BitVec.ofNat 32 (leNat ((data.drop (i - 3)).take 4))) s
    else some s
  else if readOnlyArea a then some s
  else if slotOwned s a then none
  else if windowMem a then some (hostPut a (data.getD i 0) s)
  else some s

/-- The bytes of a WRITE, in the order they are sent. -/
def putBytes (addr : Nat) (data : List Byte) (s : State) : Option State :=
  (List.range data.length).foldl (fun o i => o.bind (putByte addr data i)) (some s)

/-- WRITE (08 R211, R212); writes of a read-only region are discarded and counted once. -/
def execWrite (addr : Nat) (data : List Byte) (s : State) : Host.Outcome State Fault Refusal :=
  transaction (fun s =>
    let bad := (List.range data.length).any fun i => readOnlyArea (burstAddr addr i)
    orError (putBytes addr data (if bad then linkError s else s))) s

/-- The status byte (08 R210). -/
def statusByte (s : State) : Byte :=
  BitVec.ofNat 8 ((if s.boot.ready then 128 else 0) + (if s.host.quad then 64 else 0)
    + (if s.host.errcnt = 0 then 0 else 32)
    + (if (List.range 4).any (alertLow s) then 16 else 0) + statusCode s)

def execReadStatus (s : State) : Host.Outcome State Fault Refusal :=
  transaction (fun s => .next { s with host := { s.host with out := [statusByte s] } }) s

/-- ENTER_QUAD and EXIT_QUAD are accepted in the other mode only. -/
def execEnterQuad (s : State) : Host.Outcome State Fault Refusal :=
  transaction (fun s => .next { s with host := { s.host with quad := true } }) s
def execExitQuad (s : State) : Host.Outcome State Fault Refusal :=
  transaction (fun s => .next { s with host := { s.host with quad := false } }) s

/-- RESET_ENABLE, then RESET_LINK as the next transaction. -/
def execResetEnable (s : State) : Host.Outcome State Fault Refusal :=
  transaction (fun s => .next { s with host := { s.host with resetArmed := true } }) s
def execResetLink (s : State) : Host.Outcome State Fault Refusal :=
  let armed := s.host.resetArmed
  transaction (fun s => .next (if armed then linkReset s else s)) s

/-- The instructions of 08 Table HST-1. -/
def linkCodes : List Nat := [0x0B, 0x02, 0x05, 0x38, 0xF5, 0x66, 0x99]

/-- UNKNOWN_LINK_INSTRUCTION (08 R210). -/
def execUnknownLinkInstruction (code : Byte) (s : State) : Host.Outcome State Fault Refusal :=
  transaction (fun s => .next (if linkCodes.contains code.toNat then s else linkError s)) s

/-! ## Event transfers (08 R236 to R238) -/

/-- EVENT_QUEUE_SPACE: the engine moves held events into the queue. -/
def execEventQueueSpace (p : PortId) (s : State) : Host.Outcome State Fault Refusal :=
  .next (if portServed s p then fillQueue p s else s)

/-- The ports of an engine that have a pending transfer, in the engine's round robin. -/
def pendingPorts (s : State) (e : EngId) : List PortId :=
  let from_ := s.host.engNext[e]
  ((List.range 8).filterMap fun i => servedPort s e ((from_ + i) % 8)).filter fun p =>
    !s.ports[p].pol.queue.isEmpty

/-- One transfer of an engine, its round robin moving past the port. -/
def grantOne (e : EngId) (s : State) : State :=
  match pendingPorts s e with
  | [] => s
  | p :: _ => transferOne p { s with host := { s.host with
      engNext := s.host.engNext.set e ((p.val + 1) % 8) } }

/-- The engines from the next of the round on. -/
def engRound (s : State) : List EngId :=
  (List.range 13).map fun i => ⟨(s.host.fabNext + i) % 13, Nat.mod_lt _ (by omega)⟩

/-- The engine of the round after `e`. -/
def setNext (n : Nat) (s : State) : State := { s with host := { s.host with fabNext := n % 13 } }

/-- A deficit counter written. -/
def setDeficit (e : EngId) (d : Nat) (s : State) : State :=
  { s with host := { s.host with deficit := s.host.deficit.set e d } }

/-- The default round (08 R237). -/
def grantRobin (s : State) : State :=
  match (engRound s).find? fun e => !(pendingPorts s e).isEmpty with
  | some e => setNext (e.val + 1) (grantOne e s)
  | none => s

/-- The next grant of the port-weighted mode (08 R238): an engine with a deficit left goes on; else the round
visits engines, an idle one's deficit returning to 0. -/
def grantWeighted (s : State) : State :=
  let visit (s : State) (e : EngId) : State × Bool :=
    let n := (pendingPorts s e).length
    if n = 0 then (setDeficit e 0 s, false)
    else
      let d := if s.host.fabNext = e.val && 1 ≤ s.host.deficit[e] then s.host.deficit[e]
        else s.host.deficit[e] + n
      let s := setDeficit e (d - 1) (grantOne e s)
      (setNext (if 1 ≤ d - 1 && !(pendingPorts s e).isEmpty then e.val else e.val + 1) s, true)
  ((engRound s).foldl (fun (x : State × Bool) e => if x.2 then x else visit x.1 e) (s, false)).1

/-- FABRIC_TRANSFER_GRANT. -/
def execFabricTransferGrant (s : State) : Host.Outcome State Fault Refusal :=
  .next (if cpUp s then (if s.host.weighted then grantWeighted s else grantRobin s) else s)

end Sys2Proof.Machine
end

