-- ==== Sys2Proof/Machine/Loader.lean ====
section
/-! DEFINITION. The ROM service loader (17_image_update.md R427 to R429, 11 R313). The rows name a frame's
content; the response frame is kept whole. -/

namespace Sys2Proof.Machine
open Sys2Proof

/-- Loader data changed. -/
def modLoader (f : Loader → Loader) (s : State) : State := { s with loader := f s.loader }

/-- A response frame (17 R428). -/
def loaderFrame (status : Byte) (payload : List Byte) : List Byte :=
  let body := status :: (bytes2 payload.length ++ payload)
  [0x5A] ++ body ++ wordBytes (crc32c body)

/-- A frame answered. -/
def respond (status : Byte) (payload : List Byte) (s : State) : State :=
  modLoader (fun l => { l with resp := loaderFrame status payload }) s

/-- A valid frame: the divider in use stays (17 Table UPD-7, BAUD). -/
def validFrame (s : State) : State := modLoader (fun l => { l with newRate := false }) s

/-- A frame whose values the spec gives no answer for: the STATUS is a free value. -/
def respondFree (s : State) : State :=
  let (r, s) := freeReason s
  respond r [] s

/-- A loader command, while the loader runs. -/
def loaderCmd (f : State → State) (s : State) : Host.Outcome State Fault Refusal :=
  .next (if s.boot.phase = .loader then f (validFrame s) else s)

/-- A slot command: in DECOMMISSIONED STATUS 0x0E (16 R395); a SLOT that is neither 0 nor 1 has no stated
answer. -/
def slotCmd (f : State → State) (s : State) : State := if lifecycle s = 3 then respond 0x0E [] s else f s

/-- The open update ends. -/
def loaderClose (reason : Nat) (s : State) : State :=
  respond (BitVec.ofNat 8 reason) [] (modLoader (fun l => { l with slot := none }) s)

/-- PING: the loader version is not stated. -/
def loaderPing (s : State) : State :=
  let (v, s) := takeFree Config.freeWord s
  respond 0 (bytes4 0x36394B56 ++ bytes2 ((shadowWord s 0x110).toNat % 65536) ++
    ((List.range 4).flatMap fun i => wordBytes (shadowWord s (0x111 + i))) ++
    [BitVec.ofNat 8 (lifecycle s), BitVec.ofNat 8 (fusedLevel s)] ++ wordBytes s.rst.cnt ++
    wordBytes v) s

def execLoaderPing (s : State) : Host.Outcome State Fault Refusal := loaderCmd loaderPing s

/-- BAUD: the response, then the new rate; a DIV below 4 has no stated result. -/
def loaderBaud (div : Nat) (s : State) : State :=
  if 4 ≤ div ∧ div ≤ 65535 then modLoader (fun l => { l with div := div, newRate := true }) (respond 0 [] s)
  else
    let (n, s) := takeFree Config.freeNat s
    respondFree (modLoader (fun l => { l with div := 4 + n % 65532, newRate := true }) s)

def execLoaderBaud (div : Nat) (s : State) : Host.Outcome State Fault Refusal := loaderCmd (loaderBaud div) s

/-- LOADER_BAUD_REVERT. -/
def execLoaderBaudRevert (s : State) : Host.Outcome State Fault Refusal :=
  .next (if s.boot.phase = .loader && s.loader.newRate then
    modLoader (fun l => { l with div := 104, newRate := false }) s else s)

/-- BEGIN: the header checks, then the header sector erased; an update that is open is restarted. -/
def loaderBegin (slot : Nat) (hdr : List Byte) (s : State) : State :=
  if 1 < slot then respondFree s
  else match headerCheck s hdr with
    | some (_, r) => loaderClose r s
    | none =>
      let s := eraseHeader slot s
      respond 0 (bytes4 (hdrNblk hdr))
        (modLoader (fun l => { l with slot := some slot, hdr := hdr, next := 0 }) s)

def execLoaderBegin (slot : Nat) (hdr : List Byte) (s : State) : Host.Outcome State Fault Refusal :=
  loaderCmd (slotCmd (loaderBegin slot hdr)) s

/-- BLOCK: sequence, CRC, the write and its read-back. -/
def loaderBlock (index : Nat) (b : List Byte) (verified : Bool) (s : State) : State :=
  match s.loader.slot with
  | none => respondFree s
  | some slot =>
    let next (s : State) : List Byte := bytes4 s.loader.next
    if index + 1 = s.loader.next then respond 0 (next s) s
    else if index ≠ s.loader.next ∨ hdrNblk s.loader.hdr ≤ index then respond 0x04 (next s) s
    else if b.length ≠ blockLen s.loader.hdr index ∨ !blockCrcOk b then loaderClose 0x02 s
    else
      let s := writeBlock slot index b s
      let ok := verified && flashRead s (blockAddr slot index) b.length == b
      let s := slotVerify ok s
      if ok then
        let s := modLoader (fun l => { l with next := l.next + 1 }) s
        respond 0 (next s) s
      else loaderClose 0x02 s

def execLoaderBlock (index : Nat) (block : List Byte) (verified : Bool) (s : State) :
    Host.Outcome State Fault Refusal :=
  loaderCmd (slotCmd (loaderBlock index block verified)) s

/-- END: the signature, the header written and read back, the boot table, the failure count. -/
def loaderEnd (verified : Bool) (s : State) : State :=
  match s.loader.slot with
  | none => respondFree s
  | some slot =>
    let hdr := s.loader.hdr
    if s.loader.next ≠ hdrNblk hdr then respondFree s
    else if !signatureOk s slot hdr then loaderClose 0x03 s
    else
      let s := flashProgram (slotBase slot) hdr s
      let ok := verified && slotHeader s slot == hdr
      let s := slotVerify ok s
      if ok then
        let s := changeBootTab (fun t =>
          ({ t with primary := slot, trial := false }).setVer slot (hdrVersion hdr)) s
        let s := modLoader (fun l => { l with slot := none }) (setCfail slot 0 s)
        respond 0 (bytes4 (hdrVersion hdr)) s
      else loaderClose 0x02 s

def execLoaderEnd (verified : Bool) (s : State) : Host.Outcome State Fault Refusal :=
  loaderCmd (slotCmd (loaderEnd verified)) s

/-- ERASE: the whole slot. -/
def loaderErase (slot : Nat) (s : State) : State :=
  if 1 < slot then respondFree s
  else respond 0 [] ((List.range 96).foldl (fun s i => flashErase (slotBase slot + 65536 * i) s) s)

def execLoaderErase (slot : Nat) (s : State) : Host.Outcome State Fault Refusal :=
  loaderCmd (slotCmd (loaderErase slot)) s

/-- READ. -/
def loaderRead (addr count : Nat) (s : State) : State :=
  if 1 ≤ count ∧ count ≤ 4096 ∧ addr + count ≤ 0x1000000 then respond 0 (flashRead s addr count) s
  else respondFree s

def execLoaderRead (addr count : Nat) (s : State) : Host.Outcome State Fault Refusal :=
  loaderCmd (loaderRead addr count) s

/-- RESTART: a cold start as through MT_RECOVER, 1 ms after the response. -/
def loaderRestart (s : State) : State :=
  let s := respond 0 [] s
  { s with boot := { s.boot with due := some (s.time + 1000, .cold 1) } }

def execLoaderRestart (s : State) : Host.Outcome State Fault Refusal := loaderCmd loaderRestart s

/-- LOADER_FRAME_GAP (17 R428): the frame is discarded, with no response. -/
def execLoaderFrameGap (s : State) : Host.Outcome State Fault Refusal := .next s

/-- LOADER_BAD_FRAME (17 R428): a bad CRC, or an unknown CMD in a frame whose CRC is right. -/
def execLoaderBadFrame (unknown : Bool) (s : State) : Host.Outcome State Fault Refusal :=
  .next (if s.boot.phase = .loader then
    if unknown then respond 0xF1 [] (validFrame s) else respond 0xF0 [] s else s)

end Sys2Proof.Machine
end

