-- ==== Sys2Proof/Machine/PowerCmd.lean ====
section
/-! DEFINITION. Host commands of the caddy, the path and the feeds (09 R261 to R264). The control pair carries
out those of the caddy and the feeds, the serving engine those of a path. -/

namespace Sys2Proof.Machine
open Sys2Proof

/-- MASK bit i selects field i (09 R261). -/
def selects (mask i : Nat) : Bool := mask / 2 ^ i % 2 == 1

/-- The bytes of a result field; zeros where the command did not select it. -/
def field (on : Bool) (l : List Byte) : List Byte := if on then l else l.map fun _ => 0

/-- The caddy's registers changed; they act from the next row boundary (09 R262). -/
def modCadRegs (f : CadRegs → CadRegs) (s : State) : State :=
  { s with cad := { s.cad with regs := f s.cad.regs } }

/-! ## Caddy commands -/

/-- CADDY_FEEDS. -/
def feedLimits (mask lima limb limp : Nat) (eff : List Word) (r : CadRegs) : CadRegs :=
  { r with
    lima := if selects mask 0 then BitVec.ofNat 32 lima else r.lima
    limb := if selects mask 1 then BitVec.ofNat 32 limb else r.limb
    limp := if selects mask 2 then BitVec.ofNat 32 limp else r.limp
    eff := if selects mask 3 then Vector.ofFn fun i => (eff.getD i.val 0) &&& 0x3FF03FF else r.eff }

def execCaddyFeeds (h : Hdr) (mask lima limb limp : Nat) (eff : List Word) (s : State) :
    Host.Outcome State Fault Refusal :=
  sysCommand h 0x301 (16 ≤ mask || 0x100000 ≤ lima || 0x100000 ≤ limb || 0x100000 ≤ limp) (fun s =>
    done h 0x301 (bytes4 s.cad.snapB) (modCadRegs (feedLimits mask lima limb limp eff) s)) s

/-- CAD_PCFGp written. -/
def setClass (cls v5 pmin : Nat) (p : PortId) (s : State) : State :=
  modCad p (fun c => { c with
    regs.pcfg := c.regs.pcfg |> F.CAD_PCFG.CLASS.put cls |> F.CAD_PCFG.V5.put v5 |> F.CAD_PCFG.PMIN.put pmin }) s

/-- CADDY_CLASS: one port, or every populated port (09 R245). -/
def caddyClass (h : Hdr) (cls v5 pmin : Nat) (s : State) : State :=
  match portOf h.port with
  | some p =>
    if unpopulated s p then refuse h 0x302 .portState s
    else
      let s := setClass cls v5 pmin p s
      done h 0x302 (wordBytes s.cadp[p].regs.pcfg) s
  | none =>
    done h 0x302 [0, 0, 0, 0] (forPorts (allPorts.filter fun p => !unpopulated s p) (setClass cls v5 pmin) s)

def execCaddyClass (h : Hdr) (cls v5 pmin : Nat) (s : State) : Host.Outcome State Fault Refusal :=
  command h 0x302 h.fence false ((96 ≤ h.port && h.port != 255) || 4 ≤ cls || 4 ≤ v5 || 256 ≤ pmin)
    (caddyClass h cls v5 pmin) s

/-- CADDY_STATUS: with a bulk range it waits for the row boundary whose ledger is copied (09 R262). -/
def caddyStatus (h : Hdr) (boff : Nat) (s : State) : State :=
  if boff = 0xFFFFFFFF then done h 0x303 (ledgerResult h.port s) s
  else addWait h 0x303 (.ledger boff) s

def execCaddyStatus (h : Hdr) (boff : Nat) (s : State) : Host.Outcome State Fault Refusal :=
  command h 0x303 h.fence false ((96 ≤ h.port && h.port != 255) || !bulkOpt boff 1216) (caddyStatus h boff) s

/-- CADDY_ROW. -/
def execCaddyRow (h : Hdr) (rowcfg : Word) (s : State) : Host.Outcome State Fault Refusal :=
  sysCommand h 0x304 (rowcfg &&& ~~~0x3F033F != 0) (fun s =>
    let s := modCadRegs (fun r => { r with rowcfg := rowcfg }) s
    done h 0x304 (wordBytes s.cad.regs.rowcfg) s) s

/-- CADDY_SHED. -/
def shedWrite (mask : Nat) (shed : Word) (poolsz hold : Nat) (r : CadRegs) : CadRegs :=
  { r with
    shed := if selects mask 0 then shed else r.shed
    pool := if selects mask 1 then F.CAD_POOL.POOLSZ.put poolsz r.pool else r.pool
    ctl := if selects mask 2 then F.CAD_CTL.HOLD.put hold r.ctl else r.ctl }

def caddyShed (h : Hdr) (mask : Nat) (shed : Word) (poolsz hold : Nat) (s : State) : State :=
  let s := modCadRegs (shedWrite mask shed poolsz hold) s
  done h 0x305 ([0, 0, 0, 0] ++ field (selects mask 0) (wordBytes s.cad.regs.shed) ++
    field (selects mask 1) (bytes2 (F.CAD_POOL.POOLSZ.get s.cad.regs.pool)) ++
    field (selects mask 2) [BitVec.ofNat 8 (F.CAD_CTL.HOLD.get s.cad.regs.ctl)]) s

def execCaddyShed (h : Hdr) (mask : Nat) (shed : Word) (poolsz hold : Nat) (s : State) :
    Host.Outcome State Fault Refusal :=
  sysCommand h 0x305 (8 ≤ mask || shed &&& ~~~0xFF00FF != 0 || 65536 ≤ poolsz || 256 ≤ hold)
    (caddyShed h mask shed poolsz hold) s

/-! ## Feed command -/

/-- The registers that FEED_PRIORITY writes; a FED_PPORT that names no bidirectional port is ignored. -/
def feedWrite (s : State) (mask : Nat) (ctl wina winb winp : Word) (pport : Nat) (r : FeedRegs) : FeedRegs :=
  { r with
    ctl := if selects mask 0 then ctl &&& 0x80FFFF3F else r.ctl
    wina := if selects mask 1 then wina &&& 0x3FF03FF else r.wina
    winb := if selects mask 2 then winb &&& 0x3FF03FF else r.winb
    winp := if selects mask 3 then winp &&& 0x3FF03FF else r.winp
    pport := if selects mask 4 then acceptPport s (BitVec.ofNat 32 pport) r.pport else r.pport }

/-- FEED_PRIORITY acts on the feed logic at once (09 R262). -/
def feedPriority (h : Hdr) (mask : Nat) (ctl wina winb winp : Word) (pport : Nat) (s : State) : State :=
  let s := evalFeeds (modFed (feedWrite s mask ctl wina winb winp pport) s)
  done h 0x404 (wordBytes s.feeds.regs.stat ++ (wordBytes s.feeds.regs.pport).take 1) s

def execFeedPriority (h : Hdr) (mask : Nat) (ctl wina winb winp : Word) (pport : Nat) (s : State) :
    Host.Outcome State Fault Refusal :=
  sysCommand h 0x404 (32 ≤ mask || 256 ≤ pport) (feedPriority h mask ctl wina winb winp pport) s

/-! ## Path commands -/

/-- A port that is populated and not FENCED (09 R246). -/
def notFenced (q : Port) : Bool := q.st != .fenced

/-- The points, their number and COOL written; an NPTS that the field does not hold acts as its highest. -/
def writeCurve (npts cool : Nat) (pts : List Word) (q : Port) : Port :=
  { q with
    cur.cpt := Vector.ofFn fun i =>
      if i.val < npts then (pts.getD i.val 0) &&& 0x3FFFFFF else q.cur.cpt[i]
    cur.ccfg := F.PTH_CCFG.NPTS.cap npts (F.PTH_CCFG.COOL.put cool q.cur.ccfg) }

/-- PATH_CURVE (09 R264): ACCEPT, FAIL, ACTIVE. -/
def pathCurve (h : Hdr) (npts cool : Nat) (pts : List Word) (p : PortId) (s : State) : State :=
  let s := modFront p (fun q => commitCurve (writeCurve npts cool pts q)) s
  let q := s.ports[p]
  let f := curveFault q
  done h 0x401 [if f = 0 then 1 else 0, BitVec.ofNat 8 f, BitVec.ofNat 8 (F.PTH_CSTAT.ACTIVE.get q.cur.cstat)] s

def execPathCurve (h : Hdr) (npts cool : Nat) (pts : List Word) (s : State) : Host.Outcome State Fault Refusal :=
  portCommand h 0x401 (256 ≤ npts || 256 ≤ cool) (applies h 0x401 notFenced (pathCurve h npts cool pts)) s

/-- The current the breaker's rating rests on: the contract's, else the reservation level's (09 R263). -/
def ratedCurr (q : Port) : Nat :=
  match q.pol.contract with
  | some k => k.curr
  | none => levelCurr q.pol.level

/-- A field of PATH_LIMITS written; a value that the field does not hold acts as the nearest it holds. -/
def limitField (i v : Nat) (q : Port) : Port :=
  match i with
  | 0 => { q with pol.rpct := clampNat 100 150 v }
  | 1 => { q with pth.inrush := F.PTH_INRUSH.ILIM.cap v q.pth.inrush }
  | 2 => { q with pth.fast := F.PTH_FAST.FT_THR.cap v q.pth.fast }
  | 3 => { q with pth.ov := F.PTH_OV.OV_PCT.cap v q.pth.ov }
  | 4 => { q with pth.ov := F.PTH_OV.OV_ABS.cap v q.pth.ov }
  | 5 => { q with pth.ov := F.PTH_OV.CVOV_PCT.cap v q.pth.ov }
  | 6 => { q with pth.rev := F.PTH_REV.REV_THR.cap v q.pth.rev }
  | 7 => { q with pth.steep := F.PTH_STEEP.RATE.cap v q.pth.steep }
  | 8 => { q with pth.retry := F.PTH_RETRY.MAX.cap v q.pth.retry }
  | 9 => { q with pth.dis := F.PTH_DIS.DIS_I.cap v q.pth.dis }
  | 10 => { q with pth.dis := F.PTH_DIS.DIS_TMO.cap v q.pth.dis }
  | 11 => { q with pth.cnv := F.PTH_CNV.CV_TMO.cap v q.pth.cnv }
  | 12 => { q with pth.sense := F.PTH_SENSE.SHUNT.cap v q.pth.sense }
  | 13 => { q with pth.fbcal := F.PTH_FBCAL.FB_OFS.put v q.pth.fbcal }
  | 14 => { q with pth.fbcal := F.PTH_FBCAL.FB_GAIN.put v q.pth.fbcal }
  | _ => { q with pth.ctl := F.PTH_CTL.TRIM_EN.setTo (v != 0) q.pth.ctl }

/-- The selected fields written, and RATING with the RPCT in force (09 R263, 01 R15). -/
def writeLimits (mask : Nat) (f : List Nat) (q : Port) : Port :=
  let q := (List.range 16).foldl (fun q i => if selects mask i then limitField i (f.getD i 0) q else q) q
  if selects mask 0 && q.attached then setRating (ratedCurr q) q else q

/-- Fields 0 to 12 as now in force, from result byte 0. -/
def limitsResult (q : Port) : List Byte :=
  let p := q.pth
  ([q.pol.rpct, F.PTH_INRUSH.ILIM.get p.inrush, F.PTH_FAST.FT_THR.get p.fast, F.PTH_OV.OV_PCT.get p.ov,
    F.PTH_OV.OV_ABS.get p.ov, F.PTH_OV.CVOV_PCT.get p.ov, F.PTH_REV.REV_THR.get p.rev,
    F.PTH_STEEP.RATE.get p.steep, F.PTH_RETRY.MAX.get p.retry, F.PTH_DIS.DIS_I.get p.dis,
    F.PTH_DIS.DIS_TMO.get p.dis, F.PTH_CNV.CV_TMO.get p.cnv].map (BitVec.ofNat 8)) ++
    bytes2 (F.PTH_SENSE.SHUNT.get p.sense)

/-- PATH_LIMITS: the calibration fields only on a PARKED port (09 R263). -/
def pathLimits (h : Hdr) (mask : Nat) (f : List Nat) (p : PortId) (s : State) : State :=
  if (selects mask 12 || selects mask 13 || selects mask 14) && s.ports[p].st != .parked then
    refuse h 0x402 .portState s
  else
    let s := modFront p (writeLimits mask f) s
    done h 0x402 (limitsResult s.ports[p]) s

def execPathLimits (h : Hdr) (mask : Nat) (f : List Nat) (s : State) : Host.Outcome State Fault Refusal :=
  portCommand h 0x402 (65536 ≤ mask || f.any (65536 ≤ ·))
    (applies h 0x402 notFenced (pathLimits h mask f)) s

/-- PATH_STATUS's result; an unpopulated port shows the reset values of its registers (09 R245). -/
def pathStatusResult (s : State) (p : PortId) : List Byte :=
  let q := if unpopulated s p then Port.reset else s.ports[p]
  let s' := { s with ports := s.ports.set p q }
  let rd (off n : Nat) : List Byte := (wordBytes (portRead s' p off)).take n
  rd 0x604 2 ++ rd 0x63C 4 ++ rd 0x640 4 ++ rd 0x648 2 ++ bytes2 (F.PTH_CEIL.CEIL.get q.pth.ceil) ++
    bytes2 (F.PTH_RATING.CAD_LIM.get q.pth.rating)

/-- PATH_STATUS: CLEAR clears the CAUSES bits after the read. -/
def pathStatus (h : Hdr) (clear : Bool) (p : PortId) (s : State) : State :=
  let result := pathStatusResult s p
  let s := if clear then modFront p (fun q => { q with pth.evt := F.PTH_EVT.CAUSES.clr q.pth.evt }) s else s
  done h 0x403 result s

def execPathStatus (h : Hdr) (clear : Bool) (s : State) : Host.Outcome State Fault Refusal :=
  portCommand h 0x403 false (pathStatus h clear) s

end Sys2Proof.Machine
end

