-- ==== Sys2Proof/Machine/PortCmd.lean ====
section
/-! DEFINITION. Host commands of a port and of its PD messages (09 R248 to R260). -/

namespace Sys2Proof.Machine
open Sys2Proof

/-! ## PORT_CONFIG (09 R249) -/

/-- Waiting configuration with a command's fields added; `later` false: those fields no longer wait. -/
def mergeLater (mask : Nat) (f : List Byte) (later : Bool) (old : Option (Nat × List Byte)) :
    Option (Nat × List Byte) :=
  let o := old.getD (0, [])
  let bits := (List.range 13).filter fun i => if later then selects o.1 i || selects mask i
    else selects o.1 i && !selects mask i
  if bits.isEmpty then none
  else some ((bits.map (2 ^ ·)).sum,
    (List.range 13).map fun i => if later && selects mask i then f.getD i 0 else o.2.getD i 0)

/-- The port takes its configuration at once: PARKED or DETACHED. -/
def Port.takesConfig (q : Port) : Bool := q.st == .parked || q.st == .detached

/-- The fields as now in force, in the payload layout from ROLE on. -/
def configBytes (q : Port) : List Byte :=
  let l := q.pol
  let bit (b : Bool) (n : Nat) : Nat := if b then 2 ^ n else 0
  [F.PRT_CFG.ROLE.get q.core.cfg, F.PRT_CFG.TRY.get q.core.cfg,
    bit (F.PRT_CFG.DBGACC_EN.on q.core.cfg) 0 + bit l.drSwapOk 1 + bit l.prSwapOk 2 + bit l.vconnSwapOk 3 +
      bit (F.CTX_CTL.KA_ACK.on q.ctx[0].ctl) 4 + bit l.advUnchunk 5,
    F.VCONN_CTL.VCONN_RES.get q.cc.vctl,
    64 * F.CC_TICK.DET_CLASS.get q.cc.tick + F.CC_TICK.SMP_TICK.get q.cc.tick,
    F.CC_DEB.ATT_DEB.get q.cc.deb, F.CC_DEB.PDDEB.get q.cc.deb, F.CC_DEB.TDETACH.get q.cc.deb,
    F.CC_DRP.TDRP.get q.cc.drp, F.CC_DRP.DUTY.get q.cc.drp, F.CC_DRP.TDRPTRY.get q.cc.drp,
    F.CC_DRP.TTRYDEB.get q.cc.drp, F.CC_CTL.HW_DRP.get q.cc.ctl].map (BitVec.ofNat 8)

/-- The fields written: the flags that act at once, then the rest at once or at the next entry into
DETACHED. -/
def takeConfig (mask : Nat) (f : List Byte) (q : Port) : Port :=
  let now := q.takesConfig
  let q := applyFlags mask f q
  let q := if now then applyConfig mask f (fun _ => true) q else q
  { q with pol := { q.pol with cfgLater := mergeLater mask f (!now) q.pol.cfgLater } }

def portConfig (h : Hdr) (mask : Nat) (f : List Byte) (p : PortId) (s : State) : State :=
  if (selects mask 0 || selects mask 1 || selects mask 12) && s.ports[p].st != .parked then
    refuse h 0x101 .portState s
  else
    let s := modFront p (takeConfig mask f) s
    done h 0x101 (configBytes s.ports[p]) s

/-- PORT_CONFIG. -/
def execPortConfig (h : Hdr) (mask : Nat) (f : List Byte) (s : State) : Host.Outcome State Fault Refusal :=
  portCommand h 0x101 (8192 ≤ mask || 64 ≤ (f.getD 2 0).toNat || 2 ≤ (f.getD 12 0).toNat)
    (applies h 0x101 notFenced (portConfig h mask f)) s

/-! ## PORT_ENABLE and PORT_DISABLE (09 R250, 03 R65, 05 R152) -/

/-- STATE and KEPT. -/
def enableDone (h : Hdr) (opc : Nat) (kept : Bool) (p : PortId) (s : State) : State :=
  done h opc [BitVec.ofNat 8 (s.ports[p]).st.code, if kept then 1 else 0] s

/-- A PORT_DISABLE that waits in TRIPPED or RETRY_WAIT is cancelled (05 R152). -/
def cancelDisable (p : PortId) (s : State) : State :=
  completeAll (fun w => w.port == p.val && w.kind == .parked) .cancelled s

def portEnable (h : Hdr) (p : PortId) (s : State) : State :=
  let s := modPol p (fun l => { l with enabled := true }) s
  match s.ports[p].st with
  | .parked => enableDone h 0x102 false p (enablePort p s)
  | .bindingOff => enableDone h 0x102 true p (modPol p (fun l => { l with kept := some true }) s)
  | .tripped | .retryWait =>
    enableDone h 0x102 false p (modPol p (fun l => { l with parkWait := false }) (cancelDisable p s))
  | _ => enableDone h 0x102 false p s

/-- PORT_ENABLE. -/
def execPortEnable (h : Hdr) (s : State) : Host.Outcome State Fault Refusal :=
  portCommand h 0x102 false (applies h 0x102 notFenced (portEnable h)) s

def portDisable (h : Hdr) (p : PortId) (s : State) : State :=
  let s := modPol p (fun l => { l with enabled := false }) s
  match s.ports[p].st with
  | .detached | .attachWait => enableDone h 0x103 false p (enterParked p s)
  | .castingOn | .contracted =>
    modPol p (fun l => { l with kept := some false }) (bindOff p 1 4 (addWait h 0x103 .parked s))
  | .bindingOff => enableDone h 0x103 true p (modPol p (fun l => { l with kept := some false }) s)
  | .tripped | .retryWait =>
    if s.ports[p].strained 4 then
      modPol p (fun l => { l with parkWait := true }) (addWait h 0x103 .parked s)
    else enableDone h 0x103 false p (enterParked p (postDetach p 1 .parked s))
  | .parked | .fenced => enableDone h 0x103 false p s

/-- PORT_DISABLE. -/
def execPortDisable (h : Hdr) (s : State) : Host.Outcome State Fault Refusal :=
  portCommand h 0x103 false (applies h 0x103 notFenced (portDisable h)) s

/-! ## PORT_STATUS (09 R251) -/

/-- Page 0, state; the front die's registers read 0 with the stitch link down (01 R32). -/
def statePage (s : State) (p : PortId) (q : Port) : List Byte :=
  let up := linkUp s (dieOf p)
  let front (n : Nat) : Nat := if up then n else 0
  let bit (b : Bool) (n : Nat) : Nat := if b then 2 ^ n else 0
  let flags := q.orient + bit (F.PRT_STATE.NOPD.on q.core.state) 2 + bit (F.PRT_STATE.DEBUG.on q.core.state) 3 +
    bit (F.PD_PHYCFG.EPR.on q.pd.phycfg) 4 + bit q.vconnOn 5 + bit q.isSource 6 + bit q.isDfp 7
  let k := q.pol.contract
  let num (f : Contract → Nat) : Nat := (k.map f).getD 0
  let code (w : Word) : List Byte := bytes2 (front (w.toNat % 4096))
  [BitVec.ofNat 8 q.st.code, BitVec.ofNat 8 q.tc, BitVec.ofNat 8 flags, BitVec.ofNat 8 (num Contract.pos)] ++
    bytes2 (num Contract.volt) ++ bytes2 (num Contract.curr) ++ bytes2 (s.cadp[p]).hold ++
    [BitVec.ofNat 8 (front (F.PTH_STAT.CAUSE.get q.pth.stat)),
      BitVec.ofNat 8 (front (q.retryCount + bit q.retryExh 3))] ++ code q.tel.pvbus ++ code q.tel.pibus

/-- Page 1, identity. -/
def identityPage (q : Port) : List Byte :=
  let (vid, pid, bcd) := q.pol.ident.getD (0, 0, 0)
  let c := q.pol.cable.getD ⟨0, 0, false, false⟩
  bytes2 vid ++ bytes2 pid ++ bytes2 bcd ++
    [F.PD_REV.PARTNER.get q.pd.rev, F.PD_REV.CABLE.get q.pd.rev, c.curr, c.volt,
      (if c.epr then 1 else 0) + (if c.discovered then 2 else 0) +
        (if F.PRT_CAPT.CABLED.on q.core.capt then 4 else 0),
      if idrecValid q then 1 else 0].map (BitVec.ofNat 8)

/-- The kept VDM of a number. -/
def keptVdm (q : Port) (n : Nat) : Option KeptVdm := q.pol.vdms.find? fun v => v.num == n

/-- Page 2, a received VDM: NOBJ, VDMNUM, SOPT, the header and two VDOs. -/
def vdmPage (q : Port) (n : Nat) : List Byte :=
  match keptVdm q n with
  | some v => [BitVec.ofNat 8 v.objs.length, BitVec.ofNat 8 n, BitVec.ofNat 8 v.ctx.val, 0] ++
      (v.objs.take 3).flatMap wordBytes
  | none => [0, BitVec.ofNat 8 n]

/-- The 32 bytes of a kept VDM at BOFF. -/
def vdmToBulk (q : Port) (n boff : Nat) (s : State) : State :=
  match keptVdm q n with
  | some v => bulkWrite boff (padTo 32 ([BitVec.ofNat 8 v.objs.length, BitVec.ofNat 8 v.ctx.val, 0, 0] ++
      v.objs.flatMap wordBytes)) s
  | none => s

/-- An unpopulated port is reported with its reset values (09 R245). -/
def portStatus (h : Hdr) (page vdmnum boff : Nat) (p : PortId) (s : State) : State :=
  let q := if unpopulated s p then Port.reset else s.ports[p]
  match page with
  | 0 => done h 0x104 (statePage s p q) s
  | 1 => done h 0x104 (identityPage q) s
  | _ => done h 0x104 (vdmPage q vdmnum) (vdmToBulk q vdmnum boff s)

/-- PORT_STATUS: other pages are host errors. -/
def execPortStatus (h : Hdr) (page sopt vdmnum boff : Nat) (s : State) : Host.Outcome State Fault Refusal :=
  portCommand h 0x104 (3 ≤ page || 3 ≤ sopt || 256 ≤ vdmnum || (page == 2 && !bulkOpt boff 32))
    (portStatus h page vdmnum boff) s

/-! ## PORT_SWAP (09 R252, 04 R115) -/

/-- A PR_Swap needs a bidirectional port; to become VCONN source, VCONN admission must pass
(04 Table PDE-6). -/
def swapAllowed (s : State) (p : PortId) (kind : Nat) : Bool :=
  match kind with
  | 0 => bidirectional s p
  | 1 => true
  | _ => s.ports[p].vconnOn || vconnAdmit s p

def portSwap (h : Hdr) (kind : Nat) (p : PortId) (s : State) : State :=
  if swapAllowed s p kind then policyNext p (addWait h 0x105 (.swap kind) s)
  else refuse h 0x105 .portState s

/-- PORT_SWAP. -/
def execPortSwap (h : Hdr) (kind : Nat) (s : State) : Host.Outcome State Fault Refusal :=
  portCommand h 0x105 (3 ≤ kind) (applies h 0x105 Port.attached (portSwap h kind)) s

/-! ## PORT_CAPS (09 R253, 04 Table PDE-5) -/

/-- An SPR object of a kind in 04 Table PDE-5. -/
def sprObjectOk (o : Word) : Bool :=
  let k := bitsAt o 30 2
  (k == 0 && [250, 450, 750, 1000].contains (pdoVmin o) && pdoCurr o ≤ 500) ||
    (k == 3 && bitsAt o 28 2 == 0 && 165 ≤ pdoVmin o && pdoVmin o ≤ pdoVmax o && pdoVmax o ≤ 1050 &&
      pdoCurr o ≤ 500)

/-- An EPR object of a kind in 04 Table PDE-5. -/
def eprObjectOk (o : Word) : Bool :=
  let k := bitsAt o 30 2
  (k == 0 && [1400, 1800, 2400].contains (pdoVmin o) && pdoCurr o ≤ 500) ||
    (k == 3 && bitsAt o 28 2 == 1 && 750 ≤ pdoVmin o && pdoVmin o ≤ pdoVmax o && pdoVmax o ≤ 2400 &&
      bitsAt o 0 8 ≤ 240)

/-- The objects of a PORT_CAPS are as 09 R253 asks; the first is vSafe5V. -/
def capsOk (spr epr : List Word) : Bool :=
  1 ≤ spr.length && spr.length ≤ 7 && epr.length ≤ 4 && spr.all sprObjectOk && epr.all eprObjectOk &&
    (spr.head?.map fun o => bitsAt o 30 2 == 0 && pdoVmin o == 250).getD false

/-- Objects offered after the limits of 04 R104. -/
def offered (s : State) (p : PortId) : Nat :=
  ((sprOffers s p).take 7).length +
    if F.PD_PHYCFG.EPR.on s.ports[p].pd.phycfg then (eprOffers s p).length else 0

def portCaps (h : Hdr) (spr epr : List Word) (apply : Bool) (p : PortId) (s : State) : State :=
  let s := modPol p (fun l => { l with caps := spr, eprCaps := epr }) s
  if apply && s.ports[p].st == .contracted && s.ports[p].isSource then
    reoffer p (addWait h 0x106 .caps s)
  else done h 0x106 [BitVec.ofNat 8 (offered s p)] s

/-- PORT_CAPS. -/
def execPortCaps (h : Hdr) (spr epr : List Word) (apply : Bool) (s : State) : Host.Outcome State Fault Refusal :=
  portCommand h 0x106 (!capsOk spr epr) (applies h 0x106 notFenced (portCaps h spr epr apply)) s

/-! ## PORT_HARD_RESET, PORT_CLEAR_RETRY, PORT_CAPTIVE (09 R254 to R256) -/

/-- The engine writes PD_SIGNAL.CABLE_RESET. -/
def askCableReset (p : PortId) (s : State) : State := modPort p (fun q => { q with phw.crWait := true }) s

def portHardReset (h : Hdr) (kind : Nat) (p : PortId) (s : State) : State :=
  if kind = 0 then signalHardReset p (addWait h 0x107 .hardReset s)
  else if s.ports[p].vconnOn && s.ports[p].isDfp then askCableReset p (addWait h 0x107 .hardReset s)
  else refuse h 0x107 .portState s

/-- PORT_HARD_RESET. -/
def execPortHardReset (h : Hdr) (kind : Nat) (s : State) : Host.Outcome State Fault Refusal :=
  portCommand h 0x107 (2 ≤ kind) (applies h 0x107 Port.attached (portHardReset h kind)) s

/-- The interval ends at once, with DUE set. -/
def dueNow (q : Port) : Port :=
  { q with
    hw.retryEnd := none
    pth.retry := F.PTH_RETRY.DUE.set q.pth.retry, pth.evt := F.PTH_EVT.RETRY_DUE.set q.pth.evt }

def portClearRetry (h : Hdr) (p : PortId) (s : State) : State :=
  let q := s.ports[p]
  let s := retryClrWrite p s
  let s := match q.st with
    | .retryWait => retryCast p (modPort p dueNow s)
    | .tripped => if q.strained 4 then s else retryCast p (modPort p (fun q => dueNow (q.setSt .retryWait)) s)
    | _ => s
  done h 0x108 [BitVec.ofNat 8 q.retryCount, if q.retryExh then 1 else 0] s

/-- PORT_CLEAR_RETRY. -/
def execPortClearRetry (h : Hdr) (s : State) : Host.Outcome State Fault Refusal :=
  portCommand h 0x108 false (applies h 0x108 notFenced (portClearRetry h)) s

/-- PRT_CAPT as it reads: CAPT_EN shows 1 while FORCED. -/
def captShown (q : Port) : Word :=
  if F.PRT_CAPT.FORCED.on q.core.capt then F.PRT_CAPT.CAPT_EN.set q.core.capt else q.core.capt

def portCaptive (h : Hdr) (en prearm : Bool) (deb : Nat) (clear : Bool) (p : PortId) (s : State) : State :=
  if roleOf s p ≠ 0 then refuse h 0x109 .portState s
  else if F.PRT_CAPT.FORCED.on s.ports[p].core.capt && !en then refuse h 0x109 .locked s
  else
    let s := modPort p (fun q =>
      let w := q.core.capt |> F.PRT_CAPT.CAPT_EN.setTo en |> F.PRT_CAPT.PREARM_EN.setTo prearm
        |> F.PRT_CAPT.CAPT_DEB.put deb
      let q := if clear then { q with core.idrec := Vector.replicate 8 0 } else q
      if q.takesConfig then { q with core.capt := w, pol.captLater := none }
      else { q with pol.captLater := some w }) s
    done h 0x109 (wordBytes (captShown s.ports[p])) s

/-- PORT_CAPTIVE. -/
def execPortCaptive (h : Hdr) (en prearm : Bool) (deb : Nat) (clear : Bool) (s : State) :
    Host.Outcome State Fault Refusal :=
  portCommand h 0x109 (256 ≤ deb) (applies h 0x109 notFenced (portCaptive h en prearm deb clear)) s

/-! ## PD messaging commands (09 R257 to R260) -/

/-- An explicit contract (09 R246). -/
def Port.explicit (q : Port) : Bool := q.st == .contracted || (q.st == .castingOn && q.pol.contract.isSome)

/-- The context of a SOPT. -/
def soptCtx (n : Nat) : Fin 3 := if n = 0 then 0 else if n = 1 then 1 else 2

/-- The command applies to its SOP*: SOP' and SOP'' only while their contexts are enabled. -/
def sopOk (sopt : Nat) (q : Port) : Bool := q.explicit && (sopt == 0 || F.CTX_CTL.EN.on q.ctx[soptCtx sopt].ctl)

/-- A message of the host goes out, and its command waits. -/
def hostMessage (h : Hdr) (opc : Nat) (k : WaitKind) (c : Fin 3) (m : Port → List Byte) (p : PortId)
    (s : State) : State :=
  engineSend p c m true (.hostMsg h.tag) (addWait h opc k s)

/-- A VDM of the host; a structured command other than Attention has a response. -/
def sendVdm (h : Hdr) (opc sopt : Nat) (objs : List Word) (rboff : Nat) (p : PortId) (s : State) : State :=
  let c := soptCtx sopt
  let o := objs.headD 0
  hostMessage h opc (.vdm c rboff (vdmStructured o && vdmCmd o ≠ 6)) c (fun q => dataMsg q c 15 objs) p s

/-- VDM_SEND. -/
def execVdmSend (h : Hdr) (sopt : Nat) (objs : List Word) (rboff : Nat) (s : State) :
    Host.Outcome State Fault Refusal :=
  portCommand h 0x201 (3 ≤ sopt || objs.isEmpty || 7 < objs.length || !bulkOpt rboff 30)
    (applies h 0x201 (sopOk sopt) (sendVdm h 0x201 sopt objs rboff)) s

/-- The header of a DISCOVER command: Discover Identity, SVIDs or Modes. -/
def discoverHdr (kind svid : Nat) : Word :=
  BitVec.ofNat 32 (65536 * (if kind = 2 then svid else 0xFF00) + 0xA001 + kind)

/-- DISCOVER. -/
def execDiscover (h : Hdr) (sopt kind svid rboff : Nat) (s : State) : Host.Outcome State Fault Refusal :=
  portCommand h 0x205 (3 ≤ sopt || 3 ≤ kind || 65536 ≤ svid || !bulkOpt rboff 30)
    (applies h 0x205 (sopOk sopt) (sendVdm h 0x205 sopt [discoverHdr kind svid] rboff)) s

/-- VDM_RESPOND answers the VDM that waits for the host (09 R258); modes follow the acknowledgements that it carries
(04 R115). -/
def vdmRespond (h : Hdr) (sopt num : Nat) (objs : List Word) (p : PortId) (s : State) : State :=
  let c := soptCtx sopt
  if s.ports[p].pol.hostVdm[c] == some num then
    let s := modPol p (fun l => trackMode (objs.headD 0) { l with hostVdm := l.hostVdm.set c none }) s
    let s := if s.ports[p].pol.hostVdm.toList.all Option.isNone then slotOff' p 16 s else s
    done h 0x202 [] (answerVdm p c objs s)
  else refuse h 0x202 .cancelled s

/-- VDM_RESPOND. -/
def execVdmRespond (h : Hdr) (sopt num : Nat) (objs : List Word) (s : State) : Host.Outcome State Fault Refusal :=
  portCommand h 0x202 (3 ≤ sopt || 256 ≤ num || objs.isEmpty || 7 < objs.length)
    (applies h 0x202 (sopOk sopt) (vdmRespond h sopt num objs)) s

/-- The messages that MSG_SEND sends (09 R259; type codes: log entry 9). Get_Country_Info, a data message in
PD, is taken with the extended class that 09 R259 gives it, or with the data class. -/
inductive HostMsg where
  | control (type : Nat)
  | data (type : Nat) (answer : Bool)
  | carrier
  | extended (type : Nat)
  deriving DecidableEq, Repr

/-- The message that MSG and its data name; none where it is a host error. -/
def hostMsgOf (msg : Nat) (data : List Byte) : Option HostMsg :=
  let t := msg % 32
  match msg / 32 with
  | 0 => if [8, 18, 20, 21, 22, 23, 24].contains t && data.isEmpty then some (.control t) else none
  | 2 =>
    if data.length ≠ 4 then none
    else if t = 6 then some (.data 6 false)
    else if t = 3 && leNat data / 268435456 == 5 then some .carrier
    else if t = 7 then some (.data 7 true)
    else none
  | 4 =>
    if 260 < data.length then none
    else if [3, 4, 6].contains t then some (.extended t)
    else if t = 7 && data.length = 4 then some (.data 7 true)
    else none
  | _ => none

/-- MSG_SEND. A 2.0 partner takes no extended message (04 Table PDE-4). -/
def msgSend (h : Hdr) (sopt : Nat) (m : HostMsg) (data : List Byte) (rboff : Nat) (p : PortId)
    (s : State) : State :=
  let c := soptCtx sopt
  match m with
  | .control t => hostMessage h 0x203 (.msg c rboff true) c (fun q => ctrlMsg q c t) p s
  | .data t answer =>
    hostMessage h 0x203 (.msg c rboff answer) c (fun q => dataMsg q c t [BitVec.ofNat 32 (leNat data)]) p s
  | .carrier =>
    if atVsafe5 s.ports[p] then
      done h 0x203 [] (modPort p (fun q => startCarrier s.time { q with pol := { q.pol with testUse := true } }) s)
    else refuse h 0x203 .portState s
  | .extended t =>
    if revCode s.ports[p].ctx[c] = 1 then refuse h 0x203 .notSupportedByPartner s
    else hostMessage h 0x203 (.msg c rboff true) c (fun q => extMsg q c t data) p s

/-- MSG_SEND. -/
def execMsgSend (h : Hdr) (sopt msg : Nat) (data : List Byte) (rboff : Nat) (s : State) :
    Host.Outcome State Fault Refusal :=
  match hostMsgOf msg data with
  | none => portCommand h 0x203 true (fun _ s => s) s
  | some m => portCommand h 0x203 (3 ≤ sopt || !bulkOpt rboff 266)
      (applies h 0x203 (sopOk sopt) (msgSend h sopt m data rboff)) s

/-- An AUTH_CHALLENGE that runs. -/
def authRuns (s : State) : Bool :=
  s.host.waits.any fun w => match w.kind with
    | .auth _ _ _ _ _ _ _ => true
    | _ => false

/-- AUTH_CHALLENGE begins with GET_DIGESTS (04 R120, 09 R260); a 2.0 partner takes no extended message (04 Table
PDE-4). -/
def authChallenge (h : Hdr) (sopt slot rboff : Nat) (p : PortId) (s : State) : State :=
  let c := soptCtx sopt
  if revCode s.ports[p].ctx[c] = 1 then refuse h 0x204 .notSupportedByPartner s
  else if authRuns s then refuse h 0x204 .busy s
  else hostMessage h 0x204 (.auth c 1 slot 0 0 0 rboff) c (securityMsg c 0x81 0 0 []) p s

/-- AUTH_CHALLENGE. -/
def execAuthChallenge (h : Hdr) (sopt slot rboff : Nat) (s : State) : Host.Outcome State Fault Refusal :=
  portCommand h 0x204 (2 ≤ sopt || (8 ≤ slot && slot != 255) || !bulkOpt rboff 4096)
    (applies h 0x204 (sopOk sopt) (authChallenge h sopt slot rboff)) s

end Sys2Proof.Machine
end

