-- ==== Sys2Proof/Machine/SysCmd.lean ====
section
/-! DEFINITION. Host commands of the system: sessions, telemetry, events, restarts, health, settings, fuses
and the two-wire buses (08 R225, R226, 09 R247, R265 to R272). -/

namespace Sys2Proof.Machine
open Sys2Proof

/-! ## Session commands (08 R225, R226; 09 Table CMD-3) -/

/-- The highest version common to the host's range and the device's; 0 when there is none. -/
def commonVersion (s : State) (lo hi : Nat) : Nat :=
  let p := (protoWord s).toNat
  let v := min hi (p / 65536)
  if max lo (p % 65536) ≤ v then v else 0

/-- HID_SESSION after a HELLO that finds a version, or none. -/
def nextSession (old : Word) (cur : Nat) : Word :=
  let n := old.toNat % 65536
  if cur = 0 then BitVec.ofNat 32 n
  else BitVec.ofNat 32 (65536 * cur + if n = 65535 then 1 else n + 1)

/-- HELLO (08 R225). -/
def hello (h : Hdr) (lo hi : Nat) (s : State) : State :=
  let cur := commonVersion s lo hi
  let s := { s with host := { s.host with session := nextSession s.host.session cur } }
  done h 0x001 (bytes2 cur ++ bytes2 s.host.session.toNat ++ wordBytes (protoWord s)) s

def execHello (h : Hdr) (lo hi : Nat) (s : State) : Host.Outcome State Fault Refusal :=
  command h 0x001 (h.fence || sessionOpen s) true (h.port != 255 || 65536 ≤ lo || 65536 ≤ hi) (hello h lo hi) s

/-- GOODBYE closes the session. -/
def execGoodbye (h : Hdr) (s : State) : Host.Outcome State Fault Refusal :=
  command h 0x002 true false (h.port != 255) (fun s =>
    done h 0x002 [] { s with host := { s.host with session := nextSession s.host.session 0 } }) s

/-- IDENTIFY. -/
def identifyResult (s : State) : List Byte :=
  bytes4 (hdrVersion s.boot.img) ++ bytes2 (shadowWord s 0x110).toNat ++
    [BitVec.ofNat 8 (lifecycle s), BitVec.ofNat 8 (runSlot s)] ++ bytes4 (otherVersion s) ++
    [BitVec.ofNat 8 (fusedLevel s), BitVec.ofNat 8 (hdrArb s.boot.img),
      BitVec.ofNat 8 (allPorts.filter fun p => !unpopulated s p).length]

def execIdentify (h : Hdr) (s : State) : Host.Outcome State Fault Refusal :=
  command h 0x003 h.fence true (h.port != 255) (fun s => done h 0x003 (identifyResult s) s) s

/-- ECHO: `payload` holds the LEN bytes of the payload. -/
def execEcho (h : Hdr) (payload : List Byte) (s : State) : Host.Outcome State Fault Refusal :=
  command h 0x004 h.fence true (h.port != 255 || 56 < payload.length)
    (fun s => done h 0x004 (padTo 16 payload) s) s

/-- TIME_SYNC: the time the entry was read at lies before the completion. -/
def execTimeSync (h : Hdr) (consumed : Nat) (s : State) : Host.Outcome State Fault Refusal :=
  sysCommand h 0x005 false
    (fun s => done h 0x005 (bytes8 (min consumed s.time) ++ bytes8 s.time) s) s

/-! ## Telemetry commands (09 R265, R266, 07 R202) -/

/-- A word written where MASK selects it, of the writable bits `m`. -/
def pick (mask i : Nat) (m new old : Word) : Word :=
  if mask / 2 ^ i % 2 = 1 then (new &&& m) ||| (old &&& ~~~m) else old

/-- TEL_CONFIG of a port. -/
def telPort (mask : Nat) (ws : List Word) (q : Port) : Port :=
  { q with
    tel.pcfg := pick mask 0 0x7777 (ws.getD 0 0) q.tel.pcfg
    tel.pthv := pick mask 1 0x8FFF8FFF (ws.getD 1 0) q.tel.pthv
    tel.pthi := pick mask 2 0x8FFF8FFF (ws.getD 2 0) q.tel.pthi
    tel.pthc := pick mask 3 0x8FFF8FFF (ws.getD 3 0) q.tel.pthc }

/-- TEL_CONFIG of the system part: enables, k, hysteresis, the nine thresholds. -/
def telSystem (mask : Nat) (ws : List Word) (r : TelRegs) : TelRegs :=
  { r with
    sysen := pick mask 0 0x1FF (ws.getD 0 0) r.sysen
    sysk := pick mask 1 0x7FFFFFF (ws.getD 1 0) r.sysk
    ctl := if mask / 4 % 2 = 1 then F.TEL_CTL.HYST.put (ws.getD 2 0).toNat r.ctl else r.ctl
    systhr := Vector.ofFn fun i => pick mask 3 0x8FFF8FFF (ws.getD (3 + i.val) 0) r.systhr[i] }

/-- TEL_CONFIG: of a port by its serving engine (07 R207), of the system part by the control pair. -/
def telConfig (h : Hdr) (mask : Nat) (ws : List Word) (s : State) : State :=
  match portOf h.port with
  | some p =>
    if unpopulated s p then refuse h 0x501 .portState s
    else if !portReach s p then s
    else
      let s := modFront p (telPort mask ws) s
      done h 0x501 (wordBytes (portRead s p 0x804)) s
  | none =>
    let s := { s with tel := telSystem mask ws s.tel }
    done h 0x501 (wordBytes s.tel.stat ++ wordBytes s.tel.adcfail) s

def execTelConfig (h : Hdr) (mask : Nat) (ws : List Word) (s : State) : Host.Outcome State Fault Refusal :=
  command h 0x501 h.fence false ((96 ≤ h.port && h.port != 255) || 16 ≤ mask) (telConfig h mask ws) s

/-- TEL_START: streaming starts at the next frame boundary. On a running codec nothing changes and the
number is open (log entry 1). -/
def telStart (h : Hdr) (s : State) : State :=
  if F.TEL_STAT.RUN.on s.tel.stat then
    let (n, s) := takeFree Config.freeNat s
    done h 0x502 (bytes8 n) s
  else
    done h 0x502 (bytes8 (s.codec.frame + 1)) { s with tel := { s.tel with ctl := F.TEL_CTL.EN.set s.tel.ctl } }

def execTelStart (h : Hdr) (s : State) : Host.Outcome State Fault Refusal := sysCommand h 0x502 false (telStart h) s

/-- TEL_STOP completes after the STOP marker; with no streaming there is none, and its number is open. -/
def telStop (h : Hdr) (s : State) : State :=
  let s := { s with tel := { s.tel with ctl := F.TEL_CTL.EN.clr s.tel.ctl } }
  if F.TEL_STAT.RUN.on s.tel.stat then addWait h 0x503 .telStop s
  else
    let (n, s) := takeFree Config.freeNat s
    done h 0x503 (bytes8 n) s

def execTelStop (h : Hdr) (s : State) : Host.Outcome State Fault Refusal := sysCommand h 0x503 false (telStop h) s

/-- The latest codes of a port: TIME of the VBUS sample, the three codes, FAIL; the front die's registers read 0 with
the stitch link down (01 R32). -/
def portSnapshot (s : State) (p : PortId) : List Byte :=
  let code (off : Nat) : List Byte := bytes2 ((portRead s p off).toNat % 4096)
  bytes8 s.codec.chans[p.val].last ++ code 0x808 ++ code 0x80C ++ code 0x810
    ++ [if F.TEL_PSTAT.FAIL.on (portRead s p 0x804) then 1 else 0]

/-- TEL_SNAPSHOT. -/
def telSnapshot (h : Hdr) (s : State) : State :=
  match portOf h.port with
  | some p => done h 0x504 (portSnapshot s p) s
  | none => done h 0x504 ((s.tel.syslast.toList.take 8).flatMap fun w => bytes2 (w.toNat % 4096)) s

def execTelSnapshot (h : Hdr) (s : State) : Host.Outcome State Fault Refusal :=
  command h 0x504 h.fence false (96 ≤ h.port && h.port != 255) (telSnapshot h) s

/-! ## Event commands (09 R266) -/

/-- The route entries of a range changed. -/
def modRoutes (first count : Nat) (f : Nat → Byte → Byte) (s : State) : State :=
  (List.range count).foldl (fun s i => setRoute (first + i) (f (first + i) (routeOf s (first + i))) s) s

/-- EVT_ROUTE: the vector of the sources. -/
def execEvtRoute (h : Hdr) (first count vec : Nat) (s : State) : Host.Outcome State Fault Refusal :=
  sysCommand h 0x601 (1216 < first + count || 64 ≤ vec) (fun s =>
    done h 0x601 [] (modRoutes first count (fun _ b => (b &&& 0x80) ||| BitVec.ofNat 8 vec) s)) s

/-- EVT_MASK: source 1,152 stays enabled. -/
def execEvtMask (h : Hdr) (first count : Nat) (en : Bool) (s : State) : Host.Outcome State Fault Refusal :=
  sysCommand h 0x602 (1216 < first + count) (fun s =>
    done h 0x602 [] (modRoutes first count
      (fun i b => if en || i == 1152 then b ||| 0x80 else b &&& 0x7F) s)) s

/-! ## System commands (09 R267, R270) -/

/-- SYS_RESTART: the restart begins 1 ms after the completion. -/
def sysRestart (h : Hdr) (kind : Nat) (s : State) : State :=
  if s.upd.st = 4 || s.boot.due.isSome then refuse h 0x801 .busy s
  else
    let s := done h 0x801 [] s
    { s with boot := { s.boot with
        due := some (s.time + 1000, if kind = 0 then .warm 0 (runSlot s) else .cold 0) } }

def execSysRestart (h : Hdr) (kind : Nat) (s : State) : Host.Outcome State Fault Refusal :=
  sysCommand h 0x801 (2 ≤ kind) (sysRestart h kind) s

/-- SYS_HEALTH: TMAX is the hottest of channels 292 to 295, VCORE the latest of channel 296. -/
def healthResult (s : State) : List Byte :=
  let code (i : Nat) : Nat := (s.tel.syslast.toList.getD i 0).toNat % 4096
  wordBytes (mtHealth s) ++ bytes2 (F.SAF_ECCCNT.DAY.get s.saf.ecccnt) ++
    [BitVec.ofNat 8 (F.SAF_LSCNT.DAY.get s.saf.lscnt), BitVec.ofNat 8 s.boot.warms] ++
    bytes2 (max (max (code 4) (code 5)) (max (code 6) (code 7))) ++ bytes2 (code 8) ++
    bytes4 (s.time / 1000000)

def execSysHealth (h : Hdr) (s : State) : Host.Outcome State Fault Refusal :=
  command h 0x802 h.fence true (h.port != 255) (fun s => done h 0x802 (healthResult s) s) s

/-- The settings written to both copies; GEN and COPIES. -/
def saveSettings (h : Hdr) (opc : Nat) (x : Settings) (okOld okNew : Bool) (s : State) : State :=
  let (s, gen, n) := writeSettings x okOld okNew s
  done h opc (bytes4 gen ++ [BitVec.ofNat 8 n]) s

/-- SYS_SETTINGS_SAVE writes the running configuration (09 R276). -/
def execSysSettingsSave (h : Hdr) (okOld okNew : Bool) (s : State) : Host.Outcome State Fault Refusal :=
  sysCommand h 0x803 false (fun s => saveSettings h 0x803 (runningSettings s) okOld okNew s) s

/-- SYS_SETTINGS_DEFAULT writes the defaults and leaves the running configuration (09 R278). -/
def execSysSettingsDefault (h : Hdr) (okOld okNew : Bool) (s : State) : Host.Outcome State Fault Refusal :=
  sysCommand h 0x804 false (fun s => saveSettings h 0x804 (defaultSettings s) okOld okNew s) s

/-- SYS_LOG_READ: what the log holds, and its offsets, no rule fixes (log entry 1); at most BLEN bytes reach
the range. -/
def sysLogRead (h : Hdr) (boff blen : Nat) (s : State) : State :=
  let (n, s) := takeFree Config.freeNat s
  let (next, s) := takeFree Config.freeWord s
  let (oldest, s) := takeFree Config.freeWord s
  let (data, s) := takeFree Config.freeBytes s
  let n := n % (blen + 1)
  done h 0x805 (bytes4 n ++ wordBytes next ++ wordBytes oldest) (bulkWrite boff (padTo n data) s)

def execSysLogRead (h : Hdr) (_offset boff blen : Nat) (s : State) : Host.Outcome State Fault Refusal :=
  sysCommand h 0x805 (!bulkOpt boff blen) (sysLogRead h boff blen) s

/-- SYS_PERF: MODE is the arbitration mode (08 R238); the loads are measurements that no rule fixes. -/
def sysPerf (h : Hdr) (set mode : Nat) (s : State) : State :=
  let s := if set = 1 then { s with host := { s.host with weighted := mode == 1 } } else s
  let (load, s) := takeFree Config.freeNat s
  let (xfers, s) := takeFree Config.freeWord s
  let (cmds, s) := takeFree Config.freeWord s
  let (evts, s) := takeFree Config.freeWord s
  done h 0x806 (bytes2 (load % 1001) ++ [if s.host.weighted then 1 else 0, 0] ++
    wordBytes xfers ++ wordBytes cmds ++ wordBytes evts) s

def execSysPerf (h : Hdr) (set mode : Nat) (s : State) : Host.Outcome State Fault Refusal :=
  sysCommand h 0x806 (2 ≤ set || 2 ≤ mode) (sysPerf h set mode) s

/-! ## Fuse commands (09 R271, 16 R398 to R406) -/

/-- OTP_READ: a read that arrives during a program waits for the present pulse and its verify (16 R400). -/
def otpReadCmd (h : Hdr) (word count : Nat) (s : State) : State :=
  if s.otp.op.isSome then addWait h 0x901 (.otpRead word count) s
  else
    let (st, res) := otpReadResult word count s
    complete h.tag 0x901 h.port st res s

def execOtpRead (h : Hdr) (word count : Nat) (s : State) : Host.Outcome State Fault Refusal :=
  sysCommand h 0x901 (count == 0 || 3 < count || 2048 < word + count) (otpReadCmd h word count) s

/-- OTP_PROGRAM. -/
def otpProgramCmd (h : Hdr) (word : Nat) (v : Word) (s : State) : State :=
  if otpBusy s then refuse h 0x902 .busy s
  else if progReason s word v ≠ 0 then
    complete h.tag 0x902 h.port .locked (progResult 0 false false (progReason s word v)) s
  else otpProgramStart word v (addWait h 0x902 .otpProgram s)

def execOtpProgram (h : Hdr) (word : Nat) (v : Word) (s : State) : Host.Outcome State Fault Refusal :=
  sysCommand h 0x902 (2048 ≤ word) (otpProgramCmd h word v) s

/-- OTP_MARGIN_SCAN: 0 starts a scan, 1 reports the last complete one (16 R402). -/
def otpScanCmd (h : Hdr) (action : Nat) (s : State) : State :=
  if action = 1 then done h 0x903 (scanResult s.otp.last) s
  else if otpBusy s then refuse h 0x903 .busy s
  else otpScanStart (addWait h 0x903 .otpScan s)

def execOtpMarginScan (h : Hdr) (action : Nat) (s : State) : Host.Outcome State Fault Refusal :=
  sysCommand h 0x903 (2 ≤ action) (otpScanCmd h action) s

/-- OTP_LOCK: KIND 0 a write lock, 1 a read lock. -/
def otpLockCmd (h : Hdr) (region kind : Nat) (s : State) : State :=
  let r := lockReason s region (kind == 1)
  if otpBusy s then refuse h 0x904 .busy s
  else if r ≠ 0 then complete h.tag 0x904 h.port .locked [BitVec.ofNat 8 r] s
  else otpLockStart region (kind == 1) (addWait h 0x904 .otpLock s)

def execOtpLock (h : Hdr) (region kind : Nat) (s : State) : Host.Outcome State Fault Refusal :=
  sysCommand h 0x904 (8 ≤ region || 2 ≤ kind) (otpLockCmd h region kind) s

/-! ## Two-wire transfers (09 R272, 15 R384, R389) -/

/-- BUS_XFER: on the bus at once, or after the control pair's own transfer (15 R389). -/
def busXfer (h : Hdr) (b : Fin 2) (j : BusJob) (s : State) : State :=
  if (s.twc[b].xfer).isSome then
    modTwc b (fun t => { t with queued := some j }) (addWait h 0xA01 (.busQueued b) s)
  else busStart b j (addWait h 0xA01 (.busXfer b j.place) s)

def execBusXfer (h : Hdr) (bus addr wlen rlen : Nat) (rstart : Bool) (boff : Nat) (wdata : List Byte)
    (check : BusCheck) (s : State) : Host.Outcome State Fault Refusal :=
  let j : BusJob := ⟨addr, wlen, rlen, rstart, boff, wdata, check, s.time⟩
  sysCommand h 0xA01 (2 ≤ bus || 128 ≤ addr || 4096 < wlen || 4096 < rlen || (j.range && !bulkOk boff (wlen + rlen)))
    (busXfer h (if bus = 0 then 0 else 1) j) s

end Sys2Proof.Machine
end

