-- ==== Sys2Proof/Machine/Dispatch.lean ====
section
/-! DEFINITION. The meaning of every command of the block: one arm per constructor of Instr, each one
direct call of its meaning. -/

namespace Sys2Proof.Machine
open Sys2Proof

def exec (i : Instr) (s : State) : Host.Outcome State Fault Refusal :=
  match i with
  | .hello h minver maxver => Sys2Proof.Machine.execHello h minver maxver s
  | .goodbye h => Sys2Proof.Machine.execGoodbye h s
  | .identify h => Sys2Proof.Machine.execIdentify h s
  | .echo h payload => Sys2Proof.Machine.execEcho h payload s
  | .timeSync h consumed => Sys2Proof.Machine.execTimeSync h consumed s
  | .portConfig h mask fields => Sys2Proof.Machine.execPortConfig h mask fields s
  | .portEnable h => Sys2Proof.Machine.execPortEnable h s
  | .portDisable h => Sys2Proof.Machine.execPortDisable h s
  | .portStatus h page sopt vdmnum boff => Sys2Proof.Machine.execPortStatus h page sopt vdmnum boff s
  | .portSwap h kind => Sys2Proof.Machine.execPortSwap h kind s
  | .portCaps h spr epr apply => Sys2Proof.Machine.execPortCaps h spr epr apply s
  | .portHardReset h kind => Sys2Proof.Machine.execPortHardReset h kind s
  | .portClearRetry h => Sys2Proof.Machine.execPortClearRetry h s
  | .portCaptive h captEn prearmEn captDeb clearRec => Sys2Proof.Machine.execPortCaptive h captEn prearmEn captDeb clearRec s
  | .vdmSend h sopt objs rboff => Sys2Proof.Machine.execVdmSend h sopt objs rboff s
  | .vdmRespond h sopt vdmnum objs => Sys2Proof.Machine.execVdmRespond h sopt vdmnum objs s
  | .msgSend h sopt msg data rboff => Sys2Proof.Machine.execMsgSend h sopt msg data rboff s
  | .authChallenge h sopt slot rboff => Sys2Proof.Machine.execAuthChallenge h sopt slot rboff s
  | .discover h sopt kind svid rboff => Sys2Proof.Machine.execDiscover h sopt kind svid rboff s
  | .caddyFeeds h mask lima limb limp eff => Sys2Proof.Machine.execCaddyFeeds h mask lima limb limp eff s
  | .caddyClass h cls v5 pmin => Sys2Proof.Machine.execCaddyClass h cls v5 pmin s
  | .caddyStatus h boff => Sys2Proof.Machine.execCaddyStatus h boff s
  | .caddyRow h rowcfg => Sys2Proof.Machine.execCaddyRow h rowcfg s
  | .caddyShed h mask shed poolsz hold => Sys2Proof.Machine.execCaddyShed h mask shed poolsz hold s
  | .pathCurve h npts cool points => Sys2Proof.Machine.execPathCurve h npts cool points s
  | .pathLimits h mask fields => Sys2Proof.Machine.execPathLimits h mask fields s
  | .pathStatus h clear => Sys2Proof.Machine.execPathStatus h clear s
  | .feedPriority h mask ctl wina winb winp pport => Sys2Proof.Machine.execFeedPriority h mask ctl wina winb winp pport s
  | .telConfig h mask words => Sys2Proof.Machine.execTelConfig h mask words s
  | .telStart h => Sys2Proof.Machine.execTelStart h s
  | .telStop h => Sys2Proof.Machine.execTelStop h s
  | .telSnapshot h => Sys2Proof.Machine.execTelSnapshot h s
  | .evtRoute h first count vec => Sys2Proof.Machine.execEvtRoute h first count vec s
  | .evtMask h first count en => Sys2Proof.Machine.execEvtMask h first count en s
  | .updFromCard h act name => Sys2Proof.Machine.execUpdFromCard h act name s
  | .updBegin h len boff => Sys2Proof.Machine.execUpdBegin h len boff s
  | .updBlock h index boff blen verified => Sys2Proof.Machine.execUpdBlock h index boff blen verified s
  | .updEnd h verified => Sys2Proof.Machine.execUpdEnd h verified s
  | .updActivate h mode => Sys2Proof.Machine.execUpdActivate h mode s
  | .updState h => Sys2Proof.Machine.execUpdState h s
  | .updAbort h => Sys2Proof.Machine.execUpdAbort h s
  | .sysRestart h kind => Sys2Proof.Machine.execSysRestart h kind s
  | .sysHealth h => Sys2Proof.Machine.execSysHealth h s
  | .sysSettingsSave h okOld okNew => Sys2Proof.Machine.execSysSettingsSave h okOld okNew s
  | .sysSettingsDefault h okOld okNew => Sys2Proof.Machine.execSysSettingsDefault h okOld okNew s
  | .sysLogRead h offset boff blen => Sys2Proof.Machine.execSysLogRead h offset boff blen s
  | .sysPerf h set mode => Sys2Proof.Machine.execSysPerf h set mode s
  | .otpRead h word count => Sys2Proof.Machine.execOtpRead h word count s
  | .otpProgram h word value => Sys2Proof.Machine.execOtpProgram h word value s
  | .otpMarginScan h action => Sys2Proof.Machine.execOtpMarginScan h action s
  | .otpLock h region kind => Sys2Proof.Machine.execOtpLock h region kind s
  | .busXfer h bus addr wlen rlen rstart boff wdata check => Sys2Proof.Machine.execBusXfer h bus addr wlen rlen rstart boff wdata check s
  | .read addr len => Sys2Proof.Machine.execRead addr len s
  | .write addr data => Sys2Proof.Machine.execWrite addr data s
  | .readStatus => Sys2Proof.Machine.execReadStatus s
  | .enterQuad => Sys2Proof.Machine.execEnterQuad s
  | .exitQuad => Sys2Proof.Machine.execExitQuad s
  | .resetEnable => Sys2Proof.Machine.execResetEnable s
  | .resetLink => Sys2Proof.Machine.execResetLink s
  | .unknownLinkInstruction code => Sys2Proof.Machine.execUnknownLinkInstruction code s
  | .dbCmdTailWrite v => Sys2Proof.Machine.execDbCmdTailWrite v s
  | .dbCplHeadWrite v => Sys2Proof.Machine.execDbCplHeadWrite v s
  | .dbEvtHeadWrite v => Sys2Proof.Machine.execDbEvtHeadWrite v s
  | .dbTelRoffWrite v => Sys2Proof.Machine.execDbTelRoffWrite v s
  | .dbVpendClear hi v => Sys2Proof.Machine.execDbVpendClear hi v s
  | .alertHoldoffExpiry v => Sys2Proof.Machine.execAlertHoldoffExpiry v s
  | .registerWrite addr v => Sys2Proof.Machine.execRegisterWrite addr v s
  | .mtAddressMatch addr read => Sys2Proof.Machine.execMtAddressMatch addr read s
  | .mtDataByte b => Sys2Proof.Machine.execMtDataByte b s
  | .mtTransactionTimeout => Sys2Proof.Machine.execMtTransactionTimeout s
  | .mtStandbyMatch addr read => Sys2Proof.Machine.execMtStandbyMatch addr read s
  | .mtRecoverLinkReset => Sys2Proof.Machine.execMtRecoverLinkReset s
  | .mtRecoverWarmStart => Sys2Proof.Machine.execMtRecoverWarmStart s
  | .mtRecoverColdStart => Sys2Proof.Machine.execMtRecoverColdStart s
  | .eventQueueSpace p => Sys2Proof.Machine.execEventQueueSpace p s
  | .fabricTransferGrant => Sys2Proof.Machine.execFabricTransferGrant s
  | .cmpStrainerSample p slot raw => Sys2Proof.Machine.execCmpStrainerSample p slot raw s
  | .debDone p => Sys2Proof.Machine.execDebDone p s
  | .pddebExpiry p => Sys2Proof.Machine.execPddebExpiry p s
  | .trippedDetach p => Sys2Proof.Machine.execTrippedDetach p s
  | .hardwareDetach p => Sys2Proof.Machine.execHardwareDetach p s
  | .drpPhaseToggle p => Sys2Proof.Machine.execDrpPhaseToggle p s
  | .tdrptryExpiry p => Sys2Proof.Machine.execTdrptryExpiry p s
  | .ttrydebExpiry p => Sys2Proof.Machine.execTtrydebExpiry p s
  | .ccCtlWrite p v => Sys2Proof.Machine.execCcCtlWrite p v s
  | .cmpStrWrite p slot v => Sys2Proof.Machine.execCmpStrWrite p slot v s
  | .vconnCtlWrite p v => Sys2Proof.Machine.execVconnCtlWrite p v s
  | .vconnOcp p => Sys2Proof.Machine.execVconnOcp p s
  | .vconnAggOff p => Sys2Proof.Machine.execVconnAggOff p s
  | .vconnRev p => Sys2Proof.Machine.execVconnRev p s
  | .vconnDischargeDone p => Sys2Proof.Machine.execVconnDischargeDone p s
  | .requestReceived p rdo rev => Sys2Proof.Machine.execRequestReceived p rdo rev s
  | .eprRequestReceived p rdo pdo => Sys2Proof.Machine.execEprRequestReceived p rdo pdo s
  | .softResetReceived p ctx => Sys2Proof.Machine.execSoftResetReceived p ctx s
  | .hardResetReceived p => Sys2Proof.Machine.execHardResetReceived p s
  | .cableResetReceived p => Sys2Proof.Machine.execCableResetReceived p s
  | .goodcrcReceived p ctx msgid => Sys2Proof.Machine.execGoodcrcReceived p ctx msgid s
  | .pdMessageReceived p ctx msg crcOk => Sys2Proof.Machine.execPdMessageReceived p ctx msg crcOk s
  | .chunkReceived p ctx msg => Sys2Proof.Machine.execChunkReceived p ctx msg s
  | .chunkRequestReceived p ctx chunk => Sys2Proof.Machine.execChunkRequestReceived p ctx chunk s
  | .eprModeEnter p => Sys2Proof.Machine.execEprModeEnter p s
  | .eprModeExit p => Sys2Proof.Machine.execEprModeExit p s
  | .eprKeepalive p => Sys2Proof.Machine.execEprKeepalive p s
  | .prSwap p => Sys2Proof.Machine.execPrSwap p s
  | .drSwap p => Sys2Proof.Machine.execDrSwap p s
  | .vconnSwap p => Sys2Proof.Machine.execVconnSwap p s
  | .psRdyReceived p => Sys2Proof.Machine.execPsRdyReceived p s
  | .vendorDefinedReceived p ctx objs => Sys2Proof.Machine.execVendorDefinedReceived p ctx objs s
  | .cableDiscoverIdentityReply p curr volt epr rev => Sys2Proof.Machine.execCableDiscoverIdentityReply p curr volt epr rev s
  | .getRevisionReply p rev => Sys2Proof.Machine.execGetRevisionReply p rev s
  | .bistCarrierMode p => Sys2Proof.Machine.execBistCarrierMode p s
  | .bistTestData p => Sys2Proof.Machine.execBistTestData p s
  | .securityRequestReceived p ctx => Sys2Proof.Machine.execSecurityRequestReceived p ctx s
  | .frSwapReceived p => Sys2Proof.Machine.execFrSwapReceived p s
  | .alertReceived p ado => Sys2Proof.Machine.execAlertReceived p ado s
  | .ctxTxcmdSend p ctx buf ams => Sys2Proof.Machine.execCtxTxcmdSend p ctx buf ams s
  | .lineIdleTransmit p => Sys2Proof.Machine.execLineIdleTransmit p s
  | .pdSignalHardReset p => Sys2Proof.Machine.execPdSignalHardReset p s
  | .pdSignalCableReset p => Sys2Proof.Machine.execPdSignalCableReset p s
  | .pdSignalBistCm p => Sys2Proof.Machine.execPdSignalBistCm p s
  | .pdRxrelWrite p v => Sys2Proof.Machine.execPdRxrelWrite p v s
  | .pdTmrstartWrite p v => Sys2Proof.Machine.execPdTmrstartWrite p v s
  | .pdTmrstopWrite p v => Sys2Proof.Machine.execPdTmrstopWrite p v s
  | .amsEnd p => Sys2Proof.Machine.execAmsEnd p s
  | .crcReceiveTimerExpiry p ctx => Sys2Proof.Machine.execCrcReceiveTimerExpiry p ctx s
  | .tsinktxExpiry p => Sys2Proof.Machine.execTsinktxExpiry p s
  | .tchunkSenderRequestExpiry p ctx => Sys2Proof.Machine.execTchunkSenderRequestExpiry p ctx s
  | .tchunkSenderResponseExpiry p => Sys2Proof.Machine.execTchunkSenderResponseExpiry p s
  | .thardResetCompleteExpiry p => Sys2Proof.Machine.execThardResetCompleteExpiry p s
  | .tbistContModeExpiry p => Sys2Proof.Machine.execTbistContModeExpiry p s
  | .tsenderResponseExpiry p => Sys2Proof.Machine.execTsenderResponseExpiry p s
  | .ttypecSendSourceCapExpiry p => Sys2Proof.Machine.execTtypecSendSourceCapExpiry p s
  | .tsrcTransitionExpiry p => Sys2Proof.Machine.execTsrcTransitionExpiry p s
  | .tpsHardResetExpiry p => Sys2Proof.Machine.execTpsHardResetExpiry p s
  | .tsrcRecoverExpiry p => Sys2Proof.Machine.execTsrcRecoverExpiry p s
  | .tpsSourceOnExpiry p => Sys2Proof.Machine.execTpsSourceOnExpiry p s
  | .tpsSourceOffExpiry p => Sys2Proof.Machine.execTpsSourceOffExpiry p s
  | .tpsTransitionExpiry p => Sys2Proof.Machine.execTpsTransitionExpiry p s
  | .tswapSourceStartExpiry p => Sys2Proof.Machine.execTswapSourceStartExpiry p s
  | .tvdmSenderResponseExpiry p => Sys2Proof.Machine.execTvdmSenderResponseExpiry p s
  | .hostVdmBudgetExpiry p => Sys2Proof.Machine.execHostVdmBudgetExpiry p s
  | .tdiscoverIdentityExpiry p => Sys2Proof.Machine.execTdiscoverIdentityExpiry p s
  | .tvconnStableExpiry p => Sys2Proof.Machine.execTvconnStableExpiry p s
  | .tvconnSourceTimeoutExpiry p => Sys2Proof.Machine.execTvconnSourceTimeoutExpiry p s
  | .tsourceEprKeepaliveExpiry p => Sys2Proof.Machine.execTsourceEprKeepaliveExpiry p s
  | .tsinkEprKeepaliveExpiry p => Sys2Proof.Machine.execTsinkEprKeepaliveExpiry p s
  | .tenterEprExpiry p => Sys2Proof.Machine.execTenterEprExpiry p s
  | .tppsTimeoutExpiry p => Sys2Proof.Machine.execTppsTimeoutExpiry p s
  | .tnoResponseExpiry p => Sys2Proof.Machine.execTnoResponseExpiry p s
  | .terrorRecoveryExpiry p => Sys2Proof.Machine.execTerrorRecoveryExpiry p s
  | .swapFlagTimeout p => Sys2Proof.Machine.execSwapFlagTimeout p s
  | .requestOutcomeTimeout p => Sys2Proof.Machine.execRequestOutcomeTimeout p s
  | .ppsTargetStep p curr => Sys2Proof.Machine.execPpsTargetStep p curr s
  | .gateRampStart p => Sys2Proof.Machine.execGateRampStart p s
  | .targetWrite p target => Sys2Proof.Machine.execTargetWrite p target s
  | .cenEnWrite p en => Sys2Proof.Machine.execCenEnWrite p en s
  | .rampDone p => Sys2Proof.Machine.execRampDone p s
  | .fallingRampDischarge p on => Sys2Proof.Machine.execFallingRampDischarge p on s
  | .fbsTrimStep p vbus => Sys2Proof.Machine.execFbsTrimStep p vbus s
  | .passShortDetected p => Sys2Proof.Machine.execPassShortDetected p s
  | .gateFaultDetected p => Sys2Proof.Machine.execGateFaultDetected p s
  | .vbusOvDetected p => Sys2Proof.Machine.execVbusOvDetected p s
  | .cvOvDetected p => Sys2Proof.Machine.execCvOvDetected p s
  | .fastTrip p => Sys2Proof.Machine.execFastTrip p s
  | .reverseCurrentDetected p => Sys2Proof.Machine.execReverseCurrentDetected p s
  | .rampTrackFault p => Sys2Proof.Machine.execRampTrackFault p s
  | .curveIntegratorSample p ibus => Sys2Proof.Machine.execCurveIntegratorSample p ibus s
  | .curveTrip p => Sys2Proof.Machine.execCurveTrip p s
  | .fallbackTrip p => Sys2Proof.Machine.execFallbackTrip p s
  | .cvTmo p => Sys2Proof.Machine.execCvTmo p s
  | .enhFault p => Sys2Proof.Machine.execEnhFault p s
  | .disDone p => Sys2Proof.Machine.execDisDone p s
  | .disTmo p => Sys2Proof.Machine.execDisTmo p s
  | .retryDue p => Sys2Proof.Machine.execRetryDue p s
  | .retryClr p => Sys2Proof.Machine.execRetryClr p s
  | .pthRetryClrWrite p => Sys2Proof.Machine.execPthRetryClrWrite p s
  | .curveCommit p => Sys2Proof.Machine.execCurveCommit p s
  | .feedQualified f => Sys2Proof.Machine.execFeedQualified f s
  | .feedLost f => Sys2Proof.Machine.execFeedLost f s
  | .feedBbmDone => Sys2Proof.Machine.execFeedBbmDone s
  | .feedSwitched => Sys2Proof.Machine.execFeedSwitched s
  | .feedNone => Sys2Proof.Machine.execFeedNone s
  | .feedDegradedTimeout f => Sys2Proof.Machine.execFeedDegradedTimeout f s
  | .reserve p => Sys2Proof.Machine.execReserve p s
  | .prearm p volt pout => Sys2Proof.Machine.execPrearm p volt pout s
  | .caddyRequest p volt pout => Sys2Proof.Machine.execCaddyRequest p volt pout s
  | .done p volt pout => Sys2Proof.Machine.execDone p volt pout s
  | .withdraw p => Sys2Proof.Machine.execWithdraw p s
  | .rowBoundary => Sys2Proof.Machine.execRowBoundary s
  | .rowSyncEdge rising sincePrev => Sys2Proof.Machine.execRowSyncEdge rising sincePrev s
  | .syncLost => Sys2Proof.Machine.execSyncLost s
  | .shedDeadline => Sys2Proof.Machine.execShedDeadline s
  | .upgradeHoldEnd p => Sys2Proof.Machine.execUpgradeHoldEnd p s
  | .cadRowloRead => Sys2Proof.Machine.execCadRowloRead s
  | .adcConversion ch code => Sys2Proof.Machine.execAdcConversion ch code s
  | .adcFailure a => Sys2Proof.Machine.execAdcFailure a s
  | .frameBoundary => Sys2Proof.Machine.execFrameBoundary s
  | .telFrameloRead => Sys2Proof.Machine.execTelFrameloRead s
  | .hidTimeloRead => Sys2Proof.Machine.execHidTimeloRead s
  | .ledFrame => Sys2Proof.Machine.execLedFrame s
  | .updateBtnPress => Sys2Proof.Machine.execUpdateBtnPress s
  | .sdCdNChange present => Sys2Proof.Machine.execSdCdNChange present s
  | .rstNAssert => Sys2Proof.Machine.execRstNAssert s
  | .rstNRelease straps bist => Sys2Proof.Machine.execRstNRelease straps bist s
  | .run => Sys2Proof.Machine.execRun s
  | .startTimerExpiry => Sys2Proof.Machine.execStartTimerExpiry s
  | .flashBusyTimeout => Sys2Proof.Machine.execFlashBusyTimeout s
  | .rstReqWarm => Sys2Proof.Machine.execRstReqWarm s
  | .rstReqHitless slot => Sys2Proof.Machine.execRstReqHitless slot s
  | .rstReqCold => Sys2Proof.Machine.execRstReqCold s
  | .rstCntClrA => Sys2Proof.Machine.execRstCntClrA s
  | .rstCntClrB => Sys2Proof.Machine.execRstCntClrB s
  | .xinQualified => Sys2Proof.Machine.execXinQualified s
  | .xinQualifyTimeout => Sys2Proof.Machine.execXinQualifyTimeout s
  | .pllLock => Sys2Proof.Machine.execPllLock s
  | .pllLockTimeout => Sys2Proof.Machine.execPllLockTimeout s
  | .clockLoss => Sys2Proof.Machine.execClockLoss s
  | .lpoLoss => Sys2Proof.Machine.execLpoLoss s
  | .spreadLockFailure => Sys2Proof.Machine.execSpreadLockFailure s
  | .clockRecovery => Sys2Proof.Machine.execClockRecovery s
  | .cruDvfsWrite v => Sys2Proof.Machine.execCruDvfsWrite v s
  | .pgoodStable => Sys2Proof.Machine.execPgoodStable s
  | .dividerStep => Sys2Proof.Machine.execDividerStep s
  | .pgTmo => Sys2Proof.Machine.execPgTmo s
  | .pgLost => Sys2Proof.Machine.execPgLost s
  | .cruPllctlWrite v => Sys2Proof.Machine.execCruPllctlWrite v s
  | .cruGateWrite v => Sys2Proof.Machine.execCruGateWrite v s
  | .standbyEnter => Sys2Proof.Machine.execStandbyEnter s
  | .wake cause => Sys2Proof.Machine.execWake cause s
  | .supplyDetectorFall aon => Sys2Proof.Machine.execSupplyDetectorFall aon s
  | .frontDieJoin d => Sys2Proof.Machine.execFrontDieJoin d s
  | .frontDieSupplyLoss d => Sys2Proof.Machine.execFrontDieSupplyLoss d s
  | .vcnSupplyLoss d => Sys2Proof.Machine.execVcnSupplyLoss d s
  | .stitchLinkLoss d => Sys2Proof.Machine.execStitchLinkLoss d s
  | .stitchLinkTrained d => Sys2Proof.Machine.execStitchLinkTrained d s
  | .overTemperature d => Sys2Proof.Machine.execOverTemperature d s
  | .temperatureRelease d => Sys2Proof.Machine.execTemperatureRelease d s
  | .rideThroughExpiry p => Sys2Proof.Machine.execRideThroughExpiry p s
  | .lockstepMismatch => Sys2Proof.Machine.execLockstepMismatch s
  | .eccUncorrectable mem addr who => Sys2Proof.Machine.execEccUncorrectable mem addr who s
  | .scrubRead mem addr who wrong => Sys2Proof.Machine.execScrubRead mem addr who wrong s
  | .eccHourRoll => Sys2Proof.Machine.execEccHourRoll s
  | .lockstepAgeOut => Sys2Proof.Machine.execLockstepAgeOut s
  | .wdgCtlWrite v => Sys2Proof.Machine.execWdgCtlWrite v s
  | .wdgKeyWrite v => Sys2Proof.Machine.execWdgKeyWrite v s
  | .wdgChkin task => Sys2Proof.Machine.execWdgChkin task s
  | .wdgWindowOpen => Sys2Proof.Machine.execWdgWindowOpen s
  | .wdgPeriodEnd => Sys2Proof.Machine.execWdgPeriodEnd s
  | .wdoPulseEnd => Sys2Proof.Machine.execWdoPulseEnd s
  | .sewKick e => Sys2Proof.Machine.execSewKick e s
  | .taskWatchdogExpiry e => Sys2Proof.Machine.execTaskWatchdogExpiry e s
  | .seCtlRun e run => Sys2Proof.Machine.execSeCtlRun e run s
  | .seCtlClr e => Sys2Proof.Machine.execSeCtlClr e s
  | .sePmdataWrite e v => Sys2Proof.Machine.execSePmdataWrite e v s
  | .seCycloRead e => Sys2Proof.Machine.execSeCycloRead e s
  | .add c f gd d rs t => Sys2Proof.Machine.execAdd c f gd d rs t s
  | .sub c f gd d rs t => Sys2Proof.Machine.execSub c f gd d rs t s
  | .and c f gd d rs t => Sys2Proof.Machine.execAnd c f gd d rs t s
  | .or c f gd d rs t => Sys2Proof.Machine.execOr c f gd d rs t s
  | .xor c f gd d rs t => Sys2Proof.Machine.execXor c f gd d rs t s
  | .shl c f gd d rs t => Sys2Proof.Machine.execShl c f gd d rs t s
  | .shr c f gd d rs t => Sys2Proof.Machine.execShr c f gd d rs t s
  | .sar c f gd d rs t => Sys2Proof.Machine.execSar c f gd d rs t s
  | .mul c f gd d rs t => Sys2Proof.Machine.execMul c f gd d rs t s
  | .mulhu c f gd d rs t => Sys2Proof.Machine.execMulhu c f gd d rs t s
  | .mulhs c f gd d rs t => Sys2Proof.Machine.execMulhs c f gd d rs t s
  | .min c f gd d rs t => Sys2Proof.Machine.execMin c f gd d rs t s
  | .max c f gd d rs t => Sys2Proof.Machine.execMax c f gd d rs t s
  | .minu c f gd d rs t => Sys2Proof.Machine.execMinu c f gd d rs t s
  | .maxu c f gd d rs t => Sys2Proof.Machine.execMaxu c f gd d rs t s
  | .addi c f gd d rs imm => Sys2Proof.Machine.execAddi c f gd d rs imm s
  | .andi c f gd d rs imm => Sys2Proof.Machine.execAndi c f gd d rs imm s
  | .ori c f gd d rs imm => Sys2Proof.Machine.execOri c f gd d rs imm s
  | .xori c f gd d rs imm => Sys2Proof.Machine.execXori c f gd d rs imm s
  | .shli c f gd d rs n => Sys2Proof.Machine.execShli c f gd d rs n s
  | .shri c f gd d rs n => Sys2Proof.Machine.execShri c f gd d rs n s
  | .sari c f gd d rs n => Sys2Proof.Machine.execSari c f gd d rs n s
  | .ceq c f gd mode pd rs t => Sys2Proof.Machine.execCeq c f gd mode pd rs t s
  | .cne c f gd mode pd rs t => Sys2Proof.Machine.execCne c f gd mode pd rs t s
  | .clt c f gd mode pd rs t => Sys2Proof.Machine.execClt c f gd mode pd rs t s
  | .cge c f gd mode pd rs t => Sys2Proof.Machine.execCge c f gd mode pd rs t s
  | .cltu c f gd mode pd rs t => Sys2Proof.Machine.execCltu c f gd mode pd rs t s
  | .cgeu c f gd mode pd rs t => Sys2Proof.Machine.execCgeu c f gd mode pd rs t s
  | .ceqi c f gd mode pd rs imm => Sys2Proof.Machine.execCeqi c f gd mode pd rs imm s
  | .cnei c f gd mode pd rs imm => Sys2Proof.Machine.execCnei c f gd mode pd rs imm s
  | .clti c f gd mode pd rs imm => Sys2Proof.Machine.execClti c f gd mode pd rs imm s
  | .cgei c f gd mode pd rs imm => Sys2Proof.Machine.execCgei c f gd mode pd rs imm s
  | .cltui c f gd mode pd rs imm => Sys2Proof.Machine.execCltui c f gd mode pd rs imm s
  | .cgeui c f gd mode pd rs imm => Sys2Proof.Machine.execCgeui c f gd mode pd rs imm s
  | .movl c f gd d imm => Sys2Proof.Machine.execMovl c f gd d imm s
  | .movh c f gd d imm => Sys2Proof.Machine.execMovh c f gd d imm s
  | .ldb c f gd d rs off => Sys2Proof.Machine.execLdb c f gd d rs off s
  | .ldbs c f gd d rs off => Sys2Proof.Machine.execLdbs c f gd d rs off s
  | .ldh c f gd d rs off => Sys2Proof.Machine.execLdh c f gd d rs off s
  | .ldhs c f gd d rs off => Sys2Proof.Machine.execLdhs c f gd d rs off s
  | .ldw c f gd d rs off => Sys2Proof.Machine.execLdw c f gd d rs off s
  | .stb c f gd d rs off => Sys2Proof.Machine.execStb c f gd d rs off s
  | .sth c f gd d rs off => Sys2Proof.Machine.execSth c f gd d rs off s
  | .stw c f gd d rs off => Sys2Proof.Machine.execStw c f gd d rs off s
  | .br c f gd off => Sys2Proof.Machine.execBr c f gd off s
  | .call c f gd off => Sys2Proof.Machine.execCall c f gd off s
  | .jr c f gd rs off => Sys2Proof.Machine.execJr c f gd rs off s
  | .callr c f gd rs off => Sys2Proof.Machine.execCallr c f gd rs off s
  | .ret c f gd => Sys2Proof.Machine.execRet c f gd s
  | .mov c f gd d rs => Sys2Proof.Machine.execMov c f gd d rs s
  | .movi c f gd d n => Sys2Proof.Machine.execMovi c f gd d n s
  | .not c f gd d => Sys2Proof.Machine.execNot c f gd d s
  | .neg c f gd d => Sys2Proof.Machine.execNeg c f gd d s
  | .sextb c f gd d => Sys2Proof.Machine.execSextb c f gd d s
  | .sexth c f gd d => Sys2Proof.Machine.execSexth c f gd d s
  | .zexth c f gd d => Sys2Proof.Machine.execZexth c f gd d s
  | .nop c f gd => Sys2Proof.Machine.execNop c f gd s
  | .mfs c f gd d sr => Sys2Proof.Machine.execMfs c f gd d sr s
  | .mts c f gd sr rs => Sys2Proof.Machine.execMts c f gd sr rs s
  | .wfe c f gd d rs => Sys2Proof.Machine.execWfe c f gd d rs s
  | .wfeWake c => Sys2Proof.Machine.execWfeWake c s
  | .wuntil c f gd d rs => Sys2Proof.Machine.execWuntil c f gd d rs s
  | .wuntilWake c => Sys2Proof.Machine.execWuntilWake c s
  | .sev c f gd rs => Sys2Proof.Machine.execSev c f gd rs s
  | .pget c f gd d => Sys2Proof.Machine.execPget c f gd d s
  | .pput c f gd rs => Sys2Proof.Machine.execPput c f gd rs s
  | .fence c f gd => Sys2Proof.Machine.execFence c f gd s
  | .tmrEnset b v => Sys2Proof.Machine.execTmrEnset b v s
  | .tmrEnclr b v => Sys2Proof.Machine.execTmrEnclr b v s
  | .tmrRelnow b v => Sys2Proof.Machine.execTmrRelnow b v s
  | .tmrCmpWrite b n v => Sys2Proof.Machine.execTmrCmpWrite b n v s
  | .tmrUnderflow b n => Sys2Proof.Machine.execTmrUnderflow b n s
  | .tmrMatch b n => Sys2Proof.Machine.execTmrMatch b n s
  | .tmrCapture n rising => Sys2Proof.Machine.execTmrCapture n rising s
  | .tmrCntRead b n => Sys2Proof.Machine.execTmrCntRead b n s
  | .twcGo b check => Sys2Proof.Machine.execTwcGo b check s
  | .twcNack b wdone => Sys2Proof.Machine.execTwcNack b wdone s
  | .twcSclTimeout b wdone rdone => Sys2Proof.Machine.execTwcSclTimeout b wdone rdone s
  | .twcArbitrationLoss b byte bit => Sys2Proof.Machine.execTwcArbitrationLoss b byte bit s
  | .twcRetry b => Sys2Proof.Machine.execTwcRetry b s
  | .twcTxdWrite b v => Sys2Proof.Machine.execTwcTxdWrite b v s
  | .twcRxdRead b => Sys2Proof.Machine.execTwcRxdRead b s
  | .twcCmdRecover b check => Sys2Proof.Machine.execTwcCmdRecover b check s
  | .twcCmdAbort b wdone rdone => Sys2Proof.Machine.execTwcCmdAbort b wdone rdone s
  | .otpCmdRead => Sys2Proof.Machine.execOtpCmdRead s
  | .otpCmdReadHigh => Sys2Proof.Machine.execOtpCmdReadHigh s
  | .otpCmdReadLow => Sys2Proof.Machine.execOtpCmdReadLow s
  | .otpCmdProgram => Sys2Proof.Machine.execOtpCmdProgram s
  | .otpCmdWriteLock => Sys2Proof.Machine.execOtpCmdWriteLock s
  | .otpCmdReadLock => Sys2Proof.Machine.execOtpCmdReadLock s
  | .otpCmdScanStart => Sys2Proof.Machine.execOtpCmdScanStart s
  | .otpCmdScanStop => Sys2Proof.Machine.execOtpCmdScanStop s
  | .otpPulseDone hi nrm lo => Sys2Proof.Machine.execOtpPulseDone hi nrm lo s
  | .otpScanWord => Sys2Proof.Machine.execOtpScanWord s
  | .flcCmdRead => Sys2Proof.Machine.execFlcCmdRead s
  | .flcCmdProgram key => Sys2Proof.Machine.execFlcCmdProgram key s
  | .flcCmdErase key => Sys2Proof.Machine.execFlcCmdErase key s
  | .flcCmdReset => Sys2Proof.Machine.execFlcCmdReset s
  | .flcCmdStatus => Sys2Proof.Machine.execFlcCmdStatus s
  | .flcOperationDone ok fsr => Sys2Proof.Machine.execFlcOperationDone ok fsr s
  | .flcTrialCommit => Sys2Proof.Machine.execFlcTrialCommit s
  | .trialWindowExpiry => Sys2Proof.Machine.execTrialWindowExpiry s
  | .loaderPing => Sys2Proof.Machine.execLoaderPing s
  | .loaderBaud div => Sys2Proof.Machine.execLoaderBaud div s
  | .loaderBaudRevert => Sys2Proof.Machine.execLoaderBaudRevert s
  | .loaderBegin slot hdr => Sys2Proof.Machine.execLoaderBegin slot hdr s
  | .loaderBlock index block verified => Sys2Proof.Machine.execLoaderBlock index block verified s
  | .loaderEnd verified => Sys2Proof.Machine.execLoaderEnd verified s
  | .loaderErase slot => Sys2Proof.Machine.execLoaderErase slot s
  | .loaderRead addr count => Sys2Proof.Machine.execLoaderRead addr count s
  | .loaderRestart => Sys2Proof.Machine.execLoaderRestart s
  | .loaderFrameGap => Sys2Proof.Machine.execLoaderFrameGap s
  | .loaderBadFrame unknown => Sys2Proof.Machine.execLoaderBadFrame unknown s
  | .powerUp straps bist => Sys2Proof.Machine.execPowerUp straps bist s
  | .cryptoDone ok => Sys2Proof.Machine.execCryptoDone ok s
  | .sdTransferDone r => Sys2Proof.Machine.execSdTransferDone r s
  | .twcTransferDone b rdata => Sys2Proof.Machine.execTwcTransferDone b rdata s
  | .mtStop => Sys2Proof.Machine.execMtStop s

end Sys2Proof.Machine
end

