-- ==== Sys2Proof/Machine/Idle.lean ====
section
/-! DEFINITION. What passes while no command waits: one microsecond of the device time (log entry 3), and the
start that a completed command has asked for, once its time has come (09 R270, 17 R429). -/

namespace Sys2Proof.Machine
open Sys2Proof

/-- The start that is due. -/
def startDue (d : Due) (s : State) : State :=
  match d with
  | .warm kind slot => if kind = 1 then requestHitless slot s else requestWarm 0 s
  | .cold 0 => requestCold s
  | .cold _ => recoverCold s

/-- One microsecond passes; a BUS_XFER that has waited its 50 ms ends (15 R389), and a start that is due begins. -/
def idle (s : State) : State :=
  let s := busPatience 1 (busPatience 0 (tick s))
  match s.boot.due with
  | some (t, d) => if t ≤ s.time then startDue d { s with boot := { s.boot with due := none } } else s
  | none => s

end Sys2Proof.Machine
end

