-- ==== Sys2Proof/WellFormed.lean ====
section
/-! DEFINITION. Well-formed commands: a host command's header (08 Table HST-5), and a DWX instruction that its
form can spell (13 R345 to R348, Table DWX-3 to Table DWX-6). The other rows' operands are bounded by their
types. -/

namespace Sys2Proof

/-- A header that an entry can carry: TAG from 0 to 511, PORT a port or 0xFF. -/
def Hdr.wf (h : Hdr) : Bool := h.tag < 512 && (h.port < 96 || h.port == 255)

/-- The header of a host command. -/
def Instr.hdr? : Instr → Option Hdr
  | .hello h _ _ | .goodbye h | .identify h | .echo h _ | .timeSync h _ => some h
  | .portConfig h _ _ | .portEnable h | .portDisable h | .portStatus h _ _ _ _ | .portSwap h _
  | .portCaps h _ _ _ | .portHardReset h _ | .portClearRetry h | .portCaptive h _ _ _ _ => some h
  | .vdmSend h _ _ _ | .vdmRespond h _ _ _ | .msgSend h _ _ _ _ | .authChallenge h _ _ _
  | .discover h _ _ _ _ => some h
  | .caddyFeeds h _ _ _ _ _ | .caddyClass h _ _ _ | .caddyStatus h _ | .caddyRow h _
  | .caddyShed h _ _ _ _ => some h
  | .pathCurve h _ _ _ | .pathLimits h _ _ | .pathStatus h _ | .feedPriority h _ _ _ _ _ _ => some h
  | .telConfig h _ _ | .telStart h | .telStop h | .telSnapshot h | .evtRoute h _ _ _ | .evtMask h _ _ _ => some h
  | .updFromCard h _ _ | .updBegin h _ _ | .updBlock h _ _ _ _ | .updEnd h _ | .updActivate h _ | .updState h
  | .updAbort h => some h
  | .sysRestart h _ | .sysHealth h | .sysSettingsSave h _ _ | .sysSettingsDefault h _ _ | .sysLogRead h _ _ _
  | .sysPerf h _ _ => some h
  | .otpRead h _ _ | .otpProgram h _ _ | .otpMarginScan h _ | .otpLock h _ _ => some h
  | .busXfer h _ _ _ _ _ _ _ _ => some h
  | _ => none

/-- Width of the immediate: 11 bits wide, 10 bits compact long (13 R346). -/
def Form.immBits (f : Form) : Nat := if f = .wide then 11 else 10

/-- A signed value fits in `n` bits. -/
def fitsSigned (n : Nat) (x : Int) : Bool := decide (-(2 ^ (n - 1) : Int) ≤ x) && decide (x < 2 ^ (n - 1))

/-- A register that a compact short instruction names. -/
def lowReg (r : Fin 16) : Bool := r.val < 8

/-- Three registers: a short instruction has its destination as its first source. -/
def Form.fits3 (f : Form) (short : Bool) (d s t : Fin 16) : Bool :=
  f != .short || (short && d == s && lowReg d && lowReg t)

/-- A load or a store: a short one is LDW or STW with no offset. -/
def Form.fitsMem (f : Form) (short : Bool) (d s : Fin 16) (off : Int) : Bool :=
  if f = .short then short && lowReg d && lowReg s && off == 0 else fitsSigned f.immBits off

/-- A one-register short instruction, which the other forms do not have. -/
def Form.onlyShort (f : Form) (d : Fin 16) : Bool := f == .short && lowReg d

/-- A shift by a constant: a short one shifts its own register by 1 to 8. -/
def Form.fitsShift (f : Form) (short : Bool) (d s : Fin 16) (n : Fin 32) : Bool :=
  f != .short || (short && d == s && lowReg d && 1 ≤ n.val && n.val ≤ 8)

/-- A jump through a register: a short one has no offset. -/
def Form.fitsJump (f : Form) (s : Fin 16) (off : Int) : Bool :=
  if f = .short then lowReg s && off == 0 else fitsSigned f.immBits off

/-- A branch: 19 bits wide, 18 compact long, 6 short. -/
def Form.fitsBranch (f : Form) (short : Bool) (off : Int) : Bool :=
  match f with
  | .wide => fitsSigned 19 off
  | .long => fitsSigned 18 off
  | .short => short && fitsSigned 6 off

/-- The form can spell the instruction. -/
def Instr.formOk : Instr → Bool
  | .add _ f _ d s t | .sub _ f _ d s t | .and _ f _ d s t | .or _ f _ d s t | .xor _ f _ d s t
  | .shl _ f _ d s t => f.fits3 true d s t
  | .shr _ f _ d s t | .sar _ f _ d s t | .mul _ f _ d s t | .mulhu _ f _ d s t | .mulhs _ f _ d s t
  | .min _ f _ d s t | .max _ f _ d s t | .minu _ f _ d s t | .maxu _ f _ d s t => f.fits3 false d s t
  | .addi _ f _ d s imm => if f = .short then d == s && lowReg d && decide (-4 ≤ imm) && decide (imm ≤ 4)
      && imm != 0 else fitsSigned f.immBits imm
  | .andi _ f _ _ _ n | .ori _ f _ _ _ n | .xori _ f _ _ _ n => f != .short && n < 2 ^ f.immBits
  | .shli _ f _ d s n | .shri _ f _ d s n => f.fitsShift true d s n
  | .sari _ f _ d s n => f.fitsShift false d s n
  | .ceq _ f _ _ _ _ _ | .cne _ f _ _ _ _ _ | .clt _ f _ _ _ _ _ | .cge _ f _ _ _ _ _ | .cltu _ f _ _ _ _ _
  | .cgeu _ f _ _ _ _ _ => f != .short
  | .ceqi _ f _ _ _ _ n | .cnei _ f _ _ _ _ n | .clti _ f _ _ _ _ n | .cgei _ f _ _ _ _ n | .cltui _ f _ _ _ _ n
  | .cgeui _ f _ _ _ _ n => f != .short && fitsSigned f.immBits n
  | .movl _ f _ _ _ | .movh _ f _ _ _ => f != .short
  | .ldw _ f _ d s off | .stw _ f _ d s off => f.fitsMem true d s off
  | .ldb _ f _ d s off | .ldbs _ f _ d s off | .ldh _ f _ d s off | .ldhs _ f _ d s off | .stb _ f _ d s off
  | .sth _ f _ d s off => f.fitsMem false d s off
  | .br _ f _ off => f.fitsBranch true off
  | .call _ f _ off => f.fitsBranch false off
  | .jr _ f _ s off | .callr _ f _ s off => f.fitsJump s off
  | .mov _ f _ d s => f == .short && lowReg d && lowReg s
  | .movi _ f _ d _ | .not _ f _ d | .neg _ f _ d | .sextb _ f _ d | .sexth _ f _ d | .zexth _ f _ d => f.onlyShort d
  | .mfs _ f _ _ _ | .mts _ f _ _ _ | .pget _ f _ _ | .pput _ f _ _ => f != .short
  | .wfe _ f _ d s => f != .short || (d == s && lowReg d)
  | .wuntil _ f _ _ _ => f != .short
  | .sev _ f _ s => f != .short || lowReg s
  | _ => true

/-- A well-formed command. -/
def Instr.wf (i : Instr) : Bool := (i.hdr?.map Hdr.wf).getD true && i.formOk

end Sys2Proof
end

