-- ==== Sys2Proof/Safety.lean ====
section
/-! DEFINITION. What counts as a sound state and what a command does, in the terms the statements use. -/

namespace Sys2Proof.Machine
open Sys2Proof

/-- The command answers a next state, of which `P` holds. -/
def Moves (i : Instr) (s : State) (P : State → Prop) : Prop := ∃ t, exec i s = .next t ∧ P t

/-- Nothing outside the clock root differs. -/
def OnlyCru (s t : State) : Prop := { t with cru := s.cru } = s

/-- Nothing outside the window watchdog differs. -/
def OnlyWdg (s t : State) : Prop := { t with wdg := s.wdg } = s

/-- The engine alone differs; with its core, the core alone too. -/
def OnlyEngine (e : EngId) (s t : State) : Prop :=
  { t with engines := s.engines } = s ∧ ∀ f : EngId, f ≠ e → t.engines[f] = s.engines[f]

/-- Nothing of the port waits for its engine: no step kept, no result in its window, no retry due, no Rp level to be
presented (06 R163), no negotiation that a check of its context would restart (01 R21). -/
abbrev Resumed (s : State) (p : PortId) : Prop :=
  (s.ports[p].st = .detached ∨ s.ports[p].st = .attachWait ∨ F.CAD_PHOLD.WAIT5.on s.cadp[p].regs.phold = true →
    F.CC_CTL.RP_LVL.get s.ports[p].cc.ctl = askedLevel s.cadp[p]) ∧
  s.ports[p].st ≠ .castingOn ∧ s.ports[p].pol.pend = [] ∧ F.CAD_WRES.VALID.on s.cad.wres[p] = false ∧
    s.ports[p].retryIsDue = false

/-! ## DWX instructions (13) -/

/-- A DWX instruction issues and takes effect: the core executes its encoding (R344), its parcels lie in
program memory (R343) and its guard holds (R342). -/
abbrev Issues (s : State) (c : CoreId) (f : Form) (gd : Fin 8) : Prop :=
  coreRuns s c = true ∧ encodes s.cores[c] f = true ∧ s.cores[c].pc + Form.parcels f ≤ progSize c ∧
    guardOn s.cores[c] gd = true

/-- Two states differ in one core at most. -/
def OnlyCore (c : CoreId) (s t : State) : Prop :=
  { t with cores := s.cores } = s ∧ ∀ x : CoreId, x ≠ c → t.cores[x] = s.cores[x]

/-- The core's program counter moved past the instruction and nothing but its general registers and predicates
changed beside it. -/
def Advanced (s t : State) (c : CoreId) (f : Form) : Prop :=
  OnlyCore c s t ∧ t.cores[c].pc = s.cores[c].pc + Form.parcels f ∧
    { t.cores[c] with g := s.cores[c].g, p := s.cores[c].p, pc := s.cores[c].pc } = s.cores[c]

/-- The core's registers, read as a program reads them: `d` holds `v` unless it is g0, every other is as before, and
every predicate is as before. -/
def OnlyReg (s t : State) (c : CoreId) (d : Fin 16) (v : Word) : Prop :=
  (∀ r, t.cores[c].reg r = if r = d ∧ r ≠ 0 then v else s.cores[c].reg r) ∧
    ∀ i, t.cores[c].pred i = s.cores[c].pred i

/-- The instruction answers a next state in which register `d` holds `v` and only that and the program counter
changed. -/
def PutsReg (i : Instr) (s : State) (c : CoreId) (f : Form) (d : Fin 16) (v : Word) : Prop :=
  ∃ t, exec i s = .next t ∧ Advanced s t c f ∧ OnlyReg s t c d v

/-- The instruction answers a next state in which predicate `pd` holds `b`, unless it is p0, and only that and the
program counter changed. -/
def PutsPred (i : Instr) (s : State) (c : CoreId) (f : Form) (pd : Fin 4) (b : Bool) : Prop :=
  ∃ t, exec i s = .next t ∧ Advanced s t c f ∧ (∀ r, t.cores[c].reg r = s.cores[c].reg r) ∧
    ∀ j, t.cores[c].pred j = if j = pd ∧ j ≠ 0 then b else s.cores[c].pred j

/-- The core faults with a code (Table DWX-9): an engine is faulted and records the code and the parcel address, the
control pair stops; nothing else changes. -/
def Faults (i : Instr) (s : State) (c : CoreId) (code : Nat) : Prop :=
  ∃ t, exec i s = .next t ∧ t.cores = s.cores ∧
    match engineCore c with
    | some e =>
      F.SE_STAT.STATE.get t.engines[e].se.stat = 3 ∧ F.SE_STAT.FAULT.get t.engines[e].se.stat = code ∧
      F.SE_FPC.PC.get t.engines[e].se.fpc = s.cores[c].pc % 65536 ∧
      (∀ x : EngId, x ≠ e → t.engines[x] = s.engines[x]) ∧
      { t with engines := s.engines } = s
    | none => t.boot.cpState = 3 ∧ { t with boot := { t.boot with cpState := s.boot.cpState } } = s

/-- The address is data SRAM of the core or shared SRAM. -/
def inRam (s : State) (c : CoreId) (a : Nat) : Bool :=
  match placeOf s c a with
  | .dmem _ | .sram _ => true
  | _ => false

/-- A byte of RAM as the core's map shows it; 0 where the map holds no RAM. -/
def ramByte (s : State) (c : CoreId) (a : Nat) : Byte :=
  match placeOf s c a with
  | .dmem x => cget 0 s.cores[c].dmem x
  | .sram x => cget 0 s.sram x
  | _ => 0

/-- A store of `n` bytes of RAM by a core: the bytes at the address hold the low bytes of the word, least significant
first, every other byte that the core sees and everything else are as before, the program counter moved. -/
def StoresRam (i : Instr) (s : State) (c : CoreId) (f : Form) (a n : Nat) (v : Word) : Prop :=
  ∃ t, exec i s = .next t ∧
    (∀ x, ramByte t c x = if a ≤ x ∧ x < a + n then v.extractLsb' (8 * (x - a)) 8 else ramByte s c x) ∧
    t.cores[c].pc = s.cores[c].pc + Form.parcels f ∧
    { t.cores[c] with pc := s.cores[c].pc, dmem := s.cores[c].dmem } = s.cores[c] ∧
    (∀ x : CoreId, x ≠ c → t.cores[x] = s.cores[x]) ∧
    { t with cores := s.cores, sram := s.sram, diag := { t.diag with bad := s.diag.bad } } = s

/-- The core's program counter becomes `target` and, with `link`, g15 the address of the next instruction; nothing
else changes. -/
def Jumps (i : Instr) (s : State) (c : CoreId) (f : Form) (link : Bool) (target : Int) : Prop :=
  ∃ t, exec i s = .next t ∧ OnlyCore c s t ∧ (t.cores[c].pc : Int) = target ∧
    (∀ r, t.cores[c].reg r = if link ∧ r = 15 then BitVec.ofNat 32 (s.cores[c].pc + Form.parcels f)
      else s.cores[c].reg r) ∧
    { t.cores[c] with g := s.cores[c].g, pc := s.cores[c].pc } = s.cores[c]

/-- A wait ends: `d` holds the snapshot, the snapshot's latched lines are clear, the core goes on at `next`. -/
def WaitEnds (s t : State) (c : CoreId) (d : Fin 16) (snap : Word) (next : Nat) : Prop :=
  OnlyReg s t c d snap ∧ t.cores[c].latched = s.cores[c].latched &&& ~~~snap ∧ t.cores[c].wait = none ∧
    t.cores[c].pc = next ∧ (∀ x : CoreId, x ≠ c → t.cores[x] = s.cores[x]) ∧
    { t with cores := s.cores, engines := s.engines, boot := s.boot } = s

/-- The core waits at its instruction: nothing of its registers changes. -/
def WaitStarts (s t : State) (c : CoreId) (w : CoreWait) : Prop :=
  coreState t c = 2 ∧ { s.cores[c] with wait := some w } = t.cores[c] ∧
    (∀ x : CoreId, x ≠ c → t.cores[x] = s.cores[x]) ∧
    { t with cores := s.cores, engines := s.engines, boot := s.boot } = s

/-- The core, form and guard of a command that is a DWX instruction. -/
def dwx? : Instr → Option (CoreId × Form × Fin 8)
  | .add c f g _ _ _ | .sub c f g _ _ _ | .and c f g _ _ _ | .or c f g _ _ _ | .xor c f g _ _ _ | .shl c f g _ _ _
  | .shr c f g _ _ _ | .sar c f g _ _ _ | .mul c f g _ _ _ | .mulhu c f g _ _ _ | .mulhs c f g _ _ _
  | .min c f g _ _ _ | .max c f g _ _ _ | .minu c f g _ _ _ | .maxu c f g _ _ _ | .addi c f g _ _ _
  | .andi c f g _ _ _ | .ori c f g _ _ _ | .xori c f g _ _ _ | .shli c f g _ _ _ | .shri c f g _ _ _
  | .sari c f g _ _ _ | .ceq c f g _ _ _ _ | .cne c f g _ _ _ _ | .clt c f g _ _ _ _ | .cge c f g _ _ _ _
  | .cltu c f g _ _ _ _ | .cgeu c f g _ _ _ _ | .ceqi c f g _ _ _ _ | .cnei c f g _ _ _ _ | .clti c f g _ _ _ _
  | .cgei c f g _ _ _ _ | .cltui c f g _ _ _ _ | .cgeui c f g _ _ _ _ | .movl c f g _ _ | .movh c f g _ _
  | .ldb c f g _ _ _ | .ldbs c f g _ _ _ | .ldh c f g _ _ _ | .ldhs c f g _ _ _ | .ldw c f g _ _ _
  | .stb c f g _ _ _ | .sth c f g _ _ _ | .stw c f g _ _ _ | .br c f g _ | .call c f g _ | .jr c f g _ _
  | .callr c f g _ _ | .ret c f g | .mov c f g _ _ | .movi c f g _ _ | .not c f g _ | .neg c f g _
  | .sextb c f g _ | .sexth c f g _ | .zexth c f g _ | .nop c f g | .mfs c f g _ _ | .mts c f g _ _
  | .wfe c f g _ _ | .wuntil c f g _ _ | .sev c f g _ | .pget c f g _ | .pput c f g _ | .fence c f g => some (c, f, g)
  | _ => none

/-! ## Host commands (08, 09) -/

/-- The device takes the command up: it serves host commands, no earlier command must complete first (08 R223) and the
tag is free (R219). -/
abbrev Ready (h : Hdr) (opc : Nat) (fence : Bool) (s : State) : Prop :=
  hostServed s = true ∧ blocked h opc fence s = false ∧ tagFree h opc s = true

/-- The device takes the command up, and a session is open (R226). -/
abbrev Taken (h : Hdr) (opc : Nat) (s : State) : Prop := Ready h opc h.fence s ∧ sessionOpen s = true

/-- The device takes up a command of the system part. -/
abbrev TakenSys (h : Hdr) (opc : Nat) (s : State) : Prop := Taken h opc s ∧ h.port = 255

/-- The device takes up a command of a populated port that an engine serves. -/
abbrev TakenPort (h : Hdr) (opc : Nat) (p : PortId) (s : State) : Prop :=
  Taken h opc s ∧ h.port = p.val ∧ portServed s p = true ∧ unpopulated s p = false

/-- Between two states one completion was written (08 R217, R220): the entry stands whole in the slot of the old tail
and the tail has advanced by one; the command waits no more. -/
def Answered (h : Hdr) (opc : Nat) (st : Status) (result : List Byte) (s t : State) : Prop :=
  winRead t (0x20000 + 32 * (cplTail s % 512)) 32 = cplBytes s h.tag opc h.port st result ∧
    cplTail t = (cplTail s + 1) % 1024 ∧
    (∀ w ∈ t.host.waits, w.tag ≠ h.tag) ∧ ∀ c ∈ t.host.consumed, c.tag ≠ h.tag

/-- The command answers a next state with one completion, and `P` of that state. -/
def Replies (i : Instr) (s : State) (h : Hdr) (opc : Nat) (st : Status) (result : List Byte)
    (P : State → Prop) : Prop :=
  ∃ t, exec i s = .next t ∧ Answered h opc st result s t ∧ P t

/-- Nothing outside the host side differs, and in it neither the session nor a route. -/
def OnlyHost (s t : State) : Prop :=
  { t with host := s.host } = s ∧ t.host.session = s.host.session ∧ t.host.routes = s.host.routes

/-- A port's registers with its event queue left out: what a completion, which first sends the port's events to the
ring (08 R224), leaves alone. -/
def Port.noQueue (q : Port) : Port := { q with pol := { q.pol with queue := [], held := [] } }

/-- Beside one port's registers and the host side nothing differs, nor the session nor a route; the port, its event
queue left out, is `q`. -/
def OnlyPort (p : PortId) (q : Port) (s t : State) : Prop :=
  { t with host := s.host, ports := s.ports } = s ∧ t.host.session = s.host.session ∧ t.host.routes = s.host.routes ∧
    (∀ r : PortId, r ≠ p → t.ports[r] = s.ports[r]) ∧ t.ports[p].noQueue = q.noQueue

/-- Beside one port's registers and the host side nothing differs; a core's write changed the port as `f` says: with its
die's stitch link up in the front die and in the control die's copy alike, with the link down in the control die's part
alone (01 R31, R32). -/
def OnlyWritten (p : PortId) (f : Port → Port) (s t : State) : Prop :=
  OnlyPort p (Port.reached (linkUp s (dieOf p)) f s.ports[p]) s t

/-- The bulk ranges that the command's consumed entry names, which the device owns until it completes (08 R220). -/
def namedRanges (h : Hdr) (s : State) : List (Nat × Nat) :=
  (s.host.consumed.filter fun c => c.tag == h.tag).flatMap Consumed.ranges

/-- The command waits for what the device does for it, with no completion yet. -/
def WaitsFor (i : Instr) (s : State) (h : Hdr) (opc : Nat) (k : WaitKind) (P : State → Prop) : Prop :=
  ∃ t, exec i s = .next t ∧ (⟨h.tag, opc, h.port, h.fence, k, namedRanges h s⟩ : Wait) ∈ t.host.waits ∧
    cplTail t = cplTail s ∧ P t

/-- The header and the opcode (09 Table CMD-2) of a host command. -/
def hostOpc? : Instr → Option (Hdr × Nat)
  | .hello h _ _ => some (h, 0x001)
  | .goodbye h => some (h, 0x002)
  | .identify h => some (h, 0x003)
  | .echo h _ => some (h, 0x004)
  | .timeSync h _ => some (h, 0x005)
  | .portConfig h _ _ => some (h, 0x101)
  | .portEnable h => some (h, 0x102)
  | .portDisable h => some (h, 0x103)
  | .portStatus h _ _ _ _ => some (h, 0x104)
  | .portSwap h _ => some (h, 0x105)
  | .portCaps h _ _ _ => some (h, 0x106)
  | .portHardReset h _ => some (h, 0x107)
  | .portClearRetry h => some (h, 0x108)
  | .portCaptive h _ _ _ _ => some (h, 0x109)
  | .vdmSend h _ _ _ => some (h, 0x201)
  | .vdmRespond h _ _ _ => some (h, 0x202)
  | .msgSend h _ _ _ _ => some (h, 0x203)
  | .authChallenge h _ _ _ => some (h, 0x204)
  | .discover h _ _ _ _ => some (h, 0x205)
  | .caddyFeeds h _ _ _ _ _ => some (h, 0x301)
  | .caddyClass h _ _ _ => some (h, 0x302)
  | .caddyStatus h _ => some (h, 0x303)
  | .caddyRow h _ => some (h, 0x304)
  | .caddyShed h _ _ _ _ => some (h, 0x305)
  | .pathCurve h _ _ _ => some (h, 0x401)
  | .pathLimits h _ _ => some (h, 0x402)
  | .pathStatus h _ => some (h, 0x403)
  | .feedPriority h _ _ _ _ _ _ => some (h, 0x404)
  | .telConfig h _ _ => some (h, 0x501)
  | .telStart h => some (h, 0x502)
  | .telStop h => some (h, 0x503)
  | .telSnapshot h => some (h, 0x504)
  | .evtRoute h _ _ _ => some (h, 0x601)
  | .evtMask h _ _ _ => some (h, 0x602)
  | .updFromCard h _ _ => some (h, 0x701)
  | .updBegin h _ _ => some (h, 0x702)
  | .updBlock h _ _ _ _ => some (h, 0x703)
  | .updEnd h _ => some (h, 0x704)
  | .updActivate h _ => some (h, 0x705)
  | .updState h => some (h, 0x706)
  | .updAbort h => some (h, 0x707)
  | .sysRestart h _ => some (h, 0x801)
  | .sysHealth h => some (h, 0x802)
  | .sysSettingsSave h _ _ => some (h, 0x803)
  | .sysSettingsDefault h _ _ => some (h, 0x804)
  | .sysLogRead h _ _ _ => some (h, 0x805)
  | .sysPerf h _ _ => some (h, 0x806)
  | .otpRead h _ _ => some (h, 0x901)
  | .otpProgram h _ _ => some (h, 0x902)
  | .otpMarginScan h _ => some (h, 0x903)
  | .otpLock h _ _ => some (h, 0x904)
  | .busXfer h _ _ _ _ _ _ _ _ => some (h, 0xA01)
  | _ => none

/-! ## Ports (03, 04, 05) -/

/-- The port's engine acts on a step at once: it serves the port, and no earlier step waits in the port's context (01 R20,
R21). Else the step waits there. -/
abbrev Acts (s : State) (p : PortId) : Prop := portServed s p = true ∧ s.ports[p].pol.pend = []

/-- The command answers a next state that differs from `s` in the port alone, with `R` of the port. -/
def MovesPort (i : Instr) (s : State) (p : PortId) (R : Port → Prop) : Prop :=
  ∃ t, exec i s = .next t ∧ { t with ports := s.ports } = s ∧ (∀ r : PortId, r ≠ p → t.ports[r] = s.ports[r]) ∧
    R t.ports[p]

/-- As MovesPort, where the port's ledger entry changes too. -/
def MovesPortAndLedger (i : Instr) (s : State) (p : PortId) (R : Port → Prop) : Prop :=
  ∃ t, exec i s = .next t ∧ { t with ports := s.ports, cadp := s.cadp } = s ∧
    (∀ r : PortId, r ≠ p → t.ports[r] = s.ports[r] ∧ t.cadp[r] = s.cadp[r]) ∧ R t.ports[p]

/-- The port's power is down: gate and converter off, sink on, VCONN open (03 R72, 05 R139, R151). -/
def Port.isDown (q : Port) : Prop :=
  F.PTH_CTL.PATH_EN.on q.pth.ctl = false ∧ F.PTH_STAT.GATE_ON.on q.pth.stat = false ∧
  F.PTH_CTL.CEN_EN.on q.pth.ctl = false ∧ F.PTH_CTL.DIS_EN.on q.pth.ctl = true ∧
  F.PTH_STAT.DIS_ON.on q.pth.stat = true ∧ F.VCONN_CTL.VCONN_EN.on q.cc.vctl = false ∧ q.vconnOn = false

/-- Terminations of both pins: 0 open, 1 Rp, 2 Rd. -/
def Port.termsAre (n : Nat) (q : Port) : Prop :=
  F.CC_CTL.CC1_TERM.get q.cc.ctl = n ∧ F.CC_CTL.CC2_TERM.get q.cc.ctl = n

/-- The step of the port's policy waits in its port-policy context (01 R20, R21). -/
def Port.keeps (i : Instr) (q t : Port) : Prop := t.pol.pend = q.pol.pend ++ [i]

/-- The port can send on a context at once: nothing holds its PHY, waits to be sent or is under way. -/
abbrev Port.quiet (c : Fin 3) (q : Port) : Prop :=
  q.phyHeld = false ∧ q.pol.txq = [] ∧ q.pol.await = none ∧ q.pol.next = none ∧ q.pol.swap = none ∧
    q.pol.discDue = false ∧ q.ctxOn c = true ∧ q.orient ≠ 0

/-- A message stands in transmit buffer 0, and the context holds the PHY for it. -/
def Port.sends (c : Fin 3) (m : List Byte) (w : TxPurpose) (t : Port) : Prop :=
  t.phw.txbuf[0].take m.length = m ∧ t.pol.txNow[c] = some w ∧ (t.result c = 1 ∨ t.result c = 2)

/-- No host command waits for the port. -/
abbrev noWaits (s : State) (p : PortId) : Prop := ∀ w ∈ s.host.waits, w.port ≠ p.val

/-! ## Starts (11) -/

/-- A cold start with a cause (11 R301, R303): every port's gate and VCONN off, the flash and the fuse array as they were, but
for the cells and words of a program operation that it cut short. -/
def ColdStarted (cause : Nat) (s t : State) : Prop :=
  (t.boot.phase = .clocks ∨ t.boot.phase = .fuseFail) ∧ t.boot.ready = false ∧
    F.RST_CAUSE.KIND.get t.rst.cause = 2 ∧ F.RST_CAUSE.CAUSE.get t.rst.cause = cause ∧
    ((∀ o ∈ s.flash.op, o.op ≠ 2) → t.flash.cells = s.flash.cells) ∧ (s.otp.op = none → t.otp.words = s.otp.words) ∧
    (∀ p : PortId, t.ports[p].gateOn = false ∧ t.ports[p].vconnOn = false) ∧ t.pending = s.pending

/-- A warm start that passed its checks (11 R306, R307): the image of the slot entered, rows paused, the feeds as they were,
and, where nothing waited for the engines, the ports and their ledger entries as they were. -/
def WarmStarted (kind cause slot : Nat) (s t : State) : Prop :=
  t.boot.phase = .warm ∧ t.boot.ready = false ∧ t.boot.cpState = 1 ∧ F.RST_CAUSE.KIND.get t.rst.cause = kind ∧
    F.RST_CAUSE.CAUSE.get t.rst.cause = cause ∧ F.RST_BOOT.SLOT.get t.rst.boot = slot ∧
    F.RST_BOOT.RUN.on t.rst.boot = false ∧ F.CAD_STAT.PAUSED.on t.cad.regs.stat = true ∧
    ((∀ p : PortId, Resumed s p) → t.ports = s.ports ∧ t.cadp = s.cadp) ∧ t.feeds = s.feeds ∧ t.otp.words = s.otp.words ∧ t.pending = s.pending

/-- The flash is not busy with a program or an erase, the retention check and the program checks of a warm start pass, and no
engine fails its self-test. -/
abbrev WarmPasses (r : WarmReq) (s : State) : Prop :=
  flashBusy s = false ∧ retained r (warmBegin r s) = true ∧ programsOk r.slot (clearRun (warmBegin r s)) = true ∧ s.boot.bist = 0

/-! ## Waiting host commands and the two-wire buses (15) -/

/-- A waiting host command was completed: its entry stands whole in the slot of the old tail, and it waits no more. -/
def Completed (w : Wait) (st : Status) (result : List Byte) (s t : State) : Prop :=
  winRead t (0x20000 + 32 * (cplTail s % 512)) 32 = cplBytes s w.tag w.opc w.port st result ∧
    cplTail t = (cplTail s + 1) % 1024 ∧ ∀ v ∈ t.host.waits, v.tag ≠ w.tag

/-- A controller's transfer has ended: DONE with what was written and read; the other controller is as it was. -/
def TransferOver (b : Fin 2) (wdone rdone : Nat) (s t : State) : Prop :=
  t.twc[b].xfer = none ∧ F.TWC_EVT.DONE.on t.twc[b].regs.evt = true ∧ F.TWC_STAT.BUSY.on t.twc[b].regs.stat = false ∧
    F.TWC_DONE.WDONE.get t.twc[b].regs.done = wdone ∧ F.TWC_DONE.RDONE.get t.twc[b].regs.done = rdone ∧
    ∀ c : Fin 2, c ≠ b → t.twc[c] = s.twc[c]

/-- The command ends the transfer of a controller with a status and a result for the host command that waits for it, if
one does. -/
def EndsTransfer (i : Instr) (b : Fin 2) (wdone rdone : Nat) (st : Status) (result : List Byte) (s : State)
    (P : State → Prop) : Prop :=
  Moves i s fun t => TransferOver b wdone rdone s t ∧ P t ∧
    (findWait s (isBusWait b) = none → { t with twc := s.twc } = s) ∧
    ∀ w : Wait, findWait s (isBusWait b) = some w → Completed w st result s t

/-! ## The caddy (06) -/

/-- A row boundary of LEN with nothing to do but its own requests, at the budget `b`: no pause, no shed cycle, no standing
request, fall or waiting reservation, no copy of the ledger asked for, the Rp levels of V5 presented, and a feed whose
limit is the budget (06 R163, R169, R170, R177). -/
abbrev RowCalm (s : State) (b : Nat) : Prop :=
  hwUp s = true ∧ s.cru.standby = false ∧ F.CAD_ROWCFG.SYNC_EN.on s.cad.act.rowcfg = false ∧
  F.CAD_STAT.PAUSED.on s.cad.regs.stat = false ∧ F.CAD_STAT.SHEDDING.on s.cad.regs.stat = false ∧
  F.CAD_STAT.OVER.on s.cad.regs.stat = false ∧
  ((F.CAD_STAT.SOURCE.get s.cad.regs.stat = 1 ∧ b = F.CAD_LIM.LIM.get s.cad.regs.lima) ∨
    (F.CAD_STAT.SOURCE.get s.cad.regs.stat = 2 ∧ b = F.CAD_LIM.LIM.get s.cad.regs.limb)) ∧
  (s.host.waits.all fun w => match w.kind with | .ledger _ => false | _ => true) = true ∧
  ∀ p : PortId, s.cadp[p].stand = none ∧ s.cadp[p].subs = [] ∧ s.cadp[p].relAmt = 0 ∧
    F.CAD_PHOLD.WAIT5.on s.cadp[p].regs.phold = false ∧
    (portServed s p = false ∨ F.CC_CTL.RP_LVL.get s.ports[p].cc.ctl = min 2 (F.CAD_PCFG.V5.get s.cadp[p].regs.pcfg))

/-- The headroom of the row's snapshot (06 R171). -/
def headroom (s : State) : Nat := s.cad.snapB - s.cad.snapC - s.cad.snapW

/-- The result in a port's caddy window (06 R176). -/
def windowHolds (s : State) (p : PortId) (outcome gout : Nat) : Prop :=
  F.CAD_WRES.VALID.on s.cad.wres[p] = true ∧ F.CAD_WRES.OUTCOME.get s.cad.wres[p] = outcome ∧
    F.CAD_WRES.GOUT.get s.cad.wres[p] = gout % 65536

/-- The port's ledger entry alone differs, with `R` of it. -/
def MovesLedger (i : Instr) (s : State) (p : PortId) (R : CadPort → Prop) : Prop :=
  ∃ t, exec i s = .next t ∧ { t with cadp := s.cadp } = s ∧ (∀ r : PortId, r ≠ p → t.cadp[r] = s.cadp[r]) ∧ R t.cadp[p]

/-! ## Protocol hardware (04) -/

/-- The message stands in a receive buffer that was free, with its descriptor (04 R88). -/
def Port.stores (c : Fin 3) (m : List Byte) (q t : Port) : Prop :=
  ∃ k : Fin 4, F.PD_RXDESC.VALID.on q.pd.rxdesc[k] = false ∧ F.PD_RXDESC.VALID.on t.pd.rxdesc[k] = true ∧
    F.PD_RXDESC.SOP.get t.pd.rxdesc[k] = c.val ∧ F.PD_RXDESC.LEN.get t.pd.rxdesc[k] = m.length % 512 ∧
    F.PD_RXDESC.SEQ.get t.pd.rxdesc[k] = q.phw.rxSeq % 256 ∧ t.phw.rxbuf[k].take m.length = m ∧
    (∀ j : Fin 4, j ≠ k → t.pd.rxdesc[j] = q.pd.rxdesc[j]) ∧ F.PD_EVT.RX.on t.pd.evt = true

/-- Every receive buffer holds a message. -/
abbrev Port.rxFull (q : Port) : Prop := ∀ k : Fin 4, F.PD_RXDESC.VALID.on q.pd.rxdesc[k] = true

/-- A receive buffer that no reassembly holds is free. -/
abbrev Port.rxRoom (q : Port) : Prop := q.phw.reasm = none ∧ ∃ k : Fin 4, F.PD_RXDESC.VALID.on q.pd.rxdesc[k] = false

/-- The MessageID was the last one received (04 R94). -/
abbrev Port.heardId (q : Port) (c : Fin 3) (n : Nat) : Prop :=
  F.CTX_ID.RX_VALID.on q.ctx[c].id = true ∧ F.CTX_ID.RX_ID.get q.ctx[c].id = n

/-- The transmission of a context has ended with a result (04 R91). -/
def Port.ended (c : Fin 3) (result : Nat) (t : Port) : Prop :=
  t.result c = result ∧ F.CTX_TXSTAT.DONE.on t.ctx[c].txstat = true ∧ bitOf t.pd.evt (1 + c.val) = true ∧
    t.phw.onWire[c] = false

/-- MessageIDs and the previous MessageID of a context are reset. -/
def Port.idsReset (c : Fin 3) (t : Port) : Prop :=
  F.CTX_ID.TX_ID.get t.ctx[c].id = 0 ∧ F.CTX_ID.RX_VALID.on t.ctx[c].id = false

/-- Nothing of the port's policy starts by itself when a step of it has ended. -/
abbrev Port.idle (q : Port) : Prop :=
  q.pol.txq = [] ∧ q.pol.await = none ∧ q.pol.next = none ∧ q.pol.swap = none ∧ q.pol.discDue = false

/-! ## The whole machine -/

/-- The lock fuses named in `w` and `r` are blown: of each region's write lock and read lock, fuse by fuse (16 R403). -/
def LocksBlown (w r : Fin 8 → Fin 3 → Bool) (s : State) : Prop :=
  ∀ (g : Fin 8) (i : Fin 3), (w g i = true → s.otp.wlock[g][i] = true) ∧ (r g i = true → s.otp.rlock[g][i] = true)

end Sys2Proof.Machine
end

