-- ==== Sys2Proof/Certificates/Slice0/Obligations.lean ====
section
/-! DEFINITION. The statements about the machine. -/

open Sys2Proof Sys2Proof.Machine

/-! ## DWX instructions -/

/-- 13 Table DWX-4, format R: the two-register operations; shift counts are t bits 4:0, SHR fills with zeros and SAR
with bit 31, MULHU and MULHS give the high word of the 64-bit product, and arithmetic wraps (R341). Every other
register, every predicate and the rest of the device are unchanged. -/
def Obligations.DwxTwoRegisterResults : Prop :=
  ∀ (c : CoreId) (f : Form) (gd : Fin 8) (d a b : Fin 16) (s : State), Issues s c f gd →
    let x := s.cores[c].reg a
    let y := s.cores[c].reg b
    PutsReg (.add c f gd d a b) s c f d (x + y) ∧
    PutsReg (.sub c f gd d a b) s c f d (x - y) ∧
    PutsReg (.and c f gd d a b) s c f d (x &&& y) ∧
    PutsReg (.or c f gd d a b) s c f d (x ||| y) ∧
    PutsReg (.xor c f gd d a b) s c f d (x ^^^ y) ∧
    PutsReg (.shl c f gd d a b) s c f d (x <<< (y.setWidth 5)) ∧
    PutsReg (.shr c f gd d a b) s c f d (x >>> (y.setWidth 5)) ∧
    PutsReg (.sar c f gd d a b) s c f d (x.sshiftRight (y.setWidth 5).toNat) ∧
    PutsReg (.mul c f gd d a b) s c f d (x * y) ∧
    PutsReg (.mulhu c f gd d a b) s c f d ((x.setWidth 64 * y.setWidth 64).extractLsb' 32 32) ∧
    PutsReg (.mulhs c f gd d a b) s c f d ((x.signExtend 64 * y.signExtend 64).extractLsb' 32 32) ∧
    PutsReg (.min c f gd d a b) s c f d (BitVec.ofInt 32 (min x.toInt y.toInt)) ∧
    PutsReg (.max c f gd d a b) s c f d (BitVec.ofInt 32 (max x.toInt y.toInt)) ∧
    PutsReg (.minu c f gd d a b) s c f d (BitVec.ofNat 32 (min x.toNat y.toNat)) ∧
    PutsReg (.maxu c f gd d a b) s c f d (BitVec.ofNat 32 (max x.toNat y.toNat))

/-- 13 Table DWX-4, formats I, S and K, and Table DWX-5, Table DWX-6: the operations on one register and a constant,
and PGET. -/
def Obligations.DwxOneRegisterResults : Prop :=
  ∀ (c : CoreId) (f : Form) (gd : Fin 8) (d a : Fin 16) (s : State), Issues s c f gd →
    let k := s.cores[c]
    let x := k.reg a
    let y := k.reg d
    (∀ imm : Int, PutsReg (.addi c f gd d a imm) s c f d (BitVec.ofInt 32 (x.toInt + imm))) ∧
    (∀ n : Nat, PutsReg (.andi c f gd d a n) s c f d (x &&& BitVec.ofNat 32 n)) ∧
    (∀ n : Nat, PutsReg (.ori c f gd d a n) s c f d (x ||| BitVec.ofNat 32 n)) ∧
    (∀ n : Nat, PutsReg (.xori c f gd d a n) s c f d (x ^^^ BitVec.ofNat 32 n)) ∧
    (∀ n : Fin 32, PutsReg (.shli c f gd d a n) s c f d (x <<< n.val)) ∧
    (∀ n : Fin 32, PutsReg (.shri c f gd d a n) s c f d (x >>> n.val)) ∧
    (∀ n : Fin 32, PutsReg (.sari c f gd d a n) s c f d (x.sshiftRight n.val)) ∧
    (∀ imm : BitVec 16, PutsReg (.movl c f gd d imm) s c f d ((0 : BitVec 16) ++ imm)) ∧
    (∀ imm : BitVec 16, PutsReg (.movh c f gd d imm) s c f d (imm ++ y.extractLsb' 0 16)) ∧
    PutsReg (.mov c f gd d a) s c f d x ∧
    (∀ n : Fin 8, PutsReg (.movi c f gd d n) s c f d (BitVec.ofNat 32 n.val)) ∧
    PutsReg (.not c f gd d) s c f d (~~~y) ∧
    PutsReg (.neg c f gd d) s c f d (-y) ∧
    PutsReg (.sextb c f gd d) s c f d (BitVec.ofInt 32 (y.extractLsb' 0 8).toInt) ∧
    PutsReg (.sexth c f gd d) s c f d (BitVec.ofInt 32 (y.extractLsb' 0 16).toInt) ∧
    PutsReg (.zexth c f gd d) s c f d (BitVec.ofNat 32 (y.toNat % 65536)) ∧
    (∀ v : Word, (∀ i : Fin 4, v.getLsbD i.val = k.pred i) → v.toNat < 16 → PutsReg (.pget c f gd d) s c f d v)

/-- 13 R349: a compare writes pd by MODE with r (signed for CLT and CGE, unsigned for CLTU and CGEU, after sign
extension for CLTUI and CGEUI), naming p0 changes no predicate, no general register is written, and MODE 0b11 is
illegal. -/
def Obligations.DwxComparesWriteByMode : Prop :=
  ∀ (c : CoreId) (f : Form) (gd : Fin 8) (mode pd : Fin 4) (a b : Fin 16) (imm : Int) (s : State),
    Issues s c f gd →
    let k := s.cores[c]
    let x := k.reg a
    let y := k.reg b
    let z : Word := BitVec.ofInt 32 imm
    let row (i : Instr) (r : Bool) : Prop :=
      (mode = 0 → PutsPred i s c f pd r) ∧
      (mode = 1 → PutsPred i s c f pd (k.pred pd && r)) ∧
      (mode = 2 → PutsPred i s c f pd (k.pred pd || r)) ∧
      (mode = 3 → Faults i s c 1)
    row (.ceq c f gd mode pd a b) (decide (x = y)) ∧
    row (.cne c f gd mode pd a b) (decide (x ≠ y)) ∧
    row (.clt c f gd mode pd a b) (decide (x.toInt < y.toInt)) ∧
    row (.cge c f gd mode pd a b) (decide (y.toInt ≤ x.toInt)) ∧
    row (.cltu c f gd mode pd a b) (decide (x.toNat < y.toNat)) ∧
    row (.cgeu c f gd mode pd a b) (decide (y.toNat ≤ x.toNat)) ∧
    row (.ceqi c f gd mode pd a imm) (decide (x = z)) ∧
    row (.cnei c f gd mode pd a imm) (decide (x ≠ z)) ∧
    row (.clti c f gd mode pd a imm) (decide (x.toInt < z.toInt)) ∧
    row (.cgei c f gd mode pd a imm) (decide (z.toInt ≤ x.toInt)) ∧
    row (.cltui c f gd mode pd a imm) (decide (x.toNat < z.toNat)) ∧
    row (.cgeui c f gd mode pd a imm) (decide (z.toNat ≤ x.toNat))

/-- 13 Table DWX-4, R350: the loads of data and shared SRAM. Data is little-endian; LDBS and LDHS extend the sign. A
misaligned address is fault 3 and an address outside the core's map fault 4 (Table DWX-9). -/
def Obligations.DwxLoadsOfRam : Prop :=
  ∀ (c : CoreId) (f : Form) (gd : Fin 8) (d b : Fin 16) (off : Int) (s : State), Issues s c f gd →
    let a := ((s.cores[c].reg b).toInt + off) % 4294967296 |>.toNat
    let m (k : Nat) : Byte := ramByte s c (a + k)
    (inRam s c a = true → badWord s c (placeOf s c a) = none →
      PutsReg (.ldb c f gd d b off) s c f d ((m 0).setWidth 32) ∧
      PutsReg (.ldbs c f gd d b off) s c f d ((m 0).signExtend 32) ∧
      (a % 2 = 0 →
        PutsReg (.ldh c f gd d b off) s c f d ((m 1 ++ m 0).setWidth 32) ∧
        PutsReg (.ldhs c f gd d b off) s c f d ((m 1 ++ m 0).signExtend 32)) ∧
      (a % 4 = 0 → PutsReg (.ldw c f gd d b off) s c f d (m 3 ++ m 2 ++ m 1 ++ m 0))) ∧
    (a % 2 = 1 → Faults (.ldh c f gd d b off) s c 3 ∧ Faults (.ldhs c f gd d b off) s c 3) ∧
    (a % 4 ≠ 0 → Faults (.ldw c f gd d b off) s c 3) ∧
    (placeOf s c a = .none →
      Faults (.ldb c f gd d b off) s c 4 ∧ Faults (.ldbs c f gd d b off) s c 4 ∧
      (a % 2 = 0 → Faults (.ldh c f gd d b off) s c 4 ∧ Faults (.ldhs c f gd d b off) s c 4) ∧
      (a % 4 = 0 → Faults (.ldw c f gd d b off) s c 4))

/-- 13 Table DWX-4, R350: the stores to data and shared SRAM write the low 8, 16 or 32 bits of d, little-endian, and
leave every other byte. -/
def Obligations.DwxStoresToRam : Prop :=
  ∀ (c : CoreId) (f : Form) (gd : Fin 8) (d b : Fin 16) (off : Int) (s : State), Issues s c f gd →
    let a := ((s.cores[c].reg b).toInt + off) % 4294967296 |>.toNat
    let v := s.cores[c].reg d
    (inRam s c a = true →
      StoresRam (.stb c f gd d b off) s c f a 1 v ∧
      (a % 2 = 0 → StoresRam (.sth c f gd d b off) s c f a 2 v) ∧
      (a % 4 = 0 → StoresRam (.stw c f gd d b off) s c f a 4 v)) ∧
    (a % 2 = 1 → Faults (.sth c f gd d b off) s c 3) ∧
    (a % 4 ≠ 0 → Faults (.stw c f gd d b off) s c 3) ∧
    (placeOf s c a = .none →
      Faults (.stb c f gd d b off) s c 4 ∧ (a % 2 = 0 → Faults (.sth c f gd d b off) s c 4) ∧
      (a % 4 = 0 → Faults (.stw c f gd d b off) s c 4))

/-- 13 Table DWX-4, Table DWX-5, R341: branches and jumps. PC is the parcel address of the instruction, offsets count
parcels, the links write g15; in the wide encoding an odd offset or target is illegal (R347). -/
def Obligations.DwxBranchesAndJumps : Prop :=
  ∀ (c : CoreId) (f : Form) (gd : Fin 8) (a : Fin 16) (off : Int) (s : State), Issues s c f gd →
    let near := ((s.cores[c].pc : Int) + off) % 4294967296
    let far (x : Int) := ((s.cores[c].reg a).toInt + x) % 4294967296
    let home := ((s.cores[c].reg 15).toNat : Int)
    (f = .wide → off % 2 ≠ 0 → Faults (.br c f gd off) s c 1 ∧ Faults (.call c f gd off) s c 1) ∧
    (¬(f = .wide ∧ off % 2 ≠ 0) → Jumps (.br c f gd off) s c f false near ∧
      Jumps (.call c f gd off) s c f true near) ∧
    (f = .wide → far off % 2 ≠ 0 → Faults (.jr c f gd a off) s c 1 ∧ Faults (.callr c f gd a off) s c 1) ∧
    (¬(f = .wide ∧ far off % 2 ≠ 0) → Jumps (.jr c f gd a off) s c f false (far off) ∧
      Jumps (.callr c f gd a off) s c f true (far off)) ∧
    (f = .wide → home % 2 ≠ 0 → Faults (.ret c f gd) s c 1) ∧
    (¬(f = .wide ∧ home % 2 ≠ 0) → Jumps (.ret c f gd) s c f false home)

/-- 13 Table DWX-6, Table DWX-7, R351, R353 to R355: NOP and FENCE change only the program counter, MFS reads a special register
and latches or ends a high half, MTS clears latched lines and ignores every other number, PPUT writes p1 to p3, and SEV sets
the issuing core's line on each core named that is not a stopped or faulted engine. WFE and WUNTIL end at issue when their
condition holds, else the core waits and ends its wait once it holds; an odd WUNTIL pair is illegal. -/
def Obligations.DwxSystemFunctionsAndWaits : Prop :=
  (∀ (c : CoreId) (f : Form) (gd : Fin 8) (d a : Fin 16) (s : State), Issues s c f gd →
     let k := s.cores[c]
     let x := k.reg a
     let mfs (sr : Fin 32) (v : Word) (cyc tb : Option Word) : Prop :=
       ∃ t, exec (.mfs c f gd d sr) s = .next t ∧ OnlyCore c s t ∧ OnlyReg s t c d v ∧
         t.cores[c].pc = k.pc + Form.parcels f ∧ t.cores[c].cycHi = cyc ∧ t.cores[c].tbHi = tb ∧
         t.cores[c].latched = k.latched
     (∃ t, exec (.nop c f gd) s = .next t ∧ Advanced s t c f ∧ OnlyReg s t c 0 0) ∧
     (∃ t, exec (.fence c f gd) s = .next t ∧ Advanced s t c f ∧ OnlyReg s t c 0 0) ∧
     mfs 0 (BitVec.ofNat 32 k.cyc) (some (BitVec.ofNat 32 (k.cyc / 2 ^ 32))) k.tbHi ∧
     mfs 1 (k.cycHi.getD (BitVec.ofNat 32 (k.cyc / 2 ^ 32))) none k.tbHi ∧
     mfs 2 (evpend s c) k.cycHi k.tbHi ∧
     mfs 4 (BitVec.ofNat 32 (c.val + if k.compact then 256 else 0)) k.cycHi k.tbHi ∧
     mfs 5 (BitVec.ofNat 32 s.time) k.cycHi (some (BitVec.ofNat 32 (s.time / 2 ^ 32))) ∧
     mfs 6 (k.tbHi.getD (BitVec.ofNat 32 (s.time / 2 ^ 32))) k.cycHi none ∧
     mfs 7 (skeinReg s c) k.cycHi k.tbHi ∧
     (∀ sr : Fin 32, 8 ≤ sr.val ∨ sr = 3 → mfs sr 0 k.cycHi k.tbHi) ∧
     (∀ sr : Fin 32, ∃ t, exec (.mts c f gd sr a) s = .next t ∧ OnlyCore c s t ∧
       t.cores[c] = { k with pc := k.pc + Form.parcels f,
                             latched := if sr = 3 then k.latched &&& ~~~x else k.latched }) ∧
     (∃ t, exec (.pput c f gd a) s = .next t ∧ Advanced s t c f ∧ (∀ r, t.cores[c].reg r = k.reg r) ∧
       t.cores[c].pred 1 = x.getLsbD 1 ∧ t.cores[c].pred 2 = x.getLsbD 2 ∧ t.cores[c].pred 3 = x.getLsbD 3) ∧
     (∃ t, exec (.sev c f gd a) s = .next t ∧ { t with cores := s.cores } = s ∧
       t.cores[c].pc = k.pc + Form.parcels f ∧
       ∀ y : CoreId, t.cores[y].latched =
           (if x.getLsbD y.val ∧ takesSev s y then s.cores[y].latched ||| (1#32 <<< (16 + c.val))
             else s.cores[y].latched) ∧ (y ≠ c → t.cores[y].pc = s.cores[y].pc) ∧
         { t.cores[y] with latched := s.cores[y].latched, pc := s.cores[y].pc } = s.cores[y])) ∧
  ((∀ (c : CoreId) (f : Form) (gd : Fin 8) (d a : Fin 16) (s : State), Issues s c f gd →
     let k := s.cores[c]
     let next := k.pc + Form.parcels f
     let due := (k.reg a).toNat + 2 ^ 32 * (k.reg (a + 1)).toNat
     let snap := evpend s c &&& k.reg a
     let shot := evpend s c &&& k.reg d
     (snap ≠ 0 → ∃ t, exec (.wfe c f gd d a) s = .next t ∧ WaitEnds s t c d snap next) ∧
     (snap = 0 → ∃ t, exec (.wfe c f gd d a) s = .next t ∧ WaitStarts s t c ⟨d, k.reg a, none, next⟩) ∧
     (a.val % 2 = 1 → Faults (.wuntil c f gd d a) s c 1) ∧
     (a.val % 2 = 0 → shot ≠ 0 ∨ due ≤ k.cyc →
       ∃ t, exec (.wuntil c f gd d a) s = .next t ∧ WaitEnds s t c d shot next) ∧
     (a.val % 2 = 0 → shot = 0 → k.cyc < due →
       ∃ t, exec (.wuntil c f gd d a) s = .next t ∧ WaitStarts s t c ⟨d, k.reg d, some due, next⟩)) ∧
   (∀ (c : CoreId) (w : CoreWait) (s : State), s.cores[c].wait = some w → coreWaits s c = true →
     let snap := evpend s c &&& w.mask
     (w.deadline = none → snap ≠ 0 →
       ∃ t, exec (.wfeWake c) s = .next t ∧ WaitEnds s t c w.d snap w.next ∧ coreState t c = 1) ∧
     (∀ due, w.deadline = some due → snap ≠ 0 ∨ due ≤ s.cores[c].cyc →
       ∃ t, exec (.wuntilWake c) s = .next t ∧ WaitEnds s t c w.d snap w.next ∧ coreState t c = 1)))

/-- 13 R342, Table DWX-9: a DWX instruction whose guard is false only moves the program counter, whichever it is; one
with a parcel outside program memory is fault 2; guard 0b000 always holds and 0b100 never. -/
def Obligations.DwxGuardAndFetch : Prop :=
  (∀ (i : Instr) (c : CoreId) (f : Form) (gd : Fin 8) (s : State), dwx? i = some (c, f, gd) →
    coreRuns s c = true → encodes s.cores[c] f = true →
    (progSize c < s.cores[c].pc + Form.parcels f → Faults i s c 2) ∧
    (s.cores[c].pc + Form.parcels f ≤ progSize c → guardOn s.cores[c] gd = false →
      ∃ t, exec i s = .next t ∧ OnlyCore c s t ∧
        t.cores[c] = { s.cores[c] with pc := s.cores[c].pc + Form.parcels f })) ∧
  (∀ k : Core, guardOn k 0 = true ∧ guardOn k 4 = false ∧
    ∀ j : Fin 4, guardOn k ⟨j.val, by omega⟩ = k.pred j ∧ guardOn k ⟨j.val + 4, by omega⟩ = !k.pred j)

/-! ## Host commands -/

/-- 08 R225, R226, 09 Table CMD-3: HELLO selects the highest version in both ranges and opens a session with the next
number, or closes the session when there is none; GOODBYE closes it; ECHO, IDENTIFY and TIME_SYNC answer. Nothing
outside the host side changes. -/
def Obligations.SessionCommandsAnswer : Prop :=
  (∀ (h : Hdr) (lo hi cur : Nat) (s : State), Ready h 0x001 (h.fence || sessionOpen s) s → h.port = 255 →
    lo < 65536 → hi < 65536 →
    let dlo := (protoWord s).toNat % 65536
    let dhi := (protoWord s).toNat / 65536
    let both (v : Nat) : Prop := lo ≤ v ∧ v ≤ hi ∧ dlo ≤ v ∧ v ≤ dhi
    (cur ≠ 0 → both cur) → (∀ v, both v → v ≤ cur) →
    let old := s.host.session.toNat % 65536
    let number := if cur = 0 then old else if old = 65535 then 1 else old + 1
    Replies (.hello h lo hi) s h 0x001 .ok (bytes2 cur ++ bytes2 number ++ wordBytes (protoWord s)) 
      (OnlyHost { s with host := { s.host with session := BitVec.ofNat 32 (65536 * cur + number) } })) ∧
  (∀ (h : Hdr) (s : State), Ready h 0x002 true s → sessionOpen s = true → h.port = 255 →
    Replies (.goodbye h) s h 0x002 .ok [] 
      (OnlyHost { s with host := { s.host with session := BitVec.ofNat 32 (s.host.session.toNat % 65536) } })) ∧
  (∀ (h : Hdr) (s : State), Ready h 0x003 h.fence s → h.port = 255 →
    Replies (.identify h) s h 0x003 .ok
      (bytes4 (hdrVersion s.boot.img) ++ bytes2 (shadowWord s 0x110).toNat ++
        [BitVec.ofNat 8 (lifecycle s), BitVec.ofNat 8 (runSlot s)] ++ bytes4 (otherVersion s) ++
        [BitVec.ofNat 8 (fusedLevel s), BitVec.ofNat 8 (hdrArb s.boot.img),
          BitVec.ofNat 8 (allPorts.countP fun p => !unpopulated s p)]) (OnlyHost s)) ∧
  (∀ (h : Hdr) (payload : List Byte) (s : State), Ready h 0x004 h.fence s → h.port = 255 → payload.length ≤ 56 →
    Replies (.echo h payload) s h 0x004 .ok (payload.take 16) (OnlyHost s)) ∧
  (∀ (h : Hdr) (consumed : Nat) (s : State), TakenSys h 0x005 s → consumed ≤ s.time →
    Replies (.timeSync h consumed) s h 0x005 .ok (bytes8 consumed ++ bytes8 s.time) (OnlyHost s))

/-- 08 R219, R223, R226: while the device serves no command, or while an earlier command must complete first, a host
command has no effect; one whose tag is taken is a host error, which stops the model (its own choice, log entry 40);
and without a session every command but HELLO, IDENTIFY, ECHO and SYS_HEALTH that is no host error completes with
LOCKED and changes nothing beside the host side and the event queue of its port. -/
def Obligations.HostCommandsWaitAndNeedASession : Prop :=
  ∀ (i : Instr) (h : Hdr) (opc : Nat) (s : State), hostOpc? i = some (h, opc) →
    (hostServed s = false → exec i s = .next s) ∧
    (hostServed s = true → blocked h opc h.fence s = true → exec i s = .next s) ∧
    (hostServed s = true → blocked h opc true s = false → tagFree h opc s = false → exec i s = .fault .hostError) ∧
    (Ready h opc true s → sessionOpen s = false → opc ∉ [0x001, 0x003, 0x004, 0x802] →
      exec i s = .fault .hostError ∨
      Replies i s h opc .locked [] fun t => { t with host := s.host, ports := s.ports } = s ∧
        ∀ p : PortId, t.ports[p].noQueue = s.ports[p].noQueue)

/-- 09 R249 to R251, R253, R255, R256, R248: the commands that set a port up and report it. PORT_CONFIG's result shows
each selected field as written, when it fits its field, and each other one as it was; PORT_ENABLE takes a PARKED port to
DETACHED and PORT_DISABLE a DETACHED one to PARKED; PORT_STATUS changes nothing; PORT_CAPS replaces the objects;
PORT_CLEAR_RETRY reports COUNT and EXH from before the clear; PORT_CAPTIVE writes PRT_CAPT at once in DETACHED and PARKED
and is refused where R256 says so. -/
def Obligations.PortSetupCommandsAnswer : Prop :=
  ∀ (h : Hdr) (p : PortId) (s : State),
    let q := s.ports[p]
    let quietPort := q.st = .parked ∨ q.st = .detached
    (∀ (mask : Nat) (f : List Byte), TakenPort h 0x101 p s → mask < 8192 → quietPort →
      (q.st = .detached → selects mask 0 = false ∧ selects mask 1 = false ∧ selects mask 12 = false) →
      (∀ i, (f.getD i 0).toNat < [4, 4, 64, 256, 256, 256, 256, 16, 256, 128, 256, 256, 2].getD i 256) →
      (f.getD 4 0).toNat % 64 < 8 →
      let shown := (List.range 13).map fun i => if selects mask i then f.getD i 0 else (configBytes q).getD i 0
      Replies (.portConfig h mask f) s h 0x101 .ok shown fun t =>
        OnlyPort p t.ports[p] s t ∧ configBytes t.ports[p] = shown ∧ t.ports[p].st = q.st) ∧
    (TakenPort h 0x102 p s → q.st = .parked → linkUp s (dieOf p) = true → dieHeld s (dieOf p) = false →
      q.pol.cfgLater = none → q.pol.captLater = none → roleOf s p = 0 → q.rdPhase = false → q.pattern = none →
      Replies (.portEnable h) s h 0x102 .ok [1, 0] fun t => t.ports[p].st = .detached ∧
        t.ports[p].pol.enabled = true ∧ t.ports[p].termsAre 1 ∧ ∀ r : PortId, r ≠ p → t.ports[r] = s.ports[r]) ∧
    (TakenPort h 0x103 p s → q.st = .detached → noWaits s p →
      Replies (.portDisable h) s h 0x103 .ok [0, 0] fun t => t.ports[p].st = .parked ∧
        t.ports[p].pol.enabled = false ∧ t.ports[p].termsAre 0 ∧ t.ports[p].vconnOn = false ∧
        ∀ r : PortId, r ≠ p → t.ports[r] = s.ports[r]) ∧
    (TakenPort h 0x104 p s →
      Replies (.portStatus h 0 0 0 0) s h 0x104 .ok (statePage s p q) (OnlyPort p q s) ∧
      Replies (.portStatus h 1 0 0 0) s h 0x104 .ok (identityPage q) (OnlyPort p q s) ∧
      ∀ n, n < 256 → Replies (.portStatus h 2 0 n 0xFFFFFFFF) s h 0x104 .ok (vdmPage q n) (OnlyPort p q s)) ∧
    (∀ spr epr, TakenPort h 0x106 p s → q.st ≠ .fenced → capsOk spr epr = true →
      let q' := { q with pol := { q.pol with caps := spr, eprCaps := epr } }
      Replies (.portCaps h spr epr false) s h 0x106 .ok
        [BitVec.ofNat 8 (offered { s with ports := s.ports.set p q' } p)] (OnlyPort p q' s)) ∧
    (TakenPort h 0x108 p s → q.st = .detached → q.hw.retryEnd = none → q.retryExh = false →
      Replies (.portClearRetry h) s h 0x108 .ok [BitVec.ofNat 8 q.retryCount, 0] fun t =>
        OnlyPort p (clearRetry q) s t ∧ t.ports[p].retryCount = 0 ∧ t.ports[p].retryIsDue = false) ∧
    (∀ (en prearm clear : Bool) (deb : Nat), TakenPort h 0x109 p s → deb < 256 → quietPort →
      (roleOf s p ≠ 0 → Replies (.portCaptive h en prearm deb clear) s h 0x109 .portState [] (OnlyPort p q s)) ∧
      (roleOf s p = 0 → F.PRT_CAPT.FORCED.on q.core.capt = true → en = false →
        Replies (.portCaptive h en prearm deb clear) s h 0x109 .locked [] (OnlyPort p q s)) ∧
      (roleOf s p = 0 → F.PRT_CAPT.FORCED.on q.core.capt = false →
        ∃ result, Replies (.portCaptive h en prearm deb clear) s h 0x109 .ok result fun t =>
          result = wordBytes t.ports[p].core.capt ∧ F.PRT_CAPT.CAPT_EN.on t.ports[p].core.capt = en ∧
          F.PRT_CAPT.PREARM_EN.on t.ports[p].core.capt = prearm ∧ F.PRT_CAPT.CAPT_DEB.get t.ports[p].core.capt = deb ∧
          (clear = true → t.ports[p].core.idrec = Vector.replicate 8 0) ∧
          (clear = false → t.ports[p].core.idrec = q.core.idrec)))

/-- 09 R252, R254, R257 to R260: the commands that exchange something with the partner wait for it, and the message or
the ordered set they name is asked for at once on a quiet port; VDM_RESPOND completes with OK when its answer is queued.
A message to a cable context that is off is refused. -/
def Obligations.PortMessageCommandsSend : Prop :=
  ∀ (h : Hdr) (p : PortId) (s : State),
    let q := s.ports[p]
    (∀ kind : Nat, kind < 3 → TakenPort h 0x105 p s → q.attached = true → swapAllowed s p kind = true →
      policyReady q = true → q.quiet 0 → noWaits s p → (kind = 0 → q.isSource = true) →
      WaitsFor (.portSwap h kind) s h 0x105 (.swap kind) fun t =>
        t.ports[p].pol.swap = some { kind := kind, step := .asked, byDevice := true, wasSource := q.isSource } ∧
        t.ports[p].sends 0 (ctrlMsg q 0 ([10, 9, 11].getD kind 0)) (.swapRequest kind)) ∧
    (TakenPort h 0x107 p s → q.attached = true →
      WaitsFor (.portHardReset h 0) s h 0x107 .hardReset (fun t => t.ports[p].phw.hrWait = true ∧
        t.ports[p].slotRuns 4 = true ∧ t.ports[p].pol.hrCount = q.pol.hrCount) ∧
      (q.vconnOn = true → q.isDfp = true →
        WaitsFor (.portHardReset h 1) s h 0x107 .hardReset fun t => t.ports[p].phw.crWait = true) ∧
      (q.vconnOn = false → Replies (.portHardReset h 1) s h 0x107 .portState [] (OnlyPort p q s))) ∧
    (∀ (sopt : Nat) (objs : List Word) (rboff : Nat), sopt < 3 → objs ≠ [] → objs.length ≤ 7 →
      bulkOpt rboff 30 = true → q.explicit = true → TakenPort h 0x201 p s →
      (q.quiet (soptCtx sopt) → WaitsFor (.vdmSend h sopt objs rboff) s h 0x201
        (.vdm (soptCtx sopt) rboff (vdmStructured (objs.headD 0) && vdmCmd (objs.headD 0) ≠ 6)) fun t =>
          t.ports[p].sends (soptCtx sopt) (dataMsg q (soptCtx sopt) 15 objs) (.hostMsg h.tag)) ∧
      (sopt ≠ 0 → F.CTX_CTL.EN.on q.ctx[soptCtx sopt].ctl = false →
        Replies (.vdmSend h sopt objs rboff) s h 0x201 .portState [] (OnlyPort p q s))) ∧
    (∀ (sopt kind svid rboff : Nat), sopt < 3 → kind < 3 → svid < 65536 → bulkOpt rboff 30 = true →
      q.explicit = true → TakenPort h 0x205 p s → q.quiet (soptCtx sopt) →
      WaitsFor (.discover h sopt kind svid rboff) s h 0x205 (.vdm (soptCtx sopt) rboff true) fun t =>
        t.ports[p].sends (soptCtx sopt) (dataMsg q (soptCtx sopt) 15 [discoverHdr kind svid]) (.hostMsg h.tag)) ∧
    (∀ (num : Nat) (objs : List Word), num < 256 → objs ≠ [] → objs.length ≤ 7 → q.explicit = true →
      TakenPort h 0x202 p s →
      (q.quiet 0 → q.pol.hostVdm = #v[some num, none, none] →
        Replies (.vdmRespond h 0 num objs) s h 0x202 .ok [] fun t => t.ports[p].pol.hostVdm[0] = none ∧
          t.ports[p].slotRuns 16 = false ∧ t.ports[p].sends 0 (dataMsg q 0 15 objs) .reply) ∧
      (q.pol.hostVdm[0] ≠ some num → Replies (.vdmRespond h 0 num objs) s h 0x202 .cancelled [] (OnlyPort p q s))) ∧
    (∀ (t rboff : Nat), t ∈ [8, 18, 20, 21, 22, 23, 24] → bulkOpt rboff 266 = true → q.explicit = true →
      TakenPort h 0x203 p s → q.quiet 0 →
      WaitsFor (.msgSend h 0 t [] rboff) s h 0x203 (.msg 0 rboff true) fun u =>
        u.ports[p].sends 0 (ctrlMsg q 0 t) (.hostMsg h.tag)) ∧
    (∀ (slot rboff : Nat), slot < 8 → bulkOpt rboff 4096 = true → q.explicit = true → TakenPort h 0x204 p s →
      (authRuns s = true → Replies (.authChallenge h 0 slot rboff) s h 0x204 .busy [] (OnlyPort p q s)) ∧
      (authRuns s = false → q.quiet 0 →
        WaitsFor (.authChallenge h 0 slot rboff) s h 0x204 (.auth 0 1 slot 0 0 0 rboff) fun u =>
          u.ports[p].sends 0 (securityMsg 0 0x81 0 0 [] q) (.hostMsg h.tag)))

/-- 09 R261 to R264: the caddy, path and feed commands write the fields that MASK selects, each clamped as its table says,
leave the others, and answer with what is in force; CADDY_STATUS with a bulk range waits for the next row boundary; the
calibration fields only on a PARKED port; a refused curve leaves the active one; a path command does not apply on a FENCED
or unpopulated port. Beside the answer and what is named nothing differs. -/
def Obligations.PowerCommandsWriteSelectedFields : Prop :=
  (∀ (h : Hdr) (mask a b c : Nat) (eff : List Word) (s : State), TakenSys h 0x301 s → mask < 16 →
    a < 2 ^ 20 → b < 2 ^ 20 → c < 2 ^ 20 →
    Replies (.caddyFeeds h mask a b c eff) s h 0x301 .ok (bytes4 s.cad.snapB) (OnlyHost { s with
      cad := { s.cad with regs := { s.cad.regs with
        lima := if mask.testBit 0 then BitVec.ofNat 32 a else s.cad.regs.lima
        limb := if mask.testBit 1 then BitVec.ofNat 32 b else s.cad.regs.limb
        limp := if mask.testBit 2 then BitVec.ofNat 32 c else s.cad.regs.limp
        eff := Vector.ofFn fun i =>
          if mask.testBit 3 then (eff.getD i.val 0) &&& 0x3FF03FF else s.cad.regs.eff[i] } } })) ∧
  (∀ (h : Hdr) (cls v5 pmin : Nat) (s : State), cls < 4 → v5 < 4 → pmin < 256 →
    let written (c : CadPort) : CadPort := { c with regs := { c.regs with
      pcfg := F.CAD_PCFG.PMIN.put pmin (F.CAD_PCFG.V5.put v5 (F.CAD_PCFG.CLASS.put cls c.regs.pcfg)) } }
    (TakenSys h 0x302 s → Replies (.caddyClass h cls v5 pmin) s h 0x302 .ok [0, 0, 0, 0] (OnlyHost { s with
      cadp := Vector.ofFn fun p => if unpopulated s p then s.cadp[p] else written s.cadp[p] })) ∧
    (∀ p : PortId, Taken h 0x302 s → h.port = p.val →
      (unpopulated s p = true →
        Replies (.caddyClass h cls v5 pmin) s h 0x302 .portState [] (OnlyPort p s.ports[p] s)) ∧
      (unpopulated s p = false →
        Replies (.caddyClass h cls v5 pmin) s h 0x302 .ok (wordBytes (written s.cadp[p]).regs.pcfg)
          (OnlyPort p s.ports[p] { s with cadp := s.cadp.set p (written s.cadp[p]) })))) ∧
  (∀ (h : Hdr) (s : State),
    (TakenSys h 0x303 s → Replies (.caddyStatus h 0xFFFFFFFF) s h 0x303 .ok
      ([s.cad.regs.stat, s.cad.regs.budget, s.cad.regs.commit, s.cad.regs.deficit].flatMap wordBytes) (OnlyHost s)) ∧
    (∀ p : PortId, Taken h 0x303 s → h.port = p.val → Replies (.caddyStatus h 0xFFFFFFFF) s h 0x303 .ok
      ([s.cadp[p].regs.phold, cadPreq s p, s.cadp[p].regs.pcfg].flatMap wordBytes ++
        bytes4 (F.PTH_CEIL.CEIL.get s.ports[p].pth.ceil + 65536 * F.PTH_RATING.CAD_LIM.get s.ports[p].pth.rating))
      (OnlyPort p s.ports[p] s)) ∧
    (∀ boff : Nat, Taken h 0x303 s → h.port < 96 ∨ h.port = 255 → boff + 1216 ≤ 262144 →
      WaitsFor (.caddyStatus h boff) s h 0x303 (.ledger boff) (OnlyHost s))) ∧
  (∀ (h : Hdr) (rowcfg : Word) (s : State), TakenSys h 0x304 s → rowcfg &&& ~~~0x3F033F = 0 →
    Replies (.caddyRow h rowcfg) s h 0x304 .ok (wordBytes rowcfg)
      (OnlyHost { s with cad := { s.cad with regs := { s.cad.regs with rowcfg := rowcfg } } })) ∧
  (∀ (h : Hdr) (mask poolsz hold : Nat) (shed : Word) (s : State), TakenSys h 0x305 s → mask < 8 →
    shed &&& ~~~0xFF00FF = 0 → poolsz < 65536 → hold < 256 →
    Replies (.caddyShed h mask shed poolsz hold) s h 0x305 .ok
      ([0, 0, 0, 0] ++ (if mask.testBit 0 then wordBytes shed else [0, 0, 0, 0]) ++
        (if mask.testBit 1 then bytes2 poolsz else [0, 0]) ++ [if mask.testBit 2 then BitVec.ofNat 8 hold else 0])
      (OnlyHost { s with cad := { s.cad with regs := { s.cad.regs with
        shed := if mask.testBit 0 then shed else s.cad.regs.shed
        pool := if mask.testBit 1 then F.CAD_POOL.POOLSZ.put poolsz s.cad.regs.pool else s.cad.regs.pool
        ctl := if mask.testBit 2 then F.CAD_CTL.HOLD.put hold s.cad.regs.ctl else s.cad.regs.ctl } } })) ∧
  (∀ (h : Hdr) (npts cool : Nat) (pts : List Word) (p : PortId) (s : State), Taken h 0x401 s → h.port = p.val →
    npts < 256 → cool < 256 →
    let q := s.ports[p]
    let written (q : Port) : Port := { q with cur := { q.cur with
      cpt := Vector.ofFn fun i => if i.val < npts then (pts.getD i.val 0) &&& 0x3FFFFFF else q.cur.cpt[i]
      ccfg := F.PTH_CCFG.NPTS.put (min npts 31) (F.PTH_CCFG.COOL.put cool q.cur.ccfg) } }
    let refused (q : Port) : Port :=
      let w := written q
      { w with cur := { w.cur with cstat := F.PTH_CSTAT.ERR.set w.cur.cstat } }
    let accepted (q : Port) : Port :=
      let w := written q
      { w with
        hw := { w.hw with curve := writtenCurve w, cool := max 1 cool }
        cur := { w.cur with cstat := F.PTH_CSTAT.ACTIVE.put npts (F.PTH_CSTAT.ERR.clr w.cur.cstat) } }
    (unpopulated s p = true ∨ q.st = .fenced →
      Replies (.pathCurve h npts cool pts) s h 0x401 .portState [] (OnlyPort p q s)) ∧
    (unpopulated s p = false → q.st ≠ .fenced → portServed s p = true → linkUp s (dieOf p) = true →
      (curveFault (written q) = 0 → Replies (.pathCurve h npts cool pts) s h 0x401 .ok
        [1, 0, BitVec.ofNat 8 npts] (OnlyWritten p accepted s)) ∧
      (curveFault (written q) ≠ 0 → Replies (.pathCurve h npts cool pts) s h 0x401 .ok
        [0, BitVec.ofNat 8 (curveFault (written q)), BitVec.ofNat 8 (F.PTH_CSTAT.ACTIVE.get q.cur.cstat)]
        (OnlyWritten p refused s)))) ∧
  (∀ (h : Hdr) (mask : Nat) (f : List Nat) (p : PortId) (s : State), Taken h 0x402 s → h.port = p.val →
    mask < 65536 → (∀ x ∈ f, x < 65536) →
    let q := s.ports[p]
    let calibrates : Prop := mask.testBit 12 ∨ mask.testBit 13 ∨ mask.testBit 14
    let cap (i : Nat) (g : Fld) (w : Word) : Word :=
      if mask.testBit i then g.put (min (f.getD i 0) (2 ^ g.width - 1)) w else w
    let written (q : Port) : Port :=
      let rpct := if mask.testBit 0 then max 100 (min 150 (f.getD 0 0)) else q.pol.rpct
      { q with
        pol := { q.pol with rpct := rpct }
        pth := { q.pth with
          inrush := cap 1 F.PTH_INRUSH.ILIM q.pth.inrush
          fast := cap 2 F.PTH_FAST.FT_THR q.pth.fast
          ov := cap 5 F.PTH_OV.CVOV_PCT (cap 4 F.PTH_OV.OV_ABS (cap 3 F.PTH_OV.OV_PCT q.pth.ov))
          rev := cap 6 F.PTH_REV.REV_THR q.pth.rev
          steep := cap 7 F.PTH_STEEP.RATE q.pth.steep
          retry := cap 8 F.PTH_RETRY.MAX q.pth.retry
          dis := cap 10 F.PTH_DIS.DIS_TMO (cap 9 F.PTH_DIS.DIS_I q.pth.dis)
          cnv := cap 11 F.PTH_CNV.CV_TMO q.pth.cnv
          sense := cap 12 F.PTH_SENSE.SHUNT q.pth.sense
          fbcal := (if mask.testBit 14 then F.PTH_FBCAL.FB_GAIN.put (f.getD 14 0) else id)
            ((if mask.testBit 13 then F.PTH_FBCAL.FB_OFS.put (f.getD 13 0) else id) q.pth.fbcal)
          ctl := if mask.testBit 15 then F.PTH_CTL.TRIM_EN.setTo (f.getD 15 0 != 0) q.pth.ctl else q.pth.ctl
          rating := if mask.testBit 0 ∧ q.attached = true then
            F.PTH_RATING.RATING.put ((ratedCurr q * rpct + 99) / 100) q.pth.rating else q.pth.rating } }
    let inForce (q : Port) : List Byte :=
      [q.pol.rpct, F.PTH_INRUSH.ILIM.get q.pth.inrush, F.PTH_FAST.FT_THR.get q.pth.fast,
        F.PTH_OV.OV_PCT.get q.pth.ov, F.PTH_OV.OV_ABS.get q.pth.ov, F.PTH_OV.CVOV_PCT.get q.pth.ov,
        F.PTH_REV.REV_THR.get q.pth.rev, F.PTH_STEEP.RATE.get q.pth.steep, F.PTH_RETRY.MAX.get q.pth.retry,
        F.PTH_DIS.DIS_I.get q.pth.dis, F.PTH_DIS.DIS_TMO.get q.pth.dis,
        F.PTH_CNV.CV_TMO.get q.pth.cnv].map (BitVec.ofNat 8) ++ bytes2 (F.PTH_SENSE.SHUNT.get q.pth.sense)
    (unpopulated s p = true ∨ q.st = .fenced →
      Replies (.pathLimits h mask f) s h 0x402 .portState [] (OnlyPort p q s)) ∧
    (unpopulated s p = false → q.st ≠ .fenced → portServed s p = true →
      (calibrates → q.st ≠ .parked →
        Replies (.pathLimits h mask f) s h 0x402 .portState [] (OnlyPort p q s)) ∧
      (¬calibrates ∨ q.st = .parked →
        Replies (.pathLimits h mask f) s h 0x402 .ok
          (inForce (Port.reached (linkUp s (dieOf p)) written q)) (OnlyWritten p written s)))) ∧
  (∀ (h : Hdr) (clear : Bool) (p : PortId) (s : State), TakenPort h 0x403 p s →
    let q := s.ports[p]
    Replies (.pathStatus h clear) s h 0x403 .ok
      ((wordBytes (portRead s p 0x604)).take 2 ++ wordBytes (portRead s p 0x63C) ++ wordBytes (portRead s p 0x640) ++
        (wordBytes (portRead s p 0x648)).take 2 ++ bytes2 (F.PTH_CEIL.CEIL.get q.pth.ceil) ++
        bytes2 (F.PTH_RATING.CAD_LIM.get q.pth.rating))
      (if clear then OnlyWritten p (fun q => { q with pth := { q.pth with evt := F.PTH_EVT.CAUSES.clr q.pth.evt } }) s
        else OnlyPort p q s)) ∧
  (∀ (h : Hdr) (mask pport : Nat) (ctl wa wb wp : Word) (s : State), TakenSys h 0x404 s → mask < 32 → pport < 256 →
    let r := s.feeds.regs
    let new : Word := BitVec.ofNat 32 pport
    let w : State := { s with feeds := { s.feeds with regs := { r with
      ctl := if mask.testBit 0 then ctl &&& 0x80FFFF3F else r.ctl
      wina := if mask.testBit 1 then wa &&& 0x3FF03FF else r.wina
      winb := if mask.testBit 2 then wb &&& 0x3FF03FF else r.winb
      winp := if mask.testBit 3 then wp &&& 0x3FF03FF else r.winp
      pport := if mask.testBit 4 ∧ (∃ p : PortId, F.FED_PPORT.PORT.get new = p.val ∧ bidirectional s p = true)
        then new else r.pport } } }
    Replies (.feedPriority h mask ctl wa wb wp pport) s h 0x404 .ok
      (wordBytes (evalFeeds w).feeds.regs.stat ++ (wordBytes (evalFeeds w).feeds.regs.pport).take 1)
      (OnlyHost (evalFeeds w)))

/-- 09 R265, R266, 07 R202, R207, 08 R234: TEL_CONFIG writes the fields that MASK selects and leaves the others, those of a
port in its front die; TEL_START turns streaming on and names the next frame's boundary, and changes nothing on a running
codec (which number it then answers is open, log entry 1); TEL_STOP turns it off and waits for the STOP marker of a running
codec; TEL_SNAPSHOT answers the latest codes, those of a front die whose stitch link is down as 0; EVT_ROUTE and EVT_MASK
change the entries of their range alone, and source 1,152 stays enabled. Beside the answer nothing else differs. -/
def Obligations.TelemetryAndEventCommandsAct : Prop :=
  (∀ (h : Hdr) (mask : Nat) (ws : List Word) (s : State), mask < 16 →
    let put (i j : Nat) (m old : Word) : Word :=
      if mask.testBit i then (ws.getD j 0 &&& m) ||| (old &&& ~~~m) else old
    (TakenSys h 0x501 s →
      Replies (.telConfig h mask ws) s h 0x501 .ok (wordBytes s.tel.stat ++ wordBytes s.tel.adcfail)
        (OnlyHost { s with tel := { s.tel with
          sysen := put 0 0 0x1FF s.tel.sysen
          sysk := put 1 1 0x7FFFFFF s.tel.sysk
          ctl := if mask.testBit 2 then F.TEL_CTL.HYST.put (ws.getD 2 0).toNat s.tel.ctl else s.tel.ctl
          systhr := Vector.ofFn fun i => put 3 (3 + i.val) 0x8FFF8FFF s.tel.systhr[i] } })) ∧
    (∀ p : PortId, Taken h 0x501 s → h.port = p.val →
      let written (q : Port) : Port := { q with tel := { q.tel with
        pcfg := put 0 0 0x7777 q.tel.pcfg
        pthv := put 1 1 0x8FFF8FFF q.tel.pthv
        pthi := put 2 2 0x8FFF8FFF q.tel.pthi
        pthc := put 3 3 0x8FFF8FFF q.tel.pthc } }
      let w : State := { s with ports := s.ports.set p (Port.reached (linkUp s (dieOf p)) written s.ports[p]) }
      (unpopulated s p = true →
        Replies (.telConfig h mask ws) s h 0x501 .portState [] (OnlyPort p s.ports[p] s)) ∧
      (unpopulated s p = false → portReach s p = true →
        Replies (.telConfig h mask ws) s h 0x501 .ok (wordBytes (portRead w p 0x804)) (OnlyWritten p written s)))) ∧
  (∀ (h : Hdr) (s : State),
    let turned (f : Word → Word) : State := { s with tel := { s.tel with ctl := f s.tel.ctl } }
    (TakenSys h 0x502 s → F.TEL_STAT.RUN.on s.tel.stat = false →
      Replies (.telStart h) s h 0x502 .ok (bytes8 (s.codec.frame + 1)) (OnlyHost (turned F.TEL_CTL.EN.set))) ∧
    (TakenSys h 0x502 s → F.TEL_STAT.RUN.on s.tel.stat = true →
      Replies (.telStart h) s h 0x502 .ok (bytes8 (Config.freeNat s.free))
        (OnlyHost { s with free := s.free + 1 })) ∧
    (TakenSys h 0x503 s → F.TEL_STAT.RUN.on s.tel.stat = true →
      WaitsFor (.telStop h) s h 0x503 .telStop (OnlyHost (turned F.TEL_CTL.EN.clr))) ∧
    (TakenSys h 0x503 s → F.TEL_STAT.RUN.on s.tel.stat = false →
      Replies (.telStop h) s h 0x503 .ok (bytes8 (Config.freeNat s.free))
        (OnlyHost { turned F.TEL_CTL.EN.clr with free := s.free + 1 })) ∧
    (TakenSys h 0x504 s → Replies (.telSnapshot h) s h 0x504 .ok
      ((List.finRange 8).flatMap fun i => bytes2 (s.tel.syslast[i.val].toNat % 4096)) (OnlyHost s)) ∧
    (∀ p : PortId, Taken h 0x504 s → h.port = p.val →
      let up := linkUp s (dieOf p)
      let code (w : Word) : List Byte := bytes2 (if up then w.toNat % 4096 else 0)
      Replies (.telSnapshot h) s h 0x504 .ok
        (bytes8 s.codec.chans[p.val].last ++ code s.ports[p].tel.pvbus ++ code s.ports[p].tel.pibus ++
          code s.ports[p].tel.pvcv ++ [if up && F.TEL_PSTAT.FAIL.on s.ports[p].tel.pstat then 1 else 0])
        (OnlyPort p s.ports[p] s))) ∧
  (∀ (h : Hdr) (first count : Nat) (s : State), first + count ≤ 1216 →
    let routed (t : State) : State := { s with host := { s.host with routes := t.host.routes } }
    (∀ vec : Nat, TakenSys h 0x601 s → vec < 64 → Replies (.evtRoute h first count vec) s h 0x601 .ok [] fun t =>
      OnlyHost (routed t) t ∧ ∀ src : Fin 1216, srcEnabled t src.val = srcEnabled s src.val ∧
        srcVector t src.val = if first ≤ src.val ∧ src.val < first + count then vec else srcVector s src.val) ∧
    (∀ en : Bool, TakenSys h 0x602 s → Replies (.evtMask h first count en) s h 0x602 .ok [] fun t =>
      OnlyHost (routed t) t ∧ ∀ src : Fin 1216, srcVector t src.val = srcVector s src.val ∧
        srcEnabled t src.val =
          if first ≤ src.val ∧ src.val < first + count then en || src.val == 1152 else srcEnabled s src.val))

/-- 09 R269, R270, 17 R415 to R422: each update command answers by the update's state: BUSY while another runs; the first
failing header check; the erased header sector of the target slot; a block written only where it is the next and its CRC
matches, and read back; the header written and read back once the signature verifies; the boot table of a trial and the
restart of an activation 1 ms later; an abort that cancels the waiting card update. The REASON of a block or an end for an
update that is not open is a free value (log entry 1). Beside the answer, and the events it posts, nothing else differs. -/
def Obligations.UpdateCommandsFollowTheirStates : Prop :=
  ∀ (h : Hdr) (s : State),
    let u := s.upd
    let failed (r : Nat) : Update := { u with st := 7, reason := r, card := false }
    let free (st : Status) (l : Byte → List Byte) (i : Instr) (opc : Nat) : Prop :=
      Replies i s h opc st (l (BitVec.ofNat 8 (Config.freeNat s.free))) (OnlyHost { s with free := s.free + 1 })
    (TakenSys h 0x706 s → Replies (.updState h) s h 0x706 .ok
      ([BitVec.ofNat 8 u.st, BitVec.ofNat 8 u.slot, 0, 0] ++ bytes4 u.next ++ bytes2 (trialRemain s) ++
        [0, 0] ++ bytes4 (hdrVersion u.hdr)) (OnlyHost s)) ∧
    (∀ (act : Nat) (name : List Byte), TakenSys h 0x701 s → act < 3 → name.length ≤ 32 →
      let i := Instr.updFromCard h act name
      (updFree s = false → Replies i s h 0x701 .busy [] (OnlyHost s)) ∧
      (updFree s = true → s.board.card = false →
        Replies i s h 0x701 .imageInvalid [0, 8] (OnlyHost { s with upd := failed 8 })) ∧
      (updFree s = true → s.board.card = true → WaitsFor i s h 0x701 .card (OnlyHost { s with
        upd := { st := u.st, slot := 0, hdr := [], next := 0, act := act, reason := 0, card := true } }))) ∧
    (∀ len boff : Nat, TakenSys h 0x702 s → boff + 512 ≤ 262144 →
      let i := Instr.updBegin h len boff
      let hdr := bulkRead s boff 512
      let base := slotBase (targetSlot s)
      let erased := if targetSlot s = 0 then s.boot.reached.set 0 false else s.boot.reached.set 1 false
      (updFree s = false → Replies i s h 0x702 .busy [] (OnlyHost s)) ∧
      (updFree s = true → ∀ (st : Status) (r : Nat), headerCheck s hdr = some (st, r) →
        Replies i s h 0x702 st [0, BitVec.ofNat 8 r] (OnlyHost { s with upd := failed r })) ∧
      (updFree s = true → headerCheck s hdr = none →
        Replies i s h 0x702 .ok ([BitVec.ofNat 8 (targetSlot s), 0, 0, 0] ++ bytes4 (hdrNblk hdr)) (OnlyHost { s with
          upd := { st := 1, slot := targetSlot s, hdr := hdr, next := 0, act := 0, reason := 0, card := false }
          flash := { s.flash with cells := s.flash.cells.filter fun c => c.1 < base || base + 65536 ≤ c.1 }
          boot := { s.boot with reached := erased } }))) ∧
    (∀ (index boff blen : Nat) (ok : Bool), TakenSys h 0x703 s → boff + blen ≤ 262144 → 5 ≤ blen → blen ≤ 4096 →
      let i := Instr.updBlock h index boff blen ok
      let b := bulkRead s boff blen
      let a := blockAddr u.slot index
      let w := writeBlock u.slot index b s
      (((u.st ≠ 1 ∧ u.st ≠ 2) ∨ u.card = true) → free .imageInvalid (fun r => bytes4 u.next ++ [r]) i 0x703) ∧
      (u.st = 1 ∨ u.st = 2 → u.card = false →
        (index + 1 = u.next → Replies i s h 0x703 .ok (bytes4 u.next ++ [0]) (OnlyHost s)) ∧
        (index + 1 ≠ u.next → u.st = 2 ∨ index ≠ u.next →
          Replies i s h 0x703 .imageInvalid (bytes4 u.next ++ [4]) (OnlyHost s))) ∧
      (u.st = 1 → u.card = false → index = u.next →
        (blen ≠ blockLen u.hdr index ∨ blockCrcOk b = false →
          Replies i s h 0x703 .imageInvalid (bytes4 index ++ [2]) (OnlyHost { s with upd := failed 2 })) ∧
        (blen = blockLen u.hdr index → blockCrcOk b = true →
          (ok = true ∧ flashRead w a blen = b →
            Replies i s h 0x703 .ok (bytes4 (index + 1) ++ [0]) (OnlyHost { slotVerify true w with
              upd := if index + 1 = hdrNblk u.hdr then { u with next := index + 1, st := 2, reason := 0 }
                else { u with next := index + 1 } })) ∧
          (ok = false ∨ flashRead w a blen ≠ b →
            Replies i s h 0x703 .imageInvalid (bytes4 index ++ [2])
              (OnlyHost { slotVerify false w with upd := failed 2 })))) ∧
      (a % 65536 = 0 ∨ (∀ j : Nat, j < blen → cget (0xFF : Byte) s.flash.cells (a + j) = 0xFF) →
        flashRead w a blen = b) ∧
      (∀ x : Nat, x < a ∨ a + blen ≤ x → cget (0xFF : Byte) w.flash.cells x =
        if a % 65536 = 0 ∧ a ≤ x ∧ x < a + 65536 then 0xFF else cget (0xFF : Byte) s.flash.cells x)) ∧
    (∀ ok : Bool, TakenSys h 0x704 s →
      let base := slotBase u.slot
      let w := flashProgram base u.hdr s
      (u.st ≠ 2 ∨ u.card = true → free .imageInvalid (fun r => [r]) (.updEnd h ok) 0x704) ∧
      (u.st = 2 → u.card = false → signatureOk s u.slot u.hdr = false →
        Replies (.updEnd h ok) s h 0x704 .imageInvalid [3] (OnlyHost { s with upd := failed 3 })) ∧
      (u.st = 2 → u.card = false → signatureOk s u.slot u.hdr = true →
        (ok = true ∧ slotHeader w u.slot = u.hdr → Replies (.updEnd h ok) s h 0x704 .ok [0]
          (OnlyHost { slotVerify true w with upd := { u with st := 3, reason := 0, card := false } })) ∧
        (ok = false ∨ slotHeader w u.slot ≠ u.hdr → Replies (.updEnd h ok) s h 0x704 .imageInvalid [2]
          (OnlyHost { slotVerify false w with upd := failed 2 }))) ∧
      (u.hdr.length = 512 → (∀ j : Nat, j < 512 → cget (0xFF : Byte) s.flash.cells (base + j) = 0xFF) →
        slotHeader w u.slot = u.hdr) ∧
      (∀ x : Nat, x < base ∨ base + u.hdr.length ≤ x →
        cget (0xFF : Byte) w.flash.cells x = cget (0xFF : Byte) s.flash.cells x)) ∧
    (∀ mode : Nat, TakenSys h 0x705 s → mode < 2 →
      let i := Instr.updActivate h mode
      let w := changeBootTab (fun t =>
        ({ t with primary := u.slot, trial := true, fallback := runSlot s }).setVer u.slot (hdrVersion u.hdr)) s
      (u.st ≠ 3 → Replies i s h 0x705 .imageInvalid [1] (OnlyHost s)) ∧
      (u.st = 3 → s.boot.due.isSome = true → Replies i s h 0x705 .busy [] (OnlyHost s)) ∧
      (u.st = 3 → s.boot.due = none → mode = 0 → hitlessOk s = false →
        Replies i s h 0x705 .imageInvalid [5] (OnlyHost s)) ∧
      (u.st = 3 → s.boot.due = none → mode = 1 ∨ hitlessOk s = true →
        Replies i s h 0x705 .ok [0] (OnlyHost { w with
          upd := { u with st := 4, reason := 0 }
          boot := { w.boot with
            due := some (s.time + 1000, if mode = 0 then .warm 1 u.slot else .cold 0) } })) ∧
      (u.slot < 2 → (∀ x ∈ bootTable s, x.gen + 1 < 2 ^ 32) →
        (bootTable w).map (fun x => (x.primary, x.trial, x.fallback)) = some (u.slot, true, runSlot s))) ∧
    (TakenSys h 0x707 s →
      let after : State := { s with
        upd := if u.st = 1 ∨ u.st = 2 ∨ u.st = 3 ∨ u.card = true then failed 0 else u }
      ((∀ w ∈ s.host.waits, w.kind ≠ .card) →
        Replies (.updAbort h) s h 0x707 .ok [BitVec.ofNat 8 u.st] (OnlyHost after)) ∧
      (∀ w : Wait, s.host.waits.filter (fun x => x.kind == .card) = [w] → Moves (.updAbort h) s fun t =>
        OnlyHost after t ∧ cplTail t = (cplTail s + 2) % 1024 ∧
        winRead t (0x20000 + 32 * (cplTail s % 512)) 32 = cplBytes s w.tag w.opc w.port .cancelled [] ∧
        winRead t (0x20000 + 32 * ((cplTail s + 1) % 512)) 32 =
          bytes2 (h.tag + (if (cplTail s + 1) % 1024 ≥ 512 then 32768 else 0)) ++ bytes2 0 ++ bytes2 0x707 ++
            [0xFF, 0] ++ bytes8 s.time ++ padTo 16 [BitVec.ofNat 8 u.st] ∧
        ∀ x ∈ t.host.waits, x.tag ≠ h.tag ∧ x.tag ≠ w.tag))

/-- 09 R267, R270, R272, R276, R278, 08 R238, 15 R384 to R389: SYS_RESTART completes and its restart is due 1 ms later;
SYS_HEALTH answers with or without a session; SYS_SETTINGS_SAVE stores the running configuration, SYS_SETTINGS_DEFAULT the
defaults, under one new generation, in each copy that verifies, and neither changes the running configuration;
SYS_LOG_READ answers no more than BLEN bytes; SYS_PERF sets the arbitration mode where asked (the log and the loads are
free values, log entry 1). BUS_XFER waits for the control pair's own transfer; else it puts its transfer on a free bus, or on
one that nine clock pulses free, and on a stuck one it completes with PARTNER_TIMEOUT. -/
def Obligations.SystemAndBusCommandsAnswer : Prop :=
  (∀ (h : Hdr) (s : State),
     (∀ kind : Nat, TakenSys h 0x801 s → kind < 2 →
       (s.upd.st = 4 ∨ s.boot.due.isSome = true → Replies (.sysRestart h kind) s h 0x801 .busy [] (OnlyHost s)) ∧
       (s.upd.st ≠ 4 → s.boot.due = none → Replies (.sysRestart h kind) s h 0x801 .ok [] (OnlyHost { s with
         boot := { s.boot with
           due := some (s.time + 1000, if kind = 0 then .warm 0 (runSlot s) else .cold 0) } }))) ∧
     (Ready h 0x802 h.fence s → h.port = 255 →
       let code (i : Nat) : Nat := (s.tel.syslast.toList.getD i 0).toNat % 4096
       Replies (.sysHealth h) s h 0x802 .ok
         (wordBytes (mtHealth s) ++ bytes2 (F.SAF_ECCCNT.DAY.get s.saf.ecccnt) ++
           [BitVec.ofNat 8 (F.SAF_LSCNT.DAY.get s.saf.lscnt), BitVec.ofNat 8 s.boot.warms] ++
           bytes2 (max (max (code 4) (code 5)) (max (code 6) (code 7))) ++ bytes2 (code 8) ++
           bytes4 (s.time / 1000000)) (OnlyHost s)) ∧
     (∀ okOld okNew : Bool,
       let g (c : Fin 2) : Option Nat := (settingsCopy s c).map Prod.snd
       let gen := max ((g 0).getD 0) ((g 1).getD 0) + 1
       let old : Fin 2 := match g 0, g 1 with
         | none, _ => 0
         | some _, none => 1
         | some a, some b => if b < a then 1 else 0
       let answer := bytes4 gen ++ [BitVec.ofNat 8 (okOld.toNat + okNew.toNat)]
       let stored (x : Settings) (t : State) : Prop :=
         OnlyHost { s with flash := t.flash, kept := t.kept, free := t.free } t ∧
         { t.flash with cells := s.flash.cells } = s.flash ∧ { t.kept with copies := s.kept.copies } = s.kept ∧
         (∀ a : Nat, a < 0xD00000 ∨ 0xD80000 ≤ a →
           cget (0xFF : Byte) t.flash.cells a = cget (0xFF : Byte) s.flash.cells a) ∧
         ∀ c : Fin 2, let ok := if c = old then okOld else okNew
           t.kept.copies[c] = (if ok then some x else s.kept.copies[c]) ∧
           (ok = true → gen < 2 ^ 32 → settingsCopy t c = some (schemaFormat s, gen)) ∧
           (ok = false → settingsCopy t c = settingsCopy s c)
       (TakenSys h 0x803 s →
         Replies (.sysSettingsSave h okOld okNew) s h 0x803 .ok answer (stored (runningSettings s))) ∧
       (TakenSys h 0x804 s →
         Replies (.sysSettingsDefault h okOld okNew) s h 0x804 .ok answer (stored (defaultSettings s)))) ∧
     (∀ offset boff blen : Nat, TakenSys h 0x805 s → boff = 0xFFFFFFFF ∨ boff + blen ≤ 262144 →
       let n := Config.freeNat s.free % (blen + 1)
       Replies (.sysLogRead h offset boff blen) s h 0x805 .ok
         (bytes4 n ++ wordBytes (Config.freeWord (s.free + 1)) ++ wordBytes (Config.freeWord (s.free + 2))) fun t =>
         OnlyHost { s with free := s.free + 4 } t ∧
         (boff ≠ 0xFFFFFFFF → bulkRead t boff n = padTo n (Config.freeBytes (s.free + 3)))) ∧
     (∀ set mode : Nat, TakenSys h 0x806 s → set < 2 → mode < 2 →
       let weighted := if set = 1 then mode == 1 else s.host.weighted
       Replies (.sysPerf h set mode) s h 0x806 .ok
         (bytes2 (Config.freeNat s.free % 1001) ++ [if weighted then 1 else 0, 0] ++
           wordBytes (Config.freeWord (s.free + 1)) ++ wordBytes (Config.freeWord (s.free + 2)) ++
           wordBytes (Config.freeWord (s.free + 3))) fun t =>
         OnlyHost { s with free := s.free + 4 } t ∧ t.host.weighted = weighted)) ∧
  (∀ (h : Hdr) (b : Fin 2) (addr wlen rlen : Nat) (rstart : Bool) (boff : Nat) (wdata : List Byte) (check : BusCheck)
     (s : State), TakenSys h 0xA01 s → addr < 128 → wlen ≤ 4096 → rlen ≤ 4096 →
     let ranged : Bool := decide (40 < wlen) || decide (12 < rlen)
     (ranged = true → boff + wlen + rlen ≤ 262144) →
     let i := Instr.busXfer h b.val addr wlen rlen rstart boff wdata check
     let place := if ranged then boff else 0xFFFFFFFF
     let data := if ranged then bulkRead s boff wlen else padTo wlen wdata
     let q := s.twc[b]
     let frees (n : Nat) : Prop := check = .sdaHeld n ∧ n ≤ 9
     let stays : Prop := check = .sclLow ∨ ∃ n : Nat, check = .sdaHeld n ∧ 9 < n
     let began (f : TwcRegs → TwcRegs) : TwcRegs := f { q.regs with
       ctl := F.TWC_CTL.EN.set q.regs.ctl
       xaddr := F.TWC_XADDR.ADDR.put addr (F.TWC_XADDR.RSTART.setTo rstart q.regs.xaddr)
       xlen := F.TWC_XLEN.WLEN.put wlen (F.TWC_XLEN.RLEN.put rlen q.regs.xlen)
       done := 0
       arb := F.TWC_ARB.TRIES.clr q.regs.arb }
     let after (t : Twc) : State := { s with
       cru := { s.cru with regs := { s.cru.regs with
         gate := (if b = 0 then F.CRU_GATE.BC0 else F.CRU_GATE.BC1).set s.cru.regs.gate } }
       twc := s.twc.set b t }
     let going (f : TwcRegs → TwcRegs) : Twc := { q with
       tx := [], sent := data, xfer := some ⟨0, false, false⟩
       regs := began fun r => f { r with stat := F.TWC_STAT.STUCK.clr (F.TWC_STAT.BUSY.set r.stat) } }
     (q.xfer.isSome = true → WaitsFor i s h 0xA01 (.busQueued b) (OnlyHost { s with twc := s.twc.set b { q with
       queued := some ⟨addr, wlen, rlen, rstart, boff, wdata, check, s.time⟩ } })) ∧
     (q.xfer = none → check = .free →
       WaitsFor i s h 0xA01 (.busXfer b place) (OnlyHost (after (going id)))) ∧
     (q.xfer = none → (∃ n : Nat, frees n) → WaitsFor i s h 0xA01 (.busXfer b place)
       (OnlyHost (after (going fun r => { r with evt := F.TWC_EVT.RECOV.set r.evt })))) ∧
     (q.xfer = none → stays → (∀ w ∈ s.host.waits, isBusWait b w = false) →
       Replies i s h 0xA01 .partnerTimeout [0, 0, 0, 0] (OnlyHost (after { q with
         tx := data, sent := [], rest := [], xfer := none
         regs := began fun r => { r with
           evt := F.TWC_EVT.DONE.set (F.TWC_EVT.STUCK.set r.evt)
           stat := F.TWC_STAT.BUSY.clr (F.TWC_STAT.STUCK.set (F.TWC_STAT.BUSY.set r.stat)) } }))))

/-- 09 R271, 16 R398 to R406: OTP_READ answers the array's words with their ECC states, or LOCKED with REASON 0x0B where a
read lock covers one, and waits for the end of an operation that pulses a fuse; OTP_PROGRAM, OTP_LOCK and a new margin scan
answer BUSY while an operation runs, LOCKED with the REASON where the fuses' rules refuse it, complete at once where every
bit asked for verifies already, and otherwise start their operation and wait for it. Nothing else changes. -/
def Obligations.FuseCommandsObeyLocksAndReasons : Prop :=
  ∀ (h : Hdr) (s : State),
    let o := s.otp
    let r := o.regs
    (∀ word count : Nat, TakenSys h 0x901 s → 1 ≤ count → count ≤ 3 → word + count ≤ 2048 →
      let i := Instr.otpRead h word count
      let ws := (List.range count).map (word + ·)
      (o.op.isSome = true → WaitsFor i s h 0x901 (.otpRead word count) (OnlyHost s)) ∧
      (o.op = none → (∃ w ∈ ws, rLocked s (fuseRegion w) = true) →
        Replies i s h 0x901 .locked [0x0B] (OnlyHost s)) ∧
      (o.op = none → (∀ w ∈ ws, rLocked s (fuseRegion w) = false) → Replies i s h 0x901 .ok
        (padTo 12 (ws.flatMap fun w => wordBytes (normalRead s w).1) ++
          [BitVec.ofNat 8 (((List.range count).map fun k => 4 ^ k * (normalRead s (word + k)).2).sum)])
        (OnlyHost s)) ∧
      ∀ w ∈ ws, let x := fuseAt s w
        let bad := x.data ^^^ BitVec.ofNat 32 x.nrm
        (fuseRegion w = 1 → normalRead s w = (bad, 0)) ∧
        (fuseRegion w ≠ 1 → (bitCount x.nrm = 0 → normalRead s w = (x.data, 0)) ∧
          (bitCount x.nrm = 1 → normalRead s w = (x.data, 1)) ∧ (bitCount x.nrm = 2 → normalRead s w = (bad, 2)))) ∧
    (∀ (word : Nat) (v : Word), TakenSys h 0x902 s → word < 2048 →
      let i := Instr.otpProgram h word v
      let holds : Prop := (fuseAt s word).data = v ∧ (fuseAt s word).hi = 0 ∧ (fuseAt s word).lo = 0
      (otpBusy s = true → Replies i s h 0x902 .busy [] (OnlyHost s)) ∧
      (otpBusy s = false → progReason s word v ≠ 0 →
        Replies i s h 0x902 .locked [0, 0, BitVec.ofNat 8 (progReason s word v)] (OnlyHost s)) ∧
      (otpBusy s = false → progReason s word v = 0 → ¬holds →
        WaitsFor i s h 0x902 .otpProgram (OnlyHost { s with otp := { o with
          op := some (.program word v 1)
          regs := { r with stat := otpStatus 4 1 false false 0 true r.stat } } })) ∧
      (otpBusy s = false → progReason s word v = 0 → holds → (∀ w ∈ s.host.waits, w.kind ≠ .otpProgram) →
        Replies i s h 0x902 .ok [0, 3, 0] (OnlyHost { s with otp := { o with
          regs := { r with stat := otpStatus 4 0 true true 0 false r.stat, evt := F.OTP_EVT.DONE.set r.evt } } }))) ∧
    (TakenSys h 0x903 s →
      Replies (.otpMarginScan h 1) s h 0x903 .ok
        (bytes2 o.last.1 ++ bytes2 o.last.2.1 ++ bytes2 o.last.2.2) (OnlyHost s) ∧
      (otpBusy s = true → Replies (.otpMarginScan h 0) s h 0x903 .busy [] (OnlyHost s)) ∧
      (otpBusy s = false → WaitsFor (.otpMarginScan h 0) s h 0x903 .otpScan (OnlyHost { s with otp := { o with
        regs := { r with
          scan := 0, scanpos := F.OTP_SCANPOS.FIRST.put 0xFFFF 0
          stat := F.OTP_STAT.SCANNING.set (F.OTP_STAT.OP.put 7 r.stat) } } }))) ∧
    (∀ region kind : Nat, TakenSys h 0x904 s → region < 8 → kind < 2 →
      let i := Instr.otpLock h region kind
      let rd := kind == 1
      let op := if rd then 6 else 5
      let f := lockFuses s region rd
      let reason := lockReason s region rd
      (otpBusy s = true → Replies i s h 0x904 .busy [] (OnlyHost s)) ∧
      (otpBusy s = false → reason ≠ 0 → Replies i s h 0x904 .locked [BitVec.ofNat 8 reason] (OnlyHost s)) ∧
      (otpBusy s = false → reason = 0 → ∀ k : Fin 3, f[k] = false → (∀ j : Fin 3, j < k → f[j] = true) →
        WaitsFor i s h 0x904 .otpLock (OnlyHost { s with otp := { o with
          op := some (.lock region rd k 1 k.val)
          regs := { r with stat := otpStatus op 1 false false 0 true r.stat } } })) ∧
      (otpBusy s = false → reason = 0 → (∀ k : Fin 3, f[k] = true) → (∀ w ∈ s.host.waits, w.kind ≠ .otpLock) →
        Replies i s h 0x904 .ok [0] (OnlyHost { s with otp := { o with
          regs := { r with
            stat := otpStatus op (F.OTP_STAT.PULSES.get r.stat) true true 0 false r.stat
            evt := F.OTP_EVT.DONE.set r.evt } } })))

/-! ## Attachment and orientation -/

/-- 03 R58: a sample of a comparator slot moves the strained output to 1 when at least N of the last M samples are 1,
to 0 when at least N are 0, and leaves it otherwise (N in its range); no other slot's output changes, and the raw
output and the latch follow the sample. A slot that is off takes none. A write of the strainer's setting keeps the
output. -/
def Obligations.StrainerTakesMajority : Prop :=
  (∀ (p : PortId) (n : Fin 8) (raw : Bool) (s : State),
    let q := s.ports[p]
    let m := F.CMP_STR.M.get q.cc.str[n]
    let k := F.CMP_STR.N.get q.cc.str[n]
    let last := (raw :: q.hw.strain[n]).take m
    (slotOff q n = true → exec (.cmpStrainerSample p n raw) s = .next s) ∧
    (q.st = .bindingOff ∨ q.st = .tripped ∨ (q.st = .retryWait ∧ n ≠ 4 ∧ q.strained 4 = true) → slotQuiet s.time q n = false →
      q.hw.strain[n].length = 15 → 1 ≤ m → m / 2 + 1 ≤ k → k ≤ m →
      ∃ t, exec (.cmpStrainerSample p n raw) s = .next t ∧
        { t with ports := s.ports, free := s.free } = s ∧
        (∀ r : PortId, r ≠ p → t.ports[r] = s.ports[r]) ∧
        t.ports[p].strained n = (if k ≤ last.count true then true
          else if k ≤ last.count false then false else q.strained n) ∧
        (∀ j, j ≠ n → t.ports[p].strained j = q.strained j) ∧
        t.ports[p].hw.strain[n] = (raw :: q.hw.strain[n]).take 15 ∧
        t.ports[p].cc.cfg = q.cc.cfg ∧ t.ports[p].cc.str = q.cc.str ∧ t.ports[p].st = q.st)) ∧
  (∀ (p : PortId) (n : Fin 8) (v : Word) (s : State),
    (frontWrites s p = true → MovesPort (.cmpStrWrite p n v) s p fun t =>
      t.cc.str[n] = v &&& 0xFFFF ∧ (∀ j, t.strained j = s.ports[p].strained j) ∧
      t.hw.strain[n] = List.replicate 15 (s.ports[p].strained n)) ∧
    (frontWrites s p = false → exec (.cmpStrWrite p n v) s = .next s))

/-- 03 R67 to R69, Table ATT-7, Table ATT-8, 05 R148: ends of the attach debounce and of the timers beside it. The
hardware's flags are set whether or not an engine serves the port; the engine's part waits for it, or is done: a cast-on
with VBUS above vSafe0V first switches the sink on, a pattern that went away returns the port to DETACHED with Rp, a
TRIPPED port without a module waits for vSafe0V. DRP alternation changes the terminations. -/
def Obligations.AttachTimersAct : Prop :=
  ∀ (p : PortId) (s : State),
    let q := s.ports[p]
    let idle := portServed s p = false
    let served := portServed s p = true ∧ q.pol.pend = []
    let plain := q.pol.cfgLater = none ∧ q.pol.captLater = none ∧ roleOf s p = 0 ∧ q.rdPhase = false
    let free := q.hw.retryEnd = none ∧ q.retryExh = false ∧ q.rdPhase = false ∧ q.strained 4 = true
    (q.st = .attachWait → q.hw.deb.isSome = true → q.trying = false → idle →
      MovesPort (.debDone p) s p fun t => F.PRT_EVT.DEB_DONE.on t.core.evt = true ∧ t.hw.deb = none ∧
        F.CC_STAT.DEB_RUN.on t.cc.stat = false ∧ t.st = .attachWait ∧ Port.keeps (.debDone p) q t) ∧
    (q.st = .attachWait → q.hw.deb.isSome = true → q.tc = 2 → served → q.pattern.isSome = true →
      F.PRT_CFG.TRY.get q.core.cfg ≠ 2 → free →
      MovesPort (.debDone p) s p fun t => F.PRT_EVT.DEB_DONE.on t.core.evt = true ∧ t.hw.deb = none ∧
        F.PTH_STAT.DIS_ON.on t.pth.stat = true ∧ t.pol.castWait = true ∧ t.st = .attachWait) ∧
    (q.hw.nonAttach.isSome = true → idle →
      MovesPort (.pddebExpiry p) s p fun t => Port.keeps (.pddebExpiry p) q t ∧ t.st = q.st) ∧
    (q.hw.nonAttach.isSome = true → served → q.st = .attachWait → q.trying = false → q.pattern = none → plain →
      MovesPortAndLedger (.pddebExpiry p) s p fun t => t.st = .detached ∧ t.tc = 1 ∧ t.orient = 0 ∧
        t.termsAre 1 ∧ t.hw.deb = none) ∧
    (q.hw.nonAttach.isSome = true → served → q.st = .tripped ∨ q.st = .retryWait → q.pattern = none →
      q.strained 4 = true →
      MovesPort (.trippedDetach p) s p fun t => t.pol.tripDetach = true ∧ t.st = q.st) ∧
    (q.hw.nonAttach.isSome = true → served → q.st = .tripped ∨ q.st = .retryWait → q.pattern = none →
      q.strained 4 = false → plain →
      MovesPortAndLedger (.trippedDetach p) s p fun t => t.st = .detached ∧ t.tc = 1 ∧ t.termsAre 1) ∧
    (alternating s p = true → MovesPort (.drpPhaseToggle p) s p fun t => t.st = .detached ∧
      F.CC_STAT.DRP_PHASE.on t.cc.stat = !F.CC_STAT.DRP_PHASE.on q.cc.stat ∧
      t.termsAre (if F.CC_STAT.DRP_PHASE.on q.cc.stat then 1 else 2) ∧
      t.tc = (if F.CC_STAT.DRP_PHASE.on q.cc.stat then 1 else 6)) ∧
    (q.hw.drpTry.isSome = true → idle →
      MovesPort (.tdrptryExpiry p) s p fun t => F.PRT_EVT.CC_TMR.on t.core.evt = true ∧ t.hw.drpTry = none ∧
        Port.keeps (.tdrptryExpiry p) q t) ∧
    (q.hw.drpTry.isSome = true → served → q.st = .attachWait → q.tc = 4 →
      MovesPort (.tdrptryExpiry p) s p fun t => F.PRT_EVT.CC_TMR.on t.core.evt = true ∧ t.tc = 10 ∧ t.termsAre 2 ∧
        t.st = .attachWait) ∧
    (q.st = .attachWait → q.hw.deb.isSome = true → q.trying = true → idle →
      MovesPort (.ttrydebExpiry p) s p fun t => F.PRT_EVT.CC_TMR.on t.core.evt = true ∧ t.hw.deb = none ∧
        t.st = .attachWait ∧ Port.keeps (.ttrydebExpiry p) q t) ∧
    (q.st = .attachWait → q.hw.deb.isSome = true → q.tc = 4 → served → q.pattern.isSome = true → free →
      MovesPort (.ttrydebExpiry p) s p fun t => F.PRT_EVT.CC_TMR.on t.core.evt = true ∧
        F.PTH_STAT.DIS_ON.on t.pth.stat = true ∧ t.pol.castWait = true)

/-- 03 R72 to R74: a hardware detach of an open watched pin takes the port's power down and the port to BINDING_OFF,
unless a PR_Swap holds it back; on a port riding through a link loss it ends the hold in the safe state; with the pin
connected there is no detach. A closed VCONN switch opens on a fault of its own with the fault's flag, and the engine then
turns the cable contexts off. CC_CTL and VCONN_CTL act as written, VCONN_EN only on the pin that is not the oriented one,
and a pin that loses VCONN is discharged; a core's write that cannot reach the front die, or that would turn on a port
held off, is discarded (01 R32, 02 R39). -/
def Obligations.DetachAndVconnAct : Prop :=
  (∀ (p : PortId) (s : State),
    let q := s.ports[p]
    let acts := portServed s p = true ∧ q.pol.pend = []
    let pin := F.VCONN_CTL.VCONN_PIN.on q.cc.vctl
    let opens (i : Instr) (f : Fld) : Prop :=
      let opened (t : Port) : Prop := t.vconnOn = false ∧ F.VCONN_CTL.VCONN_EN.on t.cc.vctl = false ∧
        f.on t.cc.vstat = true ∧ F.PRT_EVT.VCONN_FLT.on t.core.evt = true ∧ t.hw.vdis = some pin ∧ t.pth = q.pth
      (q.vconnOn = true → ¬acts → MovesPort i s p fun t => opened t ∧ Port.keeps i q t ∧ t.pd = q.pd) ∧
      (q.vconnOn = true → acts → Moves i s fun t => { t with host := s.host, ports := s.ports } = s ∧
        (∀ r : PortId, r ≠ p → t.ports[r] = s.ports[r]) ∧ opened t.ports[p] ∧
        t.ports[p].ctxOn 1 = false ∧ t.ports[p].ctxOn 2 = false) ∧
      (q.vconnOn = false → exec i s = .next s)
    (watchedOpen q = false ∨ (q.hw.ride = none ∧ q.swapHolds = true) → exec (.hardwareDetach p) s = .next s) ∧
    (watchedOpen q = true → q.hw.ride.isSome = true → MovesPort (.hardwareDetach p) s p fun t =>
      t.hw.ride = none ∧ t.gateOn = false ∧ F.PTH_CTL.CEN_EN.on t.pth.ctl = false ∧ t.vconnOn = false ∧
        t.st = q.st ∧ t.core = q.core) ∧
    (watchedOpen q = true → q.attached = true → q.rdPhase = false → q.swapHolds = false → q.hw.ride = none →
      let down (t : Port) : Prop := t.isDown ∧ t.st = .bindingOff ∧ F.PRT_EVT.DETACH_HW.on t.core.evt = true ∧
        F.PRT_EVT.HW_STATE.on t.core.evt = true ∧ t.hw.detAt = some s.time
      (¬acts → MovesPort (.hardwareDetach p) s p fun t => down t ∧ Port.keeps (.hardwareDetach p) q t) ∧
      (acts → q.strained 4 = true → Moves (.hardwareDetach p) s fun t =>
        down t.ports[p] ∧ ∀ r : PortId, r ≠ p → t.ports[r].noQueue = s.ports[r].noQueue)) ∧
    opens (.vconnOcp p) F.VCONN_STAT.OCP ∧ opens (.vconnAggOff p) F.VCONN_STAT.AGG_OFF ∧
    opens (.vconnRev p) F.VCONN_STAT.REV ∧
    MovesPort (.vconnDischargeDone p) s p fun t => t.hw.vdis = none ∧ t.cc = q.cc ∧ t.pth = q.pth ∧
      t.core = q.core ∧ F.PD_PHYSTAT.SINKTXOK.on t.pd.phystat = txOkNow t) ∧
  (∀ (p : PortId) (v : Word) (s : State),
    let q := s.ports[p]
    (frontDrives s p = false → exec (.ccCtlWrite p v) s = .next s ∧ exec (.vconnCtlWrite p v) s = .next s) ∧
    (frontDrives s p = true →
      MovesPort (.ccCtlWrite p v) s p (fun t => t.cc.ctl = v &&& 0xFF ∧
        F.PD_PHYSTAT.SINKTXOK.on t.pd.phystat = txOkNow t ∧ t.core = q.core ∧ t.pth = q.pth ∧ t.pol = q.pol) ∧
      MovesPort (.vconnCtlWrite p v) s p fun t =>
        let pin := F.VCONN_CTL.VCONN_PIN.get v
        let old := F.VCONN_CTL.VCONN_PIN.get q.cc.vctl
        let on := v.getLsbD 0 && decide (pin + 1 ≠ q.orient)
        F.VCONN_CTL.VCONN_EN.on t.cc.vctl = on ∧ t.vconnOn = on ∧ F.VCONN_CTL.VCONN_PIN.get t.cc.vctl = pin ∧
        F.VCONN_CTL.VCONN_RES.get t.cc.vctl = F.VCONN_CTL.VCONN_RES.get v ∧
        t.hw.vdis = (if q.vconnOn = true ∧ ¬(on = true ∧ pin = old) then some (old == 1)
          else if on = true ∧ q.hw.vdis = some (pin == 1) then none else q.hw.vdis) ∧
        F.PD_PHYSTAT.SINKTXOK.on t.pd.phystat = txOkNow t ∧ t.core = q.core ∧ t.pth = q.pth))

/-- 08 R209 to R214, Table HST-1: while the link answers, READ answers the bytes of the window and changes none of it, two
words of the time as one snapshot; WRITE stores its bytes in the bulk area and nowhere else, and one that reaches a
read-only region alone is discarded and counted; the other instructions act on the link's state. Every transaction ends
a RESET_ENABLE, and while the link does not answer nothing happens. -/
def Obligations.LinkTransactionsAnswer : Prop :=
  ∀ s : State,
    let link (quad armed : Bool) (errs : Nat) (out : List Byte) : State :=
      { s with host := { s.host with quad := quad, resetArmed := armed, errcnt := errs, out := out } }
    (linkAnswers s = false → ∀ (a n : Nat) (l : List Byte) (b : Byte),
      ∀ i ∈ [Instr.read a n, .write a l, .readStatus, .enterQuad, .exitQuad, .resetEnable, .resetLink,
        .unknownLinkInstruction b], exec i s = .next s) ∧
    (linkAnswers s = true →
      (∀ a n : Nat, ∃ t, exec (.read a n) s = .next t ∧ { t with host := s.host } = s ∧
        t.host = { s.host with out := t.host.out, timeHi := t.host.timeHi, resetArmed := false } ∧
        t.host.out.length = n ∧
        (∀ i : Nat, i < n → 0x40000 ≤ a + i → a + i < 0x100000 →
          t.host.out[i]? = some (cget (0 : Byte) s.host.window (a + i))) ∧
        (∀ i : Nat, i < n → 0x1000 ≤ a + i → a + i < 0x1050 →
          t.host.out[i]? = some ((wordBytes (dbWord s ((a + i) / 4 * 4))).getD ((a + i) % 4) 0)) ∧
        (a = 0x30 → n = 8 → doorbellsUp s = true → t.host.out = bytes8 s.time)) ∧
      (∀ (a : Nat) (l : List Byte), 0x40000 ≤ a → a + l.length ≤ 0x80000 → ∃ t, exec (.write a l) s = .next t ∧
        t = { s with host := { s.host with window := t.host.window, resetArmed := false } } ∧
        ∀ b : Nat, cget (0 : Byte) t.host.window b =
          if a ≤ b ∧ b < a + l.length then l.getD (b - a) 0 else cget (0 : Byte) s.host.window b) ∧
      (∀ (a : Nat) (l : List Byte), l ≠ [] → a + l.length ≤ 0x1000 ∨ (0x80000 ≤ a ∧ a + l.length ≤ 0x100000) →
        exec (.write a l) s = .next (link s.host.quad false (min 65535 (s.host.errcnt + 1)) s.host.out)) ∧
      exec .readStatus s = .next (link s.host.quad false s.host.errcnt [BitVec.ofNat 8 (
        (if s.boot.ready then 128 else 0) + (if s.host.quad then 64 else 0) +
        (if s.host.errcnt = 0 then 0 else 32) +
        (if alertLow s 0 || alertLow s 1 || alertLow s 2 || alertLow s 3 then 16 else 0) + statusCode s)]) ∧
      exec .enterQuad s = .next (link true false s.host.errcnt s.host.out) ∧
      exec .exitQuad s = .next (link false false s.host.errcnt s.host.out) ∧
      exec .resetEnable s = .next (link s.host.quad true s.host.errcnt s.host.out) ∧
      exec .resetLink s = .next (if s.host.resetArmed
        then link (F.RST_STRAP.TMR2.on s.rst.strap) false 0 s.host.out
        else link s.host.quad false s.host.errcnt s.host.out) ∧
      ∀ b : Byte, b.toNat ∉ [0x0B, 0x02, 0x05, 0x38, 0xF5, 0x66, 0x99] →
        exec (.unknownLinkInstruction b) s =
          .next (link s.host.quad false (min 65535 (s.host.errcnt + 1)) s.host.out))

/-- 08 R217, R219, R233 to R235: a doorbell write moves the index forward, never past what the ring holds; DB_CMD_TAIL
raises the doorbell line and the new entries are consumed, in order, while host commands are served; a cleared vector is no
longer pending and drives no pin; a hold-off's end lets its vector drive the pin. An index beyond the ring is a host
error, which stops the model (its own choice, log entry 40). -/
def Obligations.DoorbellsMoveForward : Prop :=
  ∀ (s : State) (v : Word),
    (doorbellsUp s = false → ∀ i ∈ [Instr.dbCmdTailWrite v, .dbCplHeadWrite v, .dbEvtHeadWrite v, .dbTelRoffWrite v,
      .dbVpendClear false v, .dbVpendClear true v], exec i s = .next s) ∧
    (doorbellsUp s = true →
      (let n := (v.toNat % 1024 + 1024 - cmdHead s) % 1024
        if n ≤ 512 ∧ s.host.consumed.length + s.host.waits.length + (unreadTags s).length + n ≤ 512 then
          ∃ t, exec (.dbCmdTailWrite v) s = .next t ∧ cmdTail t = v.toNat % 1024 ∧
            (v.toNat % 1024 ≠ cmdTail s → t.cores[pairCore].latched = setBit 0 s.cores[pairCore].latched) ∧
            t.host.waits = s.host.waits ∧ t.host.window = s.host.window ∧
            (hostServed s = true → cmdHead t = v.toNat % 1024 ∧
              t.host.consumed = s.host.consumed ++
                (List.range n).map fun i => entryAt s ((cmdHead s + i) % 512)) ∧
            (hostServed s = false → cmdHead t = cmdHead s ∧ t.host.consumed = s.host.consumed)
        else exec (.dbCmdTailWrite v) s = .fault .hostError) ∧
      (if (v.toNat % 1024 + 1024 - cplHead s) % 1024 ≤ (cplTail s + 1024 - cplHead s) % 1024 then
          ∃ t, exec (.dbCplHeadWrite v) s = .next t ∧ OnlyHost s t ∧ cplHead t = v.toNat % 1024 ∧
            cplTail t = cplTail s ∧ t.host.window = s.host.window
        else exec (.dbCplHeadWrite v) s = .fault .hostError) ∧
      (if (v.toNat % 8192 + 8192 - evtHead s) % 8192 ≤ evtUsed s then
          ∃ t, exec (.dbEvtHeadWrite v) s = .next t ∧ OnlyHost s t ∧ evtHead t = v.toNat % 8192 ∧
            ∀ n : Nat, s.host.overflow = some n →
              let free := 4096 - (evtTail s + 8192 - v.toNat % 8192) % 8192
              (64 ≤ free → t.host.overflow = none ∧ evtTail t = (evtTail s + 1) % 8192 ∧
                winRead t (0x30000 + 16 * (evtTail s % 4096) + 8) 2 = bytes2 1152 ∧
                winRead t (0x30000 + 16 * (evtTail s % 4096) + 12) 4 = bytes4 n) ∧
              (free < 64 → t.host.overflow = some n ∧ evtTail t = evtTail s)
        else exec (.dbEvtHeadWrite v) s = .fault .hostError) ∧
      (if onRecord s (v.toNat % 524288) then
          ∃ t, exec (.dbTelRoffWrite v) s = .next t ∧ { t with tel := s.tel } = s ∧ telRoff t = v.toNat % 524288 ∧
            telWoff t = telWoff s
        else exec (.dbTelRoffWrite v) s = .fault .hostError) ∧
      (∀ hi : Bool, ∃ t, exec (.dbVpendClear hi v) s = .next t ∧ OnlyHost s t ∧
        ∀ k : Fin 64, let hit := (32 ≤ k.val) = (hi = true) ∧ bitOf v (k.val % 32) = true
          (hit → vecPending t k.val = false ∧ k.val ∉ t.host.ripe) ∧
          (¬hit → vecPending t k.val = vecPending s k.val ∧ (k.val ∈ t.host.ripe ↔ k.val ∈ s.host.ripe)))) ∧
    (∀ k : Fin 64, ∃ t, exec (.alertHoldoffExpiry k) s = .next t ∧ OnlyHost s t ∧
      (vecPending s k.val = true → vecEnabled s k.val = true → alertLow t (k.val / 16) = true) ∧
      (vecPending s k.val = false → t = s))

/-- 00 R7, Table SCP-4, 01 Table ANA-6, R32: a register write by the control pair takes effect by the access code of each
bit: writable bits take the value, a 1 clears a flag that is cleared by 1, read-only bits stay, and bits under a lock stay
while it is set; a front-die register takes nothing while its stitch link is down; nothing else changes. Outside the map,
at an address that no word has, or while the control die is in reset, a write changes nothing; the blocks whose registers
the spec does not give refuse. -/
def Obligations.RegisterWritesObeyAccessCodes : Prop :=
  ∀ (s : State) (v : Word),
    (∀ a : Nat, ((0x40060000 ≤ a ∧ a < 0x40090000) ∨ (0x400A0000 ≤ a ∧ a < 0x400B0000) ∨
        (0x40100000 ≤ a ∧ a < 0x40140000)) →
      exec (.registerWrite a v) s = .refused (.blockNotGiven (a / 65536 * 65536))) ∧
    (∀ a : Nat, (a < 0x40000000 ∨ (0x40010000 ≤ a ∧ a < 0x40050000 ∧ (hwUp s = false ∨ a % 4 ≠ 0)) ∨
        0x403D0000 ≤ a) → exec (.registerWrite a v) s = .next s) ∧
    (hwUp s = true →
      (∀ p : PortId,
        MovesPort (.registerWrite (0x40200000 + 4096 * p.val + 0x00C) v) s p (fun t =>
          t = { s.ports[p] with core := { s.ports[p].core with evt := t.core.evt } } ∧
          t.core.evt = s.ports[p].core.evt &&& ~~~(v &&& 0x1FF)) ∧
        MovesPort (.registerWrite (0x40200000 + 4096 * p.val + 0x010) v) s p (fun t =>
          t = { s.ports[p] with core := { s.ports[p].core with evten := t.core.evten } } ∧
          t.core.evten = (s.ports[p].core.evten &&& ~~~0x1FF) ||| (v &&& 0x1FF)) ∧
        MovesPort (.registerWrite (0x40200000 + 4096 * p.val + 0x530) v) s p (fun t => t = s.ports[p]) ∧
        MovesPort (.registerWrite (0x40200000 + 4096 * p.val + 0x10C) v) s p (fun t =>
          t = Port.reached (linkUp s (dieOf p)) (fun q => { q with cc := { q.cc with
            deb := (q.cc.deb &&& ~~~0xFFF00FF) ||| (v &&& 0xFFF00FF) } }) s.ports[p] ∧
          (linkUp s (dieOf p) = false → t.cc = s.ports[p].cc))) ∧
      (∃ t, exec (.registerWrite 0x40020010 v) s = .next t ∧ { t with wdg := s.wdg } = s ∧
        t.wdg = { s.wdg with regs := { s.wdg.regs with tasken := t.wdg.regs.tasken } } ∧
        t.wdg.regs.tasken = if F.WDG_CTL.LOCK.on s.wdg.regs.ctl then s.wdg.regs.tasken
          else (s.wdg.regs.tasken &&& ~~~0xFFFF) ||| (v &&& 0xFFFF)) ∧
      (∃ t, exec (.registerWrite 0x40020104 v) s = .next t ∧
        t = { s with saf := { s.saf with evt := s.saf.evt &&& ~~~(v &&& 0x3F) } }) ∧
      (∀ k : Fin 304, ∃ t, exec (.registerWrite (0x400D0000 + 4 * k.val) v) s = .next t ∧
        OnlyHost { s with host := { s.host with routes := t.host.routes } } t ∧
        ∀ src : Nat, routeOf t src =
          if 4 * k.val ≤ src ∧ src < 4 * k.val + 4 then
            BitVec.ofNat 8 (v.toNat / 256 ^ (src - 4 * k.val)) &&& 0xBF
          else routeOf s src))

/-- 08 R231 to R238: events move from a port's full context into its queue as space returns, oldest first; the fabric
brings the oldest event of the next engine in the round with a pending transfer into the ring, where it takes the entry
at the tail, or is lost and counted when the ring is full. -/
def Obligations.EventsReachTheRingInOrder : Prop :=
  (∀ (p : PortId) (s : State),
    (portServed s p = false → exec (.eventQueueSpace p) s = .next s) ∧
    (portServed s p = true →
      MovesPort (.eventQueueSpace p) s p fun t =>
        t = { s.ports[p] with pol := { s.ports[p].pol with queue := t.pol.queue, held := t.pol.held } } ∧
        t.pol.queue ++ t.pol.held = s.ports[p].pol.queue ++ s.ports[p].pol.held ∧ t.pol.queue.length ≤ max 32 s.ports[p].pol.queue.length ∧
        (t.pol.queue.length < 32 → t.pol.held = []))) ∧
  (∀ s : State,
    (cpUp s = false ∨ (s.host.weighted = false ∧ ∀ e : EngId, pendingPorts s e = []) →
      exec .fabricTransferGrant s = .next s) ∧
    (cpUp s = true → s.host.weighted = false →
      ∀ (d : Nat) (hd : d < 13) (p : PortId) (l : List PortId) (x : EvtEntry) (q : List EvtEntry),
        let e (i : Nat) : EngId := ⟨(s.host.fabNext + i) % 13, Nat.mod_lt _ (by omega)⟩
        (∀ i : Nat, i < d → pendingPorts s (e i) = []) → pendingPorts s (e d) = p :: l →
        s.ports[p].pol.queue = x :: q →
        ∃ t, exec .fabricTransferGrant s = .next t ∧ { t with host := s.host, ports := s.ports } = s ∧
          t.ports[p] = { s.ports[p] with pol := { s.ports[p].pol with queue := q } } ∧
          (∀ r : PortId, r ≠ p → t.ports[r] = s.ports[r]) ∧ t.host.fabNext = ((e d).val + 1) % 13 ∧
          (s.host.overflow = none → evtUsed s < 4096 →
            winRead t (0x30000 + 16 * (evtTail s % 4096)) 16 = evtBytes s x ∧
            evtTail t = (evtTail s + 1) % 8192 ∧ t.host.db.evtLost = s.host.db.evtLost) ∧
          (s.host.overflow ≠ none ∨ 4096 ≤ evtUsed s → evtTail t = evtTail s ∧
            t.host.window = s.host.window ∧ t.host.db.evtLost = s.host.db.evtLost + 1 ∧
            t.host.overflow = some (s.host.overflow.getD 0 + 1))))

/-- 10 R289 to R293: a raise of the operating point drives VSEL first and moves the divider once PGOOD_CORE is stable; a
lower moves the divider first and drives VSEL at its end; the divider moves one step at a time; a raise that times out
puts VSEL back and leaves the point; a lost PGOOD_CORE falls to divider 16 and OP0 at once. Spread and gates take the
written value, a refused gate value nothing. -/
def Obligations.OperatingPointsMoveInOrder : Prop :=
  ∀ s : State,
    let stat (t : State) : Word := t.cru.regs.stat
    (∀ v : Word, cpWrites s = true → s.cru.seq = none → F.CRU_STAT.ROOT_PLL.on (stat s) = true →
      Moves (.cruDvfsWrite v) s fun t => OnlyCru s t ∧ t.cru.regs.dvfs = v &&& 0xFF0003 ∧ t.cru.div = s.cru.div ∧
        (opNow s < v.toNat % 4 → t.cru.seq = some (.raise (v.toNat % 4) s.cru.vsel) ∧
          t.cru.vsel = pointCode s (v.toNat % 4) ∧ F.CRU_STAT.DVFS_BUSY.on (stat t) = true) ∧
        (v.toNat % 4 < opNow s → t.cru.seq = some (.steps (v.toNat % 4)) ∧ t.cru.vsel = s.cru.vsel ∧
          F.CRU_STAT.DVFS_BUSY.on (stat t) = true) ∧
        (v.toNat % 4 = opNow s → t.cru.seq = none ∧ t.cru.vsel = s.cru.vsel)) ∧
    (∀ op back : Nat, s.boot.phase ≠ .held → s.cru.seq = some (.raise op back) →
      Moves .pgoodStable s (fun t => OnlyCru s t ∧ t.cru.seq = some (.steps op) ∧ t.cru.div = s.cru.div ∧
        t.cru.vsel = s.cru.vsel ∧ F.CRU_STAT.PGOOD.on (stat t) = true) ∧
      (s.boot.phase ≠ .raise → opTarget s = op →
        Moves .pgTmo s fun t => OnlyCru s t ∧ t.cru.vsel = back ∧ t.cru.seq = none ∧ t.cru.div = s.cru.div ∧
          opNow t = opNow s ∧ F.CRU_EVT.PG_TMO.on t.cru.regs.evt = true)) ∧
    (∀ op : Nat, op < 4 → s.cru.seq = some (.steps op) →
      (s.cru.div + 1 < pointDiv op →
        exec .dividerStep s = .next { s with cru := { s.cru with div := s.cru.div + 1 } }) ∧
      (pointDiv op + 1 < s.cru.div →
        exec .dividerStep s = .next { s with cru := { s.cru with div := s.cru.div - 1 } }) ∧
      (s.cru.div ≤ pointDiv op + 1 → pointDiv op ≤ s.cru.div + 1 → s.boot.phase ≠ .raise → opTarget s = op →
        Moves .dividerStep s fun t => OnlyCru s t ∧ t.cru.div = pointDiv op ∧ opNow t = op ∧ t.cru.seq = none ∧
          F.CRU_EVT.DVFS_DONE.on t.cru.regs.evt = true ∧ F.CRU_STAT.DVFS_BUSY.on (stat t) = false ∧
          t.cru.vsel = if op < opNow s then pointCode s op else s.cru.vsel)) ∧
    (F.CRU_STAT.ROOT_PLL.on (stat s) = true →
      (∀ op back : Nat, s.cru.seq = some (.raise op back) → Moves .pgLost s fun t => OnlyCru s t ∧
        t.cru.seq = s.cru.seq ∧ t.cru.div = s.cru.div ∧ opNow t = opNow s ∧ F.CRU_STAT.PGOOD.on (stat t) = false) ∧
      ((∀ op back : Nat, s.cru.seq ≠ some (.raise op back)) → s.boot.phase ≠ .raise →
        Moves .pgLost s fun t => OnlyCru s t ∧ t.cru.div = 16 ∧ opNow t = 0 ∧ t.cru.seq = none ∧
          t.cru.vsel = s.cru.vsel ∧ F.CRU_EVT.PG_LOST.on t.cru.regs.evt = true ∧
          F.CRU_STAT.PGOOD.on (stat t) = false)) ∧
    (∀ v : Word, cpWrites s = true →
      Moves (.cruPllctlWrite v) s (fun t => OnlyCru s t ∧ t.cru.regs.pllctl = v &&& 0xFFF1 ∧
        (F.CRU_STAT.ROOT_PLL.on (stat s) = true → v &&& 0xFFF1 ≠ s.cru.regs.pllctl →
          F.CRU_STAT.SS_ON.on (stat t) = F.CRU_PLLCTL.SS_EN.on v ∧
          F.CRU_EVT.SS_APPLIED.on t.cru.regs.evt = true)) ∧
      Moves (.cruGateWrite v) s (fun t => OnlyCru s t ∧
        (if gateRefused s (v &&& 0xCF1FDFFF) then
          t.cru.regs.gate = s.cru.regs.gate ∧ F.CRU_EVT.GATE_REF.on t.cru.regs.evt = true
        else t.cru.regs.gate = v &&& 0xCF1FDFFF ∧ t.cru.regs.evt = s.cru.regs.evt))) ∧
    (cpWrites s = false → ∀ v : Word, ∀ i ∈ [Instr.cruDvfsWrite v, .cruPllctlWrite v, .cruGateWrite v],
      exec i s = .next s)

/-- 10 R284, R285, R287, R294 to R298, 15 R381: XIN is awaited, then the PLL; the lock moves the root to the PLL and asks
for OP3, the third missed lock shows STATUS 110; standby stops the clocks only under its conditions, and a wake locks the
PLL again, records its source and asks for OP3; a clock failure holds the control die and a recovery starts it cold. -/
def Obligations.ClockRootFollowsReference : Prop :=
  ∀ s : State,
    let stat (t : State) : Word := t.cru.regs.stat
    (s.boot.phase = .clocks →
      Moves .xinQualified s (fun t => F.CRU_STAT.XIN_OK.on (stat t) = true ∧ t.boot.clk110 = false ∧
        t.boot.phase = .clocks ∧ { t with cru := s.cru, boot := s.boot } = s) ∧
      (F.CRU_STAT.XIN_OK.on (stat s) = false →
        exec .xinQualifyTimeout s = .next { s with boot := { s.boot with clk110 := true } }) ∧
      (F.CRU_STAT.XIN_OK.on (stat s) = true →
        Moves .pllLock s (fun t => F.CRU_STAT.ROOT_PLL.on (stat t) = true ∧ F.CRU_STAT.PLL_LOCK.on (stat t) = true ∧
          t.boot.clk110 = false ∧ t.boot.phase = .raise ∧ opTarget t = 3 ∧
          { t with cru := s.cru, boot := s.boot, free := s.free } = s ∧
          (s.cru.seq = none → opNow s < 3 → t.cru.seq = some (.raise 3 s.cru.vsel))) ∧
        exec .pllLockTimeout s = .next { s with
          cru := { s.cru with lockFails := s.cru.lockFails + 1 }
          boot := { s.boot with clk110 := if 2 ≤ s.cru.lockFails then true else s.boot.clk110 } })) ∧
    (standbyOk s = true → Moves .standbyEnter s fun t => OnlyCru s t ∧ t.cru.standby = true ∧ t.cru.vsel = 0 ∧
      t.cru.div = 16 ∧ t.cru.seq = none ∧ F.CRU_STAT.ROOT_PLL.on (stat t) = false ∧
      F.CRU_STAT.PLL_LOCK.on (stat t) = false ∧ opNow t = 0) ∧
    (standbyOk s = false → exec .standbyEnter s = .next s) ∧
    (∀ c : Fin 5, s.cru.standby = true →
      Moves (.wake c) s fun t => t.cru.standby = false ∧
        F.CRU_STAT.ROOT_PLL.on (stat t) = true ∧ opTarget t = 3 ∧ F.CRU_EVT.WAKE.on t.cru.regs.evt = true ∧
        F.CRU_STBY.CAUSE.get t.cru.regs.stby = 2 ^ c.val ∧
        ((∀ p : PortId, Resumed s p) → { t with cru := s.cru, free := s.free } = s)) ∧
    (∀ c : Fin 5, s.cru.standby = false → exec (.wake c) s = .next s) ∧
    (∀ (a : Fin 128) (rd second : Bool), s.cru.standby = true → F.TWT_STAT.ACTIVE.on s.twt.regs.stat = false →
      mtMatch s a.val = some second →
      Moves (.mtStandbyMatch a rd) s fun t => t.cru.standby = false ∧ F.TWT_EVT.WAKE.on t.twt.regs.evt = true ∧
        F.TWT_STAT.ACTIVE.on t.twt.regs.stat = true ∧ F.CRU_STBY.CAUSE.get t.cru.regs.stby = 1) ∧
    (∀ i ∈ [Instr.clockLoss, .lpoLoss, .spreadLockFailure],
      (i = .spreadLockFailure → F.CRU_STAT.SS_ON.on (stat s) = true) →
      s.boot.phase ∉ [Phase.held, .fuseFail, .clockFail] → Moves i s fun t => t.boot.phase = .clockFail ∧
        t.boot.ready = false ∧ ((∀ o ∈ s.flash.op, o.op ≠ 2) → t.flash.cells = s.flash.cells) ∧
        (s.otp.op = none → t.otp.words = s.otp.words) ∧ t.feeds = s.feeds ∧
        t.rst.cnt = s.rst.cnt ∧ statusCode t = 6 ∧ hwUp t = false) ∧
    (s.boot.phase = .clockFail → Moves .clockRecovery s fun t =>
      t.boot.phase ∈ [Phase.clocks, .fuseFail] ∧ F.RST_CAUSE.KIND.get t.rst.cause = 2 ∧
      F.RST_CAUSE.CAUSE.get t.rst.cause = 4 ∧ F.RST_CAUSE.CLKFAIL.on t.rst.cause = true ∧
      (s.otp.op = none → t.otp.words = s.otp.words) ∧ t.flash.cells = s.flash.cells)

/-- 10 R281 to R283, 12 R320 to R325: a supply detector holds the control die in reset and leaves what the non-volatile parts
hold; a joining die, and one with its supplies whose link trains, has its link up; a loss of its supplies or of its link or an over-temperature puts the die in a die-level hold, and its ports take
their safe states: the gate down, the converter off and VCONN open unless the port rides through; a ride-through ends
"off"; a hold stays while its link is down or its die is hot. -/
def Obligations.DieHoldsFollowLinksAndHeat : Prop :=
  ∀ s : State,
    (∀ aon : Bool, Moves (.supplyDetectorFall aon) s fun t => t.boot.phase = .held ∧ t.boot.supplyDown = true ∧
      t.boot.ready = false ∧ hwUp t = false ∧ ((∀ o ∈ s.flash.op, o.op ≠ 2) → t.flash.cells = s.flash.cells) ∧
      t.feeds = s.feeds ∧ t.sram = [] ∧
      (s.otp.op = none → t.otp.words = s.otp.words) ∧ t.rst.cnt = (if aon then 0 else s.rst.cnt) ∧
      t.pending = s.pending ∧
      ∀ p : PortId, ¬(fusedRide s p = true ∧ s.ports[p].atTarget = true ∧ s.ports[p].gateOn = true) →
        t.ports[p].gateOn = false ∧ t.ports[p].vconnOn = false) ∧
    (∀ d : DieId,
      let linked (w : State) : State := { w with saf := { w.saf with stat := setBit d.val w.saf.stat } }
      let comes (i : Instr) (w : State) : Prop :=
        (hwUp s = true → Moves i s fun t => linkUp t d = true ∧ t.diag = w.diag) ∧
        (hwUp s = false ∨ linkUp s d = true → exec i s = .next w) ∧
        (hwUp s = true → s.boot.phase = .entered → linkUp s d = false → dieHeld s d = false →
          exec i s = .next (linked w)) ∧
        (hwUp s = true → linkUp s d = false → dieHeld s d = true → dieHot s d = true →
          exec i s = .next (linked w))
      comes (.frontDieJoin d) { s with diag := { s.diag with supplied := s.diag.supplied.set d true } } ∧
      (s.diag.supplied[d] = true → comes (.stitchLinkTrained d) s) ∧
      (s.diag.supplied[d] = false → exec (.stitchLinkTrained d) s = .next s)) ∧
    (∀ d : DieId, linkUp s d = true →
      let rides (p : PortId) : Prop := fusedRide s p = true ∧ s.ports[p].atTarget = true ∧ s.ports[p].gateOn = true
      let lost (i : Instr) (supplied : Vector Bool 4) (keeps : PortId → Prop) : Prop :=
        Moves i s fun t => linkUp t d = false ∧ dieHeld t d = true ∧ F.SAF_EVT.LINK_DOWN.on t.saf.evt = true ∧
          t.diag = { s.diag with supplied := supplied } ∧ t.feeds.gates = s.feeds.gates ∧
          (∀ p : PortId, dieOf p ≠ d → t.ports[p].noQueue = s.ports[p].noQueue) ∧
          (∀ p : PortId, dieOf p = d →
            t.ports[p].st = (if s.ports[p].st = .fenced then .fenced else .parked) ∧
            (¬keeps p → t.ports[p].gateOn = false ∧ t.ports[p].vconnOn = false ∧
              F.PTH_CTL.CEN_EN.on t.ports[p].pth.ctl = false))
      lost (.frontDieSupplyLoss d) (s.diag.supplied.set d false) (fun _ => False) ∧
      lost (.stitchLinkLoss d) s.diag.supplied rides) ∧
    (∀ d : DieId, linkUp s d = false → exec (.stitchLinkLoss d) s = .next s) ∧
    (∀ d : DieId, Moves (.vcnSupplyLoss d) s fun t => { t with ports := s.ports, host := s.host } = s ∧
      ∀ p : PortId, if dieOf p = d ∧ s.ports[p].vconnOn = true then
          t.ports[p].vconnOn = false ∧ F.VCONN_CTL.VCONN_EN.on t.ports[p].cc.vctl = false ∧
          t.ports[p].pth = s.ports[p].pth ∧ t.ports[p].st = s.ports[p].st
        else t.ports[p].noQueue = s.ports[p].noQueue) ∧
    (∀ d : DieId,
      (hwUp s = true → dieHot s d = false → Moves (.overTemperature d) s fun t =>
        dieHot t d = true ∧ dieHeld t d = true ∧ F.SAF_EVT.HOT.on t.saf.evt = true ∧ linkUp t d = linkUp s d) ∧
      (hwUp s = false ∨ dieHot s d = true → exec (.overTemperature d) s = .next s) ∧
      (dieHot s d = true → dieHeld s d = true → linkUp s d = false → exec (.temperatureRelease d) s =
        .next { s with saf := { s.saf with stat := clrBit (4 + d.val) s.saf.stat } }) ∧
      (dieHot s d = true → cpRuns s = false → dieHeld s d = true → linkUp s d = true →
        (∀ p ∈ portsOfDie d, s.ports[p].hw.ride = none) →
        Moves (.temperatureRelease d) s fun t => dieHot t d = false ∧ dieHeld t d = false ∧
          F.SAF_EVT.HOLD_END.on t.saf.evt = true)) ∧
    (∀ p : PortId,
      (s.ports[p].hw.ride = none → exec (.rideThroughExpiry p) s = .next s) ∧
      (s.ports[p].hw.ride ≠ none → linkUp s (dieOf p) = false ∨ dieHot s (dieOf p) = true →
        MovesPort (.rideThroughExpiry p) s p fun t => t.hw.ride = none ∧ t.gateOn = false ∧ t.vconnOn = false ∧
          F.PTH_CTL.CEN_EN.on t.pth.ctl = false ∧ t.st = s.ports[p].st))

/-- 02 R44, 08 R230, 10 R281, 11 R300 to R315: RST_N and the rails hold the control die, and their release starts it cold
with cause 5; requests act once the firmware runs; a failed cold start is counted to 3 and starts cold with cause 4, a
second failed warm start does too; MT_RECOVER starts the device in the STATUS codes that allow it. -/
def Obligations.StartsAndResets : Prop :=
  ∀ s : State,
    (Moves .rstNAssert s fun t => t.boot.phase = .held ∧ t.boot.rstLow = true ∧ t.boot.ready = false ∧
      ((∀ o ∈ s.flash.op, o.op ≠ 2) → t.flash.cells = s.flash.cells) ∧
      (s.otp.op = none → t.otp.words = s.otp.words) ∧ t.rst.cnt = s.rst.cnt ∧
      ∀ p : PortId, t.ports[p].gateOn = false ∧ t.ports[p].vconnOn = false) ∧
    (∀ straps bist : Word, s.boot.phase = .held →
      (s.boot.rstLow = false → Moves (.powerUp straps bist) s fun t => ColdStarted 5 s t ∧ t.boot.supplyDown = false ∧
        t.rst.strap = straps &&& 0x1F ∧ t.boot.bist = bist) ∧
      (s.boot.rstLow = true → Moves (.powerUp straps bist) s fun t => t.boot.phase = .held ∧
        t.boot.supplyDown = false ∧ t.ports = s.ports) ∧
      (s.boot.supplyDown = false → Moves (.rstNRelease straps bist) s fun t => ColdStarted 5 s t ∧
        t.boot.rstLow = false ∧ t.rst.strap = straps &&& 0x1F ∧ t.boot.bist = bist) ∧
      (s.boot.supplyDown = true → Moves (.rstNRelease straps bist) s fun t => t.boot.phase = .held ∧
        t.boot.rstLow = false ∧ t.ports = s.ports)) ∧
    (s.boot.phase = .raise ∨ s.boot.phase = .entered → ∀ i ∈ [Instr.startTimerExpiry, .flashBusyTimeout],
      (i = .startTimerExpiry → s.boot.startAt.isSome = true) → (i = .flashBusyTimeout → s.boot.phase = .raise) →
      Moves i s fun t => ColdStarted 4 s t ∧ F.RST_CAUSE.CFAILED.on t.rst.cause = true ∧
        cfail (slotInStart s) t = min 3 (cfail (slotInStart s) s + 1)) ∧
    (s.boot.phase = .warm → s.boot.startAt.isSome = true → 1 ≤ wfail s →
      ∀ i ∈ [Instr.startTimerExpiry, .flashBusyTimeout],
        Moves i s fun t => ColdStarted 4 s t ∧ F.RST_CAUSE.WFAILED.on t.rst.cause = true ∧ wfail t = 0) ∧
    (s.boot.startAt = none → exec .startTimerExpiry s = .next s) ∧
    (cpRuns s = true → Moves .rstReqCold s (ColdStarted 0 s)) ∧
    (cpRuns s = false → ∀ (k : Fin 2), ∀ i ∈ [Instr.rstReqWarm, .rstReqHitless k, .rstReqCold], exec i s = .next s) ∧
    (mtAnswers s = true → statusCode s ≠ 5 → statusCode s ≠ 6 → Moves .mtRecoverColdStart s (ColdStarted 1 s)) ∧
    (mtAnswers s = false ∨ statusCode s = 5 ∨ statusCode s = 6 → exec .mtRecoverColdStart s = .next s) ∧
    (statusCode s ≠ 0 → statusCode s ≠ 7 → exec .mtRecoverWarmStart s = .next s) ∧
    (mtAnswers s = true → exec .mtRecoverLinkReset s = .next { s with host := { s.host with
      quad := F.RST_STRAP.TMR2.on s.rst.strap, errcnt := 0, resetArmed := false } }) ∧
    (cpUp s = true →
      (Moves .rstCntClrA s fun t => t = { s with rst := { s.rst with cnt := t.rst.cnt } } ∧ cfail 0 t = 0 ∧
        cfail 1 t = cfail 1 s ∧ wfail t = wfail s) ∧
      (Moves .rstCntClrB s fun t => t = { s with rst := { s.rst with cnt := t.rst.cnt } } ∧ cfail 1 t = 0 ∧
        cfail 0 t = cfail 0 s ∧ wfail t = wfail s))

/-- 11 R306 to R309, R311, R314, 08 R230, 17 R422 to R425: a warm start, whoever asks for it, that passes its checks enters the image
of its slot with the feeds and, where nothing waited for the engines, every port and reservation as they were; one whose retention check fails starts cold with
cause 6, and one that meets a busy flash waits for it. An image that writes RUN brings mailbox ready: the device runs, the start timer and the warm starts' failures end,
the counter of its slot is zero. A commit ends the trial window, and the update is committed; at the window's end the device
starts again. -/
def Obligations.WarmStartsRunAndTrials : Prop :=
  (∀ s : State, cpRuns s = true →
     ∀ (i : Instr) (kind cause slot : Nat),
       (i = .rstReqWarm ∧ kind = 0 ∧ cause = 0 ∧ slot = runSlot s) ∨
       (∃ k : Fin 2, i = .rstReqHitless k ∧ kind = 1 ∧ cause = 0 ∧ slot = k.val) ∨
       (i = .mtRecoverWarmStart ∧ (statusCode s = 0 ∨ statusCode s = 7) ∧ kind = 0 ∧ cause = 1 ∧ slot = runSlot s) →
       (WarmPasses ⟨kind, cause, slot, false⟩ s → Moves i s (WarmStarted kind cause slot s)) ∧
       (flashBusy s = false → retained ⟨kind, cause, slot, false⟩ (warmBegin ⟨kind, cause, slot, false⟩ s) = false →
         Moves i s (ColdStarted 6 s)) ∧
       (flashBusy s = true → Moves i s fun t => t.boot.phase = .warm ∧ t.boot.ready = false ∧
         t.boot.waiting = some ⟨kind, cause, slot, false⟩ ∧ t.flash = s.flash ∧ t.ports = s.ports ∧ t.cadp = s.cadp)) ∧
  (∀ s : State,
     (cpUp s = true → cpRuns s = false → Moves .run s fun t =>
       t.boot.phase = .running ∧ t.boot.ready = true ∧ t.boot.startAt = none ∧ wfail t = 0 ∧
         F.RST_BOOT.RUN.on t.rst.boot = true ∧ runSlot t = runSlot s ∧ cfail (runSlot s) t = 0) ∧
     (cpUp s = false ∨ cpRuns s = true → exec .run s = .next s)) ∧
  (∀ s : State,
     (cpWrites s = true → s.flash.trialEnd.isSome = true → Moves .flcTrialCommit s fun t => t.flash.trialEnd = none ∧
       t.upd.st = (if s.upd.st = 5 then 6 else s.upd.st) ∧
       ∀ p : PortId, t.ports[p].noQueue = s.ports[p].noQueue) ∧
     (cpWrites s = false ∨ s.flash.trialEnd = none → exec .flcTrialCommit s = .next s) ∧
     (hwUp s = true → s.flash.trialEnd.isSome = true → Moves .trialWindowExpiry s fun t => t.flash.trialEnd = none ∧
       t.boot.ready = false ∧ t.boot.phase ∈ [Phase.warm, .clocks, .fuseFail]) ∧
     (hwUp s = false ∨ s.flash.trialEnd = none → exec .trialWindowExpiry s = .next s))

/-- 12 R330 to R335: the watchdog starts when EN is set, and LOCK keeps it on; its window opens, and the first key inside it
is recorded; the second key with every enabled task's count as expected starts a new period; a check-in counts, to 15 at
most; the pulse on WDO ends. A key before the window, a wrong key, a failed task check and a period's end are expiries of
their KIND, which raise WDO and start the device again: cold with WDG2 when it is the second within ten seconds. -/
def Obligations.WindowWatchdogExpires : Prop :=
  ∀ s : State,
    let r := s.wdg.regs
    let opened : Bool := F.WDG_CFG.OPEN.get r.cfg == 0
    let good : Prop := ∀ i : Fin 16, bitOf r.tasken i.val = true → taskCount s i.val = taskExpected s i.val
    let kind? (i : Instr) (k : Nat) : Prop :=
      (∃ v : Word, i = .wdgKeyWrite v ∧ cpWrites s = true ∧
        ((k = 2 ∧ F.WDG_STAT.WOPEN.on r.stat = false ∧ (v.toNat % 65536 = 0x9E3C ∨ v.toNat % 65536 = 0x61C3)) ∨
         (k = 3 ∧ F.WDG_STAT.WOPEN.on r.stat = true ∧
            v.toNat % 65536 ≠ if F.WDG_STAT.KEY1.on r.stat then 0x61C3 else 0x9E3C) ∨
         (k = 4 ∧ F.WDG_STAT.WOPEN.on r.stat = true ∧ F.WDG_STAT.KEY1.on r.stat = true ∧
            v.toNat % 65536 = 0x61C3 ∧ ¬good))) ∨ (i = .wdgPeriodEnd ∧ k = 1)
    (∀ v : Word, cpWrites s = true →
      Moves (.wdgCtlWrite v) s fun t => OnlyWdg s t ∧
        F.WDG_CTL.EN.on t.wdg.regs.ctl =
          (F.WDG_CTL.EN.on v || (F.WDG_CTL.EN.on r.ctl && F.WDG_CTL.LOCK.on r.ctl)) ∧
        F.WDG_CTL.LOCK.on t.wdg.regs.ctl = (F.WDG_CTL.LOCK.on v || F.WDG_CTL.LOCK.on r.ctl) ∧
        (F.WDG_CTL.EN.on v = true → F.WDG_CTL.EN.on r.ctl = false →
          t.wdg.at_ = s.time ∧ F.WDG_STAT.WOPEN.on t.wdg.regs.stat = opened ∧
          F.WDG_STAT.KEY1.on t.wdg.regs.stat = false)) ∧
    (cpWrites s = false → ∀ (v : Word) (k : Fin 16), ∀ i ∈ [Instr.wdgCtlWrite v, .wdgKeyWrite v, .wdgChkin k],
      exec i s = .next s) ∧
    (wdgOn s = true → cpWrites s = true → F.WDG_STAT.WOPEN.on r.stat = true →
      (F.WDG_STAT.KEY1.on r.stat = false → Moves (.wdgKeyWrite 0x9E3C) s fun t =>
        t = { s with wdg := { s.wdg with regs := { r with stat := t.wdg.regs.stat } } } ∧
          F.WDG_STAT.KEY1.on t.wdg.regs.stat = true ∧ F.WDG_STAT.WOPEN.on t.wdg.regs.stat = true) ∧
      (F.WDG_STAT.KEY1.on r.stat = true → good → Moves (.wdgKeyWrite 0x61C3) s fun t => OnlyWdg s t ∧
        t.wdg.at_ = s.time ∧ t.wdg.regs.cntlo = 0 ∧ t.wdg.regs.cnthi = 0 ∧
        F.WDG_STAT.KEY1.on t.wdg.regs.stat = false ∧ F.WDG_STAT.WOPEN.on t.wdg.regs.stat = opened)) ∧
    (wdgOn s = true → ∀ (i : Instr) (k : Nat), kind? i k → Moves i s fun t =>
      t.boot.ready = false ∧ t.wdg.wdo = true ∧
      t.boot.phase ∈ [Phase.warm, .clocks, .fuseFail] ∧
      (∀ x : Nat, s.wdg.lastExp = some x → s.time ≤ x + 10000000 → ColdStarted 4 s t ∧
        F.RST_CAUSE.WDG2.on t.rst.cause = true)) ∧
    (wdgOn s = false → exec .wdgPeriodEnd s = .next s ∧ exec .wdgWindowOpen s = .next s) ∧
    (wdgOn s = true → Moves .wdgWindowOpen s fun t =>
      t = { s with wdg := { s.wdg with regs := { r with stat := t.wdg.regs.stat } } } ∧
        F.WDG_STAT.WOPEN.on t.wdg.regs.stat = true) ∧
    (∀ k : Fin 16, cpWrites s = true → Moves (.wdgChkin k) s fun t => OnlyWdg s t ∧
      ∀ j : Fin 16, taskCount t j.val =
        if j = k then min 15 (taskCount s j.val + 1) else taskCount s j.val) ∧
    exec .wdoPulseEnd s = .next { s with wdg := { s.wdg with wdo := false } }

/-- 12 R336, 13 R359, R360: RUN releases a stopped engine and enables its task watchdog, which its kicks restart; RUN cleared
stops it; CLR of a stopped or faulted engine zeroes its core but not its memories; a program word is stored in a stopped
engine alone; the low half of the cycle counter latches the high half. The expiry of the task watchdog puts the engine out
of service, and SE12 takes its skein over where it can (01 R16). -/
def Obligations.EngineControlAndTaskWatchdog : Prop :=
  ∀ (e : EngId) (s : State),
    let g := s.engines[e]
    let k := s.cores[coreOf e]
    (cpWrites s = true →
      (Moves (.seCtlRun e false) s fun t => OnlyEngine e s t ∧ F.SE_CTL.RUN.on t.engines[e].se.ctl = false ∧
        engState t e = (if engState s e = 3 then 3 else 0) ∧ F.SEW_CTL.EN.on t.engines[e].sew.ctl = false) ∧
      (engState s e ≠ 0 → exec (.seCtlRun e true) s = .next s) ∧
      (engState s e = 0 → (∀ p : PortId, skeinOf p ∈ skeinsOf s e → Resumed s p) → Moves (.seCtlRun e true) s fun t => OnlyEngine e s t ∧
        F.SE_CTL.RUN.on t.engines[e].se.ctl = true ∧ engState t e = (if k.wait.isSome then 2 else 1) ∧
        F.SEW_CTL.EN.on t.engines[e].sew.ctl = true ∧ F.SEW_STAT.EXP.on t.engines[e].sew.stat = false ∧
        t.engines[e].sewAt = s.time) ∧
      (engState s e = 0 ∨ engState s e = 3 → Moves (.seCtlClr e) s fun t =>
        { t with engines := s.engines, cores := s.cores } = s ∧ engState t e = 0 ∧ t.engines[e].se.fpc = 0 ∧
        (∀ f : EngId, f ≠ e → t.engines[f] = s.engines[f] ∧ t.cores[coreOf f] = s.cores[coreOf f]) ∧
        t.cores[coreOf e] = { k with g := Vector.replicate 16 0, p := Vector.replicate 4 false, pc := 0, cyc := 0, cycHi := none, tbHi := none, latched := 0, wait := none }) ∧
      (engState s e ≠ 0 → engState s e ≠ 3 → exec (.seCtlClr e) s = .next s) ∧
      (∀ v : Word,
        (engState s e = 0 ∨ engState s e = 3 → Moves (.sePmdataWrite e v) s fun t =>
          let a := F.SE_PMADDR.ADDR.get g.se.pmaddr
          { t with engines := s.engines, cores := s.cores } = s ∧
          (∀ b : Nat, cget 0 t.cores[coreOf e].pmem b = if b = a then v &&& 0xFFFFFFF else cget 0 k.pmem b) ∧
          F.SE_PMADDR.ADDR.get t.engines[e].se.pmaddr = (a + 1) % 32768) ∧
        (engState s e ≠ 0 → engState s e ≠ 3 → Moves (.sePmdataWrite e v) s fun t => OnlyEngine e s t ∧
          F.SE_STAT.PMERR.on t.engines[e].se.stat = true ∧ engState t e = engState s e))) ∧
    (cpWrites s = false → ∀ (b : Bool) (v : Word), ∀ i ∈ [Instr.seCtlRun e b, .seCtlClr e, .sePmdataWrite e v],
      exec i s = .next s) ∧
    (hwUp s = true → Moves (.seCycloRead e) s fun t => OnlyEngine e s t ∧
      t.engines[e] = { g with cycLatched := true, se := { g.se with cychi := BitVec.ofNat 32 (k.cyc / 4294967296) } }) ∧
    (engineRunning s e = true → Moves (.sewKick e) s fun t => OnlyEngine e s t ∧
      t.engines[e] = { g with sewAt := s.time }) ∧
    (engineRunning s e = false → exec (.sewKick e) s = .next s) ∧
    (hwUp s = true → F.SEW_CTL.EN.on g.sew.ctl = true → engState s e ≠ 0 →
      (∀ k : Fin 12, e.val = k.val → spareSkein s = none → engFailed s 12 = false →
        (∀ p ∈ portsOfSkein k.val, Resumed s p) → Moves (.taskWatchdogExpiry e) s fun t =>
          engFailed t e = true ∧ spareSkein t = some k ∧ engineOf t k = some 12 ∧ engState t 12 = 1 ∧
          F.SEW_STAT.EXP.on t.engines[e].sew.stat = true ∧ t.ports = s.ports) ∧
      (∀ k : Fin 12, e.val = k.val → spareSkein s ≠ none ∨ engFailed s 12 = true →
        Moves (.taskWatchdogExpiry e) s fun t => engFailed t e = true ∧ spareSkein t = spareSkein s) ∧
      (e = 12 → spareSkein s = none → Moves (.taskWatchdogExpiry e) s fun t =>
        engFailed t 12 = true ∧ t.ports = s.ports)) ∧
    (hwUp s = false ∨ F.SEW_CTL.EN.on g.sew.ctl = false ∨ engState s e = 0 →
      exec (.taskWatchdogExpiry e) s = .next s)

/-- 12 R326 to R329, R338: a lockstep mismatch starts the device again, and a warm start keeps its count; a mismatch older than
24 hours leaves the day's count, and below four the condition ends; a corrected word is counted in the total and in the
hour, and the day's count is the sum of 24 hours; an uncorrectable word is recorded with its memory, and the core that read
it faults with code 5 (the control pair stops). -/
def Obligations.ErrorsAreCountedAndRecorded : Prop :=
  ∀ s : State,
    let total (t : State) : Nat := F.SAF_ECCCNT.TOTAL.get t.saf.ecccnt
    let day (t : State) : Nat := F.SAF_ECCCNT.DAY.get t.saf.ecccnt
    let recorded (mem addr : Nat) (t : State) : Prop := t.saf.erraddr = BitVec.ofNat 32 addr ∧
      F.SAF_ERRMEM.MEM.get t.saf.errmem = mem ∧ F.SAF_ERRMEM.VALID.on t.saf.errmem = true ∧
      F.SAF_EVT.UNCORR.on t.saf.evt = true
    (hwUp s = true → Moves .lockstepMismatch s fun t => t.boot.ready = false ∧
      t.boot.phase ∈ [Phase.warm, .clocks, .fuseFail] ∧
      (s.boot.bist = 0 → t.boot.phase = .warm →
        F.SAF_LSCNT.TOTAL.get t.saf.lscnt = min 65535 (F.SAF_LSCNT.TOTAL.get s.saf.lscnt + 1) ∧
        t.diag.mismatches = s.time :: s.diag.mismatches.filter (fun x => s.time < x + 86400000000) ∧
        F.SAF_EVT.LOCKSTEP.on t.saf.evt = true)) ∧
    (hwUp s = false → exec .lockstepMismatch s = .next s) ∧
    (Moves .lockstepAgeOut s fun t => t.diag = { s.diag with mismatches := s.diag.mismatches.dropLast } ∧
      F.SAF_LSCNT.DAY.get t.saf.lscnt = min 255 (s.diag.mismatches.length - 1) ∧
      bitOf t.saf.health 5 = (bitOf s.saf.health 5 && decide (4 ≤ s.diag.mismatches.length - 1)) ∧
      { t with diag := s.diag, saf := s.saf, host := s.host, boot := s.boot } = s) ∧
    (∀ (mem : Fin 7) (addr who : Nat), hwUp s = true →
      (Moves (.eccUncorrectable mem addr who) s (recorded mem.val addr)) ∧
      (∀ c : CoreId, eccAccessor mem.val who = some c → coreRuns s c = true →
        Moves (.eccUncorrectable mem addr who) s fun t => coreState t c = 3 ∧ recorded mem.val addr t ∧
          ∀ e : EngId, engineCore c = some e → F.SE_STAT.FAULT.get t.engines[e].se.stat = 5 ∧
            F.SE_FPC.PC.get t.engines[e].se.fpc = s.cores[c].pc % 65536)) ∧
    (∀ (mem : Fin 7) (addr who : Nat), hwUp s = false → exec (.eccUncorrectable mem addr who) s = .next s) ∧
    (∀ (mem : Fin 7) (addr who : Nat),
      (hwUp s = false ∨ s.boot.phase = .warm ∨ mem.val = 0 ∨ mem.val = 3 ∨ s.cru.standby = true → ∀ n : Fin 3,
        exec (.scrubRead mem addr who n) s = .next s) ∧
      exec (.scrubRead mem addr who 0) s = .next s ∧
      (hwUp s = true → s.boot.phase ≠ .warm → mem.val ≠ 0 → mem.val ≠ 3 → s.cru.standby = false →
        (Moves (.scrubRead mem addr who 1) s fun t => total t = min 65535 (total s + 1) ∧
          t.diag.hours[0] = s.diag.hours[0] + 1 ∧ day t = min 65535 (s.diag.hours.toList.sum + 1) ∧
          bitOf t.saf.health 4 = decide (F.SAF_ECCTHR.THR.get s.saf.eccthr < s.diag.hours.toList.sum + 1)) ∧
        Moves (.scrubRead mem addr who 2) s (recorded mem.val addr))) ∧
    (Moves .eccHourRoll s fun t => t.diag.hours[0] = 0 ∧
      (∀ i : Fin 23, t.diag.hours[i.val + 1] = s.diag.hours[i.val]) ∧
      day t = min 65535 (t.diag.hours.toList.sum) ∧ total t = total s ∧
      bitOf t.saf.health 4 = decide (F.SAF_ECCTHR.THR.get s.saf.eccthr < t.diag.hours.toList.sum))

/-- 14 R361 to R374: enabling a timer loads it and starts it, disabling holds its count, RELNOW loads it; a compare fires
once when the count is at most CMP, and acts on its pin; an underflow reloads, sets UF, acts on its pin, stops a one-shot
timer and ticks the high timer of a chain; an edge of the selected kind captures the count; reading the low half of a chain
latches the high half. A timer whose clock is off, or that takes no ticks, does nothing. -/
def Obligations.TimersCountCompareAndCapture : Prop :=
  ∀ (b : TmrBlk) (s : State),
    let other (t : State) : Prop := { t with tmr := s.tmr, tmrHw := s.tmrHw, engines := s.engines } = s
    let acted (code : Nat) (old : Bool) : Bool :=
      if code = 1 then true else if code = 2 then false else if code = 3 then !old else old
    let level (x : Tmr) : Bool := F.TMR_CTL.LEVEL.on x.1.ctl
    let matched (x : Tmr) : Bool := F.TMR_EVT.MATCH.on x.1.evt
    (tmrUp s b = false → ∀ (v : Word) (n : Fin 16),
      ∀ i ∈ [Instr.tmrEnset b v, .tmrEnclr b v, .tmrRelnow b v, .tmrCmpWrite b n v, .tmrCntRead b n],
      exec i s = .next s) ∧
    (∀ n : Fin 16, ticking s b n.val = false → ∀ i ∈ [Instr.tmrUnderflow b n, .tmrMatch b n], exec i s = .next s) ∧
    (tmrUp s b = true → ∀ v : Word,
      (Moves (.tmrEnset b v) s fun t => other t ∧ ∀ (n : Nat) (x : Tmr), tmrAt s b n = some x →
        if bitOf v n then ∃ y, tmrAt t b n = some y ∧ y.2.run = true ∧ y.1.cnt = x.1.reload ∧ y.2.pre = 0 ∧
            matched y = (matched x || decide (x.1.reload ≤ x.1.cmp)) ∧
            y.2.armed = !decide (x.1.reload ≤ x.1.cmp)
          else tmrAt t b n = some x) ∧
      (Moves (.tmrEnclr b v) s fun t => other t ∧ ∀ (n : Nat) (x : Tmr), tmrAt s b n = some x →
        tmrAt t b n = some (if bitOf v n then (x.1, { x.2 with run := false }) else x)) ∧
      (Moves (.tmrRelnow b v) s fun t => other t ∧ ∀ (n : Nat) (x : Tmr), tmrAt s b n = some x →
        if bitOf v n then ∃ y, tmrAt t b n = some y ∧ y.2.run = x.2.run ∧ y.1.cnt = x.1.reload ∧ y.2.pre = 0 ∧
            matched y = (matched x || decide (x.1.reload ≤ x.1.cmp))
          else tmrAt t b n = some x) ∧
      (∀ (n : Fin 16) (x : Tmr), tmrAt s b n.val = some x → Moves (.tmrCmpWrite b n v) s fun t => other t ∧
        ∃ y, tmrAt t b n.val = some y ∧ y.1.cmp = v ∧ y.1.cnt = x.1.cnt ∧ y.2.run = x.2.run ∧
          matched y = (matched x || decide (x.1.cnt ≤ v)) ∧ y.2.armed = !decide (x.1.cnt ≤ v) ∧
          level y = if x.1.cnt ≤ v then acted (F.TMR_CTL.ACT_M.get x.1.ctl) (level x) else level x)) ∧
    (∀ (n : Fin 16) (x : Tmr), ticking s b n.val = true → tmrAt s b n.val = some x →
      (Moves (.tmrUnderflow b n) s fun t => other t ∧ ∃ y, tmrAt t b n.val = some y ∧ y.1.cnt = x.1.reload ∧
        F.TMR_EVT.UF.on y.1.evt = true ∧ y.2.run = !F.TMR_CTL.ONESHOT.on x.1.ctl ∧
        matched y = (matched x || decide (x.1.reload ≤ x.1.cmp)) ∧
        (¬x.1.reload ≤ x.1.cmp → level y = acted (F.TMR_CTL.ACT_U.get x.1.ctl) (level x)) ∧
        (∀ z : Tmr, n.val % 2 = 0 → isHigh s b (n.val + 1) = true → tmrAt s b (n.val + 1) = some z →
          z.2.run = true → z.1.cnt ≠ 0 → ∃ w, tmrAt t b (n.val + 1) = some w ∧ w.1.cnt = z.1.cnt - 1)) ∧
      (x.2.armed = true → x.1.cnt ≤ x.1.cmp → Moves (.tmrMatch b n) s fun t => other t ∧
        ∃ y, tmrAt t b n.val = some y ∧ matched y = true ∧ y.2.armed = false ∧ y.1.cnt = x.1.cnt ∧
          level y = acted (F.TMR_CTL.ACT_M.get x.1.ctl) (level x))) ∧
    (∀ (n : Fin 16) (rising : Bool), 8 ≤ F.TMR_CTL.PIN.get s.tmr[n].ctl →
      exec (.tmrCapture n rising) s = .next s) ∧
    (∀ (n : Fin 16) (rising : Bool), tmrUp s .control = true → F.TMR_CTL.PIN.get s.tmr[n].ctl < 8 →
      edgeTaken s.tmr[n].ctl rising = true → isHigh s .control n.val = false → F.TMR_CTL.CLK.get s.tmr[n].ctl ≠ 2 →
      Moves (.tmrCapture n rising) s fun t => t.tmr[n].cap = s.tmr[n].cnt ∧ t.tmr[n].cnt = s.tmr[n].cnt ∧
        (F.TMR_EVT.CAPF.on s.tmr[n].evt = false → F.TMR_EVT.CAPF.on t.tmr[n].evt = true ∧
          F.TMR_EVT.OVR.on t.tmr[n].evt = F.TMR_EVT.OVR.on s.tmr[n].evt) ∧
        (F.TMR_EVT.CAPF.on s.tmr[n].evt = true → F.TMR_EVT.OVR.on t.tmr[n].evt = true)) ∧
    (∀ (n : Fin 16) (x y : Tmr), tmrUp s b = true → n.val % 2 = 0 → isHigh s b (n.val + 1) = true →
      tmrAt s b n.val = some x → tmrAt s b (n.val + 1) = some y →
      Moves (.tmrCntRead b n) s fun t => other t ∧ tmrAt t b n.val = some (x.1, { x.2 with hi := some y.1.cnt }) ∧
        tmrCnt t b (n.val + 1) = y.1.cnt)

/-- 15 R384 to R391: GO checks the bus, frees one that a target holds, and starts the transfer or ends it STUCK; a NACK, a
timeout, an abort and an arbitration loss after the last attempt end it, and a waiting host command completes with the
status of its cause; an earlier loss waits for the bus and repeats from the START; the FIFOs take and give bytes in order, and
a full receive FIFO holds the bus until it is read; RECOVER on an enabled controller reports its outcome; a BUS_XFER that
waits for the bus takes it when the transfer ends. A controller with no clock or no transfer does nothing. -/
def Obligations.ControllersTransferAndRecover : Prop :=
  ∀ (b : Fin 2) (s : State),
    let r (t : State) : TwcRegs := t.twc[b].regs
    let wl := min 4096 (F.TWC_XLEN.WLEN.get (r s).xlen)
    let rl := min 4096 (F.TWC_XLEN.RLEN.get (r s).xlen)
    let alone : Prop := s.twc[b].queued = none
    let only (t : State) : Prop := { t with twc := s.twc } = s ∧ ∀ c : Fin 2, c ≠ b → t.twc[c] = s.twc[c]
    let up : Prop := twcUp s b = true ∧ F.TWC_CTL.EN.on (r s).ctl = true ∧ s.twc[b].xfer = none
    (∀ check : BusCheck, up →
      (check = .free → Moves (.twcGo b check) s fun t => only t ∧ t.twc[b].xfer.isSome = true ∧
        F.TWC_STAT.BUSY.on (r t).stat = true ∧ F.TWC_STAT.STUCK.on (r t).stat = false ∧ (r t).done = 0 ∧
        t.twc[b].sent = s.twc[b].tx.take wl ∧ t.twc[b].tx = s.twc[b].tx.drop wl) ∧
      (∀ n : Nat, check = .sdaHeld n → n ≤ 9 → Moves (.twcGo b check) s fun t =>
        t.twc[b].xfer.isSome = true ∧ F.TWC_EVT.RECOV.on (r t).evt = true) ∧
      (alone → (∃ n : Nat, check = .sdaHeld n ∧ 9 < n) ∨ check = .sclLow → Moves (.twcGo b check) s fun t =>
        TransferOver b 0 0 s t ∧ F.TWC_EVT.STUCK.on (r t).evt = true ∧ F.TWC_STAT.STUCK.on (r t).stat = true)) ∧
    (∀ check : BusCheck,
      (up → check = .sclLow → Moves (.twcCmdRecover b check) s fun t => F.TWC_EVT.STUCK.on (r t).evt = true ∧
        F.TWC_STAT.STUCK.on (r t).stat = true ∧ t.twc[b].xfer = none) ∧
      (up → check = .free → Moves (.twcCmdRecover b check) s fun t => F.TWC_EVT.RECOV.on (r t).evt = true ∧
        F.TWC_STAT.STUCK.on (r t).stat = F.TWC_STAT.STUCK.on (r s).stat ∧ t.twc[b].xfer = none) ∧
      (¬up → ∀ i ∈ [Instr.twcCmdRecover b check, .twcGo b check], exec i s = .next s)) ∧
    (twcUp s b = false → ∀ (v : Word) (w n : Nat),
      ∀ i ∈ [Instr.twcTxdWrite b v, .twcRxdRead b, .twcCmdAbort b w n], exec i s = .next s) ∧
    (twcUp s b = true →
      (s.twc[b].xfer = none → ∀ v : Word, Moves (.twcTxdWrite b v) s fun t => only t ∧
        t.twc[b] = { s.twc[b] with tx := if s.twc[b].tx.length < 32 then s.twc[b].tx ++ [BitVec.ofNat 8 v.toNat]
          else s.twc[b].tx }) ∧
      (s.twc[b].rest = [] → Moves (.twcRxdRead b) s fun t => only t ∧
        t.twc[b] = { s.twc[b] with rx := s.twc[b].rx.tail }) ∧
      (s.twc[b].rest ≠ [] → alone → Moves (.twcRxdRead b) s fun t => only t ∧
        t.twc[b].rx ++ t.twc[b].rest = s.twc[b].rx.tail ++ s.twc[b].rest ∧
        (t.twc[b].rest = [] → TransferOver b wl rl s t) ∧ (t.twc[b].rest ≠ [] → t.twc[b].xfer = s.twc[b].xfer))) ∧
    (twcOnBus s b = true → alone → ∀ wdone rdone : Nat,
      EndsTransfer (.twcNack b wdone) b (min wdone wl) 0 .partnerReject (bytes2 (min wdone wl) ++ bytes2 0) s
        (fun t => F.TWC_EVT.NACK.on (r t).evt = true) ∧
      EndsTransfer (.twcSclTimeout b wdone rdone) b (min wdone wl) (min rdone rl) .partnerTimeout
        (bytes2 (min wdone wl) ++ bytes2 (min rdone rl)) s (fun t => F.TWC_EVT.TMO.on (r t).evt = true) ∧
      (twcUp s b = true → EndsTransfer (.twcCmdAbort b wdone rdone) b (min wdone wl) (min rdone rl) .cancelled
        (bytes2 (min wdone wl) ++ bytes2 (min rdone rl)) s fun _ => True)) ∧
    (∀ j : BusJob, twcOnBus s b = true → s.twc[b].queued = some j → j.check = .free → j.range = false → j.wlen ≤ 40 →
      j.rlen ≤ 12 → Moves (.twcNack b 0) s fun t => t.twc[b].queued = none ∧
        t.twc[b].xfer = some ⟨0, false, false⟩ ∧ F.TWC_XADDR.ADDR.get (r t).xaddr = j.addr % 128 ∧
        F.TWC_XLEN.WLEN.get (r t).xlen = j.wlen ∧ F.TWC_XLEN.RLEN.get (r t).xlen = j.rlen ∧
        t.twc[b].sent ++ t.twc[b].tx = padTo j.wlen j.wdata ∧ ∀ w ∈ t.host.waits, w.kind ≠ .busQueued b) ∧
    (twcOnBus s b = true → ∀ byte bit : Nat, byte < 8192 → bit < 16 → ∀ x : Xfer, s.twc[b].xfer = some x →
      Moves (.twcArbitrationLoss b byte bit) s fun t => only t ∧ twcOnBus t b = false ∧
        t.twc[b].xfer = some { lost := x.lost + 1, waitBus := true, aborted := false } ∧
        F.TWC_ARB.BYTE.get (r t).arb = byte ∧ F.TWC_ARB.BIT.get (r t).arb = bit ∧
        F.TWC_ARB.TRIES.get (r t).arb = min 7 (x.lost + 1)) ∧
    (∀ x : Xfer, s.twc[b].rest = [] → s.twc[b].xfer = some x → x.waitBus = true →
      (x.lost ≤ F.TWC_CTL.RETRY.get (r s).ctl → Moves (.twcRetry b) s fun t => only t ∧ twcOnBus t b = true ∧
        (r t).done = 0 ∧ (s.twc[b].sent.length ≤ 32 →
          t.twc[b].sent ++ t.twc[b].tx = s.twc[b].sent ++ s.twc[b].tx)) ∧
      (F.TWC_CTL.RETRY.get (r s).ctl < x.lost → alone →
        EndsTransfer (.twcRetry b) b 0 0 .arbitrationLost ([0, 0, 0, 0] ++
          [BitVec.ofNat 8 (min 255 (F.TWC_ARB.BYTE.get (r s).arb)), BitVec.ofNat 8 (F.TWC_ARB.BIT.get (r s).arb)]) s
          (fun t => F.TWC_EVT.ARBL.on (r t).evt = true))) ∧
    (twcOnBus s b = true → alone → s.twc[b].sent.length = wl → ∀ l : List Byte, l.length = rl →
      (findWait s (isBusWait b) = none → s.twc[b].rx.length + rl ≤ 32 → Moves (.twcTransferDone b l) s fun t => only t ∧
        TransferOver b wl rl s t ∧ t.twc[b].rx = s.twc[b].rx ++ l) ∧
      (findWait s (isBusWait b) = none → 32 < s.twc[b].rx.length + rl → s.twc[b].rx.length ≤ 32 →
        Moves (.twcTransferDone b l) s fun t => only t ∧ t.twc[b].xfer = s.twc[b].xfer ∧ t.twc[b].rx.length = 32 ∧
          t.twc[b].rx ++ t.twc[b].rest = s.twc[b].rx ++ l ∧ twcOnBus t b = false) ∧
      (∀ w : Wait, findWait s (isBusWait b) = some w → w.kind = .busXfer b 0xFFFFFFFF →
        Moves (.twcTransferDone b l) s fun t => TransferOver b wl rl s t ∧
          Completed w .ok (bytes2 wl ++ bytes2 rl ++ l.take 12) s t)) ∧
    (twcOnBus s b = false → ∀ (byte bit w n : Nat) (l : List Byte),
      ∀ i ∈ [Instr.twcNack b w, .twcSclTimeout b w n, .twcArbitrationLoss b byte bit, .twcTransferDone b l],
        exec i s = .next s)

/-- 15 R377 to R383, 08 R229, R230, Table HST-8: a START with an address that matches begins a transaction; the first byte of
a write is the pointer; a byte read comes from a snapshot of its register, the least significant first; the keyed word in
MT_RECOVER acts when its last byte is there; a STOP ends the transaction, and one that has not moved for 25 ms is ended and
counted. -/
def Obligations.ManagementTargetTransactions : Prop :=
  ∀ s : State,
    let active (t : State) : Bool := F.TWT_STAT.ACTIVE.on t.twt.regs.stat
    let only (t : State) : Prop := { t with twt := s.twt } = s
    (∀ (a : Fin 128) (rd : Bool),
      (mtAnswers s = false ∨ s.cru.standby = true → exec (.mtAddressMatch a rd) s = .next s) ∧
      (mtAnswers s = true → s.cru.standby = false → active s = false →
        (mtMatch s a.val = none → exec (.mtAddressMatch a rd) s = .next s) ∧
        (∀ second : Bool, mtMatch s a.val = some second → Moves (.mtAddressMatch a rd) s fun t => only t ∧
          active t = true ∧ F.TWT_STAT.LAST.on t.twt.regs.stat = second ∧ t.twt.reading = rd ∧
          t.twt.first = !rd ∧ t.twt.snap = none ∧ t.twt.ptr = s.twt.ptr))) ∧
    (∀ a : Fin 128, F.TWT_ADDR.MODE.get s.twt.regs.addr = 0 → (mtMatch s a.val =
      if 8 ≤ a.val ∧ a.val < 0x78 ∧ a.val = F.TWT_ADDR.ADDR1.get s.twt.regs.addr then some false else none)) ∧
    (mtAnswers s = true → s.cru.standby = false → active s = true →
      (∀ x : Byte, s.twt.reading = false →
        (s.twt.first = true → Moves (.mtDataByte x) s fun t => only t ∧
          t.twt = { s.twt with ptr := x.toNat, first := false }) ∧
        (s.twt.first = false → s.twt.ptr = 0x17 → s.twt.part = [1, 0, 0] → Moves (.mtDataByte 0xA5) s fun t =>
          t.host = { s.host with quad := F.RST_STRAP.TMR2.on s.rst.strap, errcnt := 0, resetArmed := false } ∧
          t.twt.ptr = 0x18) ∧
        (s.twt.first = false → s.twt.ptr = 0x17 → s.twt.part = [1, 0, 0] → x ≠ 0xA5 →
          Moves (.mtDataByte x) s fun t => only t ∧ t.twt.ptr = 0x18) ∧
        (s.twt.first = false → s.twt.ptr < 256 → s.twt.ptr % 4 ≠ 3 → Moves (.mtDataByte x) s fun t => only t ∧
          t.twt.ptr = (s.twt.ptr + 1) % 256)) ∧
      (∀ x : Byte, s.twt.reading = true →
        (s.twt.snap = none → Moves (.mtDataByte x) s fun t => only t ∧ t.twt.ptr = (s.twt.ptr + 1) % 256 ∧
          t.twt.out = some ((wordBytes (mtRead s (s.twt.ptr / 4))).getD (s.twt.ptr % 4) 0) ∧
          t.twt.snap = some (s.twt.ptr / 4, mtRead s (s.twt.ptr / 4))) ∧
        (∀ w : Word, s.twt.snap = some (s.twt.ptr / 4, w) → s.twt.ptr % 4 ≠ 0 → Moves (.mtDataByte x) s fun t =>
          only t ∧ t.twt.out = some ((wordBytes w).getD (s.twt.ptr % 4) 0)))) ∧
    (active s = false → ∀ x : Byte, ∀ i ∈ [Instr.mtDataByte x, .mtStop, .mtTransactionTimeout],
      exec i s = .next s) ∧
    (active s = true →
      (Moves .mtStop s fun t => only t ∧ active t = false ∧ t.twt.part = [] ∧ t.twt.snap = none ∧
        (s.twt.reading = false → F.TWT_EVT.WRITE.on t.twt.regs.evt = true) ∧
        (s.twt.reading = true → t.twt.regs.evt = s.twt.regs.evt)) ∧
      (Moves .mtTransactionTimeout s fun t => only t ∧ active t = false ∧ F.TWT_EVT.TMO.on t.twt.regs.evt = true ∧
        F.TWT_STAT.STRETCH.on t.twt.regs.stat = false ∧ F.TWT_STAT.TMOCNT.get t.twt.regs.stat =
          min 65535 (F.TWT_STAT.TMOCNT.get s.twt.regs.stat + 1))) ∧
    mtRead s 0 = 0x36394B56 ∧ (mtRead s 1).toNat % 8 = statusCode s

/-- 16 R393, R398 to R404, R406, R409: reads at the three references give the data, its correction, or zero where the region is
read-locked; a program or a lock that the rules permit begins with its first pulse, and one that they refuse ends with its
REASON; a pulse that verifies ends the program, the eighth that does not ends it with REASON 0x0F; a lock pulse burns its
fuse. An operation leaves every word but the one it programs, and while one runs OTP_CMD does nothing. -/
def Obligations.FuseControllerReadsProgramsAndLocks : Prop :=
  ∀ s : State,
    let r (t : State) : OtpRegs := t.otp.regs
    let word := F.OTP_ADDR.WORD.get (r s).addr
    let only (t : State) : Prop := { t with otp := s.otp } = s
    let array (t : State) : Prop :=
      t.otp.words = s.otp.words ∧ t.otp.wlock = s.otp.wlock ∧ t.otp.rlock = s.otp.rlock
    (cpWrites s = false ∨ otpBusy s = true → ∀ i ∈ [Instr.otpCmdProgram, .otpCmdWriteLock, .otpCmdReadLock,
      .otpCmdScanStart], exec i s = .next s) ∧
    (cpWrites s = true → F.OTP_STAT.BUSY.on (r s).stat = false →
      ∀ (i : Instr) (op m : Nat),
        (i = .otpCmdRead ∧ op = 1 ∧ m = (fuseAt s word).nrm) ∨ (i = .otpCmdReadHigh ∧ op = 2 ∧ m = (fuseAt s word).hi) ∨
          (i = .otpCmdReadLow ∧ op = 3 ∧ m = (fuseAt s word).lo) →
        Moves i s fun t => { t with otp := s.otp, free := s.free } = s ∧ array t ∧ F.OTP_EVT.DONE.on (r t).evt = true ∧
          F.OTP_STAT.OP.get (r t).stat = op ∧
          (rLocked s (fuseRegion word) = true → (r t).rdata = 0) ∧
          (rLocked s (fuseRegion word) = false → fuseRegion word ≠ 1 →
            (bitCount m = 0 → (r t).rdata = (fuseAt s word).data ∧ F.OTP_STAT.ECC.get (r t).stat = 0) ∧
            (bitCount m = 1 → (r t).rdata = (fuseAt s word).data ∧ F.OTP_STAT.ECC.get (r t).stat = 1) ∧
            (bitCount m = 2 → F.OTP_STAT.ECC.get (r t).stat = 2)) ∧
          (rLocked s (fuseRegion word) = false → fuseRegion word = 1 →
            (r t).rdata = (fuseAt s word).data ^^^ BitVec.ofNat 32 m)) ∧
    (cpWrites s = true → otpBusy s = false →
      (∀ v : Word, v = (r s).wdata →
        (progReason s word v ≠ 0 → Moves .otpCmdProgram s fun t => only t ∧ array t ∧ t.otp.op = none ∧
          F.OTP_STAT.REASON.get (r t).stat = progReason s word v ∧ F.OTP_EVT.DONE.on (r t).evt = true) ∧
        (progReason s word v = 0 → ¬((fuseAt s word).data = v ∧ (fuseAt s word).hi = 0 ∧ (fuseAt s word).lo = 0) →
          Moves .otpCmdProgram s fun t => only t ∧ array t ∧ t.otp.op = some (.program word v 1) ∧
            F.OTP_STAT.BUSY.on (r t).stat = true)) ∧
      (∀ (i : Instr) (rd : Bool), (i = .otpCmdWriteLock ∧ rd = false) ∨ (i = .otpCmdReadLock ∧ rd = true) →
        (lockReason s (word % 8) rd ≠ 0 → Moves i s fun t => only t ∧ array t ∧ t.otp.op = none ∧
          F.OTP_STAT.REASON.get (r t).stat = lockReason s (word % 8) rd ∧ F.OTP_EVT.DONE.on (r t).evt = true) ∧
        (lockReason s (word % 8) rd = 0 → (lockFuses s (word % 8) rd)[0] = false → Moves i s fun t => only t ∧
          array t ∧ t.otp.op = some (.lock (word % 8) rd 0 1 0) ∧ F.OTP_STAT.BUSY.on (r t).stat = true)) ∧
      (Moves .otpCmdScanStart s fun t => only t ∧ array t ∧ F.OTP_STAT.SCANNING.on (r t).stat = true ∧
        F.OTP_SCANPOS.NEXT.get (r t).scanpos = 0 ∧ (r t).scan = 0)) ∧
    (∀ hi nrm lo : Nat, s.otp.op = none → exec (.otpPulseDone hi nrm lo) s = .next s) ∧
    (∀ (w : Nat) (v : Word) (n hi nrm lo : Nat), s.otp.op = some (.program w v n) → n < 16 →
      hi < 2 ^ 39 → nrm < 2 ^ 39 → lo < 2 ^ 39 → Moves (.otpPulseDone hi nrm lo) s fun t =>
        (∀ x : Nat, fuseAt t x = if x = w then ⟨v, hi, nrm, lo⟩ else fuseAt s x) ∧
        t.otp.wlock = s.otp.wlock ∧ t.otp.rlock = s.otp.rlock ∧
        ((hi = 0 ∧ lo = 0) ∨ 8 ≤ n → t.otp.op = none ∧ F.OTP_EVT.DONE.on (r t).evt = true ∧
          F.OTP_STAT.BUSY.on (r t).stat = false ∧ F.OTP_STAT.PULSES.get (r t).stat = n ∧
          F.OTP_STAT.REASON.get (r t).stat = if hi = 0 ∧ lo = 0 then 0 else 0x0F) ∧
        (¬(hi = 0 ∧ lo = 0) → n < 8 → t.otp.op = some (.program w v (n + 1)) ∧ only t)) ∧
    (∀ (g n ok : Nat) (rd : Bool) (k : Fin 3), g < 8 → s.otp.op = some (.lock g rd k n ok) →
      Moves (.otpPulseDone 0 0 0) s fun t => t.otp.words = s.otp.words ∧ (lockFuses t g rd)[k] = true ∧
        ∀ (g' : Nat) (rd' : Bool) (j : Fin 3), (g', rd', j) ≠ (g, rd, k) →
          (lockFuses t g' rd')[j] = (lockFuses s g' rd')[j])

/-- 16 R402: a margin scan reads one word at a time, counts the weak ones and the place of the first, and ends after word
0x7FF with its counts kept; it stops when told, and a host command that waits for it is then cancelled. -/
def Obligations.MarginScanCountsWeakWords : Prop :=
  ∀ s : State,
    let r (t : State) : OtpRegs := t.otp.regs
    let next (t : State) : Nat := F.OTP_SCANPOS.NEXT.get (r t).scanpos
    let weak (t : State) : Nat := F.OTP_SCAN.WEAK.get (r t).scan
    let first (t : State) : Nat := F.OTP_SCANPOS.FIRST.get (r t).scanpos
    let scanning (t : State) : Bool := F.OTP_STAT.SCANNING.on (r t).stat
    (scanning s = false → exec .otpScanWord s = .next s ∧ exec .otpCmdScanStop s = .next s) ∧
    (cpWrites s = true → scanning s = true → F.OTP_STAT.BUSY.on (r s).stat = false →
      Moves .otpCmdScanStop s fun t => scanning t = false ∧ F.OTP_EVT.SCAN_DONE.on (r t).evt = true ∧
        t.otp.words = s.otp.words ∧ ∀ w ∈ t.host.waits, w.kind ≠ .otpScan) ∧
    (scanning s = true → Moves .otpScanWord s fun t => t.otp.words = s.otp.words ∧
      F.OTP_SCAN.SCANNED.get (r t).scan = next s + 1 ∧
      (weakWord (fuseAt s (next s)) = false → weak t = weak s ∧ first t = first s) ∧
      (weakWord (fuseAt s (next s)) = true → weak s < 2047 → weak t = weak s + 1 ∧
        first t = (if first s = 0xFFFF then next s else first s) ∧ F.OTP_EVT.WEAK.on (r t).evt = true) ∧
      (next s ≠ 0x7FF → scanning t = true ∧ next t = next s + 1) ∧
      (next s = 0x7FF → scanning t = false ∧ F.OTP_EVT.SCAN_DONE.on (r t).evt = true ∧
        t.otp.last = (2048, weak t, first t)))

/-- 11 R314, 17 R417, R430: an operation of the flash controller starts when none runs; a program or an erase needs its key, and one
that meets the running slot, or the boot area without its own key, is refused with PROT; at its end a read has copied the
flash to the SRAM, a program has written erased bytes, an erase has cleared its sector, and an operation that timed out
says so. Nothing outside the control pair starts one. A start that waits for the flash goes on when the operation ends (11
R314). -/
def Obligations.FlashControllerProtectsTheRunningSlot : Prop :=
  ∀ s : State,
    let a := F.FLC_ADDR.ADDR.get s.flash.regs.addr
    let n := F.FLC_LEN.LEN.get s.flash.regs.len
    let x := s.flash.regs.sram.toNat / 4 * 4
    let only (t : State) : Prop := { t with flash := s.flash } = s
    let starts (t : State) (op len : Nat) : Prop :=
      only t ∧ t.flash.cells = s.flash.cells ∧ t.flash.op = some ⟨op, a, x, len⟩ ∧
        F.FLC_STAT.BUSY.on t.flash.regs.stat = true
    let refused (t : State) : Prop := only t ∧ t.flash.cells = s.flash.cells ∧ t.flash.op = s.flash.op ∧
      F.FLC_EVT.PROT.on t.flash.regs.evt = true
    (cpWrites s = false ∨ flcBusy s = true → ∀ key : Nat, ∀ i ∈ [Instr.flcCmdRead, .flcCmdProgram key,
      .flcCmdErase key, .flcCmdReset, .flcCmdStatus], exec i s = .next s) ∧
    (cpWrites s = true → flcBusy s = false →
      Moves .flcCmdReset s (fun t => starts t 4 0) ∧ Moves .flcCmdStatus s (fun t => starts t 5 0) ∧
      (1 ≤ n → n ≤ 4096 → Moves .flcCmdRead s fun t => starts t 1 n) ∧
      (∀ (i : Instr) (op key lo len l : Nat),
        (i = .flcCmdProgram key ∧ op = 2 ∧ 1 ≤ n ∧ n ≤ 4096 ∧ lo = a ∧ len = n ∧ l = n) ∨
          (i = .flcCmdErase key ∧ op = 3 ∧ lo = a / 65536 * 65536 ∧ len = 65536 ∧ l = 0) →
        (key ≠ 0x3C96 → key ≠ 0xB07A → exec i s = .next s) ∧
        (key = 0x3C96 ∨ key = 0xB07A → inRunSlot s lo len = true ∨ inBootArea lo len ≠ (key == 0xB07A) →
          Moves i s refused) ∧
        (key = 0x3C96 ∨ key = 0xB07A → inRunSlot s lo len = false → inBootArea lo len = (key == 0xB07A) →
          Moves i s fun t => starts t op l))) ∧
    (∀ (ok : Bool) (fsr : Byte), s.flash.op = none → hwUp s = false ∨ s.boot.waiting = none →
      exec (.flcOperationDone ok fsr) s = .next s) ∧
    (∀ (ok : Bool) (fsr : Byte), s.boot.waiting ≠ none → s.flash.op ≠ none →
      Moves (.flcOperationDone ok fsr) s fun t => t.boot.waiting = none ∧ t.flash.op = none) ∧
    (∀ (o : FlcOp) (ok : Bool) (fsr : Byte), s.boot.waiting = none → s.flash.op = some o →
      Moves (.flcOperationDone ok fsr) s fun t => t.flash.op = none ∧
        (hwUp s = true → F.FLC_EVT.DONE.on t.flash.regs.evt = true ∧ F.FLC_STAT.BUSY.on t.flash.regs.stat = false ∧
          (ok = false → F.FLC_EVT.TIMEOUT.on t.flash.regs.evt = true) ∧
          (o.op = 5 → F.FLC_STAT.FSR.get t.flash.regs.stat = fsr.toNat)) ∧
        (o.op = 1 ∨ o.op = 4 ∨ o.op = 5 → t.flash.cells = s.flash.cells) ∧
        (ok = true → o.op = 1 → 0x100000 ≤ o.sram → o.sram < 0x300000 → ∀ b : Nat, cget (0 : Byte) t.sram b =
          if o.sram ≤ b ∧ b < o.sram + o.len then cget (0xFF : Byte) s.flash.cells (o.addr + (b - o.sram))
          else cget (0 : Byte) s.sram b) ∧
        (ok = true → o.op = 3 → ∀ b : Nat, cget (0xFF : Byte) t.flash.cells b =
          if o.addr / 65536 * 65536 ≤ b ∧ b < o.addr / 65536 * 65536 + 65536 then 0xFF
          else cget (0xFF : Byte) s.flash.cells b) ∧
        (ok = true → o.op = 2 → o.addr % 256 + o.len ≤ 256 →
          (∀ j : Nat, j < o.len → cget (0xFF : Byte) s.flash.cells (o.addr + j) = 0xFF) →
          ∀ b : Nat, cget (0xFF : Byte) t.flash.cells b =
            if o.addr ≤ b ∧ b < o.addr + o.len then retByte s (o.sram + (b - o.addr))
            else cget (0xFF : Byte) s.flash.cells b))

/-- 17 R427 to R429, 16 R395: the service loader answers each frame with its STATUS: the identity, the header checks, a block in
its place, the image at its end, the erased slot, the flash bytes asked for, the restart 1 ms later; a decommissioned
device refuses what acts on a slot. Outside the loader a frame has no effect. -/
def Obligations.LoaderAnswersFrames : Prop :=
  ∀ s : State,
    let answers (i : Instr) (status : Byte) (payload : List Byte) (P : State → Prop) : Prop :=
      Moves i s fun t => t.loader.resp = loaderFrame status payload ∧ P t
    let slots (k : Nat) (l : List Byte) (ok : Bool) : List Instr :=
      [.loaderBegin k l, .loaderBlock k l ok, .loaderEnd ok, .loaderErase k]
    (s.boot.phase ≠ .loader → ∀ (k n : Nat) (l : List Byte) (ok : Bool),
      ∀ i ∈ [Instr.loaderPing, .loaderBaud n, .loaderBaudRevert, .loaderRead k n, .loaderRestart, .loaderBadFrame ok] ++
        slots k l ok, exec i s = .next s) ∧
    (exec .loaderFrameGap s = .next s) ∧
    (s.boot.phase = .loader →
      (∃ v : Word, answers .loaderPing 0 (bytes4 0x36394B56 ++ bytes2 ((shadowWord s 0x110).toNat % 65536) ++
        ([0x111, 0x112, 0x113, 0x114].flatMap fun w => wordBytes (shadowWord s w)) ++
        [BitVec.ofNat 8 (lifecycle s), BitVec.ofNat 8 (fusedLevel s)] ++ wordBytes s.rst.cnt ++ wordBytes v)
        fun t => { t with loader := s.loader, free := s.free } = s) ∧
      (∀ n : Nat, 4 ≤ n → n ≤ 65535 → answers (.loaderBaud n) 0 [] fun t => t.loader.div = n ∧ t.loader.newRate = true ∧
        { t with loader := s.loader } = s) ∧
      exec .loaderBaudRevert s = .next (if s.loader.newRate then
        { s with loader := { s.loader with div := 104, newRate := false } } else s) ∧
      (∀ a n : Nat, 1 ≤ n → n ≤ 4096 → a + n ≤ 0x1000000 →
        answers (.loaderRead a n) 0 (flashRead s a n) fun t => { t with loader := s.loader } = s) ∧
      (answers .loaderRestart 0 [] fun t => t.boot = { s.boot with due := some (s.time + 1000, .cold 1) } ∧
        { t with loader := s.loader, boot := s.boot } = s) ∧
      (∀ bad : Bool, answers (.loaderBadFrame bad) (if bad then 0xF1 else 0xF0) [] fun t =>
        { t with loader := s.loader } = s) ∧
      (lifecycle s = 3 → ∀ (k : Nat) (l : List Byte) (ok : Bool), ∀ i ∈ slots k l ok,
        answers i 0x0E [] fun t => { t with loader := s.loader } = s) ∧
      (lifecycle s ≠ 3 →
        (∀ (k : Nat) (l : List Byte), k < 2 →
          (∀ (st : Status) (r : Nat), headerCheck s l = some (st, r) → answers (.loaderBegin k l) (BitVec.ofNat 8 r) []
            fun t => t.loader.slot = none ∧ t.flash = s.flash) ∧
          (headerCheck s l = none → answers (.loaderBegin k l) 0 (bytes4 (hdrNblk l)) fun t =>
            t.loader.slot = some k ∧ t.loader.next = 0 ∧ t.loader.hdr = l ∧
            ∀ a : Nat, slotBase k ≤ a → a < slotBase k + 65536 → cget (0xFF : Byte) t.flash.cells a = 0xFF)) ∧
        (∀ k : Nat, k < 2 → answers (.loaderErase k) 0 [] fun t => ∀ a : Nat, cget (0xFF : Byte) t.flash.cells a =
          if slotBase k ≤ a ∧ a < slotBase k + 0x600000 then 0xFF else cget (0xFF : Byte) s.flash.cells a) ∧
        (∀ (k n : Nat) (l : List Byte) (ok : Bool), s.loader.slot = some k → n < hdrNblk s.loader.hdr →
          (n + 1 = s.loader.next → answers (.loaderBlock n l ok) 0 (bytes4 s.loader.next) fun t => t.flash = s.flash) ∧
          (n ≠ s.loader.next → n + 1 ≠ s.loader.next → answers (.loaderBlock n l ok) 4 (bytes4 s.loader.next)
            fun t => t.flash = s.flash) ∧
          (n = s.loader.next → l.length ≠ blockLen s.loader.hdr n ∨ blockCrcOk l = false →
            answers (.loaderBlock n l ok) 2 [] fun t => t.flash = s.flash ∧ t.loader.slot = none) ∧
          (n = s.loader.next → l.length = blockLen s.loader.hdr n → blockCrcOk l = true → ok = true →
            (∀ j : Nat, j < l.length → cget (0xFF : Byte) s.flash.cells (blockAddr k n + j) = 0xFF) →
            answers (.loaderBlock n l ok) 0 (bytes4 (n + 1)) fun t => t.loader.next = n + 1 ∧
              flashRead t (blockAddr k n) l.length = l)) ∧
        (∀ (k : Nat) (ok : Bool), s.loader.slot = some k → s.loader.next = hdrNblk s.loader.hdr →
          k < 2 → s.loader.hdr.length = 512 →
          (∀ j : Nat, j < 512 → cget (0xFF : Byte) s.flash.cells (slotBase k + j) = 0xFF) →
          let bad : Nat := if signatureOk s k s.loader.hdr = false then 3 else if ok = false then 2 else 0
          answers (.loaderEnd ok) (BitVec.ofNat 8 bad) (if bad = 0 then bytes4 (hdrVersion s.loader.hdr) else []) fun t =>
            t.loader.slot = none ∧ (bad = 3 → t.flash = s.flash) ∧ (bad = 0 → cfail k t = 0))))

/-- 07 R190 to R195, R202, R204, 08 R214: a conversion writes the channel's latest code, and the first crossing of an enabled
threshold in a block sets its flag; a failed ADC is flagged for every port it serves and is a degraded condition; a frame
boundary advances the frame and the streaming follows EN, its first record the time marker; the low words of the frame and
of the time latch the high words. -/
def Obligations.TelemetrySamplesAndFrames : Prop :=
  ∀ s : State,
    (∀ (ch : Fin 297) (code : BitVec 12),
      (hwUp s = false ∨ chanAbsent s ch.val = true → exec (.adcConversion ch code) s = .next s) ∧
      (hwUp s = true → chanAbsent s ch.val = false →
        (Moves (.adcConversion ch code) s fun t => t.codec.chans[ch].last = s.time ∧
          t.codec.chans[ch].prev = some code.toNat ∧ t.codec.chans[ch].seen = s.codec.chans[ch].seen + 1 ∧
          ∀ r : Fin 297, r ≠ ch → t.codec.chans[r] = s.codec.chans[r]) ∧
        (∀ (p : PortId) (i : Fin 3), ch.val = 96 * i.val + p.val → Moves (.adcConversion ch code) s fun t =>
          { t with ports := s.ports, codec := s.codec } = s ∧ (∀ r : PortId, r ≠ p → t.ports[r] = s.ports[r]) ∧
          (if i = 0 then t.ports[p].tel.pvbus else if i = 1 then t.ports[p].tel.pibus else t.ports[p].tel.pvcv) =
            BitVec.ofNat 32 code.toNat ∧
          (s.codec.chans[ch].hiEn = false → s.codec.chans[ch].loEn = false → s.codec.chans[ch].seen ≠ 0 →
            t.ports[p].tel.pevt = s.ports[p].tel.pevt) ∧
          (∀ a : Nat, s.codec.chans[ch].seen ≠ 0 → s.codec.chans[ch].posted = false → s.codec.chans[ch].prev = some a →
            s.codec.chans[ch].hiEn = true →
            crosses ch.val ((chanThr s ch).toNat / 65536 % 4096) a code.toNat = true →
            bitOf t.ports[p].tel.pevt i.val = true ∧ t.codec.chans[ch].posted = true)))) ∧
    (∀ a : Fin 16, (hwUp s = false ∨ adcOut s a.val = true → exec (.adcFailure a) s = .next s) ∧
      (hwUp s = true → adcOut s a.val = false → Moves (.adcFailure a) s fun t => adcOut t a.val = true ∧
        bitOf t.saf.health 3 = true ∧ F.TEL_EVT.ADC_FAIL.on t.tel.evt = true ∧
        ∀ p : PortId, if 4 * (p.val / 24) + p.val % 24 / 6 = a.val then F.TEL_PSTAT.FAIL.on t.ports[p].tel.pstat = true
          else t.ports[p] = s.ports[p])) ∧
    (hwUp s = false ∨ s.cru.standby = true → exec .frameBoundary s = .next s) ∧
    (hwUp s = true → s.cru.standby = false →
      let f := max (s.codec.frame + 1) (s.time / 512)
      (Moves .frameBoundary s fun t => t.codec.frame = f ∧ t.time = max s.time (512 * f) ∧
        F.TEL_STAT.RUN.on t.tel.stat = F.TEL_CTL.EN.on s.tel.ctl ∧ t.flash = s.flash ∧ t.sram = s.sram) ∧
      (F.TEL_CTL.EN.on s.tel.ctl = true → F.TEL_STAT.RUN.on s.tel.stat = false →
        F.TEL_STAT.DROPPING.on s.tel.stat = false → telWoff s + 9 ≤ 524288 → 9 ≤ telFree s →
        (∀ ch : Fin 297, s.codec.chans[ch].block = none) → Moves .frameBoundary s fun t =>
          telWoff t = (telWoff s + 9) % 524288 ∧
          winRead t (0x80000 + telWoff s) 9 = timeMarker (512 * f))) ∧
    (hwUp s = true → exec .telFrameloRead s = .next { s with
      tel := { s.tel with framehi := BitVec.ofNat 32 (s.codec.frame / 4294967296 % 8388608) }
      codec := { s.codec with hiLatched := true } }) ∧
    (hwUp s = false → exec .telFrameloRead s = .next s) ∧
    exec .hidTimeloRead s = .next (if linkAnswers s then
      { s with host := { s.host with timeHi := some (BitVec.ofNat 32 (s.time / 4294967296)) } } else s)

/-- 02 R45, R48 to R50, 17 R414, R418 to R421, 04 R120: the LED chain shows each port's state in its two bits; the update button
and the card begin, feed and end an update from the card; what the SD host and the crypto block finish raises their event
flag while no firmware runs. -/
def Obligations.BoardAndCardEvents : Prop :=
  ∀ s : State,
    (s.boot.phase ≠ .running ∨ s.cru.standby = true ∨ F.CRU_GATE.LED.on s.cru.regs.gate = false →
      exec .ledFrame s = .next s) ∧
    (s.boot.phase = .running → s.cru.standby = false → F.CRU_GATE.LED.on s.cru.regs.gate = true →
      Moves .ledFrame s fun t => { t with board := s.board } = s ∧ t.board.frames = s.board.frames + 1 ∧
        t.board.led.length = 192 ∧ ∀ p : PortId, ∃ b1 b0 : Bool,
          t.board.led[190 - 2 * p.val]? = some b1 ∧ t.board.led[191 - 2 * p.val]? = some b0 ∧
          (dieHeld s (dieOf p) = true → b1 = true ∧ b0 = (s.board.frames / 25 % 2 == 1)) ∧
          (dieHeld s (dieOf p) = false →
            (s.ports[p].st = .parked ∨ s.ports[p].st = .detached → b1 = false ∧ b0 = false) ∧
            (s.ports[p].st = .contracted → b1 = false ∧ b0 = true) ∧
            (s.ports[p].st = .fenced → b1 = true ∧ b0 = false) ∧
            (s.ports[p].st = .tripped ∨ s.ports[p].st = .retryWait → b1 = (s.board.frames / 25 % 2 == 1) ∧
              b0 = false))) ∧
    (s.cru.standby = true → exec .updateBtnPress s = exec .updateBtnPress (wake 3 s)) ∧
    (s.cru.standby = false → hostServed s = false → exec .updateBtnPress s = .next s) ∧
    (s.cru.standby = false → hostServed s = true → Moves .updateBtnPress s fun t => t.flash = s.flash ∧
      bitOf t.cores[pairCore].latched 14 = true ∧
      (s.board.card = true → updFree s = true → t.upd.card = true ∧ t.upd.act = 1 ∧ t.upd.st = s.upd.st) ∧
      (s.board.card = false ∨ updFree s = false → t.upd = s.upd)) ∧
    (∀ b : Bool, Moves (.sdCdNChange b) s fun t => t.board = { s.board with card := b } ∧ t.flash = s.flash ∧
      (hwUp s = true → b = false → s.upd.card = true → s.upd.st ≠ 2 → t.upd.st = 7 ∧ t.upd.reason = 8 ∧ t.upd.card = false) ∧
      (hwUp s = false ∨ b = true ∨ s.upd.card = false ∨ s.upd.st = 2 → t.upd = s.upd)) ∧
    (∀ r : CardRead,
      let on : Prop := hwUp s = true ∧ F.CRU_GATE.SD.on s.cru.regs.gate = true ∧ s.cru.standby = false
      (¬on → exec (.sdTransferDone r) s = .next s) ∧
      (on → hostServed s = false ∨ s.upd.card = false → exec (.sdTransferDone r) s =
        .next { s with board := { s.board with sdFlag := !hostServed s } }) ∧
      (on → hostServed s = true → s.upd.card = true →
        (r = .error → Moves (.sdTransferDone r) s fun t => t.upd.st = 7 ∧ t.upd.reason = 8 ∧ t.upd.card = false) ∧
        (r = .notFound → Moves (.sdTransferDone r) s fun t => t.upd.st = 7 ∧ t.upd.reason = 9 ∧ t.upd.card = false) ∧
        (∀ l : List Byte, r = .data l → s.upd.st = 1 →
          (l.length ≠ blockLen s.upd.hdr s.upd.next ∨ blockCrcOk l = false → Moves (.sdTransferDone r) s fun t =>
            t.upd.st = 7 ∧ t.upd.reason = 2 ∧ t.flash = s.flash) ∧
          (l.length = blockLen s.upd.hdr s.upd.next → blockCrcOk l = true →
            (∀ j : Nat, j < l.length →
              cget (0xFF : Byte) s.flash.cells (blockAddr s.upd.slot s.upd.next + j) = 0xFF) →
            Moves (.sdTransferDone r) s fun t => t.upd.next = s.upd.next + 1 ∧
              flashRead t (blockAddr s.upd.slot s.upd.next) l.length = l ∧
              t.upd.st = if s.upd.next + 1 = hdrNblk s.upd.hdr then 2 else 1)))) ∧
    (∀ ok : Bool,
      let on : Prop := hwUp s = true ∧ F.CRU_GATE.CRYPTO.on s.cru.regs.gate = true ∧ s.cru.standby = false
      (¬on → exec (.cryptoDone ok) s = .next s) ∧
      (on → hostServed s = false ∨ (findWait s authVerifying = none ∧ (s.upd.card = false ∨ s.upd.st ≠ 2)) →
        exec (.cryptoDone ok) s = .next { s with board := { s.board with cryptoFlag := !hostServed s } }) ∧
      (on → hostServed s = true → findWait s authVerifying = none → s.upd.card = true → s.upd.st = 2 →
        signatureOk s s.upd.slot s.upd.hdr = false → Moves (.cryptoDone ok) s fun t => t.upd.st = 7 ∧
          t.upd.reason = 3 ∧ t.flash = s.flash ∧ ∀ w : Wait, findWait s (fun v => v.kind == .card) = some w →
            Completed w .imageInvalid ([BitVec.ofNat 8 s.upd.slot, 3, 0, 0] ++ bytes4 (hdrVersion s.upd.hdr)) s t))

/-- 05 R153 to R155, 02 R41, 06 R177, 12 R338: a feed qualifies, and its failure ends, only through a die whose stitch link is
up; with no active feed the first of the order that is qualified and in reach is selected, and its gate rises under
SWITCHING; with RETURN an earlier one replaces the active one; a die opens a lost feed even without the control die, and the
loss of the active feed begins a switch; the next feed is selected only once the old gate is off, and while its die has no
link once the second wire shows it below its threshold (BBM_WAIT meanwhile); a switch ends with the feed as the budget's
source; with no feed qualified every source port binds off; a feed that the order names and that stays unqualified is a
failure. FEED_P's gate is its port's. -/
def Obligations.FeedsSwitchBreakBeforeMake : Prop :=
  ∀ s : State,
    let r := s.feeds.regs
    let active (t : State) : Nat := F.FED_STAT.ACTIVE.get t.feeds.regs.stat
    let first (w : State) : Option Feed := (feedOrder r).find? (feedReady w)
    let onlyFeeds (t : State) : Prop :=
      { t with feeds := s.feeds, saf := s.saf, host := s.host, boot := s.boot } = s
    let onlyGate (f : Feed) (t : State) : Prop :=
      { t with feeds := s.feeds, saf := s.saf, host := s.host, boot := s.boot, ports := s.ports, free := s.free } = s ∧
      ∀ p : PortId, f ≠ .p ∨ F.FED_PPORT.PORT.get r.pport ≠ p.val → t.ports[p] = s.ports[p]
    let selects (f : Feed) (t : State) : Prop :=
      feedSwitching t = true ∧ active t = Feed.code f ∧ t.feeds.rising = some f ∧
        (f ≠ .p ∨ feedPServes s = true → feedGate t f = true)
    let opens (f : Feed) (t : State) : Prop :=
      feedSwitching t = true ∧ active t = Feed.code f ∧ t.feeds.rising = none ∧
        (feedLinkDown s f = false → feedGate t f = false ∧
          F.FED_EVT.BBM_WAIT.on t.feeds.regs.evt = F.FED_EVT.BBM_WAIT.on r.evt) ∧
        (feedLinkDown s f = true → f ∈ t.feeds.failed ∧ F.FED_EVT.BBM_WAIT.on t.feeds.regs.evt = true)
    (∀ f : Feed,
      let usable := feedLinkDown s f = false ∧ (f ≠ .p ∨ feedPServes s = true)
      let w : State := { s with feeds := { s.feeds with
        regs := { r with stat := setBit (3 + Feed.code f) r.stat }
        failed := s.feeds.failed.filter (· != f)
        under := match Feed.die f with
          | some d => s.feeds.under.set d false
          | none => s.feeds.under } }
      (hwUp s = false ∨ ¬usable → exec (.feedQualified f) s = .next s) ∧
      (hwUp s = true → usable →
        (feedSwitching s = true → Moves (.feedQualified f) s fun t => onlyFeeds t ∧ t.feeds = w.feeds) ∧
        (∀ g : Feed, feedSwitching s = false → active s = 0 → first w = some g →
          Moves (.feedQualified f) s fun t => onlyGate g t ∧ selects g t ∧ feedQual t f = true) ∧
        (∀ g : Feed, feedSwitching s = false → active s = Feed.code g → feedQual s g = true →
          (F.FED_CTL.RETURN.on r.ctl = false ∨ first w = some g →
            Moves (.feedQualified f) s fun t => onlyFeeds t ∧ t.feeds = w.feeds) ∧
          (∀ e : Feed, F.FED_CTL.RETURN.on r.ctl = true → first w = some e → e ≠ g →
            Moves (.feedQualified f) s fun t => onlyGate g t ∧ opens g t ∧ feedQual t f = true))) ∧
      (Moves (.feedLost f) s fun t => onlyGate f t ∧ feedGate t f = false) ∧
      (hwUp s = false → exec (.feedDegradedTimeout f) s = .next s ∧
        Moves (.feedLost f) s fun t => t.feeds.regs = r ∧ t.feeds.rising = s.feeds.rising) ∧
      (hwUp s = true →
        (Moves (.feedLost f) s fun t => feedQual t f = false ∧
          (if f = .a then F.FED_EVT.LOST_A else if f = .b then F.FED_EVT.LOST_B else F.FED_EVT.LOST_P).on
            t.feeds.regs.evt = true ∧ ∀ g : Feed, g ≠ f → feedQual t g = feedQual s g) ∧
        (active s ≠ Feed.code f ∨ (feedSwitching s = true ∧ s.feeds.rising ≠ some f) →
          Moves (.feedLost f) s fun t => active t = active s ∧ feedSwitching t = feedSwitching s ∧
            t.feeds.rising = s.feeds.rising) ∧
        (active s = Feed.code f → feedSwitching s = false ∨ s.feeds.rising = some f →
          Moves (.feedLost f) s fun t => opens f t)) ∧
      (hwUp s = true → f ∈ feedOrder r → feedQual s f = false →
        Moves (.feedDegradedTimeout f) s fun t => onlyFeeds t ∧ bitOf t.saf.health 2 = true ∧
          t.feeds = { s.feeds with failed := f :: s.feeds.failed.filter (· != f) }) ∧
      (f ∉ feedOrder r ∨ feedQual s f = true → exec (.feedDegradedTimeout f) s = .next s)) ∧
    (bbmClear s = true ↔ ∀ f : Feed, active s = Feed.code f → feedGate s f = false ∧
      (feedLinkDown s f = true → ∀ d ∈ Feed.die f, s.feeds.under[d] = true)) ∧
    (feedSwitching s = false ∨ s.feeds.rising ≠ none ∨ bbmClear s = false → exec .feedBbmDone s = .next s) ∧
    (feedSwitching s = true → s.feeds.rising = none → bbmClear s = true →
      (∀ f : Feed, first s = some f → Moves .feedBbmDone s fun t => onlyGate f t ∧ selects f t ∧
        t.saf = s.saf ∧ t.host = s.host) ∧
      (first s = none → Moves .feedBbmDone s fun t => { t with feeds := s.feeds, cad := s.cad } = s ∧
        active t = 0 ∧ feedSwitching t = false ∧ t.feeds.gates = s.feeds.gates ∧
        F.CAD_STAT.SOURCE.get t.cad.regs.stat = 0)) ∧
    (s.feeds.rising = none → exec .feedSwitched s = .next s) ∧
    (∀ f : Feed, s.feeds.rising = some f →
      (Moves .feedSwitched s fun t => F.FED_EVT.SWITCHED.on t.feeds.regs.evt = true ∧ t.feeds.rising ≠ some f) ∧
      (active s = Feed.code f → feedQual s f = true →
        F.FED_CTL.RETURN.on r.ctl = false ∨ first s = some f ∨ first s = none →
        Moves .feedSwitched s fun t =>
          { t with feeds := s.feeds, cad := s.cad, host := s.host, boot := s.boot } = s ∧
          feedSwitching t = false ∧ active t = Feed.code f ∧ t.feeds.rising = none ∧
          t.feeds.gates = s.feeds.gates ∧ F.FED_EVT.SWITCHED.on t.feeds.regs.evt = true ∧
          F.CAD_STAT.SOURCE.get t.cad.regs.stat = Feed.code f)) ∧
    (hwUp s = false ∨ (∃ f : Feed, feedQual s f = true) → exec .feedNone s = .next s) ∧
    (hwUp s = true → (∀ f : Feed, feedQual s f = false) →
      (Moves .feedNone s fun t => F.FED_EVT.NONE.on t.feeds.regs.evt = true ∧
        ∀ p : PortId, s.ports[p].attached = true → s.ports[p].isSource = true →
          t.ports[p].st = .bindingOff ∧ t.ports[p].isDown) ∧
      ((∀ p : PortId, s.ports[p].attached = false ∨ s.ports[p].isSource = false) →
        Moves .feedNone s fun t => onlyFeeds t ∧ F.FED_EVT.NONE.on t.feeds.regs.evt = true ∧
          t.feeds.gates = s.feeds.gates))

/-- 06 R163 to R167, R168, R174: a reservation comes from a pre-arm holding that covers the level, else from the pool at the
highest level its balance covers, else the port waits with WAIT5; a request takes the place of an earlier and of a standing
one and keeps its age; DONE and WITHDRAW are kept in order for the boundary; the end of an upgrade's hold withdraws it; the
low half of the row count latches the high half. An unpopulated port reserves and asks for nothing (02 R39). -/
def Obligations.CaddySubmissions : Prop :=
  ∀ (p : PortId) (s : State),
    let c := s.cadp[p]
    let l := min 2 (F.CAD_PCFG.V5.get c.actPcfg)
    let u (n : Nat) : Nat := unitsAt s 50 (levelPout n)
    let onlyCaddy (t : State) : Prop := { t with cad := s.cad, cadp := s.cadp } = s ∧
      ∀ r : PortId, r ≠ p → t.cadp[r] = s.cadp[r] ∧ t.cad.wres[r] = s.cad.wres[r]
    (hwUp s = false → exec (.withdraw p) s = .next s ∧ ∀ v w : Nat, exec (.done p v w) s = .next s) ∧
    (hwUp s = true → MovesLedger (.withdraw p) s p (fun d => d = { c with subs := c.subs ++ [none] }) ∧
      ∀ v w : Nat, MovesLedger (.done p v w) s p (fun d => d = { c with subs := c.subs ++ [some (v, w)] })) ∧
    (hwUp s = false ∨ unpopulated s p = true → exec (.reserve p) s = .next s ∧ ∀ v w : Nat,
      exec (.prearm p v w) s = .next s ∧ exec (.caddyRequest p v w) s = .next s) ∧
    (hwUp s = true → unpopulated s p = false →
      let covered : Prop := s.ports[p].pol.prearmed = true ∧ u l ≤ c.hold - c.relAmt
      (covered → Moves (.reserve p) s fun t => onlyCaddy t ∧ windowHolds t p 6 l ∧ t.cadp[p] = { c with floor := u l } ∧
        t.cad.regs = s.cad.regs) ∧
      (¬covered → ∀ k : Nat, k ≤ l → u k ≤ poolBal s → (∀ n : Nat, k < n → n ≤ l → poolBal s < u n) →
        Moves (.reserve p) s fun t => onlyCaddy t ∧ windowHolds t p 6 k ∧ poolBal t = poolBal s - u k ∧
          t.cadp[p].hold = (c.hold + u k) % 65536 ∧ t.cadp[p].floor = u k ∧
          F.CAD_PHOLD.WAIT5.on t.cadp[p].regs.phold = false ∧
          F.CAD_COMMIT.VALUE.get t.cad.regs.commit = committed t % 1048576) ∧
      (¬covered → (∀ n : Nat, n ≤ l → poolBal s < u n) →
        Moves (.reserve p) s fun t => onlyCaddy t ∧ windowHolds t p 7 0 ∧ t.cadp[p].hold = c.hold ∧
          poolBal t = poolBal s ∧ F.CAD_PHOLD.WAIT5.on t.cadp[p].regs.phold = true ∧
          F.CAD_EVT.POOL_EMPTY.on t.cad.regs.evt = true) ∧
      ∀ v w : Nat,
        let age := match c.req, c.stand with
          | some r, _ => r.age
          | none, some r => r.age
          | none, none => 0
        let put (early : Bool) (d : CadPort) : Prop :=
          d = { c with req := some { volt := v, pout := w, age := age, prearm := early }, stand := none }
        MovesLedger (.prearm p v w) s p (put true) ∧ MovesLedger (.caddyRequest p v w) s p (put false)) ∧
    (c.upg = none ∨ F.CAD_STAT.PAUSED.on s.cad.regs.stat = true → exec (.upgradeHoldEnd p) s = .next s) ∧
    (c.upg ≠ none → F.CAD_STAT.PAUSED.on s.cad.regs.stat = false → MovesLedger (.upgradeHoldEnd p) s p fun d =>
      d = { c with upg := none, stand := none, subs := c.subs ++ [none] }) ∧
    exec .cadRowloRead s = .next { s with
      cad := { s.cad with rowHi := some (BitVec.ofNat 32 (s.cad.row / 4294967296)) } }

/-- 06 R168 to R171, R177, R179: while rows are paused, and in standby, a boundary does nothing; a boundary of LEN comes
with SYNC_EN = 0 or after the loss of ROW_SYNC. With nothing else to do a boundary counts the row, takes the registers in
force, follows the budget, refills the pool and takes the snapshot of the next row; one port's request is granted when the
snapshot's headroom covers what it lacks, granted in part down to PMIN, else denied and standing; its result waits in the
window while no engine serves the port. An edge of ROW_SYNC makes the same boundary, unless it comes within 250 µs; the loss
of ROW_SYNC makes it too. -/
def Obligations.RowBoundariesResolveRequests : Prop :=
  ∀ s : State,
    let sync := F.CAD_ROWCFG.SYNC_EN.on s.cad.act.rowcfg
    let paused : Prop := hwUp s = false ∨ s.cru.standby = true ∨ F.CAD_STAT.PAUSED.on s.cad.regs.stat = true
    let lost (b : Bool) : State := { s with cad := { s.cad with syncLost := b } }
    let rowEnd (b : Nat) (t : State) : Prop :=
      t.cad.row = (s.cad.row + 1) % 18446744073709551616 ∧ t.cad.act = s.cad.regs ∧
      F.CAD_BUDGET.VALUE.get t.cad.regs.budget = b ∧ t.cad.snapB = b ∧ t.cad.snapC = committed t ∧
      poolBal t = min (F.CAD_POOL.POOLSZ.get s.cad.regs.pool) (b - committed t) ∧ t.cad.snapW = poolBal t ∧
      (∀ r : PortId, t.cadp[r].snapHold = t.cadp[r].hold ∧ t.cadp[r].actPcfg = s.cadp[r].regs.pcfg)
    (paused → exec .rowBoundary s = .next s ∧ exec .syncLost s = .next s ∧
      ∀ (rise : Bool) (n : Nat), exec (.rowSyncEdge rise n) s = .next s) ∧
    (¬paused → (sync = true → s.cad.syncLost = false → exec .rowBoundary s = .next s) ∧
      (sync = false → exec .rowBoundary s = .next (boundary (lost false))) ∧
      (sync = true → s.cad.syncLost = true → exec .rowBoundary s = .next (boundary s))) ∧
    (∀ b : Nat, RowCalm s b → (∀ p : PortId, s.cadp[p].req = none) → committed s ≤ b →
      Moves .rowBoundary s fun t => rowEnd b t ∧ (∀ p : PortId, t.cadp[p].hold = s.cadp[p].hold) ∧
        t.cad.wres = s.cad.wres ∧ t.ports = s.ports ∧
        (b ≠ F.CAD_BUDGET.VALUE.get s.cad.regs.budget → F.CAD_EVT.BUDGET_CHG.on t.cad.regs.evt = true)) ∧
    (∀ (b : Nat) (p : PortId) (r : CadReq), s.cadp[p].req = some r → RowCalm s b →
      F.CAD_CTL.EN.on s.cad.act.ctl = true → portServed s p = false → (∀ q : PortId, q ≠ p → s.cadp[q].req = none) → effRising s.cad.act.eff = true →
      r.volt < 1024 →
      let c := s.cadp[p]
      let u := unitsAt s r.volt r.pout
      let lacks := u - c.snapHold
      let least := max 1 (F.CAD_PCFG.PMIN.get c.actPcfg)
      (lacks ≤ headroom s → u < 65536 → committed s + (u - c.hold) ≤ b →
        Moves .rowBoundary s fun t => rowEnd b t ∧ t.cadp[p].hold = max c.hold u ∧ t.cadp[p].req = none ∧
          windowHolds t p 1 (coverAt s r.volt (max c.hold u)) ∧
          F.PTH_CEIL.CEIL.get t.ports[p].pth.ceil = r.volt ∧ F.PTH_RATING.CAD_LIM.get t.ports[p].pth.rating = 0 ∧
          ∀ q : PortId, q ≠ p → t.cadp[q].hold = s.cadp[q].hold ∧ t.ports[q] = s.ports[q]) ∧
      (headroom s < lacks → least ≤ headroom s → u < 65536 → committed s + (c.snapHold + headroom s - c.hold) ≤ b →
        Moves .rowBoundary s fun t => rowEnd b t ∧ t.cadp[p].hold = max c.hold (c.snapHold + headroom s) ∧
          t.cadp[p].req = none ∧ t.cadp[p].stand = some { r with age := min 255 (r.age + 1) } ∧
          windowHolds t p 2 (coverAt s r.volt t.cadp[p].hold) ∧ t.ports = s.ports) ∧
      (headroom s < lacks → headroom s < least → committed s ≤ b →
        Moves .rowBoundary s fun t => rowEnd b t ∧ t.cadp[p].hold = c.hold ∧ t.cadp[p].req = none ∧
          t.cadp[p].stand = some { r with age := min 255 (r.age + 1) } ∧
          windowHolds t p 3 (coverAt s r.volt c.hold) ∧ t.ports = s.ports)) ∧
    (∀ (rise : Bool) (n : Nat),
      (sync = false ∨ F.CAD_ROWCFG.SYNC_EDGE.on s.cad.act.rowcfg = rise → exec (.rowSyncEdge rise n) s = .next s) ∧
      (¬paused → sync = true → F.CAD_ROWCFG.SYNC_EDGE.on s.cad.act.rowcfg = !rise →
        (n < 250 → Moves (.rowSyncEdge rise n) s fun t => F.CAD_EVT.SYNC_EARLY.on t.cad.regs.evt = true ∧
          t.cad.row = s.cad.row ∧ t.cadp = s.cadp ∧ t.ports = s.ports) ∧
        (250 ≤ n → exec (.rowSyncEdge rise n) s = .next (boundary (lost false))))) ∧
    (¬paused → sync = true →
      let noted := { s with cad := { s.cad with
        syncLost := true
        regs := { s.cad.regs with evt := F.CAD_EVT.SYNC_LOST.set s.cad.regs.evt } } }
      { postCaddy noted with host := s.host, boot := s.boot } = noted ∧
        exec .syncLost s = .next (boundary (postCaddy noted))) ∧
    (sync = false → exec .syncLost s = .next s)

/-- 06 R171: what one row grants beyond the holdings of its snapshot never exceeds the snapshot's headroom, whatever the
requests and their order; while an upper limit or an earlier denial blocks, nothing is granted beyond them. -/
def Obligations.RowGrantsStayInHeadroom : Prop :=
  let grown (x : RowReq × RowOutcome) : Nat := match x.2 with
    | .grant => x.1.units - x.1.hold
    | .partialGrant n => n
    | .deny => 0
  ∀ (high blocked : Bool) (l : List RowReq) (h : Nat),
    ((resolve high l h blocked).map grown).sum ≤ h ∧
    (high = true ∨ blocked = true → ((resolve high l h blocked).map grown).sum = 0) ∧
    (resolve high l h blocked).map Prod.fst = l ∧
    ∀ x ∈ resolve high l h blocked, ∀ n : Nat, x.2 = .partialGrant n → x.1.pmin ≤ n ∧ n < x.1.units - x.1.hold

/-- 06 R181 to R183: at its deadline a victim that has not settled is limited to its target's power at its contract's voltage
and counted at the target; when the limit would fall below LIMMIN it is bound off. With no such victim, with rows paused or
without a shed cycle nothing happens. -/
def Obligations.ShedDeadlineLimitsVictims : Prop :=
  ∀ s : State,
    ((∀ p : PortId, unsettled s.cadp[p] = false) → exec .shedDeadline s = .next s) ∧
    (F.CAD_STAT.PAUSED.on s.cad.regs.stat = true ∨ F.CAD_STAT.SHEDDING.on s.cad.regs.stat = false →
      exec .shedDeadline s = .next s) ∧
    (∀ (p : PortId) (v w : Nat), F.CAD_STAT.PAUSED.on s.cad.regs.stat = false →
      F.CAD_STAT.SHEDDING.on s.cad.regs.stat = true → unsettled s.cadp[p] = true →
      (∀ r : PortId, r ≠ p → unsettled s.cadp[r] = false) → s.cadp[p].contract = some (v, w) → 0 < v →
      let lim := coverAt s v s.cadp[p].target * 10 / v
      let least := max 1 (F.CAD_SHED.LIMMIN.get s.cad.act.shed)
      (least ≤ lim → Moves .shedDeadline s fun t =>
        F.PTH_RATING.CAD_LIM.get t.ports[p].pth.rating = min 1023 lim ∧ t.ports[p].st = s.ports[p].st ∧
        t.cadp[p].hold = min s.cadp[p].hold s.cadp[p].target ∧ F.CAD_PHOLD.LIMITED.on t.cadp[p].regs.phold = true ∧
        ∀ r : PortId, r ≠ p → t.cadp[r] = s.cadp[r] ∧ t.ports[r] = s.ports[r]) ∧
      (lim < least → s.ports[p].attached = true → Moves .shedDeadline s fun t =>
        F.CAD_EVT.BINDOFF.on t.cad.regs.evt = true ∧ t.ports[p].st = .bindingOff ∧ t.ports[p].isDown ∧
        F.CAD_PHOLD.SHED.on t.cadp[p].regs.phold = false ∧
        ∀ r : PortId, r ≠ p → t.cadp[r] = s.cadp[r] ∧ t.ports[r] = s.ports[r]))

/-- 05 R127 to R133: a gate ramp starts from 0 V when PATH_EN rises; a target above CEIL is refused with its flag, any other is
written, and from AT_TARGET or within a ramp the converter moves toward it from the present reference; the end of a ramp
sets AT_TARGET and RAMP_DONE, and at vSafe5V the engine of a source offers its capabilities; the sink helps a falling ramp; the
trim moves the FBS code by one, within 64. With the stitch link down a core's write is discarded (01 R32). -/
def Obligations.RampsFollowTarget : Prop :=
  ∀ (p : PortId) (s : State),
    let q := s.ports[p]
    let writes : Prop := frontWrites s p = true
    let drives : Prop := frontDrives s p = true
    let complete : Prop := q.ramping = true ∧ refNow s.time q = q.target ∧
      (adcFailed s p = true → q.strained 7 = !decide (q.target < F.PTH_REF.REF.get q.pth.ref))
    let fbsAt (r : Nat) (t : Port) : Prop := F.PTH_FBS.CODE.getInt t.pth.fbs = fbsCode q (20 * r) ∧ t.hw.trim = 0
    let rest (t : Port) : Prop := t.core = q.core ∧ t.pd = q.pd ∧ t.phw = q.phw ∧ t.pth.retry = q.pth.retry
    let ended (t : Port) : Prop := t.atTarget = true ∧ t.ramping = false ∧ F.PTH_STAT.LIMIT.on t.pth.stat = false ∧
      F.PTH_REF.REF.get t.pth.ref = q.target ∧ F.PTH_EVT.RAMP_DONE.on t.pth.evt = true ∧ t.target = q.target ∧
      (q.hw.rampDis = true → F.PTH_STAT.DIS_ON.on t.pth.stat = false) ∧ t.hw.ovHold = none ∧ t.st = q.st ∧ fbsAt q.target t
    (¬writes → ∀ n : Nat, exec (.targetWrite p n) s = .next s) ∧
    (¬drives → exec (.gateRampStart p) s = .next s ∧ ∀ b : Bool, exec (.cenEnWrite p b) s = .next s) ∧
    (F.PTH_CTL.PATH_EN.on q.pth.ctl = true → exec (.gateRampStart p) s = .next s) ∧
    (drives → F.PTH_CTL.PATH_EN.on q.pth.ctl = false → MovesPort (.gateRampStart p) s p fun t => rest t ∧
      t.pol = q.pol ∧ F.PTH_CTL.PATH_EN.on t.pth.ctl = true ∧ t.gateOn = true ∧ F.PTH_STAT.LIN.on t.pth.stat = true ∧
      F.PTH_STAT.CNV.on t.pth.stat = false ∧ t.atTarget = false ∧ F.PTH_REF.REF.get t.pth.ref = 0 ∧
      t.target = q.target ∧ fbsAt q.target t ∧ t.hw.rampAt = s.time ∧
      t.hw.rate = min 100 (max 1 (F.PTH_STEEP.RATE.get q.pth.steep))) ∧
    (∀ n : Nat, writes → F.PTH_CEIL.CEIL.get q.pth.ceil * 100 < n % 4096 * 20 →
      MovesPort (.targetWrite p n) s p fun t => rest t ∧ t.target = q.target ∧ t.pth.stat = q.pth.stat ∧
        F.PTH_EVT.CEIL_REF.on t.pth.evt = true ∧
        (srcEnabled s (12 * p.val + 9) = true → q.pol.held = [] → q.pol.queue.length < 32 →
          t.pol.queue = q.pol.queue ++
            [EvtEntry.mk s.time (12 * p.val + 9) q.pol.seq (BitVec.ofNat 32 (1 + 65536 * (n % 4096)))])) ∧
    (∀ n : Nat, writes → n % 4096 * 20 ≤ F.PTH_CEIL.CEIL.get q.pth.ceil * 100 →
      MovesPort (.targetWrite p n) s p fun t => rest t ∧ t.pol = q.pol ∧ t.target = n % 4096 ∧
        t.gateOn = q.gateOn ∧ t.pth.evt = q.pth.evt ∧
        (q.ramping = false → q.atTarget = false → t.pth.stat = q.pth.stat ∧ t.pth.ref = q.pth.ref) ∧
        (q.ramping = true ∨ q.atTarget = true → t.atTarget = false ∧ t.ramping = true ∧ t.hw.rampAt = s.time ∧
          F.PTH_REF.REF.get t.pth.ref = refNow s.time q % 4096 ∧
          fbsAt (if F.PTH_STAT.LIN.on q.pth.stat then n % 4096 else refNow s.time q) t ∧
          F.PTH_STAT.LIN.on t.pth.stat = F.PTH_STAT.LIN.on q.pth.stat)) ∧
    (drives →
      MovesPort (.cenEnWrite p true) s p (fun t => rest t ∧ t.pol = q.pol ∧ t.pth.stat = q.pth.stat ∧
        F.PTH_CTL.CEN_EN.on t.pth.ctl = true ∧
        (F.PTH_CTL.CEN_EN.on q.pth.ctl = false → t.hw.cvWait = !q.strained 6)) ∧
      MovesPort (.cenEnWrite p false) s p fun t => rest t ∧ t.pol = q.pol ∧ t.pth.stat = q.pth.stat ∧
        F.PTH_CTL.CEN_EN.on t.pth.ctl = false ∧ t.hw.cvWait = false) ∧
    (¬complete → exec (.rampDone p) s = .next s) ∧
    (complete → ¬Acts s p → MovesPort (.rampDone p) s p fun t => ended t ∧ Port.keeps (.rampDone p) q t) ∧
    (complete → Acts s p → q.attached = false ∨ q.isSource = false →
      MovesPort (.rampDone p) s p fun t => ended t ∧ t.pol = q.pol ∧
        F.CMP_CFG.THR.get t.cc.cfg[6] = q.target * 18 / 60 % 1024) ∧
    (complete → Acts s p → q.attached = true → q.isSource = true → q.pol.contract = none →
      q.pol.hr = .none → Port.quiet 0 q → F.PD_PHYCFG.EPR.on q.pd.phycfg = false →
      F.PRT_STATE.NOPD.on q.core.state = false → MovesPort (.rampDone p) s p fun t => ended t ∧
        Port.sends 0 (dataMsg q 0 1 ((sprOffers s p).take 7)) .srcCaps t) ∧
    (MovesPort (.fallingRampDischarge p true) s p fun t => rest t ∧ t.pol = q.pol ∧
      if q.ramping = true ∧ q.target < F.PTH_REF.REF.get q.pth.ref ∧ F.PTH_STAT.DIS_ON.on q.pth.stat = false then
        F.PTH_STAT.DIS_ON.on t.pth.stat = true ∧ F.PTH_CTL.DIS_EN.on t.pth.ctl = true ∧ t.hw.rampDis = true
      else t = q) ∧
    (MovesPort (.fallingRampDischarge p false) s p fun t => rest t ∧ t.pol = q.pol ∧
      if q.hw.rampDis = true then
        F.PTH_STAT.DIS_ON.on t.pth.stat = false ∧ F.PTH_CTL.DIS_EN.on t.pth.ctl = false ∧ t.hw.rampDis = false
      else t = q) ∧
    (∀ v : Nat,
      let works : Prop := F.PTH_CTL.TRIM_EN.on q.pth.ctl = true ∧ q.atTarget = true ∧ q.hw.ride = none ∧
        adcFailed s p = false
      (¬works → exec (.fbsTrimStep p v) s = .next s) ∧
      (works → MovesPort (.fbsTrimStep p v) s p fun t => rest t ∧ t.pol = q.pol ∧ t.pth.stat = q.pth.stat ∧
        t.hw.trim = (if 20 * q.target + 20 < v then min 64 (q.hw.trim + 1)
          else if v + 20 < 20 * q.target then max (-64) (q.hw.trim - 1) else q.hw.trim) ∧
        F.PTH_FBS.CODE.getInt t.pth.fbs = min 4095 (max (-4096)
          (F.PTH_FBS.CODE.getInt q.pth.fbs + (t.hw.trim - q.hw.trim)))))

/-- 05 R137 to R140, Table PTH-3, 12 R322: a monitor whose condition holds trips a port that is attached or whose path is
up: the path is down, the state is TRIPPED, or FENCED for a pass short or a gate fault, the cause stands in PTH_STAT and its
bit in PTH_EVT, the contract ends and the holding is released; a pass short fences every port, and a detach of the same cycle
gives way to the trip. Where no trip follows the bit alone is set; of the causes of one sample CAUSE holds the lowest and a
gate fault fences. In ride-through the four analogue functions end "off" and the others do nothing. A monitor that is not
armed does nothing. -/
def Obligations.MonitorsTripThePath : Prop :=
  ∀ (p : PortId) (s : State),
    let q := s.ports[p]
    let same : Bool := trippedNow s p
    ∀ x ∈ [(Instr.passShortDetected p, Cause.pass, !q.gateOn),
        (.gateFaultDetected p, .gate, F.PTH_STAT.LIN.on q.pth.stat || same),
        (.vbusOvDetected p, .vbusOv, q.gateOn), (.cvOvDetected p, .cvOv, true), (.fastTrip p, .fast, true),
        (.reverseCurrentDetected p, .rev, true),
        (.rampTrackFault p, .ramp, (q.ramping && decide (F.PTH_REF.REF.get q.pth.ref < q.target)) || same),
        (.curveTrip p, .curve, decide (1 ≤ q.hw.heat) || same), (.fallbackTrip p, .fallback, adcFailed s p),
        (.cvTmo p, .cvTmo, (q.hw.cvWait && !q.strained 6) || same), (.enhFault p, .enh, q.atTarget || same)],
      let i := x.1
      let c := x.2.1
      let fences : Bool := c == .pass || c == .gate
      let trips : Prop := q.st ≠ .fenced ∧ (c = .pass ∨ (q.st = .bindingOff ∧ q.hw.detAt = some s.time) ∨
        (q.st ∉ [PortSt.bindingOff, .tripped, .retryWait] ∧
          (q.attached = true ∨ q.gateOn = true ∨ F.PTH_CTL.CEN_EN.on q.pth.ctl = true)))
      let flagged (t : Port) : Prop := t.pth.evt = setBit (c.code - 1) q.pth.evt
      let tripped (t : Port) : Prop := t.isDown ∧ t.st = (if fences then .fenced else .tripped) ∧ flagged t ∧
        F.PTH_STAT.CAUSE.get t.pth.stat = c.code ∧ t.hw.heat = 0 ∧ t.hw.tripAt = some s.time ∧ t.pol.contract = none ∧
        F.PTH_CEIL.CEIL.get t.pth.ceil = 50 ∧ F.PTH_RATING.CAD_LIM.get t.pth.rating = 0 ∧
        F.PRT_EVT.HW_STATE.on t.core.evt = true ∧ ∀ k : Fin 3, t.ctxOn k = false
      (x.2.2 = true → q.hw.ride = none →
        (trips → Moves i s fun t => tripped t.ports[p] ∧
          (∀ r : PortId, r ≠ p → t.ports[r] = s.ports[r] ∧ t.cadp[r] = s.cadp[r]) ∧
          t.cadp[p].relAmt = s.cadp[p].hold ∧ t.cadp[p].hold = s.cadp[p].hold ∧
          (noWaits s p → { t with ports := s.ports, cadp := s.cadp } = s)) ∧
        (¬trips → (same = true → F.PTH_STAT.CAUSE.get q.pth.stat ≤ c.code) → MovesPort i s p fun t => flagged t ∧
          t = { q with pth.evt := t.pth.evt, hw.cvWait := t.hw.cvWait }) ∧
        (¬trips → same = true → c.code < F.PTH_STAT.CAUSE.get q.pth.stat → MovesPort i s p fun t => flagged t ∧
          F.PTH_STAT.CAUSE.get t.pth.stat = c.code ∧ t.st = (if fences then .fenced else .tripped) ∧
          t.pol = q.pol ∧ t.cc = q.cc ∧ t.pd = q.pd ∧ t.pth.ctl = q.pth.ctl)) ∧
      (x.2.2 = true → q.hw.ride ≠ none →
        (c ∈ [Cause.fast, .vbusOv, .cvOv, .rev] → MovesPort i s p fun t => t.hw.ride = none ∧ t.gateOn = false ∧
          F.PTH_CTL.CEN_EN.on t.pth.ctl = false ∧ t.vconnOn = false ∧ flagged t ∧ t.st = q.st ∧ t.pol = q.pol) ∧
        (c ∉ [Cause.fast, .vbusOv, .cvOv, .rev] → MovesPort i s p fun t => t = { q with hw.cvWait := t.hw.cvWait })) ∧
      (x.2.2 = false → c ≠ .vbusOv → exec i s = .next s) ∧
      (x.2.2 = false → c = .vbusOv → exec i s = .next { s with ports := s.ports.set p { q with
        pth.evt := setBit 2 q.pth.evt } })

/-- 05 R141 to R151: a sample below the curve's first point cools the integrator, one at or above its last heats it by the
last time; a valid curve takes effect at COMMIT, an invalid one sets ERR. The end of a discharge switches the sink off and,
after a trip, starts the retry interval of 200 ms doubled by each retry, or exhausts the retries; a due retry casts the port
on with one retry more; the detach-hold clock and a write of CLR clear the retry state. -/
def Obligations.CurveDischargeAndRetries : Prop :=
  ∀ (p : PortId) (s : State),
    let q := s.ports[p]
    let rest (t : Port) : Prop := t.cc = q.cc ∧ t.pd = q.pd ∧ t.phw = q.phw ∧ t.pth.stat = q.pth.stat ∧ t.st = q.st
    let cleared (t : Port) : Prop := t.retryCount = 0 ∧ t.retryExh = false ∧ t.retryIsDue = false ∧
      t.hw.retryEnd = none ∧ t.retryMax = q.retryMax
    let discharged (t : Port) : Prop := F.PTH_STAT.DIS_ON.on t.pth.stat = false ∧ F.PTH_CTL.DIS_EN.on t.pth.ctl = false ∧
      F.PTH_EVT.DIS_DONE.on t.pth.evt = true ∧ t.strained 4 = false
    (∀ i : Nat,
      let r := ratingEff q
      (F.PTH_STAT.LIN.on q.pth.stat = true ∨ adcFailed s p = true ∨ q.hw.ride ≠ none →
        exec (.curveIntegratorSample p i) s = .next s) ∧
      (F.PTH_STAT.LIN.on q.pth.stat = false → adcFailed s p = false → q.hw.ride = none →
        (∀ (a : Nat × Nat) (l : List (Nat × Nat)), q.hw.curve = a :: l → 64 * i < a.1 * (10 * r) →
          MovesPort (.curveIntegratorSample p i) s p fun t => t = { q with
            hw.heat := max 0 (q.hw.heat - 16 / ((1000000 * q.hw.cool : Nat) : Rat)) }) ∧
        (∀ (a : Nat × Nat) (l : List (Nat × Nat)), q.hw.curve = l ++ [a] → (∀ x ∈ l, x.1 < a.1) →
          a.1 * (10 * r) ≤ 64 * i → MovesPort (.curveIntegratorSample p i) s p fun t =>
            t = { q with hw.heat := q.hw.heat + 16 / (a.2 : Rat) }))) ∧
    (let n := F.PTH_CCFG.NPTS.get q.cur.ccfg
     let c := writtenCurve q
     let valid : Prop := 2 ≤ n ∧ n ≤ 16 ∧ 64 ≤ (c.headD (0, 0)).1 ∧ (∀ x ∈ c, 100 ≤ x.2) ∧
       c.Pairwise fun a b => a.1 < b.1 ∧ b.2 ≤ a.2
     (frontWrites s p = false → exec (.curveCommit p) s = .next s) ∧
     (frontWrites s p = true → valid → MovesPort (.curveCommit p) s p fun t => rest t ∧ t.hw.curve = c ∧
       t.hw.cool = max 1 (F.PTH_CCFG.COOL.get q.cur.ccfg) ∧ F.PTH_CSTAT.ACTIVE.get t.cur.cstat = n ∧
       F.PTH_CSTAT.ERR.on t.cur.cstat = false) ∧
     (frontWrites s p = true → ¬valid → MovesPort (.curveCommit p) s p fun t => rest t ∧ t.hw = q.hw ∧
       t.cur = { q.cur with cstat := F.PTH_CSTAT.ERR.set q.cur.cstat })) ∧
    (q.disAwaited = false → exec (.disDone p) s = .next s) ∧
    (q.disAwaited = true → dieHeld s (dieOf p) = false →
      (¬Acts s p → MovesPort (.disDone p) s p fun t => discharged t ∧ Port.keeps (.disDone p) q t ∧
        (q.st = .tripped → q.pol.parkWait = false → q.pol.tripDetach = false →
          (q.retryCount < q.retryMax → t.st = .retryWait ∧
            t.hw.retryEnd = some (s.time + 200000 * 2 ^ q.retryCount)) ∧
          (q.retryMax ≤ q.retryCount → t.st = .tripped ∧ t.retryExh = true)) ∧
        (q.st = .fenced ∨ q.st = .parked → t.termsAre 0)) ∧
      (Acts s p → q.st = .bindingOff → q.pol.errRecovery = true →
        MovesPort (.disDone p) s p fun t => discharged t ∧ t.termsAre 0 ∧ t.slotRuns 25 = true ∧ t.tc = 0x0C) ∧
      (Acts s p → q.st = .bindingOff → q.pol.errRecovery = false → q.pol.kept = none →
        q.pol.cfgLater = none → q.pol.captLater = none → roleOf s p = 0 → (∀ n : Fin 8, q.strained n = false) →
        MovesPortAndLedger (.disDone p) s p fun t => discharged t ∧ t.st = .detached ∧ t.tc = 1 ∧ t.termsAre 1 ∧
          t.orient = 0 ∧ t.pd.tmrrun = 0)) ∧
    (F.PTH_STAT.DIS_ON.on q.pth.stat = false ∨ q.hw.rampDis = true → exec (.disTmo p) s = .next s) ∧
    (F.PTH_STAT.DIS_ON.on q.pth.stat = true → q.hw.rampDis = false → MovesPort (.disTmo p) s p fun t =>
      F.PTH_STAT.DIS_ON.on t.pth.stat = false ∧ F.PTH_CTL.DIS_EN.on t.pth.ctl = false ∧
      F.PTH_EVT.DIS_TMO.on t.pth.evt = true ∧ t.disAwaited = true ∧ t.st = q.st ∧ t.cc = q.cc ∧ t.pol = q.pol) ∧
    (q.hw.retryEnd = none → exec (.retryDue p) s = .next s) ∧
    (q.hw.retryEnd ≠ none →
      let due (t : Port) : Prop := t.hw.retryEnd = none ∧ F.PTH_EVT.RETRY_DUE.on t.pth.evt = true
      (¬Acts s p → MovesPort (.retryDue p) s p fun t => due t ∧ rest t ∧ t.retryIsDue = true ∧
        Port.keeps (.retryDue p) q t) ∧
      (Acts s p → F.CAD_STAT.PAUSED.on s.cad.regs.stat = true → MovesPort (.retryDue p) s p fun t =>
        due t ∧ rest t ∧ t.retryIsDue = true ∧ t.pol = q.pol) ∧
      (Acts s p → F.CAD_STAT.PAUSED.on s.cad.regs.stat = false → q.st = .retryWait →
        q.pol.parkWait = false → q.pol.tripDetach = false → q.strained 4 = false → q.cableSeen = false → q.orient ≠ 0 → unitsAt s 50 450 ≤ poolBal s → Moves (.retryDue p) s fun t =>
          due t.ports[p] ∧ t.ports[p].st = .castingOn ∧ t.ports[p].retryIsDue = false ∧
          t.ports[p].retryCount = (q.retryCount + 1) % 8 ∧ F.PTH_CTL.CEN_EN.on t.ports[p].pth.ctl = true ∧
          t.ports[p].gateOn = true ∧ t.ports[p].target = 250 ∧ t.ports[p].isSource = true ∧
          (∀ r : PortId, r ≠ p → t.ports[r] = s.ports[r] ∧ t.cadp[r] = s.cadp[r]))) ∧
    (q.hw.absSince = none → exec (.retryClr p) s = .next s) ∧
    (q.hw.absSince ≠ none → MovesPort (.retryClr p) s p fun t => cleared t ∧ rest t ∧
      F.PTH_EVT.RETRY_CLR.on t.pth.evt = true ∧ t.pol = q.pol) ∧
    (frontWrites s p = false → exec (.pthRetryClrWrite p) s = .next s) ∧
    (frontWrites s p = true →
      (q.hw.retryEnd = none → q.retryExh = false → MovesPort (.pthRetryClrWrite p) s p fun t => cleared t ∧ rest t ∧
        t.pol = q.pol) ∧
      (q.hw.retryEnd ≠ none ∨ q.retryExh = true →
        (¬Acts s p → MovesPort (.pthRetryClrWrite p) s p fun t => cleared t ∧ rest t ∧
          Port.keeps (.pthRetryClrWrite p) q t) ∧
        (Acts s p → q.st ≠ .attachWait → MovesPort (.pthRetryClrWrite p) s p fun t => cleared t ∧ rest t ∧
          t.pol = q.pol)))

/-- 04 R84 to R86, R88, R93, R94, R98, R99, R121: a frame on a context that is off, or on a port with no orientation, is
dropped; one with a bad CRC is counted; in BIST Test Data mode a message on SOP is acknowledged and counted; a repeated
MessageID is acknowledged, counted and not stored; any other message takes a free buffer with its descriptor and is
acknowledged, or sets RX_FULL, and its step of the policy waits while the engine does not act. A Soft Reset resets its
context; a Hard Reset resets all three and frees the buffers; a Cable Reset does nothing. -/
def Obligations.ReceptionStoresMessages : Prop :=
  ∀ (p : PortId) (s : State),
    let q := s.ports[p]
    let power (t : Port) : Prop := t.core = q.core ∧ t.pth = q.pth ∧ t.cc = q.cc ∧ t.cur = q.cur
    let acked (c : Fin 3) (m : List Byte) (t : Port) : Prop := t.phw.goodCrc = some (c, goodCrcFor q c (msgId m))
    let bist (c : Fin 3) : Prop := c = 0 ∧ q.phw.bistData = true
    let epr : Prop := F.PD_PHYCFG.EPR.on q.pd.phycfg = true
    let counted (c : Fin 3) (m : List Byte) (t : Port) : Prop := power t ∧ t.pd.bistcnt = q.pd.bistcnt + 1 ∧
      t.pd.rxdesc = q.pd.rxdesc ∧ t.ctx = q.ctx ∧ t.pol = q.pol ∧ acked c m t
    exec (.cableResetReceived p) s = .next s ∧
    (∀ (c : Fin 3) (m : List Byte),
      let i := Instr.pdMessageReceived p c m true
      let on : Prop := q.ctxOn c = true ∧ q.orient ≠ 0
      let soft : Prop := msgExt m = false ∧ msgNobj m = 0 ∧ msgType m = 13
      let own : Prop := c = 0 ∧ isKeepalive m = true ∧ autoAnswers s p = true
      (∀ ok : Bool, q.orient = 0 ∨ q.rxEnabled c = false → exec (.pdMessageReceived p c m ok) s = .next s) ∧
      (q.orient ≠ 0 → q.rxEnabled c = true →
        MovesPort (.pdMessageReceived p c m false) s p fun t => power t ∧ t.pd = q.pd ∧ t.phw = q.phw ∧ t.pol = q.pol ∧
          F.CTX_RXCNT.CRC_ERR.get t.ctx[c].rxcnt = min 65535 (F.CTX_RXCNT.CRC_ERR.get q.ctx[c].rxcnt + 1) ∧
          F.CTX_RXCNT.DUP.get t.ctx[c].rxcnt = F.CTX_RXCNT.DUP.get q.ctx[c].rxcnt ∧ t.ctx[c].id = q.ctx[c].id) ∧
      (q.orient ≠ 0 → q.ctxOn c = false → exec i s = .next s) ∧
      (on → bist c → MovesPort i s p fun t => counted c m t) ∧
      (on → ¬soft → ¬bist c →
        (q.heardId c (msgId m) → MovesPort i s p fun t => power t ∧ t.pd.rxdesc = q.pd.rxdesc ∧ acked c m t ∧
          F.CTX_RXCNT.DUP.get t.ctx[c].rxcnt = min 65535 (F.CTX_RXCNT.DUP.get q.ctx[c].rxcnt + 1) ∧
          t.ctx[c].id = q.ctx[c].id ∧ t.ctx[c].txstat = q.ctx[c].txstat ∧ t.pol = q.pol) ∧
        (¬q.heardId c (msgId m) → own → MovesPort i s p fun t => power t ∧ t.pd.rxdesc = q.pd.rxdesc ∧ acked c m t ∧
          t.heardId c (msgId m % 8) ∧ F.PD_EVT.KA_AUTO.on t.pd.evt = true ∧ t.slotRuns 20 = true ∧ t.pol = q.pol ∧
          t.phw.hwq = q.phw.hwq ++ [{ ctx := 0, msg := keepaliveAck q, tries := 0, wire := false }]) ∧
        (¬q.heardId c (msgId m) → ¬own → q.rxFull → q.holdsPhy c = false → MovesPort i s p fun t => power t ∧
          t.pd.rxdesc = q.pd.rxdesc ∧ F.PD_EVT.RX_FULL.on t.pd.evt = true ∧ t.phw.goodCrc = q.phw.goodCrc ∧
          F.CTX_ID.RX_ID.get t.ctx[c].id = F.CTX_ID.RX_ID.get q.ctx[c].id ∧ t.pol = q.pol) ∧
        (¬q.heardId c (msgId m) → ¬own → q.rxRoom → ¬Acts s p → MovesPort i s p fun t => power t ∧ Port.stores c m q t ∧
          t.heardId c (msgId m % 8) ∧ acked c m t ∧ Port.keeps i q t ∧
          F.CTX_ID.TX_ID.get t.ctx[c].id = F.CTX_ID.TX_ID.get q.ctx[c].id ∧
          (q.holdsPhy c = true → q.phw.onWire[c] = false → F.CTX_XFER.TX_ACT.on q.ctx[c].xfer = false → t.ended c 5) ∧
          (c = 0 → epr → t.slotRuns 20 = true)) ∧
        (¬q.heardId c (msgId m) → (∀ k : Fin 4, q.pd.rxdesc[k] = 0) → q.phw.reasm = none → Acts s p →
          q.idle → q.pol.txNow[c] = none → noWaits s p → F.PRT_STATE.NOPD.on q.core.state = false → c = 0 →
          q.isSource = false → msgExt m = false → msgNobj m = 0 → msgType m = 5 → MovesPort i s p fun t => power t ∧
            (∀ k : Fin 4, t.pd.rxdesc[k] = 0) ∧ t.heardId c (msgId m % 8) ∧ acked c m t ∧
            t.pol = { q.pol with spoke := true } ∧ t.slotRuns 24 = false))) ∧
    (∀ (c : Fin 3) (m : List Byte), msgExt m = false → msgNobj m = 0 → msgType m = 13 →
      ∀ x ∈ [(Instr.softResetReceived p c, bytes2 13), (.pdMessageReceived p c m true, m)],
      (q.ctxOn c = false ∨ q.orient = 0 → exec x.1 s = .next s) ∧
      (q.ctxOn c = true → q.orient ≠ 0 →
        (bist c → MovesPort x.1 s p fun t => counted c x.2 t) ∧
        (¬bist c → q.rxRoom → ¬Acts s p → MovesPort x.1 s p fun t => power t ∧ Port.stores c x.2 q t ∧ t.idsReset c ∧
          acked c x.2 t ∧ Port.keeps (.softResetReceived p c) q t ∧ (c = 0 → epr → t.slotRuns 20 = true) ∧
          (q.holdsPhy c = true →
            t.ended c (if q.phw.onWire[c] || F.CTX_XFER.TX_ACT.on q.ctx[c].xfer then 6 else 5))) ∧
        (¬bist c → Acts s p → c = 0 → q.quiet 0 → noWaits s p → F.PRT_STATE.NOPD.on q.core.state = false →
          q.pol.accepted = false → q.isSource = false → q.phw.ams = false → q.phw.reasm = none →
          (∀ k : Fin 4, q.pd.rxdesc[k] = 0) →
          MovesPort x.1 s p fun t => power t ∧ t.idsReset 0 ∧ acked c x.2 t ∧
            (∀ k : Fin 4, t.pd.rxdesc[k] = 0) ∧ Port.sends 0 (ctrlMsg q 0 3) .reply t))) ∧
    (q.orient = 0 ∨ q.rxEnabled 0 = false → exec (.hardResetReceived p) s = .next s) ∧
    (q.orient ≠ 0 → q.rxEnabled 0 = true →
      let hardware (t : Port) : Prop := F.PD_SIGSTAT.HR_RCVD.on t.pd.sigstat = true ∧
        F.PD_EVT.HR_RCVD.on t.pd.evt = true ∧ (∀ c : Fin 3, t.idsReset c) ∧ (∀ k : Fin 4, t.pd.rxdesc[k] = 0) ∧
        t.phw.hrWait = false ∧ t.phw.reasm = none ∧ t.slotRuns 4 = false ∧ t.phw.hwq = [] ∧ t.phw.bistData = false ∧
        t.phw.bistCarrier = false ∧ t.phw.ams = false
      (¬Acts s p → MovesPort (.hardResetReceived p) s p fun t => t.core = q.core ∧ t.pth = q.pth ∧ t.cur = q.cur ∧
        (q.phw.ams = false → t.cc = q.cc) ∧ hardware t ∧ Port.keeps (.hardResetReceived p) q t) ∧
      (Acts s p → noWaits s p → q.attached = true → q.isSource = true → q.pol.swap = none →
        Moves (.hardResetReceived p) s fun t => hardware t.ports[p] ∧ t.ports[p].pol.contract = none ∧
          t.ports[p].st = .castingOn ∧ t.ports[p].pol.hr = .psHardReset ∧ t.ports[p].slotRuns 9 = true ∧
          t.ports[p].pol.txq = [] ∧ F.PD_PHYCFG.EPR.on t.ports[p].pd.phycfg = false ∧
          ∀ r : PortId, r ≠ p → t.ports[r] = s.ports[r])) ∧
    (let safe5 : Prop := q.atTarget = true ∧ q.target = 250 ∧ q.hears 0 = true
     (¬safe5 → exec (.bistCarrierMode p) s = .next s ∧ exec (.bistTestData p) s = .next s) ∧
     (safe5 → MovesPort (.bistCarrierMode p) s p (fun t => t.phw.bistCarrier = true ∧ t.slotRuns 5 = true ∧
         t.pol = q.pol ∧ t.ctx = q.ctx) ∧
       MovesPort (.bistTestData p) s p fun t => t = { q with phw.bistData := true })) ∧
    (∀ v : Word,
      (hwUp s = false → exec (.pdRxrelWrite p v) s = .next s) ∧
      (hwUp s = true → MovesPort (.pdRxrelWrite p v) s p fun t => power t ∧ t.ctx = q.ctx ∧ t.pol = q.pol ∧
        (∀ k : Fin 4, t.pd.rxdesc[k] = if bitOf v k.val then 0 else q.pd.rxdesc[k]) ∧
        F.PD_RXHEAD.PEND.get t.pd.rxhead =
          ((List.finRange 4).filter fun k => F.PD_RXDESC.VALID.on t.pd.rxdesc[k]).length))

/-- 04 R95 to R97: chunk 0 of a long message opens its reassembly in a free buffer, asks for the next chunk and starts the
wait for it; the chunk expected next extends it, and the last one stores the message for the policy; the wait's end discards
it. A partner's request for the next chunk readies it; without that request the transmission ends with RESULT 7. -/
def Obligations.ChunksAreReassembled : Prop :=
  ∀ (p : PortId) (c : Fin 3) (s : State),
    let q := s.ports[p]
    let off : Prop := q.ctxOn c = false ∨ q.orient = 0
    let on : Prop := q.hears c = true
    let asks (m : List Byte) (n : Nat) (t : Port) : Prop :=
      t.phw.hwq = q.phw.hwq ++ [{ ctx := c, msg := chunkRequest q c (msgType m) n, tries := 0, wire := false }]
    (∀ m : List Byte,
      let i := Instr.chunkReceived p c m
      let acked (t : Port) : Prop := t.phw.goodCrc = some (c, goodCrcFor q c (msgId m))
      (off → exec i s = .next s) ∧
      (¬off → ¬on → MovesPort i s p fun t => acked t ∧ t.pd.bistcnt = q.pd.bistcnt + 1 ∧ t.pd.rxdesc = q.pd.rxdesc ∧
        t.phw.reasm = q.phw.reasm ∧ t.ctx = q.ctx ∧ t.pol = q.pol) ∧
      (on → q.heardId c (msgId m) → MovesPort i s p fun t => t.pd.rxdesc = q.pd.rxdesc ∧ t.phw.reasm = q.phw.reasm ∧
        acked t ∧ t.phw.hwq = q.phw.hwq ∧
        F.CTX_RXCNT.DUP.get t.ctx[c].rxcnt = min 65535 (F.CTX_RXCNT.DUP.get q.ctx[c].rxcnt + 1)) ∧
      (on → ¬q.heardId c (msgId m) → extChunk m = 0 → q.rxRoom →
        (26 < extSize m → extSize m ≤ 260 → q.holdsPhy c = false → MovesPort i s p fun t => t.slotRuns 3 = true ∧
          F.CTX_XFER.RX_ACT.on t.ctx[c].xfer = true ∧ F.CTX_XFER.RX_CHUNK.get t.ctx[c].xfer = 0 ∧
          t.heardId c (msgId m % 8) ∧ acked t ∧ asks m 1 t ∧ t.pd.rxdesc = q.pd.rxdesc ∧ t.pol = q.pol ∧
          ∃ k : Fin 4, F.PD_RXDESC.VALID.on q.pd.rxdesc[k] = false ∧
            t.phw.reasm = some { ctx := c, buf := k, size := extSize m, next := 1 } ∧
            t.phw.rxbuf[k].take (m.take 30).length = m.take 30) ∧
        (extSize m ≤ 26 → ¬Acts s p → MovesPort i s p fun t =>
          Port.stores c (m.take (4 + extSize m)) q t ∧ t.phw.reasm = none ∧ t.heardId c (msgId m % 8) ∧ acked t ∧
          Port.keeps (.pdMessageReceived p c (m.take (4 + extSize m)) true) q t) ∧
        (260 < extSize m → q.holdsPhy c = false → MovesPort i s p fun t => t.phw.reasm = none ∧ acked t ∧
          t.pd.rxdesc = q.pd.rxdesc ∧ t.phw.hwq = q.phw.hwq ∧ t.pol = q.pol)) ∧
      (∀ r : Reasm, on → ¬q.heardId c (msgId m) → 0 < extChunk m → q.phw.reasm = some r → r.ctx = c →
        r.next = extChunk m →
        let left := r.size - 26 * r.next
        let all := q.phw.rxbuf[r.buf].take (4 + 26 * r.next) ++ (m.drop 4).take (min 26 left)
        (26 < left → MovesPort i s p fun t => t.phw.reasm = some { r with next := r.next + 1 } ∧
          t.phw.rxbuf[r.buf].take all.length = all ∧ t.slotRuns 3 = true ∧ t.heardId c (msgId m % 8) ∧ acked t ∧
          asks all (r.next + 1) t ∧ t.pd.rxdesc = q.pd.rxdesc ∧ t.pol = q.pol) ∧
        (left ≤ 26 → ¬Acts s p → MovesPort i s p fun t => t.phw.reasm = none ∧ t.slotRuns 3 = false ∧
          F.PD_RXDESC.VALID.on t.pd.rxdesc[r.buf] = true ∧ F.PD_RXDESC.LEN.get t.pd.rxdesc[r.buf] = all.length % 512 ∧
          t.phw.rxbuf[r.buf].take all.length = all ∧ F.CTX_XFER.RX_ACT.on t.ctx[c].xfer = false ∧ acked t ∧
          F.PD_EVT.RX.on t.pd.evt = true ∧ Port.keeps (.pdMessageReceived p c all true) q t))) ∧
    (∀ r : Reasm, q.slotRuns 3 = true → q.phw.reasm = some r → MovesPort (.tchunkSenderResponseExpiry p) s p fun t =>
      t.phw.reasm = none ∧ t.slotRuns 3 = false ∧ F.CTX_XFER.RX_ACT.on t.ctx[r.ctx].xfer = false ∧
      t.pd.rxdesc = q.pd.rxdesc ∧ t.pol = q.pol) ∧
    (q.slotRuns 3 = false → exec (.tchunkSenderResponseExpiry p) s = .next s) ∧
    (∀ n : Nat,
      let asked : Prop := q.holdsPhy c = true ∧ F.CTX_XFER.TX_ACT.on q.ctx[c].xfer = true ∧ q.phw.onWire[c] = false ∧
        n = F.CTX_XFER.TX_CHUNK.get q.ctx[c].xfer + 1
      (asked → n < 16 → MovesPort (.chunkRequestReceived p c n) s p fun t => t.phw.txReady[c] = true ∧
        F.CTX_XFER.TX_CHUNK.get t.ctx[c].xfer = n ∧ F.CTX_TXSTAT.TRIES.get t.ctx[c].txstat = 0 ∧
        t.slotRuns 2 = false ∧ t.result c = q.result c ∧ t.pol = q.pol) ∧
      (¬asked → exec (.chunkRequestReceived p c n) s = .next s)) ∧
    (let i := Instr.tchunkSenderRequestExpiry p c
     (q.slotRuns 2 = false ∨ q.holdsPhy c = false → exec i s = .next s) ∧
     (q.slotRuns 2 = true → q.holdsPhy c = true →
       (¬Acts s p → MovesPort i s p fun t => t.ended c 7 ∧ t.slotRuns 2 = false ∧ Port.keeps i q t) ∧
       (Acts s p → q.pol.txNow[c] = none → q.idle → noWaits s p → MovesPort i s p fun t => t.ended c 7 ∧
         t.slotRuns 2 = false ∧ t.pol = q.pol)))

/-- 04 R85, R90 to R93, R97 to R100, R111, R121: SEND is refused with OVR while the PHY is held or the context is off; else
the transmission waits for collision avoidance, or is ready; an idle line takes an ordered set before a message of the
hardware, and that before a frame; a GoodCRC with the matching MessageID ends the transmission with RESULT 3, the last
unanswered retry with RESULT 4, and TX_ID advances; the engine sees the end. The signals wait for the line; what does not go
out in time is given up. -/
def Obligations.TransmissionEndsWithAResult : Prop :=
  ∀ (p : PortId) (s : State),
    let q := s.ports[p]
    let unseen (c : Fin 3) : Prop := Acts s p ∧ q.pol.txNow[c] = none ∧ q.idle ∧ noWaits s p
    let power (t : Port) : Prop := t.core = q.core ∧ t.pth = q.pth ∧ t.cur = q.cur
    let txId (t : Port) (c : Fin 3) : Nat := F.CTX_ID.TX_ID.get t.ctx[c].id
    let tries (t : Port) (c : Fin 3) : Nat := F.CTX_TXSTAT.TRIES.get t.ctx[c].txstat
    let own (c : Fin 3) : Prop := (hwOnWire c q).isSome = true
    let keptOr (c : Fin 3) (i : Instr) (R : Port → Prop) : Prop :=
      (¬Acts s p → MovesPort i s p fun t => power t ∧ R t ∧ Port.keeps i q t) ∧
      (unseen c → MovesPort i s p fun t => power t ∧ R t ∧ t.pol = q.pol)
    (∀ (c : Fin 3) (buf : Fin 2) (ams : Bool),
      let i := Instr.ctxTxcmdSend p c buf ams
      let refused : Prop := q.phyHeld = true ∨ q.ctxOn c = false ∨ q.orient = 0
      let waits := ams && (q.isSource || !F.PD_PHYSTAT.SINKTXOK.on q.pd.phystat)
      (hwUp s = false → exec i s = .next s) ∧
      (hwUp s = true → refused → MovesPort i s p fun t => power t ∧ t.pd = q.pd ∧ t.phw = q.phw ∧ t.pol = q.pol ∧
        F.CTX_TXSTAT.OVR.on t.ctx[c].txstat = true ∧ t.result c = q.result c) ∧
      (hwUp s = true → ¬refused → MovesPort i s p fun t => power t ∧ t.pol = q.pol ∧ t.phw.txSel[c] = buf ∧
        t.phw.onWire[c] = false ∧ tries t c = 0 ∧ txId t c = txId q c ∧ t.result c = (if waits then 1 else 2) ∧
        t.phw.txReady[c] = !waits ∧ (waits = false → t.pd = q.pd ∧ t.cc = q.cc ∧ t.phw.ams = q.phw.ams) ∧
        (ams = true → q.isSource = true → t.slotRuns 1 = true ∧ t.phw.ams = true ∧ F.CC_CTL.RP_LVL.get t.cc.ctl = 1) ∧
        (waits = true → q.isSource = false → t.slotRuns 6 = true ∧ t.cc = q.cc))) ∧
    (q.orient = 0 ∨ q.phw.bistCarrier = true → exec (.lineIdleTransmit p) s = .next s) ∧
    (q.orient ≠ 0 → q.phw.bistCarrier = false →
      let sets : Prop := q.phw.hrWait = true ∨ q.phw.crWait = true
      (q.phw.hrWait = true → ¬Acts s p → MovesPort (.lineIdleTransmit p) s p fun t => power t ∧ t.phw.hrWait = false ∧
        F.PD_SIGSTAT.HR_SENT.on t.pd.sigstat = true ∧ F.PD_EVT.HR_SENT.on t.pd.evt = true ∧
        (∀ c : Fin 3, t.idsReset c) ∧ t.slotRuns 4 = false ∧ Port.keeps (.pdSignalHardReset p) q t) ∧
      (q.phw.hrWait = false → q.phw.crWait = true → ¬Acts s p → MovesPort (.lineIdleTransmit p) s p fun t => power t ∧
        t.phw.crWait = false ∧ F.PD_SIGSTAT.CR_SENT.on t.pd.sigstat = true ∧ F.PD_EVT.CR_SENT.on t.pd.evt = true ∧
        t.idsReset 1 ∧ t.idsReset 2 ∧ t.ctx[0] = q.ctx[0] ∧ Port.keeps (.pdSignalCableReset p) q t) ∧
      (∀ m : HwMsg, ¬sets → q.slotRuns 0 = false → q.phw.hwq.head? = some m →
        MovesPort (.lineIdleTransmit p) s p fun t => power t ∧ t.pol = q.pol ∧ t.ctx = q.ctx ∧
          t.phw.hwq = { m with wire := true } :: q.phw.hwq.drop 1 ∧ t.slotRuns 0 = true ∧
          t.phw.tmrStart[0] = s.time + frameTime m.msg.length) ∧
      (∀ c : Fin 3, ¬sets → q.slotRuns 0 = false → q.phw.hwq = [] → q.holdsPhy c = true → q.phw.txReady[c] = true →
        (∀ d : Fin 3, d ≠ c → q.holdsPhy d = false) →
        MovesPort (.lineIdleTransmit p) s p fun t => power t ∧ t.pol = q.pol ∧ t.phw.onWire[c] = true ∧
          t.phw.txReady[c] = false ∧ t.result c = 2 ∧ t.slotRuns 0 = true ∧
          t.phw.tmrStart[0] = s.time + frameTime (frameLen q c) ∧
          F.CTX_XFER.TX_ACT.on t.ctx[c].xfer = txChunked q c ∧ txId t c = txId q c) ∧
      (¬sets → q.slotRuns 0 = true ∨ (q.phw.hwq = [] ∧ ∀ c : Fin 3, q.holdsPhy c = false ∨ q.phw.txReady[c] = false) →
        exec (.lineIdleTransmit p) s = .next s)) ∧
    (∀ (c : Fin 3) (n : Nat),
      let answered : Prop := q.phw.onWire[c] = true ∧ txId q c = n ∧ ¬own c
      (txId q c ≠ n ∨ (¬own c ∧ q.phw.onWire[c] = false) → exec (.goodcrcReceived p c n) s = .next s) ∧
      (own c → txId q c = n → MovesPort (.goodcrcReceived p c n) s p fun t => power t ∧ t.pol = q.pol ∧
        t.phw.hwq = q.phw.hwq.drop 1 ∧ txId t c = (txId q c + 1) % 8 ∧ t.slotRuns 0 = false ∧ t.result c = q.result c) ∧
      (answered → q.holdsPhy c = true → moreChunks q c = false → keptOr c (.goodcrcReceived p c n) fun t => t.ended c 3 ∧
        txId t c = (txId q c + 1) % 8 ∧ t.slotRuns 0 = false) ∧
      (answered → q.holdsPhy c = true → moreChunks q c = true → MovesPort (.goodcrcReceived p c n) s p fun t => power t ∧
        t.result c = q.result c ∧ t.phw.onWire[c] = false ∧ txId t c = (txId q c + 1) % 8 ∧ t.slotRuns 0 = false ∧
        t.slotRuns 2 = true ∧ t.pol = q.pol)) ∧
    (∀ c : Fin 3,
      let i := Instr.crcReceiveTimerExpiry p c
      let most := if F.CTX_CTL.REV.get q.ctx[c].ctl = 1 then 3 else 2
      (q.slotRuns 0 = false ∨ (¬own c ∧ q.phw.onWire[c] = false) → exec i s = .next s) ∧
      (∀ m : HwMsg, q.slotRuns 0 = true → own c → q.phw.hwq.head? = some m → MovesPort i s p fun t =>
        power t ∧ t.pol = q.pol ∧ t.slotRuns 0 = false ∧ t.result c = q.result c ∧
        (m.tries < most → t.phw.hwq = { m with tries := m.tries + 1, wire := false } :: q.phw.hwq.drop 1 ∧ t.ctx = q.ctx) ∧
        (most ≤ m.tries → t.phw.hwq = q.phw.hwq.drop 1 ∧ txId t c = (txId q c + 1) % 8)) ∧
      (q.slotRuns 0 = true → ¬own c → q.phw.onWire[c] = true → q.holdsPhy c = true →
        (tries q c < most → MovesPort i s p fun t => power t ∧ tries t c = tries q c + 1 ∧ t.result c = q.result c ∧
          t.phw.onWire[c] = true ∧ t.phw.txReady[c] = true ∧ t.slotRuns 0 = false ∧ txId t c = txId q c ∧ t.pol = q.pol) ∧
        (most ≤ tries q c → keptOr c i fun t => t.ended c 4 ∧ txId t c = (txId q c + 1) % 8))) ∧
    (q.slotRuns 1 = false → exec (.tsinktxExpiry p) s = .next s) ∧
    (q.slotRuns 1 = true → MovesPort (.tsinktxExpiry p) s p fun t => power t ∧ t.slotRuns 1 = false ∧ t.pol = q.pol ∧
      ∀ c : Fin 3, if q.result c = 1 then t.result c = 2 ∧ t.phw.txReady[c] = true
        else t.ctx[c] = q.ctx[c] ∧ t.phw.txReady[c] = q.phw.txReady[c]) ∧
    (hwUp s = false → exec (.pdSignalHardReset p) s = .next s ∧ exec (.pdSignalCableReset p) s = .next s ∧
      exec (.pdSignalBistCm p) s = .next s ∧ exec (.amsEnd p) s = .next s ∧ ∀ v : Word,
        exec (.pdTmrstartWrite p v) s = .next s ∧ exec (.pdTmrstopWrite p v) s = .next s) ∧
    (hwUp s = true →
      (MovesPort (.pdSignalHardReset p) s p fun t => power t ∧ t.phw.hrWait = true ∧ t.slotRuns 4 = true ∧
        t.pol = q.pol ∧ t.ctx = q.ctx) ∧
      (q.vconnOn = true → q.isDfp = true → MovesPort (.pdSignalCableReset p) s p fun t =>
        t = { q with phw.crWait := true }) ∧
      (q.vconnOn = false ∨ q.isDfp = false → exec (.pdSignalCableReset p) s = .next s) ∧
      (q.pol.testUse = true → q.orient ≠ 0 → MovesPort (.pdSignalBistCm p) s p fun t => power t ∧ t.phw.bistCarrier = true ∧
        t.slotRuns 5 = true ∧ t.pol = q.pol) ∧
      (q.pol.testUse = false ∨ q.orient = 0 → exec (.pdSignalBistCm p) s = .next s) ∧
      (q.isSource = true → MovesPort (.amsEnd p) s p fun t => power t ∧ F.CC_CTL.RP_LVL.get t.cc.ctl = 2 ∧
        t.phw.ams = false ∧ t.pol = q.pol ∧ t.ctx = q.ctx) ∧
      (q.isSource = false → MovesPort (.amsEnd p) s p fun t => t = { q with phw.ams := false }) ∧
      ∀ v : Word,
        MovesPort (.pdTmrstartWrite p v) s p (fun t => power t ∧ t.pol = q.pol ∧ t.ctx = q.ctx ∧ ∀ k : Fin 26,
          t.slotRuns k = (q.slotRuns k || (decide (6 ≤ k.val) && bitOf v k.val)) ∧
          t.phw.tmrStart[k] = if 6 ≤ k.val ∧ bitOf v k.val = true then s.time else q.phw.tmrStart[k]) ∧
        MovesPort (.pdTmrstopWrite p v) s p fun t => power t ∧ t.pol = q.pol ∧ t.ctx = q.ctx ∧ t.phw = q.phw ∧
          ∀ k : Fin 26, t.slotRuns k = (q.slotRuns k && !(decide (6 ≤ k.val) && bitOf v k.val))) ∧
    (q.phw.hrWait = false ∨ q.slotRuns 4 = false → exec (.thardResetCompleteExpiry p) s = .next s) ∧
    (q.phw.hrWait = true → q.slotRuns 4 = true →
      let givenUp (t : Port) : Prop := t.phw.hrWait = false ∧ F.PD_SIGSTAT.HR_FAIL.on t.pd.sigstat = true ∧
        t.slotRuns 4 = false
      (¬Acts s p → MovesPort (.thardResetCompleteExpiry p) s p fun t => power t ∧ givenUp t ∧ t.ctx = q.ctx ∧
        Port.keeps (.thardResetCompleteExpiry p) q t) ∧
      (Acts s p → noWaits s p → q.attached = true → q.isSource = true → q.pol.swap = none →
        Moves (.thardResetCompleteExpiry p) s fun t => givenUp t.ports[p] ∧ t.ports[p].pol.hr = .psHardReset ∧
          t.ports[p].slotRuns 9 = true ∧ t.ports[p].slotRuns 24 = true ∧ t.ports[p].pol.contract = none ∧
          ∀ r : PortId, r ≠ p → t.ports[r] = s.ports[r])) ∧
    (q.slotRuns 5 = false → exec (.tbistContModeExpiry p) s = .next s) ∧
    (q.slotRuns 5 = true → MovesPort (.tbistContModeExpiry p) s p fun t => power t ∧ t.phw.bistCarrier = false ∧
      F.PD_SIGSTAT.BIST_END.on t.pd.sigstat = true ∧ F.PD_EVT.BIST_END.on t.pd.evt = true ∧ t.slotRuns 5 = false ∧
      t.pol = q.pol) ∧
    (let epr : Prop := F.PD_PHYCFG.EPR.on q.pd.phycfg = true
     let ka : Prop := epr ∧ F.CTX_CTL.KA_ACK.on q.ctx[0].ctl = true ∧ portServed s p = false
     let restarted (t : Port) : Prop := t.slotRuns 20 = true ∧ t.phw.tmrStart[20] = s.time
     (q.hears 0 = false → exec (.eprKeepalive p) s = .next s) ∧
     (q.hears 0 = true →
       (ka → MovesPort (.eprKeepalive p) s p fun t => power t ∧ F.PD_EVT.KA_AUTO.on t.pd.evt = true ∧ restarted t ∧
         t.phw.hwq = q.phw.hwq ++ [{ ctx := 0, msg := extMsg q 0 16 [4, 0], tries := 0, wire := false }] ∧ t.pol = q.pol) ∧
       (¬ka → ¬Acts s p → MovesPort (.eprKeepalive p) s p fun t => power t ∧ t.pd.evt = q.pd.evt ∧
         Port.keeps (.eprKeepalive p) q t ∧ (epr → restarted t)) ∧
       (Acts s p → q.quiet 0 → F.PRT_STATE.NOPD.on q.core.state = false → noWaits s p →
         MovesPort (.eprKeepalive p) s p fun t => power t ∧ (epr → restarted t) ∧
           Port.sends 0 (extMsg q 0 16 [4, 0]) .reply t)))

/-- 04 R85, R86, R93, R102 to R105, R108 to R117, R121, Table PDE-4, Table PDE-6, 09 Table CMD-11: what a port whose engine acts
and whose line is quiet answers to the partner's messages: a Request for an object that is not offered is rejected, one within
its object is submitted to the caddy; EPR mode is acknowledged with its verdict and left with a new offer, above 20 V with a
Hard Reset; swaps are accepted where R115 allows them, else rejected or not supported; an unexpected PS_RDY gets Soft_Reset;
the revision and the cable's data are kept; an Alert is posted. Where the engine does not act the step waits; a context that
is off, and SOP in BIST Test Data mode, takes no message. In EPR mode every message on SOP restarts the keep-alive timer. -/
def Obligations.PartnerMessagesAreAnswered : Prop :=
  ∀ (p : PortId) (s : State),
    let q := s.ports[p]
    let served : Prop := Acts s p ∧ noWaits s p ∧ F.PRT_STATE.NOPD.on q.core.state = false ∧ q.hears 0 = true
    let source : Prop := q.attached = true ∧ q.isSource = true
    let epr : Prop := F.PD_PHYCFG.EPR.on q.pd.phycfg = true
    let alive (c : Fin 3) : Port := if c = 0 ∧ epr then startSlot s.time 20 q else q
    let spoken (t : Port) : Prop := t.pol.spoke = true ∧ t.slotRuns 24 = false ∧ (epr → t.slotRuns 20 = true)
    let kept (t : Port) : Prop := t.pth = q.pth ∧ t.pol.contract = q.pol.contract ∧ t.st = q.st
    let refusal (c : Fin 3) := if revCode q.ctx[c] = 1 then 4 else 16
    (∀ (w v : Word) (n : Nat) (c : Fin 3) (l : List Word) (b : Bool) (o : Option Nat),
      ∀ x ∈ [(Instr.eprModeEnter p, (0 : Fin 3)), (.eprModeExit p, 0), (.prSwap p, 0), (.drSwap p, 0), (.vconnSwap p, 0),
        (.psRdyReceived p, 0), (.frSwapReceived p, 0), (.requestReceived p w n, 0), (.eprRequestReceived p w v, 0),
        (.vendorDefinedReceived p c l, c), (.cableDiscoverIdentityReply p n n b n, 1), (.getRevisionReply p o, 0),
        (.securityRequestReceived p c, c), (.alertReceived p w, 0)],
      (q.hears x.2 = false → exec x.1 s = .next s) ∧
      (q.hears x.2 = true → ¬Acts s p → MovesPort x.1 s p fun t =>
        t = { alive x.2 with pol := { q.pol with pend := q.pol.pend ++ [x.1] } })) ∧
    (∀ (rdo pdo : Word) (rev : Nat), served → q.idle → ¬source →
      MovesPort (.requestReceived p rdo rev) s p (fun t => t = alive 0) ∧
      MovesPort (.eprRequestReceived p rdo pdo) s p (fun t => t = alive 0) ∧
      MovesPort (.eprModeEnter p) s p (fun t => t = alive 0)) ∧
    (∀ (rdo : Word) (rev : Nat), served → source → q.quiet 0 → q.pol.accepted = false → rdoPos rdo < 16 →
      (∀ x ∈ q.pol.sent, x.1 ≠ rdoPos rdo) → MovesPort (.requestReceived p rdo rev) s p fun t => spoken t ∧ kept t ∧
        (∃ m, Port.sends 0 m (.reject false) t ∧ m.length = 2 ∧ msgType m = 4 ∧ msgNobj m = 0 ∧ msgExt m = false) ∧
        F.CTX_CTL.REV.get t.ctx[0].ctl = (if rev ≤ 1 then 1 else 2) ∧
        F.PD_REV.PARTNER.get t.pd.rev = (if rev ≤ 1 then 0x20 else F.PD_REV.PARTNER.get q.pd.rev)) ∧
    (∀ (rdo pdo : Word) (rev : Nat), served → source → q.quiet 0 → q.pol.accepted = false → q.pol.prearmed = false →
      q.pol.doneHeld = false → (q.pol.sent.find? fun x => x.1 == rdoPos rdo) = some (rdoPos rdo, pdo) →
      let k := contractOf rdo pdo
      let submits (i : Instr) : Prop := Moves i s fun t => spoken t.ports[p] ∧ kept t.ports[p] ∧
        t.ports[p].pol.next = some k ∧ t.ports[p].pol.reqWait = true ∧ t.ports[p].phyHeld = false ∧
        (q.pol.contract.map Contract.kind = some 1 → t.ports[p].slotRuns 23 = true) ∧
        (∃ r, t.cadp[p].req = some r ∧ r.volt = k.v100 ∧ r.pout = k.pout ∧ r.prearm = false) ∧
        (∀ r : PortId, r ≠ p → t.ports[r] = s.ports[r] ∧ t.cadp[r] = s.cadp[r])
      (1 < rev → withinObject k = true → submits (.requestReceived p rdo rev)) ∧
      (revCode q.ctx[0] = 2 → F.PD_PHYCFG.EPR.on q.pd.phycfg = true → withinObject k = true →
        submits (.eprRequestReceived p rdo pdo)) ∧
      (∀ other : Word, other ≠ pdo → MovesPort (.eprRequestReceived p rdo other) s p fun t => spoken t ∧ kept t ∧
        Port.sends 0 (ctrlMsg q 0 4) (.reject false) t)) ∧
    (served → source → q.quiet 0 → MovesPort (.eprModeEnter p) s p fun t => spoken t ∧ kept t ∧ t.slotRuns 22 = false ∧
      Port.sends 0 (eprModeMsg 2 0 q) (.eprAck (eprVerdict s p)) t) ∧
    (served → q.idle → ¬epr → exec (.eprModeExit p) s = .next s) ∧
    (served → q.quiet 0 → epr →
      let volt := (q.pol.contract.map Contract.volt).getD 0
      (volt ≤ 1000 → MovesPort (.eprModeExit p) s p fun t => t.pol.spoke = true ∧
        kept t ∧ F.PD_PHYCFG.EPR.on t.pd.phycfg = false ∧ t.slotRuns 20 = false ∧
        Port.sends 0 (dataMsg q 0 1 ((sprOffers s p).take 7)) .srcCaps t) ∧
      (1000 < volt → q.pol.hrCount < 2 → MovesPort (.eprModeExit p) s p fun t => spoken t ∧ kept t ∧
        t.phw.hrWait = true ∧ t.slotRuns 4 = true ∧ F.PD_PHYCFG.EPR.on t.pd.phycfg = true)) ∧
    (served → q.quiet 0 →
      let takes (i : Instr) (kind : Nat) : Prop := MovesPort i s p fun t => spoken t ∧ kept t ∧
        t.pol.swap = some { kind := kind, step := .asked, byDevice := false, wasSource := q.isSource } ∧
        Port.sends 0 (ctrlMsg q 0 3) (.swapAccept kind) t
      let answers (i : Instr) (type : Nat) : Prop := MovesPort i s p fun t => spoken t ∧ kept t ∧ t.pol.swap = none ∧
        Port.sends 0 (ctrlMsg q 0 type) .reply t
      (bidirectional s p = false → answers (.prSwap p) (refusal 0)) ∧
      (bidirectional s p = true → q.pol.prSwapOk = false → answers (.prSwap p) 4) ∧
      (bidirectional s p = true → q.pol.prSwapOk = true → q.isSource = true → takes (.prSwap p) 0) ∧
      (q.pol.modes = [] → q.pol.drSwapOk = true → takes (.drSwap p) 1) ∧
      (q.pol.modes = [] → q.pol.drSwapOk = false → answers (.drSwap p) 4) ∧
      (q.pol.modes ≠ [] → q.pol.hrCount < 2 → MovesPort (.drSwap p) s p fun t => spoken t ∧ kept t ∧
        t.phw.hrWait = true ∧ t.slotRuns 4 = true) ∧
      (q.vconnOn = true → takes (.vconnSwap p) 2) ∧
      (q.vconnOn = false → q.pol.vconnSwapOk = false → answers (.vconnSwap p) 4) ∧
      answers (.frSwapReceived p) 16 ∧
      (q.pol.accepted = false → q.phw.ams = false → MovesPort (.psRdyReceived p) s p fun t => spoken t ∧ kept t ∧
        t.idsReset 0 ∧ Port.sends 0 (ctrlMsg q 0 13) .softReset t)) ∧
    (∀ w : Swap, served → q.pol.swap = some w → w.step = .vconnOff → w.kind = 2 → q.pol.txq = [] →
      q.pol.contract = none → q.pol.discDue = false → Moves (.psRdyReceived p) s fun t => t.ports[p].vconnOn = false ∧
        t.ports[p].pol.swap = none ∧ t.ports[p].slotRuns 19 = false ∧ t.ports[p].ctxOn 1 = false ∧
        t.ports[p].ctxOn 2 = false ∧ ∀ r : PortId, r ≠ p → t.ports[r] = s.ports[r]) ∧
    (∀ c : Fin 3, Acts s p → noWaits s p → q.hears c = true → q.quiet c → MovesPort (.securityRequestReceived p c) s p fun t => kept t ∧
      Port.sends c (ctrlMsg q c (refusal c)) .reply t) ∧
    (∀ (curr volt rev : Nat) (b : Bool), Acts s p → noWaits s p → q.hears 1 = true → q.idle → rev < 256 →
      MovesPort (.cableDiscoverIdentityReply p curr volt b rev) s p fun t => kept t ∧
        t.pol = { q.pol with cable := some { curr := curr, volt := volt, epr := b, discovered := true } } ∧
        F.PD_REV.CABLE.get t.pd.rev = rev ∧ t.slotRuns 17 = false ∧ t.ctx[0] = q.ctx[0] ∧
        ∀ c : Fin 3, c ≠ 0 → F.CTX_CTL.REV.get t.ctx[c].ctl = if rev < 0x30 then 1 else 2) ∧
    (∀ rev : Option Nat, served → rev.getD 0x30 < 256 →
      (q.idle → MovesPort (.getRevisionReply p rev) s p fun t => spoken t ∧ kept t ∧
        F.PD_REV.PARTNER.get t.pd.rev = rev.getD 0x30 ∧ t.pol.await = none) ∧
      (q.pol.await = some .getRevision → q.pol.txq = [] → q.pol.contract = none → q.pol.discDue = false →
        MovesPort (.getRevisionReply p rev) s p fun t => spoken t ∧ F.PD_REV.PARTNER.get t.pd.rev = rev.getD 0x30 ∧
          t.pol.await = none ∧ t.slotRuns 6 = false)) ∧
    (∀ ado : Word, served → q.idle → srcEnabled s (12 * p.val + 6) = true → q.pol.held = [] →
      q.pol.queue.length < 32 → MovesPort (.alertReceived p ado) s p fun t => spoken t ∧ kept t ∧
        t.pol.queue = q.pol.queue ++ [EvtEntry.mk s.time (12 * p.val + 6) q.pol.seq ado])

/-- 04 R118, R119, Table PDE-8: Discover Identity and Discover SVIDs on the PD SID are answered from the configured objects, with
NAK when there are none; any other structured command goes to the host and occupies its SOP*, which answers BUSY until the
host has answered; an unstructured one goes to the host and awaits nothing. -/
def Obligations.VendorMessagesAreRouted : Prop :=
  ∀ (p : PortId) (c : Fin 3) (s : State) (o : Word) (l : List Word),
    let q := s.ports[p]
    let i := Instr.vendorDefinedReceived p c (o :: l)
    let structured : Prop := o.getLsbD 15 = true
    let command := o.toNat % 32
    let svid := o.toNat / 65536
    let calm : Prop := Acts s p ∧ noWaits s p ∧ q.quiet c ∧ q.hears c = true ∧ F.PRT_STATE.NOPD.on q.core.state = false
    let answer (type : Nat) : Word := (o &&& 0xFFFFFF3F) ||| BitVec.ofNat 32 (64 * type)
    calm → o.toNat / 64 % 4 = 0 →
    (structured → svid = 0xFF00 → command ≠ 6 →
      let objs := if command = 1 then s.kept.identity else if command = 2 then s.kept.svids else []
      (objs ≠ [] → MovesPort i s p fun t => Port.sends c (dataMsg q c 15 (answer 1 :: objs)) .reply t ∧
        t.pol.vdmNum = q.pol.vdmNum) ∧
      (objs = [] → MovesPort i s p fun t => Port.sends c (dataMsg q c 15 [answer 2]) .reply t ∧
        t.pol.vdmNum = q.pol.vdmNum)) ∧
    (structured → svid ≠ 0xFF00 → command ≠ 6 →
      (q.pol.hostVdm[c] ≠ none → MovesPort i s p fun t => Port.sends c (dataMsg q c 15 [answer 3]) .reply t ∧
        t.pol.hostVdm = q.pol.hostVdm) ∧
      (q.pol.hostVdm[c] = none → MovesPort i s p fun t => t.pol.hostVdm = q.pol.hostVdm.set c (some q.pol.vdmNum) ∧
        t.slotRuns 16 = true ∧ t.pol.vdmNum = (q.pol.vdmNum + 1) % 256 ∧ t.phyHeld = false ∧
        t.pol.vdms.head? = some { num := q.pol.vdmNum, ctx := c, objs := o :: l })) ∧
    (¬structured ∨ command = 6 → MovesPort i s p fun t => t.pol.hostVdm = q.pol.hostVdm ∧
      t.pol.vdmNum = (q.pol.vdmNum + 1) % 256 ∧ t.phyHeld = false ∧
      t.pol.vdms = ({ num := q.pol.vdmNum, ctx := c, objs := o :: l } :: q.pol.vdms).take 8 ∧
      (srcEnabled s (12 * p.val + 5) = true → q.pol.held = [] → q.pol.queue.length < 32 → q.pol.vdmNum < 256 →
        ∃ d : Word, t.pol.queue = q.pol.queue ++ [EvtEntry.mk s.time (12 * p.val + 5) q.pol.seq d] ∧
          d.toNat % 4 = c.val ∧ d.toNat / 256 % 256 = q.pol.vdmNum ∧ d.toNat / 65536 = svid))

/-- 04 R122, R123, Table PDE-10, R98 to R101, R105 to R108, R111 to R117, R119: an engine slot that expires sets its bit and
PD_EVT.TMR and the step waits while the engine does not act; an engine that acts does as the table says for the slot, here on a
port with nothing else under way. A slot that does not run expires without effect. -/
def Obligations.EngineTimersExpire : Prop :=
  ∀ (p : PortId) (s : State),
    let q := s.ports[p]
    let served : Prop := Acts s p ∧ noWaits s p ∧ q.pol.txq = [] ∧ q.pol.discDue = false
    let still : Prop := q.pol.await = none ∧ q.pol.next = none ∧ q.pol.swap = none
    let fired (k : Fin 26) (t : Port) : Prop := bitOf t.pd.tmrstat k.val = false ∧ F.PD_EVT.TMR.on t.pd.evt = true ∧
      ∀ j : Fin 26, j ≠ k → bitOf t.pd.tmrstat j.val = bitOf q.pd.tmrstat j.val
    let acts (i : Instr) (k : Fin 26) (R : Port → Prop) : Prop := MovesPort i s p fun t => fired k t ∧ R t
    let reaches (i : Instr) (k : Fin 26) (R : State → Prop) : Prop := Moves i s fun t => fired k t.ports[p] ∧ R t ∧
      ∀ r : PortId, r ≠ p → t.ports[r] = s.ports[r]
    let askedReset (t : Port) : Prop := t.phw.hrWait = true ∧ t.slotRuns 4 = true ∧
      t.pol = q.pol ∧ t.st = q.st
    let recovers (t : Port) : Prop := t.isDown ∧ t.st = .bindingOff ∧ t.pol.errRecovery = true ∧
      t.pol.contract = none ∧ ∀ c : Fin 3, t.ctxOn c = false
    (∀ x ∈ [((6 : Fin 26), Instr.tsenderResponseExpiry p), (7, .ttypecSendSourceCapExpiry p),
        (8, .tsrcTransitionExpiry p), (9, .tpsHardResetExpiry p), (10, .tsrcRecoverExpiry p), (11, .tpsSourceOnExpiry p),
        (12, .tpsSourceOffExpiry p), (13, .tpsTransitionExpiry p), (14, .tswapSourceStartExpiry p),
        (15, .tvdmSenderResponseExpiry p), (16, .hostVdmBudgetExpiry p), (17, .tdiscoverIdentityExpiry p),
        (18, .tvconnStableExpiry p), (19, .tvconnSourceTimeoutExpiry p), (20, .tsourceEprKeepaliveExpiry p),
        (21, .tsinkEprKeepaliveExpiry p), (22, .tenterEprExpiry p), (23, .tppsTimeoutExpiry p), (24, .tnoResponseExpiry p),
        (25, .terrorRecoveryExpiry p)],
      (q.slotRuns x.1 = false → exec x.2 s = .next s) ∧
      (q.slotRuns x.1 = true → ¬Acts s p → MovesPort x.2 s p fun t => t.slotRuns x.1 = false ∧
        bitOf t.pd.tmrstat x.1.val = true ∧ F.PD_EVT.TMR.on t.pd.evt = true ∧ Port.keeps x.2 q t ∧
        (∀ j : Fin 26, j ≠ x.1 → t.slotRuns j = q.slotRuns j ∧ bitOf t.pd.tmrstat j.val = bitOf q.pd.tmrstat j.val) ∧
        t = { q with pd := t.pd, pol := t.pol })) ∧
    (served → q.slotRuns 6 = true → q.pol.await = some .getRevision → q.pol.contract = none →
      (∀ c : Fin 3, q.result c ≠ 1) → acts (.tsenderResponseExpiry p) 6 fun t => t.pol = { q.pol with await := none }) ∧
    (served → q.slotRuns 7 = true → q.attached = true → q.isSource = true → q.quiet 0 → q.pol.contract = none →
      q.pol.hr = .none → F.PRT_STATE.NOPD.on q.core.state = false → F.PD_PHYCFG.EPR.on q.pd.phycfg = false →
      acts (.ttypecSendSourceCapExpiry p) 7 fun t =>
        Port.sends 0 (dataMsg q 0 1 ((sprOffers s p).take 7)) .srcCaps t) ∧
    (∀ w : Swap, served → q.slotRuns 8 = true → q.pol.swap = some w → w.step = .s1 →
      reaches (.tsrcTransitionExpiry p) 8 fun t => t.ports[p].gateOn = false ∧
        F.PTH_CTL.CEN_EN.on t.ports[p].pth.ctl = false ∧ F.PTH_STAT.DIS_ON.on t.ports[p].pth.stat = true ∧
        t.ports[p].pol.swap = some { w with step := .s2 } ∧ t.ports[p].pol.contract = none ∧
        t.cadp[p].relAmt = s.cadp[p].hold) ∧
    (∀ k : Contract, served → q.slotRuns 8 = true → q.quiet 0 → q.pol.contract = some k → q.pol.accepted = true →
      reaches (.tsrcTransitionExpiry p) 8 fun t => t = { s with ports := t.ports } ∧ t.ports[p].pth = q.pth) ∧
    (∀ k : Contract, served → q.slotRuns 8 = true → q.pol.swap = none → q.pol.next = some k → q.pol.accepted = true →
      q.phyHeld = false → q.ctxOn 0 = true → q.orient ≠ 0 → k.volt = q.target →
      acts (.tsrcTransitionExpiry p) 8 fun t => t.pth = q.pth ∧ Port.sends 0 (ctrlMsg q 0 6) .psRdy t) ∧
    (served → q.slotRuns 9 = true → q.pol.hr = .psHardReset → q.pol.contract = none →
      acts (.tpsHardResetExpiry p) 9 fun t => t.isDown ∧ t.st = q.st ∧ t.ctxOn 1 = false ∧
        t.ctxOn 2 = false ∧ t.pol = { q.pol with
          hr := .discharge
          txNow := (q.pol.txNow.set 1 none).set 2 none }) ∧
    (served → q.slotRuns 10 = true → q.pol.hr = .recover → q.attached = true → q.cableSeen = false →
      q.pol.contract = none → (s.cadp[p]).floor ≠ 0 →
      (50 ≤ F.PTH_CEIL.CEIL.get q.pth.ceil → acts (.tsrcRecoverExpiry p) 10 fun t =>
        F.PTH_CTL.CEN_EN.on t.pth.ctl = true ∧ F.PTH_STAT.DIS_ON.on t.pth.stat = false ∧ t.gateOn = true ∧
        t.target = 250 ∧ t.st = q.st ∧ t.pol = q.pol) ∧
      (F.PTH_CEIL.CEIL.get q.pth.ceil < 50 → acts (.tsrcRecoverExpiry p) 10 fun t =>
        F.PTH_EVT.CEIL_REF.on t.pth.evt = true ∧ t.pth.ctl = q.pth.ctl ∧ t.pth.stat = q.pth.stat ∧
        t.target = q.target ∧ t.st = q.st)) ∧
    (served → q.pol.swap ≠ none → q.st ≠ .fenced →
      (q.slotRuns 11 = true → reaches (.tpsSourceOnExpiry p) 11 fun t => recovers t.ports[p]) ∧
      (q.slotRuns 12 = true → reaches (.tpsSourceOffExpiry p) 12 fun t => recovers t.ports[p]) ∧
      (q.slotRuns 19 = true → q.pol.hrCount < 2 → acts (.tvconnSourceTimeoutExpiry p) 19 askedReset)) ∧
    (served → q.isSource = false → q.pol.hrCount < 2 →
      (q.slotRuns 13 = true → acts (.tpsTransitionExpiry p) 13 askedReset) ∧
      (q.slotRuns 21 = true → acts (.tsinkEprKeepaliveExpiry p) 21 askedReset)) ∧
    (served → q.slotRuns 14 = true → q.isSource = true → q.attached = true → q.quiet 0 →
      F.PD_PHYCFG.EPR.on q.pd.phycfg = false → acts (.tswapSourceStartExpiry p) 14 fun t =>
        Port.sends 0 (dataMsg q 0 1 ((sprOffers s p).take 7)) .srcCaps t) ∧
    (served → q.slotRuns 15 = true → q.pol.await = some .discIdentity → q.pol.contract = none →
      acts (.tvdmSenderResponseExpiry p) 15 fun t => t.pol = { q.pol with await := none }) ∧
    (∀ n : Nat, served → q.slotRuns 16 = true → q.pol.hostVdm = #v[some n, none, none] → q.quiet 0 →
      acts (.hostVdmBudgetExpiry p) 16 fun t => t.pol.hostVdm = #v[none, none, none] ∧ ∃ o : Word,
        Port.sends 0 (dataMsg q 0 15 [vdmAnswerHdr o 3]) .reply t ∧
        ∀ v : KeptVdm, (q.pol.vdms.find? fun v => v.num == n && v.ctx == 0) = some v → o = v.objs.headD 0) ∧
    (served → q.slotRuns 17 = true → still → q.pol.cable = none → q.vconnOn = true →
      (20 ≤ q.pol.cableTries → acts (.tdiscoverIdentityExpiry p) 17 fun t => t.pol = { q.pol with
        cable := some { curr := 30, volt := 20, epr := false, discovered := false } }) ∧
      (q.pol.cableTries < 20 → q.quiet 1 → amsNeeded q = false → acts (.tdiscoverIdentityExpiry p) 17 fun t =>
        t.pol.cableTries = q.pol.cableTries + 1 ∧ t.pol.cable = none ∧
        Port.sends 1 (dataMsg q 1 15 [0xFF00A001]) .cableIdentity t)) ∧
    (∀ w : Swap, served → q.slotRuns 18 = true → q.pol.swap = some w → w.step = .vconnOn → q.phyHeld = false →
      q.ctxOn 0 = true → q.orient ≠ 0 → acts (.tvconnStableExpiry p) 18 fun t => t.pol.swap = some w ∧
        Port.sends 0 (ctrlMsg q 0 6) (.swapPsRdy 2) t) ∧
    (served → q.slotRuns 18 = true → still → q.attached = true → q.vconnOn = true → q.isDfp = true →
      q.pol.cable = none → F.PRT_CAPT.CABLED.on q.core.capt = false → q.slotRuns 17 = false → q.quiet 1 → amsNeeded q = false →
      acts (.tvconnStableExpiry p) 18 fun t => t.pol.cableTries = 1 ∧
        Port.sends 1 (dataMsg q 1 15 [0xFF00A001]) .cableIdentity t) ∧
    (served → q.pol.hrCount < 2 →
      (q.slotRuns 20 = true → F.PD_PHYCFG.EPR.on q.pd.phycfg = true → reaches (.tsourceEprKeepaliveExpiry p) 20 fun t =>
        t.ports[p].phw.hrWait = true ∧ t.ports[p].slotRuns 4 = true ∧ t.ports[p].pol.contract = none) ∧
      (∀ k : Contract, q.slotRuns 23 = true → q.pol.contract = some k → k.kind = 1 → q.isSource = true →
        reaches (.tppsTimeoutExpiry p) 23 fun t => t.ports[p].phw.hrWait = true ∧ t.ports[p].slotRuns 4 = true ∧
          t.ports[p].pol.contract = none ∧ t.cadp[p].subs = s.cadp[p].subs ++ [none])) ∧
    (served → q.slotRuns 22 = true → q.isSource = false → q.quiet 0 → acts (.tenterEprExpiry p) 22 fun t =>
      Port.sends 0 (ctrlMsg q 0 13) .softReset t ∧ t.idsReset 0) ∧
    (∀ k : Contract, served → q.slotRuns 22 = true → q.isSource = true → q.pol.doneHeld = true →
      q.pol.contract = some k → reaches (.tenterEprExpiry p) 22 fun t => t.ports[p].pol.doneHeld = false ∧
        t.cadp[p].subs = s.cadp[p].subs ++ [some (k.v100, k.pout)]) ∧
    (served → q.slotRuns 24 = true → q.attached = true →
      (q.pol.hrCount < 2 → acts (.tnoResponseExpiry p) 24 askedReset) ∧
      (2 ≤ q.pol.hrCount → q.pol.spoke = false → q.isSource = true ∨ isFeedPort s p = false → acts (.tnoResponseExpiry p) 24 fun t =>
        F.PRT_STATE.NOPD.on t.core.state = true ∧ t.st = q.st ∧ t.pth = q.pth ∧ t.pol = q.pol)) ∧
    (served → q.slotRuns 25 = true → q.pol.errRecovery = true → q.st = .bindingOff → q.pol.kept = none →
      q.pol.cfgLater = none → q.pol.captLater = none → roleOf s p = 0 → q.dec1 = 0 → q.dec2 = 0 →
      reaches (.terrorRecoveryExpiry p) 25 fun t => t.ports[p].st = .detached ∧ t.ports[p].tc = 1 ∧
        t.ports[p].termsAre 1 ∧ t.ports[p].pol.errRecovery = false)

/-- 04 R105, R108, R116, 05 R131: SWAP clears at its time-out; a Request without an outcome for 20 ms is answered with Wait,
or with Reject to a PD 2.0 partner; each millisecond of a PPS contract moves the target by 20 mV, down while the current is
more than 150 mA above the requested one, to 3.3 V at the lowest, up to the requested voltage while it is below that level; a
rise above CEIL is refused. -/
def Obligations.PpsTargetAndOutcomeTimeouts : Prop :=
  ∀ (p : PortId) (s : State),
    let q := s.ports[p]
    let calm : Prop := Acts s p ∧ noWaits s p ∧ q.idle
    (MovesPort (.swapFlagTimeout p) s p fun t => F.PD_PHYCFG.SWAP.on t.pd.phycfg = false ∧
      (∀ f ∈ [F.PD_PHYCFG.EPR, F.PD_PHYCFG.PWR_ROLE, F.PD_PHYCFG.DATA_ROLE, F.PD_PHYCFG.CA_EN],
        f.on t.pd.phycfg = f.on q.pd.phycfg) ∧ t = { q with pd.phycfg := t.pd.phycfg }) ∧
    (¬Acts s p → MovesPort (.requestOutcomeTimeout p) s p fun t =>
      t = { q with pol := { q.pol with pend := q.pol.pend ++ [.requestOutcomeTimeout p] } }) ∧
    (calm → q.pol.reqWait = false → exec (.requestOutcomeTimeout p) s = .next s) ∧
    (Acts s p → noWaits s p → q.pol.txq = [] → q.pol.discDue = false → q.phyHeld = false → q.ctxOn 0 = true →
      q.orient ≠ 0 → q.pol.reqWait = true → MovesPort (.requestOutcomeTimeout p) s p fun t => t.pol.reqWait = false ∧
        t.pol.next = none ∧ t.pol.contract = q.pol.contract ∧ t.pth = q.pth ∧
        Port.sends 0 (ctrlMsg q 0 (if revCode q.ctx[0] = 1 then 4 else 12)) .waitMsg t) ∧
    (∀ n : Nat,
      let i := Instr.ppsTargetStep p n
      (¬Acts s p → MovesPort i s p fun t => t = { q with pol := { q.pol with pend := q.pol.pend ++ [i] } }) ∧
      (calm → (∀ k : Contract, q.pol.contract = some k → k.kind ≠ 1 ∨ q.isSource = false) → exec i s = .next s) ∧
      (∀ k : Contract, calm → q.pol.contract = some k → k.kind = 1 → q.isSource = true → q.target < 4096 →
        let level := 10 * k.curr + 150
        let want := if level < n then (if 165 < q.target then q.target - 1 else q.target)
          else if n < level ∧ q.target < k.volt then q.target + 1 else q.target
        let refused : Prop := q.target < want ∧ F.PTH_CEIL.CEIL.get q.pth.ceil * 100 < 20 * want
        (refused → MovesPort i s p fun t => t.target = q.target ∧ t.pth.stat = q.pth.stat ∧ t.pth.fbs = q.pth.fbs ∧
          F.PTH_EVT.CEIL_REF.on t.pth.evt = true) ∧
        (¬refused → MovesPort i s p fun t => t.target = want % 4096 ∧ F.PTH_REF.REF.get t.pth.ref = want % 4096 ∧
          t.pol = q.pol ∧ t.core = q.core ∧ t.pth.stat = q.pth.stat ∧
          F.PTH_FBS.CODE.getInt t.pth.fbs = min 4095 (max (-4096) (F.PTH_FBCAL.FB_OFS.getInt q.pth.fbcal +
            F.PTH_FBCAL.FB_GAIN.getInt q.pth.fbcal * (20 * want : Nat) / 16000)))))

/-- A step takes the command at the front of the queue and answers what the command does with the queue's rest; on an empty
queue one microsecond passes and the step answers a next state with an empty queue (the model's choice: log entry 3). -/
def Obligations.StepRunsTheFrontCommand : Prop :=
  (∀ (c : Instr) (rest : List Instr) (s : State),
    step { s with pending := c :: rest } = exec c { s with pending := rest }) ∧
  ∀ s : State, s.pending = [] → ∃ t, step s = .next t

/-- The machine before its first command: no command waits, nothing is listed in its memories, the control die is held, every
port is PARKED with its path down and both pins open, no feed is active, and the registers named stand at the reset values
of their rules; the write locks of regions 0 and 2 are in force as shipped (log entry 20), and no read lock. -/
def Obligations.ResetState : Prop :=
  let s := State.reset
  s.pending = [] ∧ s.sram = [] ∧ s.boot.phase = .held ∧ hwUp s = false ∧
  (∀ p : PortId, s.ports[p].st = .parked ∧ s.ports[p].gateOn = false ∧ s.ports[p].vconnOn = false ∧
    s.ports[p].termsAre 0 ∧ s.ports[p].pol.contract = none ∧ s.ports[p].pd.phycfg = 0x10 ∧
    s.cadp[p].regs.pcfg = 0x3221 ∧ s.cadp[p].hold = 0) ∧
  (∀ e : EngId, engState s e = 0) ∧ activeFeed s = none ∧ feedSwitching s = false ∧
  F.CAD_STAT.SOURCE.get s.cad.regs.stat = 0 ∧ poolBal s = 0 ∧ s.codec.frame = 0 ∧ s.time = 0 ∧
  LocksBlown (fun g _ => g = 0 || g = 2) (fun _ _ => false) s ∧
  (∀ (g : Fin 8) (i : Fin 3), s.otp.rlock[g][i] = false)

/-- 16 R403: a lock fuse that is blown stays blown, whatever command a step takes, also through every reset and start; and a
step takes one command from the queue and adds none. -/
def Obligations.EveryStepKeepsBlownLocks : Prop :=
  ∀ (w r : Fin 8 → Fin 3 → Bool) (s t : State), LocksBlown w r s → step s = .next t →
    LocksBlown w r t ∧ t.pending = s.pending.tail

/-- 01 R20, 13 R358, Table DWX-11: an instruction of an engine changes no port, ledger entry or caddy window outside the skein
that the engine serves, no other engine, and of the other cores only their latched event lines; of the rest of the machine
it changes the shared SRAM, the caddy's common registers, and, where it meets a word known to be uncorrectable, the error
record and its event. -/
def Obligations.EngineStaysInItsSkein : Prop :=
  ∀ (i : Instr) (c : CoreId) (f : Form) (gd : Fin 8) (e : EngId) (s t : State), dwx? i = some (c, f, gd) →
    engineCore c = some e → exec i s = .next t →
    (∀ p : PortId, engineOf s (skeinOf p) ≠ some e →
      t.ports[p] = s.ports[p] ∧ t.cadp[p] = s.cadp[p] ∧ t.cad.wres[p] = s.cad.wres[p]) ∧
    (∀ x : EngId, x ≠ e → t.engines[x] = s.engines[x]) ∧
    (∀ y : CoreId, y ≠ c → { t.cores[y] with latched := s.cores[y].latched } = s.cores[y]) ∧
    { t.cad with regs := s.cad.regs, wres := s.cad.wres } = s.cad ∧
    { t with ports := s.ports, cadp := s.cadp, cad := s.cad, engines := s.engines, cores := s.cores, sram := s.sram,
             free := s.free, saf := s.saf, diag := s.diag, host := s.host, boot := s.boot } = s ∧
    (s.diag.bad = [] → t.saf = s.saf ∧ t.diag = s.diag ∧ t.host = s.host ∧ t.boot = s.boot)
end

