-- ==== Sys2Proof/Laws/Bits.lean ====
section
/-! SUPPORT. Laws of the fields of a register: what reading a field gives after a write of it or of a field apart
from it. -/

namespace Sys2Proof

/-- Two fields share no bit. -/
def Fld.apart (f g : Fld) : Bool := decide (f.lo + f.width ≤ g.lo) || decide (g.lo + g.width ≤ f.lo)

/-- A field lies within its register. -/
def Fld.fits (f : Fld) : Bool := decide (f.lo + f.width ≤ 32)

theorem getLsbD_mask (f : Fld) (i : Nat) :
    f.mask.getLsbD i = (decide (i < 32) && decide (f.lo ≤ i) && decide (i < f.lo + f.width)) := by
  unfold Fld.mask
  rw [BitVec.getLsbD_ofNat, Nat.mul_comm, Nat.testBit_two_pow_mul, Nat.testBit_two_pow_sub_one]
  by_cases h1 : i < 32 <;> by_cases h2 : f.lo ≤ i <;> simp [h1, h2]; omega

theorem testBit_get (f : Fld) (w : Word) (i : Nat) :
    (f.get w).testBit i = (decide (i < f.width) && w.getLsbD (f.lo + i)) := by
  unfold Fld.get
  rw [Nat.testBit_mod_two_pow, Nat.testBit_div_two_pow, Nat.add_comm]; rfl

theorem getLsbD_put (f : Fld) (v : Nat) (w : Word) (i : Nat) :
    (f.put v w).getLsbD i =
      if f.lo ≤ i ∧ i < f.lo + f.width ∧ i < 32 then v.testBit (i - f.lo) else w.getLsbD i := by
  unfold Fld.put
  rw [BitVec.getLsbD_or, BitVec.getLsbD_and, BitVec.getLsbD_not, getLsbD_mask, BitVec.getLsbD_ofNat,
    Nat.mul_comm, Nat.testBit_two_pow_mul, Nat.testBit_mod_two_pow]
  by_cases h1 : i < 32
  · by_cases h2 : f.lo ≤ i
    · have h4 : i - f.lo < f.width ↔ i < f.lo + f.width := by omega
      by_cases h3 : i < f.lo + f.width <;> simp [h1, h2, h3, h4]
    · simp [h1, h2]
  · simp [h1, BitVec.getLsbD_of_ge w i (by omega)]

theorem getLsbD_set (f : Fld) (w : Word) (i : Nat) :
    (f.set w).getLsbD i = (w.getLsbD i || (decide (i < 32) && decide (f.lo ≤ i) && decide (i < f.lo + f.width))) := by
  unfold Fld.set; rw [BitVec.getLsbD_or, getLsbD_mask]

theorem getLsbD_clr (f : Fld) (w : Word) (i : Nat) :
    (f.clr w).getLsbD i = (w.getLsbD i && !(decide (f.lo ≤ i) && decide (i < f.lo + f.width))) := by
  unfold Fld.clr; rw [BitVec.getLsbD_and, BitVec.getLsbD_not, getLsbD_mask]
  by_cases h1 : i < 32
  · simp [h1]
  · simp [BitVec.getLsbD_of_ge w i (by omega)]

theorem get_lt (f : Fld) (w : Word) : f.get w < 2 ^ f.width := Nat.mod_lt _ (by positivity)

/-- A field reads as what was written, cut to its width. -/
theorem get_put (f : Fld) (hf : f.fits = true) (v : Nat) (w : Word) : f.get (f.put v w) = v % 2 ^ f.width := by
  apply Nat.eq_of_testBit_eq; intro i
  rw [testBit_get, getLsbD_put, Nat.testBit_mod_two_pow]
  simp only [Fld.fits, decide_eq_true_eq] at hf
  by_cases h : i < f.width
  · have h' : f.lo ≤ f.lo + i ∧ f.lo + i < f.lo + f.width ∧ f.lo + i < 32 := by omega
    rw [if_pos h']; simp [h]
  · simp [h]

/-- A field apart from the one written reads as before. -/
theorem get_put_apart (f g : Fld) (h : f.apart g = true) (v : Nat) (w : Word) : f.get (g.put v w) = f.get w := by
  apply Nat.eq_of_testBit_eq; intro i
  rw [testBit_get, testBit_get, getLsbD_put]
  simp only [Fld.apart, Bool.or_eq_true, decide_eq_true_eq] at h
  by_cases hi : i < f.width
  · rw [if_neg (by omega)]
  · simp [hi]

theorem get_set_apart (f g : Fld) (h : f.apart g = true) (w : Word) : f.get (g.set w) = f.get w := by
  apply Nat.eq_of_testBit_eq; intro i
  rw [testBit_get, testBit_get, getLsbD_set]
  simp only [Fld.apart, Bool.or_eq_true, decide_eq_true_eq] at h
  by_cases hi : i < f.width
  · have : ¬(g.lo ≤ f.lo + i ∧ f.lo + i < g.lo + g.width) := by omega
    by_cases h2 : g.lo ≤ f.lo + i <;> by_cases h3 : f.lo + i < g.lo + g.width <;> simp_all
  · simp [hi]

theorem get_clr_apart (f g : Fld) (h : f.apart g = true) (w : Word) : f.get (g.clr w) = f.get w := by
  apply Nat.eq_of_testBit_eq; intro i
  rw [testBit_get, testBit_get, getLsbD_clr]
  simp only [Fld.apart, Bool.or_eq_true, decide_eq_true_eq] at h
  by_cases hi : i < f.width
  · have : ¬(g.lo ≤ f.lo + i ∧ f.lo + i < g.lo + g.width) := by omega
    by_cases h2 : g.lo ≤ f.lo + i <;> by_cases h3 : f.lo + i < g.lo + g.width <;> simp_all
  · simp [hi]

theorem get_set (f : Fld) (hf : f.fits = true) (w : Word) : f.get (f.set w) = 2 ^ f.width - 1 := by
  apply Nat.eq_of_testBit_eq; intro i
  rw [testBit_get, getLsbD_set, Nat.testBit_two_pow_sub_one]
  simp only [Fld.fits, decide_eq_true_eq] at hf
  by_cases hi : i < f.width
  · have h1 : f.lo + i < 32 := by omega
    have h3 : f.lo + i < f.lo + f.width := by omega
    simp [hi, h1]
  · simp [hi]

theorem get_clr (f : Fld) (w : Word) : f.get (f.clr w) = 0 := by
  apply Nat.eq_of_testBit_eq; intro i
  rw [testBit_get, getLsbD_clr]
  by_cases hi : i < f.width <;> simp [hi]

theorem on_set (f : Fld) (hf : f.fits = true) (hw : 0 < f.width) (w : Word) : f.on (f.set w) = true := by
  unfold Fld.on; rw [get_set f hf]
  have : 2 ≤ 2 ^ f.width := by
    calc 2 = 2 ^ 1 := rfl
      _ ≤ 2 ^ f.width := Nat.pow_le_pow_right (by norm_num) hw
  simp; omega

@[simp] theorem on_clr (f : Fld) (w : Word) : f.on (f.clr w) = false := by unfold Fld.on; rw [get_clr]; rfl

theorem on_set_apart (f g : Fld) (h : f.apart g = true) (w : Word) : f.on (g.set w) = f.on w := by
  unfold Fld.on; rw [get_set_apart f g h]

theorem on_clr_apart (f g : Fld) (h : f.apart g = true) (w : Word) : f.on (g.clr w) = f.on w := by
  unfold Fld.on; rw [get_clr_apart f g h]

theorem on_put_apart (f g : Fld) (h : f.apart g = true) (v : Nat) (w : Word) : f.on (g.put v w) = f.on w := by
  unfold Fld.on; rw [get_put_apart f g h]

theorem on_setTo (f : Fld) (hf : f.fits = true) (hw : 0 < f.width) (b : Bool) (w : Word) :
    f.on (f.setTo b w) = b := by
  cases b
  · exact on_clr f w
  · exact on_set f hf hw w

end Sys2Proof
end

