-- ==== Sys2Proof/Laws/Cells.lean ====
section
/-! SUPPORT. Laws of the sparse memories: every write keeps the canonical form, a read after a write to the same
place gives the value written, and a write leaves every other place alone. -/

namespace Sys2Proof.Machine
open Sys2Proof

variable {α : Type}

/-- Every address of the list lies above `a`. -/
def above (a : Nat) (m : List (Nat × α)) : Prop := ∀ e ∈ m, a < e.1

theorem csorted_cons (e : Nat × α) (m : List (Nat × α)) :
    csorted (e :: m) = true ↔ above e.1 m ∧ csorted m = true := by
  induction m generalizing e with
  | nil => simp [csorted, above]
  | cons f t ih =>
    simp only [csorted, Bool.and_eq_true, decide_eq_true_eq]
    rw [ih f]
    constructor
    · rintro ⟨h, ha, hs⟩
      refine ⟨?_, ha, hs⟩
      intro g hg
      rcases List.mem_cons.mp hg with rfl | hg
      · exact h
      · exact lt_trans h (ha g hg)
    · rintro ⟨h, ha, hs⟩
      exact ⟨h f (List.mem_cons_self ..), ha, hs⟩

theorem mem_cdel {m : List (Nat × α)} {a : Nat} {e : Nat × α} (h : e ∈ cdel m a) : e ∈ m := by
  induction m with
  | nil => exact h
  | cons f t ih =>
    simp only [cdel] at h
    split at h
    · exact List.mem_cons_of_mem _ (ih h)
    · rcases List.mem_cons.mp h with rfl | h
      · exact List.mem_cons_self ..
      · exact List.mem_cons_of_mem _ (ih h)

theorem mem_cins {m : List (Nat × α)} {a : Nat} {v : α} {e : Nat × α} (h : e ∈ cins m a v) :
    e = (a, v) ∨ e ∈ m := by
  induction m with
  | nil => simp [cins] at h; exact .inl h
  | cons f t ih =>
    simp only [cins] at h
    split at h
    · rcases List.mem_cons.mp h with h | h
      · exact .inl h
      · exact .inr h
    · split at h
      · rcases List.mem_cons.mp h with h | h
        · exact .inl h
        · exact .inr (List.mem_cons_of_mem _ h)
      · rcases List.mem_cons.mp h with h | h
        · exact .inr (h ▸ List.mem_cons_self ..)
        · rcases ih h with h | h
          · exact .inl h
          · exact .inr (List.mem_cons_of_mem _ h)

theorem csorted_cdel {m : List (Nat × α)} (a : Nat) (h : csorted m = true) : csorted (cdel m a) = true := by
  induction m with
  | nil => exact h
  | cons f t ih =>
    rw [csorted_cons] at h
    simp only [cdel]
    split
    · exact ih h.2
    · rw [csorted_cons]
      exact ⟨fun g hg => h.1 g (mem_cdel hg), ih h.2⟩

theorem csorted_cins {m : List (Nat × α)} (a : Nat) (v : α) (h : csorted m = true) :
    csorted (cins m a v) = true := by
  induction m with
  | nil => rfl
  | cons f t ih =>
    have hs := h
    rw [csorted_cons] at h
    simp only [cins]
    split
    next hlt =>
      rw [csorted_cons]
      refine ⟨?_, hs⟩
      intro g hg
      rcases List.mem_cons.mp hg with rfl | hg
      · exact hlt
      · exact lt_trans hlt (h.1 g hg)
    next hlt =>
      split
      next he => rw [csorted_cons]; exact ⟨fun g hg => he ▸ h.1 g hg, h.2⟩
      next he =>
        rw [csorted_cons]
        refine ⟨?_, ih h.2⟩
        intro g hg
        rcases mem_cins hg with rfl | hg
        · show f.1 < a; omega
        · exact h.1 g hg

theorem cget_cdel (d : α) (m : List (Nat × α)) (a b : Nat) :
    cget d (cdel m a) b = if b = a then d else cget d m b := by
  induction m with
  | nil => simp [cdel, cget]
  | cons f t ih =>
    simp only [cdel]
    split
    next he =>
      rw [ih]
      split
      next hb => rfl
      next hb =>
        have : f.1 ≠ b := by omega
        simp only [cget, if_neg this]
    next he =>
      simp only [cget]
      split
      next hb =>
        have : b ≠ a := by omega
        rw [if_neg this]
      next hb => exact ih

theorem cget_cins (d : α) (m : List (Nat × α)) (a : Nat) (v : α) (b : Nat) :
    cget d (cins m a v) b = if b = a then v else cget d m b := by
  induction m with
  | nil => simp [cins, cget, eq_comm]
  | cons f t ih =>
    simp only [cins]
    split
    next hlt =>
      by_cases hb : b = a
      · subst hb; simp [cget]
      · simp only [cget, if_neg hb, if_neg (Ne.symm hb)]
    next hlt =>
      split
      next he =>
        by_cases hb : b = a
        · subst hb; simp [cget]
        · have h2 : f.1 ≠ b := by omega
          simp only [cget, if_neg hb, if_neg (Ne.symm hb), if_neg h2]
      next he =>
        simp only [cget]
        split
        next hb =>
          have : b ≠ a := by omega
          rw [if_neg this]
        next hb => exact ih

/-- A read after a write: the value at its address, every other as before. -/
theorem cget_cput [DecidableEq α] (d : α) (m : List (Nat × α)) (a : Nat) (v : α) (b : Nat) :
    cget d (cput d m a v) b = if b = a then v else cget d m b := by
  unfold cput
  split
  next hv => subst hv; exact cget_cdel v m a b
  next hv => exact cget_cins d m a v b

/-- A write keeps the canonical form. -/
theorem cwf_cput [DecidableEq α] (d : α) {m : List (Nat × α)} (h : cwf d m = true) (a : Nat) (v : α) :
    cwf d (cput d m a v) = true := by
  simp only [cwf, Bool.and_eq_true, List.all_eq_true, decide_eq_true_eq] at h ⊢
  unfold cput
  split
  next hv => exact ⟨csorted_cdel a h.1, fun e he => h.2 e (mem_cdel he)⟩
  next hv =>
    refine ⟨csorted_cins a v h.1, fun e he => ?_⟩
    rcases mem_cins he with rfl | he
    · exact hv
    · exact h.2 e he

/-- Bytes written keep the canonical form. -/
theorem cwf_cputN [DecidableEq α] (d : α) (l : List α) {m : List (Nat × α)} (h : cwf d m = true) (a : Nat) :
    cwf d (cputN d m a l) = true := by
  induction l generalizing m a with
  | nil => exact h
  | cons v t ih => exact ih (cwf_cput d h a v) (a + 1)

/-- What every address reads after values were written from `a` on. -/
theorem cget_cputN [DecidableEq α] (d : α) (l : List α) (m : List (Nat × α)) (a b : Nat) :
    cget d (cputN d m a l) b =
      if h : a ≤ b ∧ b < a + l.length then l[b - a]'(by omega) else cget d m b := by
  induction l generalizing m a with
  | nil => simp only [cputN, List.length_nil]; rw [dif_neg (by omega)]
  | cons v t ih =>
    simp only [cputN]
    rw [ih, cget_cput]
    by_cases hb : b = a
    · subst hb; rw [dif_neg (by omega)]; simp
    · by_cases h2 : a ≤ b ∧ b < a + (t.length + 1)
      · rw [dif_pos (by omega), dif_pos (by simpa using h2)]
        have : b - a = (b - (a + 1)) + 1 := by omega
        simp [this]
      · rw [dif_neg (by omega), dif_neg (by simpa using h2), if_neg hb]

theorem cgetN_eq_of (d : α) (m m' : List (Nat × α)) (a n : Nat)
    (h : ∀ i, i < n → cget d m' (a + i) = cget d m (a + i)) : cgetN d m' a n = cgetN d m a n := by
  induction n generalizing a with
  | zero => rfl
  | succ n ih =>
    simp only [cgetN]
    rw [show cget d m' a = cget d m a from h 0 (by omega)]
    congr 1
    exact ih (a + 1) fun i hi => by rw [show a + 1 + i = a + (i + 1) by omega]; exact h (i + 1) (by omega)

/-- Values read back where they were written. -/
theorem cgetN_cputN [DecidableEq α] (d : α) (l : List α) (m : List (Nat × α)) (a : Nat) :
    cgetN d (cputN d m a l) a l.length = l := by
  have key : ∀ n b (l' : List α), n = l'.length → (∀ i (hi : i < l'.length), cget d (cputN d m a l) (b + i) = l'[i]) →
      cgetN d (cputN d m a l) b n = l' := by
    intro n
    induction n with
    | zero => intro b l' hn _; cases l' <;> simp_all [cgetN]
    | succ n ih =>
      intro b l' hn hg
      cases l' with
      | nil => simp at hn
      | cons x t =>
        simp only [cgetN]
        rw [show cget d (cputN d m a l) b = x from hg 0 (by simp)]
        congr 1
        refine ih (b + 1) t (by simpa using hn) fun i hi => ?_
        have := hg (i + 1) (by simpa using hi)
        rw [show b + 1 + i = b + (i + 1) by omega, this]; rfl
  refine key _ _ l rfl fun i hi => ?_
  rw [cget_cputN, dif_pos (by omega)]; simp

/-! ## The host window -/

theorem wf_winWrite (a : Nat) (l : List Byte) (s : State) (h : Memory.wf s.host.window = true) :
    Memory.wf (winWrite a l s).host.window = true := cwf_cputN _ l h a

theorem winRead_winWrite (a : Nat) (l : List Byte) (s : State) :
    winRead (winWrite a l s) a l.length = l := cgetN_cputN _ l _ a

/-- A write of the window leaves what lies apart from it. -/
theorem winRead_winWrite_apart (a b n : Nat) (l : List Byte) (s : State)
    (hn : b + n ≤ a ∨ a + l.length ≤ b) : winRead (winWrite a l s) b n = winRead s b n := by
  refine cgetN_eq_of _ _ _ _ _ fun i hi => ?_
  simp only [winWrite]
  rw [cget_cputN, dif_neg (by omega)]

end Sys2Proof.Machine
end

