-- ==== Sys2Proof/Laws/Dwx.lean ====
section
/-! SUPPORT. Laws of the DWX cores: registers and predicates, the change of one core, and what the shared
operations of the instructions answer when an instruction issues. -/

namespace Sys2Proof.Machine
open Sys2Proof

/-! ## Registers and predicates -/

@[simp] theorem reg_zero (k : Core) : k.reg 0 = 0 := rfl
@[simp] theorem pred_zero (k : Core) : k.pred 0 = true := rfl

theorem reg_setReg (k : Core) (d r : Fin 16) (v : Word) :
    (k.setReg d v).reg r = if r = d ∧ r ≠ 0 then v else k.reg r := by
  unfold Core.setReg Core.reg
  by_cases hd : d = 0
  · subst hd; by_cases hr : r = 0 <;> simp [hr]
  · by_cases hr : r = 0
    · simp [hr, Ne.symm hd]
    · by_cases h : r = d
      · subst h; simp [hr]
      · simp [hr, hd, h]
        rw [Vector.getElem_set_ne]
        simpa [Fin.val_inj] using Ne.symm h

theorem pred_setPred (k : Core) (d r : Fin 4) (v : Bool) :
    (k.setPred d v).pred r = if r = d ∧ r ≠ 0 then v else k.pred r := by
  unfold Core.setPred Core.pred
  by_cases hd : d = 0
  · subst hd; by_cases hr : r = 0 <;> simp [hr]
  · by_cases hr : r = 0
    · simp [hr, Ne.symm hd]
    · by_cases h : r = d
      · subst h; simp [hr]
      · simp [hr, hd, h]
        rw [Vector.getElem_set_ne]
        simpa [Fin.val_inj] using Ne.symm h

/-- Writing a register leaves every field of the core but the register file. -/
theorem setReg_eq (k : Core) (d : Fin 16) (v : Word) : ∃ g, k.setReg d v = { k with g := g } := by
  unfold Core.setReg; split
  · exact ⟨k.g, rfl⟩
  · exact ⟨_, rfl⟩

/-- Writing a predicate leaves every field of the core but the predicates. -/
theorem setPred_eq (k : Core) (d : Fin 4) (v : Bool) : ∃ p, k.setPred d v = { k with p := p } := by
  unfold Core.setPred; split
  · exact ⟨k.p, rfl⟩
  · exact ⟨_, rfl⟩

@[simp] theorem setReg_pc (k : Core) (d : Fin 16) (v : Word) : (k.setReg d v).pc = k.pc := by
  obtain ⟨_, h⟩ := setReg_eq k d v; simp [h]
@[simp] theorem setReg_p (k : Core) (d : Fin 16) (v : Word) : (k.setReg d v).p = k.p := by
  obtain ⟨_, h⟩ := setReg_eq k d v; simp [h]
@[simp] theorem setReg_latched (k : Core) (d : Fin 16) (v : Word) : (k.setReg d v).latched = k.latched := by
  obtain ⟨_, h⟩ := setReg_eq k d v; simp [h]
@[simp] theorem setReg_cyc (k : Core) (d : Fin 16) (v : Word) : (k.setReg d v).cyc = k.cyc := by
  obtain ⟨_, h⟩ := setReg_eq k d v; simp [h]
@[simp] theorem setReg_cycHi (k : Core) (d : Fin 16) (v : Word) : (k.setReg d v).cycHi = k.cycHi := by
  obtain ⟨_, h⟩ := setReg_eq k d v; simp [h]
@[simp] theorem setReg_tbHi (k : Core) (d : Fin 16) (v : Word) : (k.setReg d v).tbHi = k.tbHi := by
  obtain ⟨_, h⟩ := setReg_eq k d v; simp [h]
@[simp] theorem setReg_dmem (k : Core) (d : Fin 16) (v : Word) : (k.setReg d v).dmem = k.dmem := by
  obtain ⟨_, h⟩ := setReg_eq k d v; simp [h]
@[simp] theorem setReg_pred (k : Core) (d : Fin 16) (v : Word) (i : Fin 4) : (k.setReg d v).pred i = k.pred i := by
  simp [Core.pred]
@[simp] theorem setPred_pc (k : Core) (d : Fin 4) (v : Bool) : (k.setPred d v).pc = k.pc := by
  obtain ⟨_, h⟩ := setPred_eq k d v; simp [h]
@[simp] theorem setPred_reg (k : Core) (d : Fin 4) (v : Bool) (r : Fin 16) : (k.setPred d v).reg r = k.reg r := by
  obtain ⟨_, h⟩ := setPred_eq k d v; simp [h, Core.reg]

/-! ## One core changed -/

@[simp] theorem modCore_self (c : CoreId) (g : Core → Core) (s : State) :
    (modCore c g s).cores[c.val] = g s.cores[c] := by simp [modCore]

theorem modCore_ne (c x : CoreId) (h : x ≠ c) (g : Core → Core) (s : State) :
    (modCore c g s).cores[x] = s.cores[x] := by
  simp [modCore]; rw [Vector.getElem_set_ne]; simpa [Fin.val_inj] using Ne.symm h

theorem modCore_only (c : CoreId) (g : Core → Core) (s : State) : OnlyCore c s (modCore c g s) :=
  ⟨rfl, fun x h => modCore_ne c x h g s⟩

theorem onlyCore_trans {c : CoreId} {s t u : State} (h : OnlyCore c s t) (k : OnlyCore c t u) : OnlyCore c s u := by
  refine ⟨?_, fun x hx => (k.2 x hx).trans (h.2 x hx)⟩
  have := h.1; have := k.1
  cases s; cases t; cases u; simp_all

/-! ## Issue -/

/-- An instruction that issues does what its body does. -/
theorem issue_of {s : State} {c : CoreId} {f : Form} {gd : Fin 8} (h : Issues s c f gd)
    (body : State → Host.Outcome State Fault Refusal) : issue c f gd body s = body s := by
  obtain ⟨h1, h2, h3, h4⟩ := h
  simp only [issue, h1, h2, h4, Nat.not_lt.mpr h3]; rfl

/-- What writing a register and moving on leaves. -/
theorem advance_setReg (s : State) (c : CoreId) (f : Form) (d : Fin 16) (v : Core → Word) :
    let t := advance c f (modCore c (fun k => Core.setReg d (v k) k) s)
    Advanced s t c f ∧ OnlyReg s t c d (v s.cores[c]) := by
  refine ⟨⟨onlyCore_trans (modCore_only _ _ _) (modCore_only _ _ _), ?_, ?_⟩, ?_, ?_⟩
  · simp [advance]
  · obtain ⟨g, h⟩ := setReg_eq s.cores[c] d (v s.cores[c])
    simp only [advance, Fin.getElem_fin, modCore_self] at h ⊢; rw [h]
  · intro r; simp only [advance, Fin.getElem_fin, modCore_self]; exact reg_setReg _ _ _ _
  · intro i; simp only [advance, Fin.getElem_fin, modCore_self]; simp [Core.pred]

/-- An instruction that writes a register answers, with its value there. -/
theorem puts_of {c : CoreId} {f : Form} {gd : Fin 8} {d : Fin 16} {s : State} {i : Instr} {w : Word}
    (h : Issues s c f gd) (v : Core → Word) (hi : exec i s = writesReg c f gd d v s)
    (hw : v s.cores[c] = w) : PutsReg i s c f d w := by
  subst hw
  exact ⟨_, by rw [hi, writesReg, issue_of h], (advance_setReg s c f d v).1, (advance_setReg s c f d v).2⟩

/-- What a fault of a core leaves. -/
theorem faults_of {i : Instr} {s : State} {c : CoreId} {code : Nat} (hc : code < 16)
    (hi : exec i s = .next (faultCore c code s)) : Faults i s c code := by
  refine ⟨_, hi, ?_, ?_⟩
  · unfold faultCore; split <;> rfl
  · unfold faultCore
    cases hcore : engineCore c with
    | none => exact ⟨rfl, rfl⟩
    | some e =>
      refine ⟨?_, ?_, ?_, fun x hx => ?_, rfl⟩
      · simp only [modEng, Fin.getElem_fin, Vector.getElem_set_self]
        rw [get_put_apart _ _ (by decide), get_put _ (by decide)]; rfl
      · simp only [modEng, Fin.getElem_fin, Vector.getElem_set_self]
        rw [get_put _ (by decide)]; exact Nat.mod_eq_of_lt hc
      · simp only [modEng, Fin.getElem_fin, Vector.getElem_set_self]
        rw [get_put _ (by decide)]; rfl
      · simp only [modEng, Fin.getElem_fin]
        rw [Vector.getElem_set_ne]; simpa [Fin.val_inj] using Ne.symm hx

end Sys2Proof.Machine
end

