-- ==== Sys2Proof/Laws/Host.lean ====
section
/-! SUPPORT. Laws of the host side: what vectors, the event ring and a completion change and leave alone. -/

namespace Sys2Proof.Machine
open Sys2Proof

/-! ## Vectors and the event ring -/

theorem onlyHost_trans {s u t : State} (h : OnlyHost s u) (k : OnlyHost u t) : OnlyHost s t := by
  unfold OnlyHost at *; cases s; cases t; cases u; simp_all

theorem setVector_host (v : Nat) (s : State) :
    (setVector v s).host.window = s.host.window ∧ cplTail (setVector v s) = cplTail s ∧
      (setVector v s).host.waits = s.host.waits ∧ (setVector v s).host.consumed = s.host.consumed ∧
      OnlyHost s (setVector v s) := by
  unfold setVector cplTail
  refine ⟨rfl, ?_, rfl, rfl, rfl, rfl, rfl⟩
  simp only; split <;> rfl

theorem ringPut_host (e : EvtEntry) (s : State) :
    cplTail (ringPut e s) = cplTail s ∧
      (ringPut e s).host.waits = s.host.waits ∧ (ringPut e s).host.consumed = s.host.consumed ∧
      OnlyHost s (ringPut e s) := by
  unfold ringPut
  refine ⟨?_, ?_, ?_, ?_⟩
  · simp only []; rw [(setVector_host _ _).2.1]; rfl
  · simp only []; rw [(setVector_host _ _).2.2.1]; rfl
  · simp only []; rw [(setVector_host _ _).2.2.2.1]; rfl
  · exact ⟨rfl, rfl, rfl⟩

theorem ringEvent_host (e : EvtEntry) (s : State) :
    cplTail (ringEvent e s) = cplTail s ∧
      (ringEvent e s).host.waits = s.host.waits ∧ (ringEvent e s).host.consumed = s.host.consumed ∧
      OnlyHost s (ringEvent e s) := by
  unfold ringEvent
  split
  · exact ringPut_host e s
  · exact ⟨rfl, rfl, rfl, rfl, rfl, rfl⟩

theorem ringEvents_host (l : List EvtEntry) (s : State) :
    let t := l.foldl (fun s e => ringEvent e s) s
    cplTail t = cplTail s ∧
      t.host.waits = s.host.waits ∧ t.host.consumed = s.host.consumed ∧ OnlyHost s t := by
  induction l generalizing s with
  | nil => exact ⟨rfl, rfl, rfl, rfl, rfl, rfl⟩
  | cons e l ih =>
    obtain ⟨h2, h3, h4, h5⟩ := ringEvent_host e s
    obtain ⟨k2, k3, k4, k5⟩ := ih (ringEvent e s)
    exact ⟨k2.trans h2, k3.trans h3, k4.trans h4, onlyHost_trans h5 k5⟩

/-! ## Ports -/

@[simp] theorem modPort_self (p : PortId) (f : Port → Port) (s : State) :
    (modPort p f s).ports[p.val] = f s.ports[p] := by simp [modPort]

theorem modPort_ne (p r : PortId) (h : r ≠ p) (f : Port → Port) (s : State) :
    (modPort p f s).ports[r] = s.ports[r] := by
  simp [modPort]; rw [Vector.getElem_set_ne]; simpa [Fin.val_inj] using Ne.symm h

theorem hostPorts_trans {s u t : State} (h : { u with host := s.host, ports := s.ports } = s)
    (k : { t with host := u.host } = u) : { t with host := s.host, ports := s.ports } = s := by
  cases s; cases t; cases u; simp_all

/-- A change of the host side after one of a port is a change of that port. -/
theorem onlyPort_host {p : PortId} {q : Port} {s u t : State} (h : OnlyPort p q s u) (k : OnlyHost u t) :
    OnlyPort p q s t := by
  obtain ⟨h1, h2, h3, h4, h5⟩ := h
  obtain ⟨k1, k2, k3⟩ := k
  have hp : t.ports = u.ports := by have := congrArg State.ports k1; exact this
  exact ⟨hostPorts_trans h1 k1, k2.trans h2, k3.trans h3, fun r hr => by rw [hp]; exact h4 r hr, by rw [hp]; exact h5⟩

/-- Sending a port's events to the ring changes the host side and the port's event queue. -/
theorem drainPort_host (p : PortId) (s : State) :
    cplTail (drainPort p s) = cplTail s ∧
      (drainPort p s).host.waits = s.host.waits ∧ (drainPort p s).host.consumed = s.host.consumed ∧
      OnlyPort p s.ports[p] s (drainPort p s) := by
  unfold drainPort
  obtain ⟨h2, h3, h4, h5⟩ := ringEvents_host (s.ports[p].pol.queue ++ s.ports[p].pol.held)
    (modPol p (fun l => { l with queue := [], held := [] }) s)
  refine ⟨h2, h3, h4, onlyPort_host (u := modPol p _ s) ⟨rfl, rfl, rfl, fun r hr => modPort_ne p r hr _ s, ?_⟩ h5⟩
  simp [modPol, Port.noQueue]

theorem cplTail_lt (s : State) : cplTail s < 1024 := get_lt _ _

theorem cplBytes_length (s : State) (tag opc port : Nat) (st : Status) (r : List Byte) :
    (cplBytes s tag opc port st r).length = 32 := by
  simp [cplBytes, bytes2, bytes4, bytes8, padTo]

/-- What writing a completion changes and leaves. -/
theorem putCpl_host (tag opc port : Nat) (st : Status) (r : List Byte) (s : State) :
    let t := putCpl tag opc port st r s
    winRead t (0x20000 + 32 * (cplTail s % 512)) 32 = cplBytes s tag opc port st r ∧
    cplTail t = (cplTail s + 1) % 1024 ∧ t.host.waits = s.host.waits ∧ t.host.consumed = s.host.consumed ∧
    OnlyHost s t := by
  have hv : ∀ u : State, (cplVector u).host.window = u.host.window ∧ cplTail (cplVector u) = cplTail u ∧
      (cplVector u).host.waits = u.host.waits ∧ (cplVector u).host.consumed = u.host.consumed ∧
      OnlyHost u (cplVector u) := by
    intro u; unfold cplVector; split
    · exact setVector_host _ u
    · exact ⟨rfl, rfl, rfl, rfl, rfl, rfl, rfl⟩
  intro t
  obtain ⟨h1, h2, h3, h4, h5⟩ :=
    hv (nextCpl (winWrite (0x20000 + 32 * (cplTail s % 512)) (cplBytes s tag opc port st r) s))
  refine ⟨?_, h2.trans ?_, h3, h4, onlyHost_trans (u := nextCpl (winWrite _ _ s)) ⟨rfl, rfl, rfl⟩ h5⟩
  · have := winRead_winWrite (0x20000 + 32 * (cplTail s % 512)) (cplBytes s tag opc port st r) s
    rw [cplBytes_length] at this
    unfold winRead at this ⊢
    simp only [t, putCpl]; rw [h1]; exact this
  · show F.DB_CPL_TAIL.INDEX.get (F.DB_CPL_TAIL.INDEX.put _ _) = _
    rw [get_put _ (by decide)]
    exact Nat.mod_eq_of_lt (Nat.mod_lt _ (by decide))

/-- A completion with no port: what it writes and what it leaves. -/
theorem complete_system (tag opc port : Nat) (st : Status) (r : List Byte) (s : State)  (hp : portOf port = none) :
    let t := complete tag opc port st r s
    winRead t (0x20000 + 32 * (cplTail s % 512)) 32 = cplBytes s tag opc port st r ∧
    cplTail t = (cplTail s + 1) % 1024 ∧ t.host.waits = s.host.waits.filter (fun c => c.tag != tag) ∧
    t.host.consumed = s.host.consumed.filter (fun c => c.tag != tag) ∧
    OnlyHost s t := by
  have hd : drainFor port s = s := by unfold drainFor; rw [hp]
  unfold complete; rw [hd]
  obtain ⟨k1, k2, k3, k4, k6⟩ := putCpl_host tag opc port st r (freeTag tag s)
  exact ⟨k1, k2, k3, k4, onlyHost_trans (u := freeTag tag s) ⟨rfl, rfl, rfl⟩ k6⟩

/-- A completion of a port's command: its events reach the ring first. -/
theorem complete_port (tag opc port : Nat) (st : Status) (r : List Byte) (s : State) (p : PortId)  (hp : portOf port = some p) :
    let t := complete tag opc port st r s
    winRead t (0x20000 + 32 * (cplTail s % 512)) 32 = cplBytes s tag opc port st r ∧
    cplTail t = (cplTail s + 1) % 1024 ∧ t.host.waits = s.host.waits.filter (fun c => c.tag != tag) ∧
    t.host.consumed = s.host.consumed.filter (fun c => c.tag != tag) ∧
    OnlyPort p s.ports[p] s t := by
  have hd : drainFor port s = drainPort p s := by unfold drainFor; rw [hp]
  unfold complete; rw [hd]
  obtain ⟨h2, h3, h4, h5⟩ := drainPort_host p s
  generalize drainPort p s = u at *
  obtain ⟨k1, k2, k3, k4, k6⟩ := putCpl_host tag opc port st r (freeTag tag u)
  have ht : u.time = s.time := by have := congrArg State.time h5.1; exact this
  have hc : cplTail (freeTag tag u) = cplTail s := h2
  have hb : cplBytes (freeTag tag u) tag opc port st r = cplBytes s tag opc port st r := by
    unfold cplBytes; rw [hc]; show _ ++ _ ++ _ ++ _ ++ bytes8 u.time ++ _ = _; rw [ht]
  rw [hc, hb] at k1
  rw [hc] at k2
  exact ⟨k1, k2, by rw [k3, ← h3]; rfl, by rw [k4, ← h4]; rfl,
    onlyPort_host h5 (onlyHost_trans (u := freeTag tag u) ⟨rfl, rfl, rfl⟩ k6)⟩

/-- A completion answers. -/
theorem answered_system (h : Hdr) (opc : Nat) (st : Status) (r : List Byte) (s : State)  (hp : portOf h.port = none) :
    Answered h opc st r s (complete h.tag opc h.port st r s) ∧ OnlyHost s (complete h.tag opc h.port st r s) := by
  obtain ⟨h1, h2, h3, h4, h6⟩ := complete_system h.tag opc h.port st r s hp
  refine ⟨⟨h1, h2, ?_, ?_⟩, h6⟩
  · intro w hm; rw [h3] at hm; simpa using (List.mem_filter.mp hm).2
  · intro w hm; rw [h4] at hm; simpa using (List.mem_filter.mp hm).2

theorem answered_port (h : Hdr) (opc : Nat) (st : Status) (r : List Byte) (s : State) (p : PortId)  (hp : portOf h.port = some p) :
    Answered h opc st r s (complete h.tag opc h.port st r s) ∧
      OnlyPort p s.ports[p] s (complete h.tag opc h.port st r s) := by
  obtain ⟨h1, h2, h3, h4, h6⟩ := complete_port h.tag opc h.port st r s p hp
  refine ⟨⟨h1, h2, ?_, ?_⟩, h6⟩
  · intro w hm; rw [h3] at hm; simpa using (List.mem_filter.mp hm).2
  · intro w hm; rw [h4] at hm; simpa using (List.mem_filter.mp hm).2

/-! ## Taking a command up -/

/-- A command that the device takes up does what its body does. -/
theorem command_ready {h : Hdr} {opc : Nat} {fence : Bool} {s : State} (k : Ready h opc fence s) (f : State → State) :
    command h opc fence true false f s = .next (f s) := by
  obtain ⟨h1, h2, h3⟩ := k
  simp [command, h1, h2, h3]

theorem command_taken {h : Hdr} {opc : Nat} {fence : Bool} {s : State} (k : Ready h opc fence s)
    (ho : sessionOpen s = true) (any : Bool) (f : State → State) :
    command h opc fence any false f s = .next (f s) := by
  obtain ⟨h1, h2, h3⟩ := k
  simp [command, h1, h2, h3, ho]

theorem sysCommand_taken {h : Hdr} {opc : Nat} {s : State} (k : TakenSys h opc s) (f : State → State) :
    sysCommand h opc false f s = .next (f s) := by
  unfold sysCommand
  rw [show (false || h.port != 255) = false by simp [k.2]]
  exact command_taken k.1.1 k.1.2 _ f

theorem portOf_val (p : PortId) : portOf p.val = some p := by simp [portOf]
theorem portOf_255 : portOf 255 = none := by decide

theorem portCommand_taken {h : Hdr} {opc : Nat} {s : State} {p : PortId} (k : TakenPort h opc p s)
    (f : PortId → State → State) : portCommand h opc false f s = .next (f p s) := by
  obtain ⟨k1, k2, k3, k4⟩ := k
  unfold portCommand
  rw [k2, portOf_val]
  simp only []
  rw [command_taken k1.1 k1.2]
  simp [portReach, k3]

theorem applies_of {h : Hdr} {opc : Nat} {s : State} {p : PortId} {ok : Port → Bool} {f : PortId → State → State}
    (hu : unpopulated s p = false) (ho : ok s.ports[p] = true) : applies h opc ok f p s = f p s := by
  unfold applies; rw [hu, ho]; rfl

end Sys2Proof.Machine
end

