-- ==== Sys2Proof/Laws/State.lean ====
section
/-! SUPPORT. The state after each named update, field by field: true by unfolding, so that no proof unfolds a
record update. The fields an update leaves alone come first, then the one it changes. -/

namespace Sys2Proof.Machine
open Sys2Proof

/-! ## modPort: one port -/

@[simp] theorem modPort_pending (p : PortId) (f : Port → Port) (s : State) : (modPort p f s).pending = s.pending := rfl
@[simp] theorem modPort_time (p : PortId) (f : Port → Port) (s : State) : (modPort p f s).time = s.time := rfl
@[simp] theorem modPort_free (p : PortId) (f : Port → Port) (s : State) : (modPort p f s).free = s.free := rfl
@[simp] theorem modPort_cad (p : PortId) (f : Port → Port) (s : State) : (modPort p f s).cad = s.cad := rfl
@[simp] theorem modPort_cadp (p : PortId) (f : Port → Port) (s : State) : (modPort p f s).cadp = s.cadp := rfl
@[simp] theorem modPort_feeds (p : PortId) (f : Port → Port) (s : State) : (modPort p f s).feeds = s.feeds := rfl
@[simp] theorem modPort_host (p : PortId) (f : Port → Port) (s : State) : (modPort p f s).host = s.host := rfl
@[simp] theorem modPort_engines (p : PortId) (f : Port → Port) (s : State) : (modPort p f s).engines = s.engines := rfl
@[simp] theorem modPort_cores (p : PortId) (f : Port → Port) (s : State) : (modPort p f s).cores = s.cores := rfl
@[simp] theorem modPort_sram (p : PortId) (f : Port → Port) (s : State) : (modPort p f s).sram = s.sram := rfl
@[simp] theorem modPort_saf (p : PortId) (f : Port → Port) (s : State) : (modPort p f s).saf = s.saf := rfl
@[simp] theorem modPort_diag (p : PortId) (f : Port → Port) (s : State) : (modPort p f s).diag = s.diag := rfl
@[simp] theorem modPort_wdg (p : PortId) (f : Port → Port) (s : State) : (modPort p f s).wdg = s.wdg := rfl
@[simp] theorem modPort_tel (p : PortId) (f : Port → Port) (s : State) : (modPort p f s).tel = s.tel := rfl
@[simp] theorem modPort_codec (p : PortId) (f : Port → Port) (s : State) : (modPort p f s).codec = s.codec := rfl
@[simp] theorem modPort_cru (p : PortId) (f : Port → Port) (s : State) : (modPort p f s).cru = s.cru := rfl
@[simp] theorem modPort_rst (p : PortId) (f : Port → Port) (s : State) : (modPort p f s).rst = s.rst := rfl
@[simp] theorem modPort_boot (p : PortId) (f : Port → Port) (s : State) : (modPort p f s).boot = s.boot := rfl
@[simp] theorem modPort_tmr (p : PortId) (f : Port → Port) (s : State) : (modPort p f s).tmr = s.tmr := rfl
@[simp] theorem modPort_tmrHw (p : PortId) (f : Port → Port) (s : State) : (modPort p f s).tmrHw = s.tmrHw := rfl
@[simp] theorem modPort_twt (p : PortId) (f : Port → Port) (s : State) : (modPort p f s).twt = s.twt := rfl
@[simp] theorem modPort_twc (p : PortId) (f : Port → Port) (s : State) : (modPort p f s).twc = s.twc := rfl
@[simp] theorem modPort_otp (p : PortId) (f : Port → Port) (s : State) : (modPort p f s).otp = s.otp := rfl
@[simp] theorem modPort_shadow (p : PortId) (f : Port → Port) (s : State) : (modPort p f s).shadow = s.shadow := rfl
@[simp] theorem modPort_flash (p : PortId) (f : Port → Port) (s : State) : (modPort p f s).flash = s.flash := rfl
@[simp] theorem modPort_upd (p : PortId) (f : Port → Port) (s : State) : (modPort p f s).upd = s.upd := rfl
@[simp] theorem modPort_loader (p : PortId) (f : Port → Port) (s : State) : (modPort p f s).loader = s.loader := rfl
@[simp] theorem modPort_kept (p : PortId) (f : Port → Port) (s : State) : (modPort p f s).kept = s.kept := rfl
@[simp] theorem modPort_board (p : PortId) (f : Port → Port) (s : State) : (modPort p f s).board = s.board := rfl

theorem modPort_other (p : PortId) (f : Port → Port) (s : State) (x : PortId) (h : x ≠ p) :
    (modPort p f s).ports[x] = s.ports[x] := by
  have : p.val ≠ x.val := fun e => h (Fin.ext e.symm)
  simp [modPort, this]

/-! ## modPol: one port's policy context -/

@[simp] theorem modPol_pending (p : PortId) (f : Policy → Policy) (s : State) : (modPol p f s).pending = s.pending := rfl
@[simp] theorem modPol_time (p : PortId) (f : Policy → Policy) (s : State) : (modPol p f s).time = s.time := rfl
@[simp] theorem modPol_free (p : PortId) (f : Policy → Policy) (s : State) : (modPol p f s).free = s.free := rfl
@[simp] theorem modPol_cad (p : PortId) (f : Policy → Policy) (s : State) : (modPol p f s).cad = s.cad := rfl
@[simp] theorem modPol_cadp (p : PortId) (f : Policy → Policy) (s : State) : (modPol p f s).cadp = s.cadp := rfl
@[simp] theorem modPol_feeds (p : PortId) (f : Policy → Policy) (s : State) : (modPol p f s).feeds = s.feeds := rfl
@[simp] theorem modPol_host (p : PortId) (f : Policy → Policy) (s : State) : (modPol p f s).host = s.host := rfl
@[simp] theorem modPol_engines (p : PortId) (f : Policy → Policy) (s : State) : (modPol p f s).engines = s.engines := rfl
@[simp] theorem modPol_cores (p : PortId) (f : Policy → Policy) (s : State) : (modPol p f s).cores = s.cores := rfl
@[simp] theorem modPol_sram (p : PortId) (f : Policy → Policy) (s : State) : (modPol p f s).sram = s.sram := rfl
@[simp] theorem modPol_saf (p : PortId) (f : Policy → Policy) (s : State) : (modPol p f s).saf = s.saf := rfl
@[simp] theorem modPol_diag (p : PortId) (f : Policy → Policy) (s : State) : (modPol p f s).diag = s.diag := rfl
@[simp] theorem modPol_wdg (p : PortId) (f : Policy → Policy) (s : State) : (modPol p f s).wdg = s.wdg := rfl
@[simp] theorem modPol_tel (p : PortId) (f : Policy → Policy) (s : State) : (modPol p f s).tel = s.tel := rfl
@[simp] theorem modPol_codec (p : PortId) (f : Policy → Policy) (s : State) : (modPol p f s).codec = s.codec := rfl
@[simp] theorem modPol_cru (p : PortId) (f : Policy → Policy) (s : State) : (modPol p f s).cru = s.cru := rfl
@[simp] theorem modPol_rst (p : PortId) (f : Policy → Policy) (s : State) : (modPol p f s).rst = s.rst := rfl
@[simp] theorem modPol_boot (p : PortId) (f : Policy → Policy) (s : State) : (modPol p f s).boot = s.boot := rfl
@[simp] theorem modPol_tmr (p : PortId) (f : Policy → Policy) (s : State) : (modPol p f s).tmr = s.tmr := rfl
@[simp] theorem modPol_tmrHw (p : PortId) (f : Policy → Policy) (s : State) : (modPol p f s).tmrHw = s.tmrHw := rfl
@[simp] theorem modPol_twt (p : PortId) (f : Policy → Policy) (s : State) : (modPol p f s).twt = s.twt := rfl
@[simp] theorem modPol_twc (p : PortId) (f : Policy → Policy) (s : State) : (modPol p f s).twc = s.twc := rfl
@[simp] theorem modPol_otp (p : PortId) (f : Policy → Policy) (s : State) : (modPol p f s).otp = s.otp := rfl
@[simp] theorem modPol_shadow (p : PortId) (f : Policy → Policy) (s : State) : (modPol p f s).shadow = s.shadow := rfl
@[simp] theorem modPol_flash (p : PortId) (f : Policy → Policy) (s : State) : (modPol p f s).flash = s.flash := rfl
@[simp] theorem modPol_upd (p : PortId) (f : Policy → Policy) (s : State) : (modPol p f s).upd = s.upd := rfl
@[simp] theorem modPol_loader (p : PortId) (f : Policy → Policy) (s : State) : (modPol p f s).loader = s.loader := rfl
@[simp] theorem modPol_kept (p : PortId) (f : Policy → Policy) (s : State) : (modPol p f s).kept = s.kept := rfl
@[simp] theorem modPol_board (p : PortId) (f : Policy → Policy) (s : State) : (modPol p f s).board = s.board := rfl

/-! ## modCad: one port's caddy entry -/

@[simp] theorem modCad_pending (p : PortId) (f : CadPort → CadPort) (s : State) : (modCad p f s).pending = s.pending := rfl
@[simp] theorem modCad_time (p : PortId) (f : CadPort → CadPort) (s : State) : (modCad p f s).time = s.time := rfl
@[simp] theorem modCad_free (p : PortId) (f : CadPort → CadPort) (s : State) : (modCad p f s).free = s.free := rfl
@[simp] theorem modCad_ports (p : PortId) (f : CadPort → CadPort) (s : State) : (modCad p f s).ports = s.ports := rfl
@[simp] theorem modCad_cad (p : PortId) (f : CadPort → CadPort) (s : State) : (modCad p f s).cad = s.cad := rfl
@[simp] theorem modCad_feeds (p : PortId) (f : CadPort → CadPort) (s : State) : (modCad p f s).feeds = s.feeds := rfl
@[simp] theorem modCad_host (p : PortId) (f : CadPort → CadPort) (s : State) : (modCad p f s).host = s.host := rfl
@[simp] theorem modCad_engines (p : PortId) (f : CadPort → CadPort) (s : State) : (modCad p f s).engines = s.engines := rfl
@[simp] theorem modCad_cores (p : PortId) (f : CadPort → CadPort) (s : State) : (modCad p f s).cores = s.cores := rfl
@[simp] theorem modCad_sram (p : PortId) (f : CadPort → CadPort) (s : State) : (modCad p f s).sram = s.sram := rfl
@[simp] theorem modCad_saf (p : PortId) (f : CadPort → CadPort) (s : State) : (modCad p f s).saf = s.saf := rfl
@[simp] theorem modCad_diag (p : PortId) (f : CadPort → CadPort) (s : State) : (modCad p f s).diag = s.diag := rfl
@[simp] theorem modCad_wdg (p : PortId) (f : CadPort → CadPort) (s : State) : (modCad p f s).wdg = s.wdg := rfl
@[simp] theorem modCad_tel (p : PortId) (f : CadPort → CadPort) (s : State) : (modCad p f s).tel = s.tel := rfl
@[simp] theorem modCad_codec (p : PortId) (f : CadPort → CadPort) (s : State) : (modCad p f s).codec = s.codec := rfl
@[simp] theorem modCad_cru (p : PortId) (f : CadPort → CadPort) (s : State) : (modCad p f s).cru = s.cru := rfl
@[simp] theorem modCad_rst (p : PortId) (f : CadPort → CadPort) (s : State) : (modCad p f s).rst = s.rst := rfl
@[simp] theorem modCad_boot (p : PortId) (f : CadPort → CadPort) (s : State) : (modCad p f s).boot = s.boot := rfl
@[simp] theorem modCad_tmr (p : PortId) (f : CadPort → CadPort) (s : State) : (modCad p f s).tmr = s.tmr := rfl
@[simp] theorem modCad_tmrHw (p : PortId) (f : CadPort → CadPort) (s : State) : (modCad p f s).tmrHw = s.tmrHw := rfl
@[simp] theorem modCad_twt (p : PortId) (f : CadPort → CadPort) (s : State) : (modCad p f s).twt = s.twt := rfl
@[simp] theorem modCad_twc (p : PortId) (f : CadPort → CadPort) (s : State) : (modCad p f s).twc = s.twc := rfl
@[simp] theorem modCad_otp (p : PortId) (f : CadPort → CadPort) (s : State) : (modCad p f s).otp = s.otp := rfl
@[simp] theorem modCad_shadow (p : PortId) (f : CadPort → CadPort) (s : State) : (modCad p f s).shadow = s.shadow := rfl
@[simp] theorem modCad_flash (p : PortId) (f : CadPort → CadPort) (s : State) : (modCad p f s).flash = s.flash := rfl
@[simp] theorem modCad_upd (p : PortId) (f : CadPort → CadPort) (s : State) : (modCad p f s).upd = s.upd := rfl
@[simp] theorem modCad_loader (p : PortId) (f : CadPort → CadPort) (s : State) : (modCad p f s).loader = s.loader := rfl
@[simp] theorem modCad_kept (p : PortId) (f : CadPort → CadPort) (s : State) : (modCad p f s).kept = s.kept := rfl
@[simp] theorem modCad_board (p : PortId) (f : CadPort → CadPort) (s : State) : (modCad p f s).board = s.board := rfl

@[simp] theorem modCad_self (p : PortId) (f : CadPort → CadPort) (s : State) :
    (modCad p f s).cadp[p.val] = f s.cadp[p] := by simp [modCad]

theorem modCad_other (p : PortId) (f : CadPort → CadPort) (s : State) (x : PortId) (h : x ≠ p) :
    (modCad p f s).cadp[x] = s.cadp[x] := by
  have : p.val ≠ x.val := fun e => h (Fin.ext e.symm)
  simp [modCad, this]

/-! ## modEng: one engine -/

@[simp] theorem modEng_pending (e : EngId) (f : Engine → Engine) (s : State) : (modEng e f s).pending = s.pending := rfl
@[simp] theorem modEng_time (e : EngId) (f : Engine → Engine) (s : State) : (modEng e f s).time = s.time := rfl
@[simp] theorem modEng_free (e : EngId) (f : Engine → Engine) (s : State) : (modEng e f s).free = s.free := rfl
@[simp] theorem modEng_ports (e : EngId) (f : Engine → Engine) (s : State) : (modEng e f s).ports = s.ports := rfl
@[simp] theorem modEng_cad (e : EngId) (f : Engine → Engine) (s : State) : (modEng e f s).cad = s.cad := rfl
@[simp] theorem modEng_cadp (e : EngId) (f : Engine → Engine) (s : State) : (modEng e f s).cadp = s.cadp := rfl
@[simp] theorem modEng_feeds (e : EngId) (f : Engine → Engine) (s : State) : (modEng e f s).feeds = s.feeds := rfl
@[simp] theorem modEng_host (e : EngId) (f : Engine → Engine) (s : State) : (modEng e f s).host = s.host := rfl
@[simp] theorem modEng_cores (e : EngId) (f : Engine → Engine) (s : State) : (modEng e f s).cores = s.cores := rfl
@[simp] theorem modEng_sram (e : EngId) (f : Engine → Engine) (s : State) : (modEng e f s).sram = s.sram := rfl
@[simp] theorem modEng_saf (e : EngId) (f : Engine → Engine) (s : State) : (modEng e f s).saf = s.saf := rfl
@[simp] theorem modEng_diag (e : EngId) (f : Engine → Engine) (s : State) : (modEng e f s).diag = s.diag := rfl
@[simp] theorem modEng_wdg (e : EngId) (f : Engine → Engine) (s : State) : (modEng e f s).wdg = s.wdg := rfl
@[simp] theorem modEng_tel (e : EngId) (f : Engine → Engine) (s : State) : (modEng e f s).tel = s.tel := rfl
@[simp] theorem modEng_codec (e : EngId) (f : Engine → Engine) (s : State) : (modEng e f s).codec = s.codec := rfl
@[simp] theorem modEng_cru (e : EngId) (f : Engine → Engine) (s : State) : (modEng e f s).cru = s.cru := rfl
@[simp] theorem modEng_rst (e : EngId) (f : Engine → Engine) (s : State) : (modEng e f s).rst = s.rst := rfl
@[simp] theorem modEng_boot (e : EngId) (f : Engine → Engine) (s : State) : (modEng e f s).boot = s.boot := rfl
@[simp] theorem modEng_tmr (e : EngId) (f : Engine → Engine) (s : State) : (modEng e f s).tmr = s.tmr := rfl
@[simp] theorem modEng_tmrHw (e : EngId) (f : Engine → Engine) (s : State) : (modEng e f s).tmrHw = s.tmrHw := rfl
@[simp] theorem modEng_twt (e : EngId) (f : Engine → Engine) (s : State) : (modEng e f s).twt = s.twt := rfl
@[simp] theorem modEng_twc (e : EngId) (f : Engine → Engine) (s : State) : (modEng e f s).twc = s.twc := rfl
@[simp] theorem modEng_otp (e : EngId) (f : Engine → Engine) (s : State) : (modEng e f s).otp = s.otp := rfl
@[simp] theorem modEng_shadow (e : EngId) (f : Engine → Engine) (s : State) : (modEng e f s).shadow = s.shadow := rfl
@[simp] theorem modEng_flash (e : EngId) (f : Engine → Engine) (s : State) : (modEng e f s).flash = s.flash := rfl
@[simp] theorem modEng_upd (e : EngId) (f : Engine → Engine) (s : State) : (modEng e f s).upd = s.upd := rfl
@[simp] theorem modEng_loader (e : EngId) (f : Engine → Engine) (s : State) : (modEng e f s).loader = s.loader := rfl
@[simp] theorem modEng_kept (e : EngId) (f : Engine → Engine) (s : State) : (modEng e f s).kept = s.kept := rfl
@[simp] theorem modEng_board (e : EngId) (f : Engine → Engine) (s : State) : (modEng e f s).board = s.board := rfl

@[simp] theorem modEng_self (e : EngId) (f : Engine → Engine) (s : State) :
    (modEng e f s).engines[e.val] = f s.engines[e] := by simp [modEng]

theorem modEng_other (e : EngId) (f : Engine → Engine) (s : State) (x : EngId) (h : x ≠ e) :
    (modEng e f s).engines[x] = s.engines[x] := by
  have : e.val ≠ x.val := fun e => h (Fin.ext e.symm)
  simp [modEng, this]

/-! ## modCore: one core -/

@[simp] theorem modCore_pending (c : CoreId) (f : Core → Core) (s : State) : (modCore c f s).pending = s.pending := rfl
@[simp] theorem modCore_time (c : CoreId) (f : Core → Core) (s : State) : (modCore c f s).time = s.time := rfl
@[simp] theorem modCore_free (c : CoreId) (f : Core → Core) (s : State) : (modCore c f s).free = s.free := rfl
@[simp] theorem modCore_ports (c : CoreId) (f : Core → Core) (s : State) : (modCore c f s).ports = s.ports := rfl
@[simp] theorem modCore_cad (c : CoreId) (f : Core → Core) (s : State) : (modCore c f s).cad = s.cad := rfl
@[simp] theorem modCore_cadp (c : CoreId) (f : Core → Core) (s : State) : (modCore c f s).cadp = s.cadp := rfl
@[simp] theorem modCore_feeds (c : CoreId) (f : Core → Core) (s : State) : (modCore c f s).feeds = s.feeds := rfl
@[simp] theorem modCore_host (c : CoreId) (f : Core → Core) (s : State) : (modCore c f s).host = s.host := rfl
@[simp] theorem modCore_engines (c : CoreId) (f : Core → Core) (s : State) : (modCore c f s).engines = s.engines := rfl
@[simp] theorem modCore_sram (c : CoreId) (f : Core → Core) (s : State) : (modCore c f s).sram = s.sram := rfl
@[simp] theorem modCore_saf (c : CoreId) (f : Core → Core) (s : State) : (modCore c f s).saf = s.saf := rfl
@[simp] theorem modCore_diag (c : CoreId) (f : Core → Core) (s : State) : (modCore c f s).diag = s.diag := rfl
@[simp] theorem modCore_wdg (c : CoreId) (f : Core → Core) (s : State) : (modCore c f s).wdg = s.wdg := rfl
@[simp] theorem modCore_tel (c : CoreId) (f : Core → Core) (s : State) : (modCore c f s).tel = s.tel := rfl
@[simp] theorem modCore_codec (c : CoreId) (f : Core → Core) (s : State) : (modCore c f s).codec = s.codec := rfl
@[simp] theorem modCore_cru (c : CoreId) (f : Core → Core) (s : State) : (modCore c f s).cru = s.cru := rfl
@[simp] theorem modCore_rst (c : CoreId) (f : Core → Core) (s : State) : (modCore c f s).rst = s.rst := rfl
@[simp] theorem modCore_boot (c : CoreId) (f : Core → Core) (s : State) : (modCore c f s).boot = s.boot := rfl
@[simp] theorem modCore_tmr (c : CoreId) (f : Core → Core) (s : State) : (modCore c f s).tmr = s.tmr := rfl
@[simp] theorem modCore_tmrHw (c : CoreId) (f : Core → Core) (s : State) : (modCore c f s).tmrHw = s.tmrHw := rfl
@[simp] theorem modCore_twt (c : CoreId) (f : Core → Core) (s : State) : (modCore c f s).twt = s.twt := rfl
@[simp] theorem modCore_twc (c : CoreId) (f : Core → Core) (s : State) : (modCore c f s).twc = s.twc := rfl
@[simp] theorem modCore_otp (c : CoreId) (f : Core → Core) (s : State) : (modCore c f s).otp = s.otp := rfl
@[simp] theorem modCore_shadow (c : CoreId) (f : Core → Core) (s : State) : (modCore c f s).shadow = s.shadow := rfl
@[simp] theorem modCore_flash (c : CoreId) (f : Core → Core) (s : State) : (modCore c f s).flash = s.flash := rfl
@[simp] theorem modCore_upd (c : CoreId) (f : Core → Core) (s : State) : (modCore c f s).upd = s.upd := rfl
@[simp] theorem modCore_loader (c : CoreId) (f : Core → Core) (s : State) : (modCore c f s).loader = s.loader := rfl
@[simp] theorem modCore_kept (c : CoreId) (f : Core → Core) (s : State) : (modCore c f s).kept = s.kept := rfl
@[simp] theorem modCore_board (c : CoreId) (f : Core → Core) (s : State) : (modCore c f s).board = s.board := rfl

theorem modCore_other (c : CoreId) (f : Core → Core) (s : State) (x : CoreId) (h : x ≠ c) :
    (modCore c f s).cores[x] = s.cores[x] := by
  have : c.val ≠ x.val := fun e => h (Fin.ext e.symm)
  simp [modCore, this]

/-! ## modCru: the clock root -/

@[simp] theorem modCru_pending (f : Cru → Cru) (s : State) : (modCru f s).pending = s.pending := rfl
@[simp] theorem modCru_time (f : Cru → Cru) (s : State) : (modCru f s).time = s.time := rfl
@[simp] theorem modCru_free (f : Cru → Cru) (s : State) : (modCru f s).free = s.free := rfl
@[simp] theorem modCru_ports (f : Cru → Cru) (s : State) : (modCru f s).ports = s.ports := rfl
@[simp] theorem modCru_cad (f : Cru → Cru) (s : State) : (modCru f s).cad = s.cad := rfl
@[simp] theorem modCru_cadp (f : Cru → Cru) (s : State) : (modCru f s).cadp = s.cadp := rfl
@[simp] theorem modCru_feeds (f : Cru → Cru) (s : State) : (modCru f s).feeds = s.feeds := rfl
@[simp] theorem modCru_host (f : Cru → Cru) (s : State) : (modCru f s).host = s.host := rfl
@[simp] theorem modCru_engines (f : Cru → Cru) (s : State) : (modCru f s).engines = s.engines := rfl
@[simp] theorem modCru_cores (f : Cru → Cru) (s : State) : (modCru f s).cores = s.cores := rfl
@[simp] theorem modCru_sram (f : Cru → Cru) (s : State) : (modCru f s).sram = s.sram := rfl
@[simp] theorem modCru_saf (f : Cru → Cru) (s : State) : (modCru f s).saf = s.saf := rfl
@[simp] theorem modCru_diag (f : Cru → Cru) (s : State) : (modCru f s).diag = s.diag := rfl
@[simp] theorem modCru_wdg (f : Cru → Cru) (s : State) : (modCru f s).wdg = s.wdg := rfl
@[simp] theorem modCru_tel (f : Cru → Cru) (s : State) : (modCru f s).tel = s.tel := rfl
@[simp] theorem modCru_codec (f : Cru → Cru) (s : State) : (modCru f s).codec = s.codec := rfl
@[simp] theorem modCru_rst (f : Cru → Cru) (s : State) : (modCru f s).rst = s.rst := rfl
@[simp] theorem modCru_boot (f : Cru → Cru) (s : State) : (modCru f s).boot = s.boot := rfl
@[simp] theorem modCru_tmr (f : Cru → Cru) (s : State) : (modCru f s).tmr = s.tmr := rfl
@[simp] theorem modCru_tmrHw (f : Cru → Cru) (s : State) : (modCru f s).tmrHw = s.tmrHw := rfl
@[simp] theorem modCru_twt (f : Cru → Cru) (s : State) : (modCru f s).twt = s.twt := rfl
@[simp] theorem modCru_twc (f : Cru → Cru) (s : State) : (modCru f s).twc = s.twc := rfl
@[simp] theorem modCru_otp (f : Cru → Cru) (s : State) : (modCru f s).otp = s.otp := rfl
@[simp] theorem modCru_shadow (f : Cru → Cru) (s : State) : (modCru f s).shadow = s.shadow := rfl
@[simp] theorem modCru_flash (f : Cru → Cru) (s : State) : (modCru f s).flash = s.flash := rfl
@[simp] theorem modCru_upd (f : Cru → Cru) (s : State) : (modCru f s).upd = s.upd := rfl
@[simp] theorem modCru_loader (f : Cru → Cru) (s : State) : (modCru f s).loader = s.loader := rfl
@[simp] theorem modCru_kept (f : Cru → Cru) (s : State) : (modCru f s).kept = s.kept := rfl
@[simp] theorem modCru_board (f : Cru → Cru) (s : State) : (modCru f s).board = s.board := rfl

@[simp] theorem modCru_cru (f : Cru → Cru) (s : State) : (modCru f s).cru = f s.cru := rfl

/-! ## modTwt: the management target -/

@[simp] theorem modTwt_pending (f : Twt → Twt) (s : State) : (modTwt f s).pending = s.pending := rfl
@[simp] theorem modTwt_time (f : Twt → Twt) (s : State) : (modTwt f s).time = s.time := rfl
@[simp] theorem modTwt_free (f : Twt → Twt) (s : State) : (modTwt f s).free = s.free := rfl
@[simp] theorem modTwt_ports (f : Twt → Twt) (s : State) : (modTwt f s).ports = s.ports := rfl
@[simp] theorem modTwt_cad (f : Twt → Twt) (s : State) : (modTwt f s).cad = s.cad := rfl
@[simp] theorem modTwt_cadp (f : Twt → Twt) (s : State) : (modTwt f s).cadp = s.cadp := rfl
@[simp] theorem modTwt_feeds (f : Twt → Twt) (s : State) : (modTwt f s).feeds = s.feeds := rfl
@[simp] theorem modTwt_host (f : Twt → Twt) (s : State) : (modTwt f s).host = s.host := rfl
@[simp] theorem modTwt_engines (f : Twt → Twt) (s : State) : (modTwt f s).engines = s.engines := rfl
@[simp] theorem modTwt_cores (f : Twt → Twt) (s : State) : (modTwt f s).cores = s.cores := rfl
@[simp] theorem modTwt_sram (f : Twt → Twt) (s : State) : (modTwt f s).sram = s.sram := rfl
@[simp] theorem modTwt_saf (f : Twt → Twt) (s : State) : (modTwt f s).saf = s.saf := rfl
@[simp] theorem modTwt_diag (f : Twt → Twt) (s : State) : (modTwt f s).diag = s.diag := rfl
@[simp] theorem modTwt_wdg (f : Twt → Twt) (s : State) : (modTwt f s).wdg = s.wdg := rfl
@[simp] theorem modTwt_tel (f : Twt → Twt) (s : State) : (modTwt f s).tel = s.tel := rfl
@[simp] theorem modTwt_codec (f : Twt → Twt) (s : State) : (modTwt f s).codec = s.codec := rfl
@[simp] theorem modTwt_cru (f : Twt → Twt) (s : State) : (modTwt f s).cru = s.cru := rfl
@[simp] theorem modTwt_rst (f : Twt → Twt) (s : State) : (modTwt f s).rst = s.rst := rfl
@[simp] theorem modTwt_boot (f : Twt → Twt) (s : State) : (modTwt f s).boot = s.boot := rfl
@[simp] theorem modTwt_tmr (f : Twt → Twt) (s : State) : (modTwt f s).tmr = s.tmr := rfl
@[simp] theorem modTwt_tmrHw (f : Twt → Twt) (s : State) : (modTwt f s).tmrHw = s.tmrHw := rfl
@[simp] theorem modTwt_twc (f : Twt → Twt) (s : State) : (modTwt f s).twc = s.twc := rfl
@[simp] theorem modTwt_otp (f : Twt → Twt) (s : State) : (modTwt f s).otp = s.otp := rfl
@[simp] theorem modTwt_shadow (f : Twt → Twt) (s : State) : (modTwt f s).shadow = s.shadow := rfl
@[simp] theorem modTwt_flash (f : Twt → Twt) (s : State) : (modTwt f s).flash = s.flash := rfl
@[simp] theorem modTwt_upd (f : Twt → Twt) (s : State) : (modTwt f s).upd = s.upd := rfl
@[simp] theorem modTwt_loader (f : Twt → Twt) (s : State) : (modTwt f s).loader = s.loader := rfl
@[simp] theorem modTwt_kept (f : Twt → Twt) (s : State) : (modTwt f s).kept = s.kept := rfl
@[simp] theorem modTwt_board (f : Twt → Twt) (s : State) : (modTwt f s).board = s.board := rfl

@[simp] theorem modTwt_twt (f : Twt → Twt) (s : State) : (modTwt f s).twt = f s.twt := rfl

/-! ## modTwc: one two-wire controller -/

@[simp] theorem modTwc_pending (b : Fin 2) (f : Twc → Twc) (s : State) : (modTwc b f s).pending = s.pending := rfl
@[simp] theorem modTwc_time (b : Fin 2) (f : Twc → Twc) (s : State) : (modTwc b f s).time = s.time := rfl
@[simp] theorem modTwc_free (b : Fin 2) (f : Twc → Twc) (s : State) : (modTwc b f s).free = s.free := rfl
@[simp] theorem modTwc_ports (b : Fin 2) (f : Twc → Twc) (s : State) : (modTwc b f s).ports = s.ports := rfl
@[simp] theorem modTwc_cad (b : Fin 2) (f : Twc → Twc) (s : State) : (modTwc b f s).cad = s.cad := rfl
@[simp] theorem modTwc_cadp (b : Fin 2) (f : Twc → Twc) (s : State) : (modTwc b f s).cadp = s.cadp := rfl
@[simp] theorem modTwc_feeds (b : Fin 2) (f : Twc → Twc) (s : State) : (modTwc b f s).feeds = s.feeds := rfl
@[simp] theorem modTwc_host (b : Fin 2) (f : Twc → Twc) (s : State) : (modTwc b f s).host = s.host := rfl
@[simp] theorem modTwc_engines (b : Fin 2) (f : Twc → Twc) (s : State) : (modTwc b f s).engines = s.engines := rfl
@[simp] theorem modTwc_cores (b : Fin 2) (f : Twc → Twc) (s : State) : (modTwc b f s).cores = s.cores := rfl
@[simp] theorem modTwc_sram (b : Fin 2) (f : Twc → Twc) (s : State) : (modTwc b f s).sram = s.sram := rfl
@[simp] theorem modTwc_saf (b : Fin 2) (f : Twc → Twc) (s : State) : (modTwc b f s).saf = s.saf := rfl
@[simp] theorem modTwc_diag (b : Fin 2) (f : Twc → Twc) (s : State) : (modTwc b f s).diag = s.diag := rfl
@[simp] theorem modTwc_wdg (b : Fin 2) (f : Twc → Twc) (s : State) : (modTwc b f s).wdg = s.wdg := rfl
@[simp] theorem modTwc_tel (b : Fin 2) (f : Twc → Twc) (s : State) : (modTwc b f s).tel = s.tel := rfl
@[simp] theorem modTwc_codec (b : Fin 2) (f : Twc → Twc) (s : State) : (modTwc b f s).codec = s.codec := rfl
@[simp] theorem modTwc_cru (b : Fin 2) (f : Twc → Twc) (s : State) : (modTwc b f s).cru = s.cru := rfl
@[simp] theorem modTwc_rst (b : Fin 2) (f : Twc → Twc) (s : State) : (modTwc b f s).rst = s.rst := rfl
@[simp] theorem modTwc_boot (b : Fin 2) (f : Twc → Twc) (s : State) : (modTwc b f s).boot = s.boot := rfl
@[simp] theorem modTwc_tmr (b : Fin 2) (f : Twc → Twc) (s : State) : (modTwc b f s).tmr = s.tmr := rfl
@[simp] theorem modTwc_tmrHw (b : Fin 2) (f : Twc → Twc) (s : State) : (modTwc b f s).tmrHw = s.tmrHw := rfl
@[simp] theorem modTwc_twt (b : Fin 2) (f : Twc → Twc) (s : State) : (modTwc b f s).twt = s.twt := rfl
@[simp] theorem modTwc_otp (b : Fin 2) (f : Twc → Twc) (s : State) : (modTwc b f s).otp = s.otp := rfl
@[simp] theorem modTwc_shadow (b : Fin 2) (f : Twc → Twc) (s : State) : (modTwc b f s).shadow = s.shadow := rfl
@[simp] theorem modTwc_flash (b : Fin 2) (f : Twc → Twc) (s : State) : (modTwc b f s).flash = s.flash := rfl
@[simp] theorem modTwc_upd (b : Fin 2) (f : Twc → Twc) (s : State) : (modTwc b f s).upd = s.upd := rfl
@[simp] theorem modTwc_loader (b : Fin 2) (f : Twc → Twc) (s : State) : (modTwc b f s).loader = s.loader := rfl
@[simp] theorem modTwc_kept (b : Fin 2) (f : Twc → Twc) (s : State) : (modTwc b f s).kept = s.kept := rfl
@[simp] theorem modTwc_board (b : Fin 2) (f : Twc → Twc) (s : State) : (modTwc b f s).board = s.board := rfl

@[simp] theorem modTwc_self (b : Fin 2) (f : Twc → Twc) (s : State) :
    (modTwc b f s).twc[b.val] = f s.twc[b] := by simp [modTwc]

theorem modTwc_other (b : Fin 2) (f : Twc → Twc) (s : State) (x : Fin 2) (h : x ≠ b) :
    (modTwc b f s).twc[x] = s.twc[x] := by
  have : b.val ≠ x.val := fun e => h (Fin.ext e.symm)
  simp [modTwc, this]

/-! ## modWdg: the watchdog registers -/

@[simp] theorem modWdg_pending (f : WdgRegs → WdgRegs) (s : State) : (modWdg f s).pending = s.pending := rfl
@[simp] theorem modWdg_time (f : WdgRegs → WdgRegs) (s : State) : (modWdg f s).time = s.time := rfl
@[simp] theorem modWdg_free (f : WdgRegs → WdgRegs) (s : State) : (modWdg f s).free = s.free := rfl
@[simp] theorem modWdg_ports (f : WdgRegs → WdgRegs) (s : State) : (modWdg f s).ports = s.ports := rfl
@[simp] theorem modWdg_cad (f : WdgRegs → WdgRegs) (s : State) : (modWdg f s).cad = s.cad := rfl
@[simp] theorem modWdg_cadp (f : WdgRegs → WdgRegs) (s : State) : (modWdg f s).cadp = s.cadp := rfl
@[simp] theorem modWdg_feeds (f : WdgRegs → WdgRegs) (s : State) : (modWdg f s).feeds = s.feeds := rfl
@[simp] theorem modWdg_host (f : WdgRegs → WdgRegs) (s : State) : (modWdg f s).host = s.host := rfl
@[simp] theorem modWdg_engines (f : WdgRegs → WdgRegs) (s : State) : (modWdg f s).engines = s.engines := rfl
@[simp] theorem modWdg_cores (f : WdgRegs → WdgRegs) (s : State) : (modWdg f s).cores = s.cores := rfl
@[simp] theorem modWdg_sram (f : WdgRegs → WdgRegs) (s : State) : (modWdg f s).sram = s.sram := rfl
@[simp] theorem modWdg_saf (f : WdgRegs → WdgRegs) (s : State) : (modWdg f s).saf = s.saf := rfl
@[simp] theorem modWdg_diag (f : WdgRegs → WdgRegs) (s : State) : (modWdg f s).diag = s.diag := rfl
@[simp] theorem modWdg_tel (f : WdgRegs → WdgRegs) (s : State) : (modWdg f s).tel = s.tel := rfl
@[simp] theorem modWdg_codec (f : WdgRegs → WdgRegs) (s : State) : (modWdg f s).codec = s.codec := rfl
@[simp] theorem modWdg_cru (f : WdgRegs → WdgRegs) (s : State) : (modWdg f s).cru = s.cru := rfl
@[simp] theorem modWdg_rst (f : WdgRegs → WdgRegs) (s : State) : (modWdg f s).rst = s.rst := rfl
@[simp] theorem modWdg_boot (f : WdgRegs → WdgRegs) (s : State) : (modWdg f s).boot = s.boot := rfl
@[simp] theorem modWdg_tmr (f : WdgRegs → WdgRegs) (s : State) : (modWdg f s).tmr = s.tmr := rfl
@[simp] theorem modWdg_tmrHw (f : WdgRegs → WdgRegs) (s : State) : (modWdg f s).tmrHw = s.tmrHw := rfl
@[simp] theorem modWdg_twt (f : WdgRegs → WdgRegs) (s : State) : (modWdg f s).twt = s.twt := rfl
@[simp] theorem modWdg_twc (f : WdgRegs → WdgRegs) (s : State) : (modWdg f s).twc = s.twc := rfl
@[simp] theorem modWdg_otp (f : WdgRegs → WdgRegs) (s : State) : (modWdg f s).otp = s.otp := rfl
@[simp] theorem modWdg_shadow (f : WdgRegs → WdgRegs) (s : State) : (modWdg f s).shadow = s.shadow := rfl
@[simp] theorem modWdg_flash (f : WdgRegs → WdgRegs) (s : State) : (modWdg f s).flash = s.flash := rfl
@[simp] theorem modWdg_upd (f : WdgRegs → WdgRegs) (s : State) : (modWdg f s).upd = s.upd := rfl
@[simp] theorem modWdg_loader (f : WdgRegs → WdgRegs) (s : State) : (modWdg f s).loader = s.loader := rfl
@[simp] theorem modWdg_kept (f : WdgRegs → WdgRegs) (s : State) : (modWdg f s).kept = s.kept := rfl
@[simp] theorem modWdg_board (f : WdgRegs → WdgRegs) (s : State) : (modWdg f s).board = s.board := rfl

@[simp] theorem modWdg_wdg_regs (f : WdgRegs → WdgRegs) (s : State) : (modWdg f s).wdg.regs = f s.wdg.regs := rfl

/-! ## modFlc: the flash controller registers -/

@[simp] theorem modFlc_pending (f : FlcRegs → FlcRegs) (s : State) : (modFlc f s).pending = s.pending := rfl
@[simp] theorem modFlc_time (f : FlcRegs → FlcRegs) (s : State) : (modFlc f s).time = s.time := rfl
@[simp] theorem modFlc_free (f : FlcRegs → FlcRegs) (s : State) : (modFlc f s).free = s.free := rfl
@[simp] theorem modFlc_ports (f : FlcRegs → FlcRegs) (s : State) : (modFlc f s).ports = s.ports := rfl
@[simp] theorem modFlc_cad (f : FlcRegs → FlcRegs) (s : State) : (modFlc f s).cad = s.cad := rfl
@[simp] theorem modFlc_cadp (f : FlcRegs → FlcRegs) (s : State) : (modFlc f s).cadp = s.cadp := rfl
@[simp] theorem modFlc_feeds (f : FlcRegs → FlcRegs) (s : State) : (modFlc f s).feeds = s.feeds := rfl
@[simp] theorem modFlc_host (f : FlcRegs → FlcRegs) (s : State) : (modFlc f s).host = s.host := rfl
@[simp] theorem modFlc_engines (f : FlcRegs → FlcRegs) (s : State) : (modFlc f s).engines = s.engines := rfl
@[simp] theorem modFlc_cores (f : FlcRegs → FlcRegs) (s : State) : (modFlc f s).cores = s.cores := rfl
@[simp] theorem modFlc_sram (f : FlcRegs → FlcRegs) (s : State) : (modFlc f s).sram = s.sram := rfl
@[simp] theorem modFlc_saf (f : FlcRegs → FlcRegs) (s : State) : (modFlc f s).saf = s.saf := rfl
@[simp] theorem modFlc_diag (f : FlcRegs → FlcRegs) (s : State) : (modFlc f s).diag = s.diag := rfl
@[simp] theorem modFlc_wdg (f : FlcRegs → FlcRegs) (s : State) : (modFlc f s).wdg = s.wdg := rfl
@[simp] theorem modFlc_tel (f : FlcRegs → FlcRegs) (s : State) : (modFlc f s).tel = s.tel := rfl
@[simp] theorem modFlc_codec (f : FlcRegs → FlcRegs) (s : State) : (modFlc f s).codec = s.codec := rfl
@[simp] theorem modFlc_cru (f : FlcRegs → FlcRegs) (s : State) : (modFlc f s).cru = s.cru := rfl
@[simp] theorem modFlc_rst (f : FlcRegs → FlcRegs) (s : State) : (modFlc f s).rst = s.rst := rfl
@[simp] theorem modFlc_boot (f : FlcRegs → FlcRegs) (s : State) : (modFlc f s).boot = s.boot := rfl
@[simp] theorem modFlc_tmr (f : FlcRegs → FlcRegs) (s : State) : (modFlc f s).tmr = s.tmr := rfl
@[simp] theorem modFlc_tmrHw (f : FlcRegs → FlcRegs) (s : State) : (modFlc f s).tmrHw = s.tmrHw := rfl
@[simp] theorem modFlc_twt (f : FlcRegs → FlcRegs) (s : State) : (modFlc f s).twt = s.twt := rfl
@[simp] theorem modFlc_twc (f : FlcRegs → FlcRegs) (s : State) : (modFlc f s).twc = s.twc := rfl
@[simp] theorem modFlc_otp (f : FlcRegs → FlcRegs) (s : State) : (modFlc f s).otp = s.otp := rfl
@[simp] theorem modFlc_shadow (f : FlcRegs → FlcRegs) (s : State) : (modFlc f s).shadow = s.shadow := rfl
@[simp] theorem modFlc_upd (f : FlcRegs → FlcRegs) (s : State) : (modFlc f s).upd = s.upd := rfl
@[simp] theorem modFlc_loader (f : FlcRegs → FlcRegs) (s : State) : (modFlc f s).loader = s.loader := rfl
@[simp] theorem modFlc_kept (f : FlcRegs → FlcRegs) (s : State) : (modFlc f s).kept = s.kept := rfl
@[simp] theorem modFlc_board (f : FlcRegs → FlcRegs) (s : State) : (modFlc f s).board = s.board := rfl

@[simp] theorem modFlc_flash_regs (f : FlcRegs → FlcRegs) (s : State) : (modFlc f s).flash.regs = f s.flash.regs := rfl
@[simp] theorem modFlc_flash_cells (f : FlcRegs → FlcRegs) (s : State) : (modFlc f s).flash.cells = s.flash.cells := rfl

/-! ## modOtp: the OTP controller registers -/

@[simp] theorem modOtp_pending (f : OtpRegs → OtpRegs) (s : State) : (modOtp f s).pending = s.pending := rfl
@[simp] theorem modOtp_time (f : OtpRegs → OtpRegs) (s : State) : (modOtp f s).time = s.time := rfl
@[simp] theorem modOtp_free (f : OtpRegs → OtpRegs) (s : State) : (modOtp f s).free = s.free := rfl
@[simp] theorem modOtp_ports (f : OtpRegs → OtpRegs) (s : State) : (modOtp f s).ports = s.ports := rfl
@[simp] theorem modOtp_cad (f : OtpRegs → OtpRegs) (s : State) : (modOtp f s).cad = s.cad := rfl
@[simp] theorem modOtp_cadp (f : OtpRegs → OtpRegs) (s : State) : (modOtp f s).cadp = s.cadp := rfl
@[simp] theorem modOtp_feeds (f : OtpRegs → OtpRegs) (s : State) : (modOtp f s).feeds = s.feeds := rfl
@[simp] theorem modOtp_host (f : OtpRegs → OtpRegs) (s : State) : (modOtp f s).host = s.host := rfl
@[simp] theorem modOtp_engines (f : OtpRegs → OtpRegs) (s : State) : (modOtp f s).engines = s.engines := rfl
@[simp] theorem modOtp_cores (f : OtpRegs → OtpRegs) (s : State) : (modOtp f s).cores = s.cores := rfl
@[simp] theorem modOtp_sram (f : OtpRegs → OtpRegs) (s : State) : (modOtp f s).sram = s.sram := rfl
@[simp] theorem modOtp_saf (f : OtpRegs → OtpRegs) (s : State) : (modOtp f s).saf = s.saf := rfl
@[simp] theorem modOtp_diag (f : OtpRegs → OtpRegs) (s : State) : (modOtp f s).diag = s.diag := rfl
@[simp] theorem modOtp_wdg (f : OtpRegs → OtpRegs) (s : State) : (modOtp f s).wdg = s.wdg := rfl
@[simp] theorem modOtp_tel (f : OtpRegs → OtpRegs) (s : State) : (modOtp f s).tel = s.tel := rfl
@[simp] theorem modOtp_codec (f : OtpRegs → OtpRegs) (s : State) : (modOtp f s).codec = s.codec := rfl
@[simp] theorem modOtp_cru (f : OtpRegs → OtpRegs) (s : State) : (modOtp f s).cru = s.cru := rfl
@[simp] theorem modOtp_rst (f : OtpRegs → OtpRegs) (s : State) : (modOtp f s).rst = s.rst := rfl
@[simp] theorem modOtp_boot (f : OtpRegs → OtpRegs) (s : State) : (modOtp f s).boot = s.boot := rfl
@[simp] theorem modOtp_tmr (f : OtpRegs → OtpRegs) (s : State) : (modOtp f s).tmr = s.tmr := rfl
@[simp] theorem modOtp_tmrHw (f : OtpRegs → OtpRegs) (s : State) : (modOtp f s).tmrHw = s.tmrHw := rfl
@[simp] theorem modOtp_twt (f : OtpRegs → OtpRegs) (s : State) : (modOtp f s).twt = s.twt := rfl
@[simp] theorem modOtp_twc (f : OtpRegs → OtpRegs) (s : State) : (modOtp f s).twc = s.twc := rfl
@[simp] theorem modOtp_shadow (f : OtpRegs → OtpRegs) (s : State) : (modOtp f s).shadow = s.shadow := rfl
@[simp] theorem modOtp_flash (f : OtpRegs → OtpRegs) (s : State) : (modOtp f s).flash = s.flash := rfl
@[simp] theorem modOtp_upd (f : OtpRegs → OtpRegs) (s : State) : (modOtp f s).upd = s.upd := rfl
@[simp] theorem modOtp_loader (f : OtpRegs → OtpRegs) (s : State) : (modOtp f s).loader = s.loader := rfl
@[simp] theorem modOtp_kept (f : OtpRegs → OtpRegs) (s : State) : (modOtp f s).kept = s.kept := rfl
@[simp] theorem modOtp_board (f : OtpRegs → OtpRegs) (s : State) : (modOtp f s).board = s.board := rfl

@[simp] theorem modOtp_otp_regs (f : OtpRegs → OtpRegs) (s : State) : (modOtp f s).otp.regs = f s.otp.regs := rfl
@[simp] theorem modOtp_otp_words (f : OtpRegs → OtpRegs) (s : State) : (modOtp f s).otp.words = s.otp.words := rfl

/-! ## modFed: the feed registers -/

@[simp] theorem modFed_pending (f : FeedRegs → FeedRegs) (s : State) : (modFed f s).pending = s.pending := rfl
@[simp] theorem modFed_time (f : FeedRegs → FeedRegs) (s : State) : (modFed f s).time = s.time := rfl
@[simp] theorem modFed_free (f : FeedRegs → FeedRegs) (s : State) : (modFed f s).free = s.free := rfl
@[simp] theorem modFed_ports (f : FeedRegs → FeedRegs) (s : State) : (modFed f s).ports = s.ports := rfl
@[simp] theorem modFed_cad (f : FeedRegs → FeedRegs) (s : State) : (modFed f s).cad = s.cad := rfl
@[simp] theorem modFed_cadp (f : FeedRegs → FeedRegs) (s : State) : (modFed f s).cadp = s.cadp := rfl
@[simp] theorem modFed_host (f : FeedRegs → FeedRegs) (s : State) : (modFed f s).host = s.host := rfl
@[simp] theorem modFed_engines (f : FeedRegs → FeedRegs) (s : State) : (modFed f s).engines = s.engines := rfl
@[simp] theorem modFed_cores (f : FeedRegs → FeedRegs) (s : State) : (modFed f s).cores = s.cores := rfl
@[simp] theorem modFed_sram (f : FeedRegs → FeedRegs) (s : State) : (modFed f s).sram = s.sram := rfl
@[simp] theorem modFed_saf (f : FeedRegs → FeedRegs) (s : State) : (modFed f s).saf = s.saf := rfl
@[simp] theorem modFed_diag (f : FeedRegs → FeedRegs) (s : State) : (modFed f s).diag = s.diag := rfl
@[simp] theorem modFed_wdg (f : FeedRegs → FeedRegs) (s : State) : (modFed f s).wdg = s.wdg := rfl
@[simp] theorem modFed_tel (f : FeedRegs → FeedRegs) (s : State) : (modFed f s).tel = s.tel := rfl
@[simp] theorem modFed_codec (f : FeedRegs → FeedRegs) (s : State) : (modFed f s).codec = s.codec := rfl
@[simp] theorem modFed_cru (f : FeedRegs → FeedRegs) (s : State) : (modFed f s).cru = s.cru := rfl
@[simp] theorem modFed_rst (f : FeedRegs → FeedRegs) (s : State) : (modFed f s).rst = s.rst := rfl
@[simp] theorem modFed_boot (f : FeedRegs → FeedRegs) (s : State) : (modFed f s).boot = s.boot := rfl
@[simp] theorem modFed_tmr (f : FeedRegs → FeedRegs) (s : State) : (modFed f s).tmr = s.tmr := rfl
@[simp] theorem modFed_tmrHw (f : FeedRegs → FeedRegs) (s : State) : (modFed f s).tmrHw = s.tmrHw := rfl
@[simp] theorem modFed_twt (f : FeedRegs → FeedRegs) (s : State) : (modFed f s).twt = s.twt := rfl
@[simp] theorem modFed_twc (f : FeedRegs → FeedRegs) (s : State) : (modFed f s).twc = s.twc := rfl
@[simp] theorem modFed_otp (f : FeedRegs → FeedRegs) (s : State) : (modFed f s).otp = s.otp := rfl
@[simp] theorem modFed_shadow (f : FeedRegs → FeedRegs) (s : State) : (modFed f s).shadow = s.shadow := rfl
@[simp] theorem modFed_flash (f : FeedRegs → FeedRegs) (s : State) : (modFed f s).flash = s.flash := rfl
@[simp] theorem modFed_upd (f : FeedRegs → FeedRegs) (s : State) : (modFed f s).upd = s.upd := rfl
@[simp] theorem modFed_loader (f : FeedRegs → FeedRegs) (s : State) : (modFed f s).loader = s.loader := rfl
@[simp] theorem modFed_kept (f : FeedRegs → FeedRegs) (s : State) : (modFed f s).kept = s.kept := rfl
@[simp] theorem modFed_board (f : FeedRegs → FeedRegs) (s : State) : (modFed f s).board = s.board := rfl

@[simp] theorem modFed_feeds_regs (f : FeedRegs → FeedRegs) (s : State) : (modFed f s).feeds.regs = f s.feeds.regs := rfl

/-! ## modDb: the doorbells -/

@[simp] theorem modDb_pending (f : DbRegs → DbRegs) (s : State) : (modDb f s).pending = s.pending := rfl
@[simp] theorem modDb_time (f : DbRegs → DbRegs) (s : State) : (modDb f s).time = s.time := rfl
@[simp] theorem modDb_free (f : DbRegs → DbRegs) (s : State) : (modDb f s).free = s.free := rfl
@[simp] theorem modDb_ports (f : DbRegs → DbRegs) (s : State) : (modDb f s).ports = s.ports := rfl
@[simp] theorem modDb_cad (f : DbRegs → DbRegs) (s : State) : (modDb f s).cad = s.cad := rfl
@[simp] theorem modDb_cadp (f : DbRegs → DbRegs) (s : State) : (modDb f s).cadp = s.cadp := rfl
@[simp] theorem modDb_feeds (f : DbRegs → DbRegs) (s : State) : (modDb f s).feeds = s.feeds := rfl
@[simp] theorem modDb_engines (f : DbRegs → DbRegs) (s : State) : (modDb f s).engines = s.engines := rfl
@[simp] theorem modDb_cores (f : DbRegs → DbRegs) (s : State) : (modDb f s).cores = s.cores := rfl
@[simp] theorem modDb_sram (f : DbRegs → DbRegs) (s : State) : (modDb f s).sram = s.sram := rfl
@[simp] theorem modDb_saf (f : DbRegs → DbRegs) (s : State) : (modDb f s).saf = s.saf := rfl
@[simp] theorem modDb_diag (f : DbRegs → DbRegs) (s : State) : (modDb f s).diag = s.diag := rfl
@[simp] theorem modDb_wdg (f : DbRegs → DbRegs) (s : State) : (modDb f s).wdg = s.wdg := rfl
@[simp] theorem modDb_tel (f : DbRegs → DbRegs) (s : State) : (modDb f s).tel = s.tel := rfl
@[simp] theorem modDb_codec (f : DbRegs → DbRegs) (s : State) : (modDb f s).codec = s.codec := rfl
@[simp] theorem modDb_cru (f : DbRegs → DbRegs) (s : State) : (modDb f s).cru = s.cru := rfl
@[simp] theorem modDb_rst (f : DbRegs → DbRegs) (s : State) : (modDb f s).rst = s.rst := rfl
@[simp] theorem modDb_boot (f : DbRegs → DbRegs) (s : State) : (modDb f s).boot = s.boot := rfl
@[simp] theorem modDb_tmr (f : DbRegs → DbRegs) (s : State) : (modDb f s).tmr = s.tmr := rfl
@[simp] theorem modDb_tmrHw (f : DbRegs → DbRegs) (s : State) : (modDb f s).tmrHw = s.tmrHw := rfl
@[simp] theorem modDb_twt (f : DbRegs → DbRegs) (s : State) : (modDb f s).twt = s.twt := rfl
@[simp] theorem modDb_twc (f : DbRegs → DbRegs) (s : State) : (modDb f s).twc = s.twc := rfl
@[simp] theorem modDb_otp (f : DbRegs → DbRegs) (s : State) : (modDb f s).otp = s.otp := rfl
@[simp] theorem modDb_shadow (f : DbRegs → DbRegs) (s : State) : (modDb f s).shadow = s.shadow := rfl
@[simp] theorem modDb_flash (f : DbRegs → DbRegs) (s : State) : (modDb f s).flash = s.flash := rfl
@[simp] theorem modDb_upd (f : DbRegs → DbRegs) (s : State) : (modDb f s).upd = s.upd := rfl
@[simp] theorem modDb_loader (f : DbRegs → DbRegs) (s : State) : (modDb f s).loader = s.loader := rfl
@[simp] theorem modDb_kept (f : DbRegs → DbRegs) (s : State) : (modDb f s).kept = s.kept := rfl
@[simp] theorem modDb_board (f : DbRegs → DbRegs) (s : State) : (modDb f s).board = s.board := rfl

@[simp] theorem modDb_host_db (f : DbRegs → DbRegs) (s : State) : (modDb f s).host.db = f s.host.db := rfl
@[simp] theorem modDb_host_window (f : DbRegs → DbRegs) (s : State) : (modDb f s).host.window = s.host.window := rfl

/-! ## modChan: one telemetry channel -/

@[simp] theorem modChan_pending (ch : Fin 297) (f : Chan → Chan) (s : State) : (modChan ch f s).pending = s.pending := rfl
@[simp] theorem modChan_time (ch : Fin 297) (f : Chan → Chan) (s : State) : (modChan ch f s).time = s.time := rfl
@[simp] theorem modChan_free (ch : Fin 297) (f : Chan → Chan) (s : State) : (modChan ch f s).free = s.free := rfl
@[simp] theorem modChan_ports (ch : Fin 297) (f : Chan → Chan) (s : State) : (modChan ch f s).ports = s.ports := rfl
@[simp] theorem modChan_cad (ch : Fin 297) (f : Chan → Chan) (s : State) : (modChan ch f s).cad = s.cad := rfl
@[simp] theorem modChan_cadp (ch : Fin 297) (f : Chan → Chan) (s : State) : (modChan ch f s).cadp = s.cadp := rfl
@[simp] theorem modChan_feeds (ch : Fin 297) (f : Chan → Chan) (s : State) : (modChan ch f s).feeds = s.feeds := rfl
@[simp] theorem modChan_host (ch : Fin 297) (f : Chan → Chan) (s : State) : (modChan ch f s).host = s.host := rfl
@[simp] theorem modChan_engines (ch : Fin 297) (f : Chan → Chan) (s : State) : (modChan ch f s).engines = s.engines := rfl
@[simp] theorem modChan_cores (ch : Fin 297) (f : Chan → Chan) (s : State) : (modChan ch f s).cores = s.cores := rfl
@[simp] theorem modChan_sram (ch : Fin 297) (f : Chan → Chan) (s : State) : (modChan ch f s).sram = s.sram := rfl
@[simp] theorem modChan_saf (ch : Fin 297) (f : Chan → Chan) (s : State) : (modChan ch f s).saf = s.saf := rfl
@[simp] theorem modChan_diag (ch : Fin 297) (f : Chan → Chan) (s : State) : (modChan ch f s).diag = s.diag := rfl
@[simp] theorem modChan_wdg (ch : Fin 297) (f : Chan → Chan) (s : State) : (modChan ch f s).wdg = s.wdg := rfl
@[simp] theorem modChan_tel (ch : Fin 297) (f : Chan → Chan) (s : State) : (modChan ch f s).tel = s.tel := rfl
@[simp] theorem modChan_cru (ch : Fin 297) (f : Chan → Chan) (s : State) : (modChan ch f s).cru = s.cru := rfl
@[simp] theorem modChan_rst (ch : Fin 297) (f : Chan → Chan) (s : State) : (modChan ch f s).rst = s.rst := rfl
@[simp] theorem modChan_boot (ch : Fin 297) (f : Chan → Chan) (s : State) : (modChan ch f s).boot = s.boot := rfl
@[simp] theorem modChan_tmr (ch : Fin 297) (f : Chan → Chan) (s : State) : (modChan ch f s).tmr = s.tmr := rfl
@[simp] theorem modChan_tmrHw (ch : Fin 297) (f : Chan → Chan) (s : State) : (modChan ch f s).tmrHw = s.tmrHw := rfl
@[simp] theorem modChan_twt (ch : Fin 297) (f : Chan → Chan) (s : State) : (modChan ch f s).twt = s.twt := rfl
@[simp] theorem modChan_twc (ch : Fin 297) (f : Chan → Chan) (s : State) : (modChan ch f s).twc = s.twc := rfl
@[simp] theorem modChan_otp (ch : Fin 297) (f : Chan → Chan) (s : State) : (modChan ch f s).otp = s.otp := rfl
@[simp] theorem modChan_shadow (ch : Fin 297) (f : Chan → Chan) (s : State) : (modChan ch f s).shadow = s.shadow := rfl
@[simp] theorem modChan_flash (ch : Fin 297) (f : Chan → Chan) (s : State) : (modChan ch f s).flash = s.flash := rfl
@[simp] theorem modChan_upd (ch : Fin 297) (f : Chan → Chan) (s : State) : (modChan ch f s).upd = s.upd := rfl
@[simp] theorem modChan_loader (ch : Fin 297) (f : Chan → Chan) (s : State) : (modChan ch f s).loader = s.loader := rfl
@[simp] theorem modChan_kept (ch : Fin 297) (f : Chan → Chan) (s : State) : (modChan ch f s).kept = s.kept := rfl
@[simp] theorem modChan_board (ch : Fin 297) (f : Chan → Chan) (s : State) : (modChan ch f s).board = s.board := rfl

@[simp] theorem modChan_self (ch : Fin 297) (f : Chan → Chan) (s : State) :
    (modChan ch f s).codec.chans[ch.val] = f s.codec.chans[ch] := by simp [modChan]

theorem modChan_other (ch : Fin 297) (f : Chan → Chan) (s : State) (x : Fin 297) (h : x ≠ ch) :
    (modChan ch f s).codec.chans[x] = s.codec.chans[x] := by
  have : ch.val ≠ x.val := fun e => h (Fin.ext e.symm)
  simp [modChan, this]

/-! ## modSafStat: SAF_STAT -/

@[simp] theorem modSafStat_pending (f : Word → Word) (s : State) : (modSafStat f s).pending = s.pending := rfl
@[simp] theorem modSafStat_time (f : Word → Word) (s : State) : (modSafStat f s).time = s.time := rfl
@[simp] theorem modSafStat_free (f : Word → Word) (s : State) : (modSafStat f s).free = s.free := rfl
@[simp] theorem modSafStat_ports (f : Word → Word) (s : State) : (modSafStat f s).ports = s.ports := rfl
@[simp] theorem modSafStat_cad (f : Word → Word) (s : State) : (modSafStat f s).cad = s.cad := rfl
@[simp] theorem modSafStat_cadp (f : Word → Word) (s : State) : (modSafStat f s).cadp = s.cadp := rfl
@[simp] theorem modSafStat_feeds (f : Word → Word) (s : State) : (modSafStat f s).feeds = s.feeds := rfl
@[simp] theorem modSafStat_host (f : Word → Word) (s : State) : (modSafStat f s).host = s.host := rfl
@[simp] theorem modSafStat_engines (f : Word → Word) (s : State) : (modSafStat f s).engines = s.engines := rfl
@[simp] theorem modSafStat_cores (f : Word → Word) (s : State) : (modSafStat f s).cores = s.cores := rfl
@[simp] theorem modSafStat_sram (f : Word → Word) (s : State) : (modSafStat f s).sram = s.sram := rfl
@[simp] theorem modSafStat_diag (f : Word → Word) (s : State) : (modSafStat f s).diag = s.diag := rfl
@[simp] theorem modSafStat_wdg (f : Word → Word) (s : State) : (modSafStat f s).wdg = s.wdg := rfl
@[simp] theorem modSafStat_tel (f : Word → Word) (s : State) : (modSafStat f s).tel = s.tel := rfl
@[simp] theorem modSafStat_codec (f : Word → Word) (s : State) : (modSafStat f s).codec = s.codec := rfl
@[simp] theorem modSafStat_cru (f : Word → Word) (s : State) : (modSafStat f s).cru = s.cru := rfl
@[simp] theorem modSafStat_rst (f : Word → Word) (s : State) : (modSafStat f s).rst = s.rst := rfl
@[simp] theorem modSafStat_boot (f : Word → Word) (s : State) : (modSafStat f s).boot = s.boot := rfl
@[simp] theorem modSafStat_tmr (f : Word → Word) (s : State) : (modSafStat f s).tmr = s.tmr := rfl
@[simp] theorem modSafStat_tmrHw (f : Word → Word) (s : State) : (modSafStat f s).tmrHw = s.tmrHw := rfl
@[simp] theorem modSafStat_twt (f : Word → Word) (s : State) : (modSafStat f s).twt = s.twt := rfl
@[simp] theorem modSafStat_twc (f : Word → Word) (s : State) : (modSafStat f s).twc = s.twc := rfl
@[simp] theorem modSafStat_otp (f : Word → Word) (s : State) : (modSafStat f s).otp = s.otp := rfl
@[simp] theorem modSafStat_shadow (f : Word → Word) (s : State) : (modSafStat f s).shadow = s.shadow := rfl
@[simp] theorem modSafStat_flash (f : Word → Word) (s : State) : (modSafStat f s).flash = s.flash := rfl
@[simp] theorem modSafStat_upd (f : Word → Word) (s : State) : (modSafStat f s).upd = s.upd := rfl
@[simp] theorem modSafStat_loader (f : Word → Word) (s : State) : (modSafStat f s).loader = s.loader := rfl
@[simp] theorem modSafStat_kept (f : Word → Word) (s : State) : (modSafStat f s).kept = s.kept := rfl
@[simp] theorem modSafStat_board (f : Word → Word) (s : State) : (modSafStat f s).board = s.board := rfl

@[simp] theorem modSafStat_saf_stat (f : Word → Word) (s : State) : (modSafStat f s).saf.stat = f s.saf.stat := rfl
@[simp] theorem modSafStat_saf_evt (f : Word → Word) (s : State) : (modSafStat f s).saf.evt = s.saf.evt := rfl

/-! ## modCadRegs: the caddy registers -/

@[simp] theorem modCadRegs_pending (f : CadRegs → CadRegs) (s : State) : (modCadRegs f s).pending = s.pending := rfl
@[simp] theorem modCadRegs_time (f : CadRegs → CadRegs) (s : State) : (modCadRegs f s).time = s.time := rfl
@[simp] theorem modCadRegs_free (f : CadRegs → CadRegs) (s : State) : (modCadRegs f s).free = s.free := rfl
@[simp] theorem modCadRegs_ports (f : CadRegs → CadRegs) (s : State) : (modCadRegs f s).ports = s.ports := rfl
@[simp] theorem modCadRegs_cadp (f : CadRegs → CadRegs) (s : State) : (modCadRegs f s).cadp = s.cadp := rfl
@[simp] theorem modCadRegs_feeds (f : CadRegs → CadRegs) (s : State) : (modCadRegs f s).feeds = s.feeds := rfl
@[simp] theorem modCadRegs_host (f : CadRegs → CadRegs) (s : State) : (modCadRegs f s).host = s.host := rfl
@[simp] theorem modCadRegs_engines (f : CadRegs → CadRegs) (s : State) : (modCadRegs f s).engines = s.engines := rfl
@[simp] theorem modCadRegs_cores (f : CadRegs → CadRegs) (s : State) : (modCadRegs f s).cores = s.cores := rfl
@[simp] theorem modCadRegs_sram (f : CadRegs → CadRegs) (s : State) : (modCadRegs f s).sram = s.sram := rfl
@[simp] theorem modCadRegs_saf (f : CadRegs → CadRegs) (s : State) : (modCadRegs f s).saf = s.saf := rfl
@[simp] theorem modCadRegs_diag (f : CadRegs → CadRegs) (s : State) : (modCadRegs f s).diag = s.diag := rfl
@[simp] theorem modCadRegs_wdg (f : CadRegs → CadRegs) (s : State) : (modCadRegs f s).wdg = s.wdg := rfl
@[simp] theorem modCadRegs_tel (f : CadRegs → CadRegs) (s : State) : (modCadRegs f s).tel = s.tel := rfl
@[simp] theorem modCadRegs_codec (f : CadRegs → CadRegs) (s : State) : (modCadRegs f s).codec = s.codec := rfl
@[simp] theorem modCadRegs_cru (f : CadRegs → CadRegs) (s : State) : (modCadRegs f s).cru = s.cru := rfl
@[simp] theorem modCadRegs_rst (f : CadRegs → CadRegs) (s : State) : (modCadRegs f s).rst = s.rst := rfl
@[simp] theorem modCadRegs_boot (f : CadRegs → CadRegs) (s : State) : (modCadRegs f s).boot = s.boot := rfl
@[simp] theorem modCadRegs_tmr (f : CadRegs → CadRegs) (s : State) : (modCadRegs f s).tmr = s.tmr := rfl
@[simp] theorem modCadRegs_tmrHw (f : CadRegs → CadRegs) (s : State) : (modCadRegs f s).tmrHw = s.tmrHw := rfl
@[simp] theorem modCadRegs_twt (f : CadRegs → CadRegs) (s : State) : (modCadRegs f s).twt = s.twt := rfl
@[simp] theorem modCadRegs_twc (f : CadRegs → CadRegs) (s : State) : (modCadRegs f s).twc = s.twc := rfl
@[simp] theorem modCadRegs_otp (f : CadRegs → CadRegs) (s : State) : (modCadRegs f s).otp = s.otp := rfl
@[simp] theorem modCadRegs_shadow (f : CadRegs → CadRegs) (s : State) : (modCadRegs f s).shadow = s.shadow := rfl
@[simp] theorem modCadRegs_flash (f : CadRegs → CadRegs) (s : State) : (modCadRegs f s).flash = s.flash := rfl
@[simp] theorem modCadRegs_upd (f : CadRegs → CadRegs) (s : State) : (modCadRegs f s).upd = s.upd := rfl
@[simp] theorem modCadRegs_loader (f : CadRegs → CadRegs) (s : State) : (modCadRegs f s).loader = s.loader := rfl
@[simp] theorem modCadRegs_kept (f : CadRegs → CadRegs) (s : State) : (modCadRegs f s).kept = s.kept := rfl
@[simp] theorem modCadRegs_board (f : CadRegs → CadRegs) (s : State) : (modCadRegs f s).board = s.board := rfl

@[simp] theorem modCadRegs_cad_regs (f : CadRegs → CadRegs) (s : State) : (modCadRegs f s).cad.regs = f s.cad.regs := rfl
@[simp] theorem modCadRegs_cad_wres (f : CadRegs → CadRegs) (s : State) : (modCadRegs f s).cad.wres = s.cad.wres := rfl

/-! ## modLoader: the loader -/

@[simp] theorem modLoader_pending (f : Loader → Loader) (s : State) : (modLoader f s).pending = s.pending := rfl
@[simp] theorem modLoader_time (f : Loader → Loader) (s : State) : (modLoader f s).time = s.time := rfl
@[simp] theorem modLoader_free (f : Loader → Loader) (s : State) : (modLoader f s).free = s.free := rfl
@[simp] theorem modLoader_ports (f : Loader → Loader) (s : State) : (modLoader f s).ports = s.ports := rfl
@[simp] theorem modLoader_cad (f : Loader → Loader) (s : State) : (modLoader f s).cad = s.cad := rfl
@[simp] theorem modLoader_cadp (f : Loader → Loader) (s : State) : (modLoader f s).cadp = s.cadp := rfl
@[simp] theorem modLoader_feeds (f : Loader → Loader) (s : State) : (modLoader f s).feeds = s.feeds := rfl
@[simp] theorem modLoader_host (f : Loader → Loader) (s : State) : (modLoader f s).host = s.host := rfl
@[simp] theorem modLoader_engines (f : Loader → Loader) (s : State) : (modLoader f s).engines = s.engines := rfl
@[simp] theorem modLoader_cores (f : Loader → Loader) (s : State) : (modLoader f s).cores = s.cores := rfl
@[simp] theorem modLoader_sram (f : Loader → Loader) (s : State) : (modLoader f s).sram = s.sram := rfl
@[simp] theorem modLoader_saf (f : Loader → Loader) (s : State) : (modLoader f s).saf = s.saf := rfl
@[simp] theorem modLoader_diag (f : Loader → Loader) (s : State) : (modLoader f s).diag = s.diag := rfl
@[simp] theorem modLoader_wdg (f : Loader → Loader) (s : State) : (modLoader f s).wdg = s.wdg := rfl
@[simp] theorem modLoader_tel (f : Loader → Loader) (s : State) : (modLoader f s).tel = s.tel := rfl
@[simp] theorem modLoader_codec (f : Loader → Loader) (s : State) : (modLoader f s).codec = s.codec := rfl
@[simp] theorem modLoader_cru (f : Loader → Loader) (s : State) : (modLoader f s).cru = s.cru := rfl
@[simp] theorem modLoader_rst (f : Loader → Loader) (s : State) : (modLoader f s).rst = s.rst := rfl
@[simp] theorem modLoader_boot (f : Loader → Loader) (s : State) : (modLoader f s).boot = s.boot := rfl
@[simp] theorem modLoader_tmr (f : Loader → Loader) (s : State) : (modLoader f s).tmr = s.tmr := rfl
@[simp] theorem modLoader_tmrHw (f : Loader → Loader) (s : State) : (modLoader f s).tmrHw = s.tmrHw := rfl
@[simp] theorem modLoader_twt (f : Loader → Loader) (s : State) : (modLoader f s).twt = s.twt := rfl
@[simp] theorem modLoader_twc (f : Loader → Loader) (s : State) : (modLoader f s).twc = s.twc := rfl
@[simp] theorem modLoader_otp (f : Loader → Loader) (s : State) : (modLoader f s).otp = s.otp := rfl
@[simp] theorem modLoader_shadow (f : Loader → Loader) (s : State) : (modLoader f s).shadow = s.shadow := rfl
@[simp] theorem modLoader_flash (f : Loader → Loader) (s : State) : (modLoader f s).flash = s.flash := rfl
@[simp] theorem modLoader_upd (f : Loader → Loader) (s : State) : (modLoader f s).upd = s.upd := rfl
@[simp] theorem modLoader_kept (f : Loader → Loader) (s : State) : (modLoader f s).kept = s.kept := rfl
@[simp] theorem modLoader_board (f : Loader → Loader) (s : State) : (modLoader f s).board = s.board := rfl

@[simp] theorem modLoader_loader (f : Loader → Loader) (s : State) : (modLoader f s).loader = f s.loader := rfl

/-! ## winWrite: the host window -/

@[simp] theorem winWrite_pending (a : Nat) (l : List Byte) (s : State) : (winWrite a l s).pending = s.pending := rfl
@[simp] theorem winWrite_time (a : Nat) (l : List Byte) (s : State) : (winWrite a l s).time = s.time := rfl
@[simp] theorem winWrite_free (a : Nat) (l : List Byte) (s : State) : (winWrite a l s).free = s.free := rfl
@[simp] theorem winWrite_ports (a : Nat) (l : List Byte) (s : State) : (winWrite a l s).ports = s.ports := rfl
@[simp] theorem winWrite_cad (a : Nat) (l : List Byte) (s : State) : (winWrite a l s).cad = s.cad := rfl
@[simp] theorem winWrite_cadp (a : Nat) (l : List Byte) (s : State) : (winWrite a l s).cadp = s.cadp := rfl
@[simp] theorem winWrite_feeds (a : Nat) (l : List Byte) (s : State) : (winWrite a l s).feeds = s.feeds := rfl
@[simp] theorem winWrite_engines (a : Nat) (l : List Byte) (s : State) : (winWrite a l s).engines = s.engines := rfl
@[simp] theorem winWrite_cores (a : Nat) (l : List Byte) (s : State) : (winWrite a l s).cores = s.cores := rfl
@[simp] theorem winWrite_sram (a : Nat) (l : List Byte) (s : State) : (winWrite a l s).sram = s.sram := rfl
@[simp] theorem winWrite_saf (a : Nat) (l : List Byte) (s : State) : (winWrite a l s).saf = s.saf := rfl
@[simp] theorem winWrite_diag (a : Nat) (l : List Byte) (s : State) : (winWrite a l s).diag = s.diag := rfl
@[simp] theorem winWrite_wdg (a : Nat) (l : List Byte) (s : State) : (winWrite a l s).wdg = s.wdg := rfl
@[simp] theorem winWrite_tel (a : Nat) (l : List Byte) (s : State) : (winWrite a l s).tel = s.tel := rfl
@[simp] theorem winWrite_codec (a : Nat) (l : List Byte) (s : State) : (winWrite a l s).codec = s.codec := rfl
@[simp] theorem winWrite_cru (a : Nat) (l : List Byte) (s : State) : (winWrite a l s).cru = s.cru := rfl
@[simp] theorem winWrite_rst (a : Nat) (l : List Byte) (s : State) : (winWrite a l s).rst = s.rst := rfl
@[simp] theorem winWrite_boot (a : Nat) (l : List Byte) (s : State) : (winWrite a l s).boot = s.boot := rfl
@[simp] theorem winWrite_tmr (a : Nat) (l : List Byte) (s : State) : (winWrite a l s).tmr = s.tmr := rfl
@[simp] theorem winWrite_tmrHw (a : Nat) (l : List Byte) (s : State) : (winWrite a l s).tmrHw = s.tmrHw := rfl
@[simp] theorem winWrite_twt (a : Nat) (l : List Byte) (s : State) : (winWrite a l s).twt = s.twt := rfl
@[simp] theorem winWrite_twc (a : Nat) (l : List Byte) (s : State) : (winWrite a l s).twc = s.twc := rfl
@[simp] theorem winWrite_otp (a : Nat) (l : List Byte) (s : State) : (winWrite a l s).otp = s.otp := rfl
@[simp] theorem winWrite_shadow (a : Nat) (l : List Byte) (s : State) : (winWrite a l s).shadow = s.shadow := rfl
@[simp] theorem winWrite_flash (a : Nat) (l : List Byte) (s : State) : (winWrite a l s).flash = s.flash := rfl
@[simp] theorem winWrite_upd (a : Nat) (l : List Byte) (s : State) : (winWrite a l s).upd = s.upd := rfl
@[simp] theorem winWrite_loader (a : Nat) (l : List Byte) (s : State) : (winWrite a l s).loader = s.loader := rfl
@[simp] theorem winWrite_kept (a : Nat) (l : List Byte) (s : State) : (winWrite a l s).kept = s.kept := rfl
@[simp] theorem winWrite_board (a : Nat) (l : List Byte) (s : State) : (winWrite a l s).board = s.board := rfl

@[simp] theorem winWrite_host_db (a : Nat) (l : List Byte) (s : State) : (winWrite a l s).host.db = s.host.db := rfl
@[simp] theorem winWrite_host_session (a : Nat) (l : List Byte) (s : State) : (winWrite a l s).host.session = s.host.session := rfl
@[simp] theorem winWrite_host_waits (a : Nat) (l : List Byte) (s : State) : (winWrite a l s).host.waits = s.host.waits := rfl
@[simp] theorem winWrite_host_consumed (a : Nat) (l : List Byte) (s : State) : (winWrite a l s).host.consumed = s.host.consumed := rfl

/-! ## setClk110: the STATUS 110 mark -/

@[simp] theorem setClk110_pending (b : Bool) (s : State) : (setClk110 b s).pending = s.pending := rfl
@[simp] theorem setClk110_time (b : Bool) (s : State) : (setClk110 b s).time = s.time := rfl
@[simp] theorem setClk110_free (b : Bool) (s : State) : (setClk110 b s).free = s.free := rfl
@[simp] theorem setClk110_ports (b : Bool) (s : State) : (setClk110 b s).ports = s.ports := rfl
@[simp] theorem setClk110_cad (b : Bool) (s : State) : (setClk110 b s).cad = s.cad := rfl
@[simp] theorem setClk110_cadp (b : Bool) (s : State) : (setClk110 b s).cadp = s.cadp := rfl
@[simp] theorem setClk110_feeds (b : Bool) (s : State) : (setClk110 b s).feeds = s.feeds := rfl
@[simp] theorem setClk110_host (b : Bool) (s : State) : (setClk110 b s).host = s.host := rfl
@[simp] theorem setClk110_engines (b : Bool) (s : State) : (setClk110 b s).engines = s.engines := rfl
@[simp] theorem setClk110_cores (b : Bool) (s : State) : (setClk110 b s).cores = s.cores := rfl
@[simp] theorem setClk110_sram (b : Bool) (s : State) : (setClk110 b s).sram = s.sram := rfl
@[simp] theorem setClk110_saf (b : Bool) (s : State) : (setClk110 b s).saf = s.saf := rfl
@[simp] theorem setClk110_diag (b : Bool) (s : State) : (setClk110 b s).diag = s.diag := rfl
@[simp] theorem setClk110_wdg (b : Bool) (s : State) : (setClk110 b s).wdg = s.wdg := rfl
@[simp] theorem setClk110_tel (b : Bool) (s : State) : (setClk110 b s).tel = s.tel := rfl
@[simp] theorem setClk110_codec (b : Bool) (s : State) : (setClk110 b s).codec = s.codec := rfl
@[simp] theorem setClk110_cru (b : Bool) (s : State) : (setClk110 b s).cru = s.cru := rfl
@[simp] theorem setClk110_rst (b : Bool) (s : State) : (setClk110 b s).rst = s.rst := rfl
@[simp] theorem setClk110_tmr (b : Bool) (s : State) : (setClk110 b s).tmr = s.tmr := rfl
@[simp] theorem setClk110_tmrHw (b : Bool) (s : State) : (setClk110 b s).tmrHw = s.tmrHw := rfl
@[simp] theorem setClk110_twt (b : Bool) (s : State) : (setClk110 b s).twt = s.twt := rfl
@[simp] theorem setClk110_twc (b : Bool) (s : State) : (setClk110 b s).twc = s.twc := rfl
@[simp] theorem setClk110_otp (b : Bool) (s : State) : (setClk110 b s).otp = s.otp := rfl
@[simp] theorem setClk110_shadow (b : Bool) (s : State) : (setClk110 b s).shadow = s.shadow := rfl
@[simp] theorem setClk110_flash (b : Bool) (s : State) : (setClk110 b s).flash = s.flash := rfl
@[simp] theorem setClk110_upd (b : Bool) (s : State) : (setClk110 b s).upd = s.upd := rfl
@[simp] theorem setClk110_loader (b : Bool) (s : State) : (setClk110 b s).loader = s.loader := rfl
@[simp] theorem setClk110_kept (b : Bool) (s : State) : (setClk110 b s).kept = s.kept := rfl
@[simp] theorem setClk110_board (b : Bool) (s : State) : (setClk110 b s).board = s.board := rfl

@[simp] theorem setClk110_boot_clk110 (b : Bool) (s : State) : (setClk110 b s).boot.clk110 = b := rfl
@[simp] theorem setClk110_boot_phase (b : Bool) (s : State) : (setClk110 b s).boot.phase = s.boot.phase := rfl

end Sys2Proof.Machine
end

