-- ==== Sys2Proof/Tests/Slice0.lean ====
section
/-! SUPPORT. Checks of the model on fixed values: ill-formed commands are refused, worked examples of the spec
come out as it gives them, and for each statement that has hypotheses a state and operands that meet them. -/

namespace Sys2Proof.Tests
set_option Elab.async false
set_option maxRecDepth 100000
open Sys2Proof Sys2Proof.Machine

/-! ## Well-formed commands -/

/-- Headers: TAG above 511 and PORT from 96 to 254 (08 Table HST-5). -/
theorem test_wf_headers :
    Instr.wf (.identify ⟨511, 255, false⟩) = true ∧ Instr.wf (.portEnable ⟨0, 95, true⟩) = true ∧
    Instr.wf (.identify ⟨512, 255, false⟩) = false ∧ Instr.wf (.portEnable ⟨0, 96, false⟩) = false ∧
    Instr.wf (.portEnable ⟨0, 254, false⟩) = false := by decide

/-- Three registers, and operations with no short spelling (13 Table DWX-4, Table DWX-6). -/
theorem test_wf_registers :
    Instr.wf (.add 0 .short 4 3 3 7) = true ∧ Instr.wf (.add 0 .wide 0 3 4 15) = true ∧
    Instr.wf (.add 0 .short 4 3 4 7) = false ∧ Instr.wf (.add 0 .short 4 9 9 7) = false ∧
    Instr.wf (.add 0 .short 4 3 3 8) = false ∧ Instr.wf (.mul 0 .short 4 3 3 7) = false ∧
    Instr.wf (.mov 0 .short 4 3 4) = true ∧ Instr.wf (.mov 0 .wide 4 3 4) = false ∧
    Instr.wf (.not 0 .long 4 3) = false ∧ Instr.wf (.not 0 .short 4 8) = false := by decide

/-- Immediates: 11 bits wide, 10 bits compact long, the short ones as Table DWX-6 lists them. -/
theorem test_wf_immediates :
    Instr.wf (.addi 0 .wide 0 1 2 1023) = true ∧ Instr.wf (.addi 0 .wide 0 1 2 1024) = false ∧
    Instr.wf (.addi 0 .long 0 1 2 512) = false ∧ Instr.wf (.addi 0 .short 4 1 1 0) = false ∧
    Instr.wf (.addi 0 .short 4 1 1 5) = false ∧ Instr.wf (.addi 0 .short 4 1 2 1) = false ∧
    Instr.wf (.andi 0 .wide 0 1 2 2048) = false ∧ Instr.wf (.andi 0 .short 4 1 1 1) = false ∧
    Instr.wf (.shli 0 .short 4 1 1 0) = false ∧ Instr.wf (.shli 0 .short 4 1 1 9) = false ∧
    Instr.wf (.sari 0 .short 4 1 1 1) = false ∧ Instr.wf (.ceqi 0 .long 0 0 1 2 512) = false ∧
    Instr.wf (.ceqi 0 .short 0 0 1 2 1) = false ∧ Instr.wf (.ceq 0 .short 0 0 1 2 3) = false ∧
    Instr.wf (.movl 0 .short 0 1 5) = false := by decide

/-- Offsets of loads, stores, branches and jumps. -/
theorem test_wf_offsets :
    Instr.wf (.ldw 0 .short 4 1 2 0) = true ∧ Instr.wf (.ldw 0 .short 4 1 2 4) = false ∧
    Instr.wf (.ldb 0 .short 4 1 2 0) = false ∧ Instr.wf (.stw 0 .wide 0 1 2 1024) = false ∧
    Instr.wf (.br 0 .short 0 31) = true ∧ Instr.wf (.br 0 .short 0 32) = false ∧
    Instr.wf (.br 0 .long 0 131072) = false ∧ Instr.wf (.br 0 .wide 0 262144) = false ∧
    Instr.wf (.call 0 .short 0 2) = false ∧ Instr.wf (.jr 0 .short 0 1 0) = true ∧
    Instr.wf (.jr 0 .short 0 1 2) = false ∧ Instr.wf (.callr 0 .long 0 1 512) = false := by decide

/-- System functions and waits. -/
theorem test_wf_system :
    Instr.wf (.mfs 0 .short 4 1 0) = false ∧ Instr.wf (.mts 0 .short 4 0 1) = false ∧
    Instr.wf (.pget 0 .short 4 1) = false ∧ Instr.wf (.pput 0 .short 4 1) = false ∧
    Instr.wf (.wfe 0 .short 4 1 2) = false ∧ Instr.wf (.wuntil 0 .short 4 1 2) = false ∧
    Instr.wf (.sev 0 .short 4 8) = false ∧ Instr.wf (.sev 0 .wide 4 8) = true := by decide

/-! ## States that the witnesses use -/

/-- A running device: every link up, every engine running, a session open. -/
def wRun : State := { State.reset with
  boot := { Boot.reset with phase := .running, ready := true, cpState := 1 }
  saf := { SafRegs.reset with stat := 0xF }
  cru := { Cru.reset with regs := { CruRegs.reset with stat := F.CRU_STAT.ROOT_PLL.set 0 } }
  engines := Vector.replicate 13 { Engine.reset with se := { SeRegs.reset with stat := 1 } }
  host := { HostSide.reset with session := 0x10001 } }
/-- The running device with port 3 changed. -/
def on3 (f : Port → Port) : State := modPort 3 f wRun
/-- The running device with no engine running, so that port 3 is not served, and port 3 changed. -/
def idle3 (f : Port → Port) : State := modPort 3 f { wRun with engines := State.reset.engines }
/-- Decoded CC pins. -/
def dec (a b : Nat) (q : Port) : Port :=
  { q with cc.stat := F.CC_STAT.CC1_DEC.put a (F.CC_STAT.CC2_DEC.put b q.cc.stat) }
/-- Strained comparator outputs. -/
def strainedTo (m : Nat) (q : Port) : Port := { q with cc.out := BitVec.ofNat 32 (256 * m) }
/-- ATTACH_WAIT with its debounce under way. -/
def aw (q : Port) : Port := { (q.setSt .attachWait).setTc 2 with hw.deb := some 0 }
/-- A non-attach pattern since time 0. -/
def away (q : Port) : Port := { q with hw.nonAttach := some 0 }
/-- A 5 V contract. -/
def k5 : Contract := ⟨0, 250, 300, 1, false, 0x1004B12C, 0x0001912C⟩
/-- Attached as a source in state CONTRACTED: roles, contexts and the path on, at 5 V. -/
def live (q : Port) : Port :=
  let q := (q.setSt .contracted).setTc 3
  { q with
    core.state := F.PRT_STATE.ORIENT.put 1 q.core.state
    cc.ctl := 0x5A
    ctx := q.ctx.map fun c => { c with ctl := F.CTX_CTL.EN.set c.ctl }
    pd.phycfg := 0x317
    pth.ctl := 0xB
    pth.stat := 0x49
    pol.enabled := true
    pol.contract := some k5 }
/-- The VCONN switch closed. -/
def vc (q : Port) : Port := { q with cc.vstat := F.VCONN_STAT.ON.set q.cc.vstat }
/-- Both pins open. -/
def open0 (q : Port) : Port := { q with cc.ctl := 0 }
/-- The BOARD fuses of ports 0 to 31 declare bidirectional converters. -/
def bidiOf (s : State) : State := { s with shadow := [(0x1B3, 0xFFFFFFFF)] }
/-- A bidirectional port as a sink. -/
def bidi : State := bidiOf (on3 fun q => { q with core.cfg := 0x41 })
def bidiLive : State := bidiOf (on3 live)
def forced : State := on3 fun q => { q with core.capt := F.PRT_CAPT.FORCED.set q.core.capt }
def cableOff (q : Port) : Port := { q with ctx := q.ctx.set 1 CtxRegs.reset }
def heardVdm (q : Port) : Port := { q with pol.hostVdm := #v[some 1, none, none] }
/-- An AUTH_CHALLENGE runs. -/
def auths : State :=
  { on3 live with host := { wRun.host with waits := [⟨2, 0x204, 5, false, .auth 0 1 0 0 0 0 0, []⟩] } }
/-- Port 3 unpopulated. -/
def unpop : State := { wRun with shadow := [(0x1B0, 8)] }
def upd (f : Update → Update) : State := { wRun with upd := f wRun.upd }
def running (s : State) : State := { s with tel := { s.tel with stat := F.TEL_STAT.RUN.set s.tel.stat } }
def otpIs (f : Otp → Otp) : State := { wRun with otp := f wRun.otp }
def dueAt (s : State) : State := { s with boot := { s.boot with due := some (5, .cold 0) } }
def xferOn : State := { wRun with twc := wRun.twc.set 1 { Twc.reset with xfer := some ⟨0, false, false⟩ } }
/-- A header that passes the checks of 17 Table UPD-3 on `updReady`: one block of one byte, a key of zeros. -/
def goodHdr : List Byte :=
  let h := bytes4 0x4D494B56 ++ [1, 0] ++ List.replicate 34 0 ++ bytes4 1 ++ bytes4 517 ++
    [0, 0, 1, 0, 1, 0, 0, 0] ++ [1, 0, 0, 0, 0, 0, 0, 0] ++ [1, 0, 0, 0, 0, 0, 0, 0] ++ [1, 0, 0, 0, 0, 0, 0, 0]
  let h := h ++ List.replicate (508 - h.length) 0
  h ++ wordBytes (crc32c h)
/-- Its block. -/
def goodBlk : List Byte := 0 :: wordBytes (crc32c [0])
/-- The vendor key's hash is that of 64 zero bytes; the header and the block stand in the bulk area. -/
def updReady : State :=
  let d := sha256 (List.replicate 64 0)
  winWrite 0x41000 goodBlk (winWrite 0x40000 goodHdr { wRun with
    shadow := (0x100, 0xFFFFFFFF) :: (List.range 8).map fun i =>
      (0x130 + i, BitVec.ofNat 32 (leNat ((d.drop (4 * i)).take 4))) })
def updRun : State := { updReady with upd := { Update.reset with st := 1, hdr := goodHdr } }
def updEnds : State := { updReady with upd := { Update.reset with st := 2, hdr := List.replicate 512 0 } }
/-- An update in a state. -/
def updSt (n next : Nat) : State := { wRun with upd := { Update.reset with st := n, next := next } }
def cardIn : State := { wRun with board := { wRun.board with card := true } }
/-- Region 0 is read-locked. -/
def rLock0 : State := otpIs fun o => { o with rlock := o.rlock.set 0 (Vector.replicate 3 true) }
/-- A word is being programmed. -/
def otpRuns : State := otpIs fun o =>
  { o with op := some (.program 0x230 1 1), regs := { o.regs with stat := F.OTP_STAT.BUSY.set o.regs.stat } }
def tryAt (tc : Nat) (q : Port) : Port := { (aw q).setTc tc with hw.drpTry := some 0 }
/-- Detached, alternating between Rp and Rd. -/
def alt (q : Port) : Port :=
  { q.setSt .detached with core.cfg := 0x42, cc.ctl := 0x51 }
def altOn : State := bidiOf (on3 alt)
def rp (q : Port) : Port := { q with cc.ctl := 0x5A }
def swapFlag (q : Port) : Port :=
  { q with pd.phycfg := F.PD_PHYCFG.SWAP.set q.pd.phycfg, pth.stat := 0 }
def noLink : State := { wRun with saf := SafRegs.reset }
def queued (l : List EvtEntry) (q : Port) : Port := { q with pol.queue := l }
def oneEvt : List EvtEntry := [⟨0, 36, 0, 5⟩]
def cruIs (f : Cru → Cru) (s : State) : State := { s with cru := f s.cru }
def phase (x : Phase) (s : State) : State := { s with boot := { s.boot with phase := x } }
def seqIs (q : Option DvfsSeq) (dv : Nat) (tgt : Nat) : State :=
  cruIs (fun c => { c with seq := q, div := dv, regs := { c.regs with dvfs := BitVec.ofNat 32 tgt } }) wRun
def stby : State := cruIs (fun c => { c with standby := true }) wRun
def xinOk (s : State) : State :=
  cruIs (fun c => { c with regs := { c.regs with stat := F.CRU_STAT.XIN_OK.set c.regs.stat } }) s
def spread (s : State) : State :=
  cruIs (fun c => { c with regs := { c.regs with stat := F.CRU_STAT.SS_ON.set c.regs.stat } }) s
def noSession (s : State) : State := { s with host := { s.host with session := 0 } }
/-- Core 0 changed. -/
def core0 (f : Core → Core) : State := modCore 0 f wRun
/-- A core with a wait: mask 4, latched lines 4, until the given cycle. -/
def waiting (due : Option Nat) (k : Core) : Core := { k with wait := some ⟨2, 4, due, 2⟩, latched := 4 }
/-- Engine 0 waiting. -/
def waits0 (due : Option Nat) : State :=
  modEng 0 (fun e => { e with se := { e.se with stat := 2 } }) (core0 (waiting due))
def regs0 (l : List (Fin 16 × Word)) (k : Core) : Core := l.foldl (fun k x => k.setReg x.1 x.2) k
def atPc (n : Nat) (k : Core) : Core := { k with pc := n }
def line2 (k : Core) : Core := { k.setReg 1 7 with latched := 4 }
def withHost (f : HostSide → HostSide) : State := { wRun with host := f wRun.host }
/-- No session is open. -/
def wNone : State := withHost fun x => { x with session := 7 }
/-- The command with tag 1 is consumed. -/
def wTag : State := withHost fun x => { x with consumed := [⟨1, 5, 255, false, 0, []⟩] }
/-- A command with FENCE waits. -/
def wFence : State := withHost fun x => { x with waits := [⟨2, 0x801, 255, true, .card, []⟩] }
def hSys : Hdr := ⟨1, 255, false⟩
def hP : Hdr := ⟨1, 3, false⟩
/-! More states -/
def saf (w : Word) (s : State) : State := { s with saf := { s.saf with stat := w } }
def reset0 : State := State.reset
/-- Every port FENCED. -/
def fenced : State := { wRun with ports := wRun.ports.map fun q => q.setSt .fenced }
def rides : State := on3 fun q => { q with hw.ride := some 5 }
def bootIs (f : Boot → Boot) (s : State) : State := { s with boot := f s.boot }
/-- Held in reset, RST_N low. -/
def rstLow : State := bootIs (fun b => { b with rstLow := true }) State.reset
def noSupply : State := bootIs (fun b => { b with supplyDown := true }) State.reset
def startAt (x : Phase) : State := bootIs (fun b => { b with phase := x, startAt := some 9 }) wRun
def failed1 (s : State) : State := { s with rst := { s.rst with cnt := F.RST_CNT.WFAIL.put 1 s.rst.cnt } }
def booting : State := phase .entered wRun
def trial (s : State) : State := { s with flash := { s.flash with trialEnd := some 9 } }
/-- A slot whose header's version is the one that wrote the retained state, its one block good. -/
def warmable (slot : Nat) : State :=
  let s := flashProgram (slotBase slot) goodHdr (flashProgram (slotBase slot + 0x1000) goodBlk wRun)
  { s with rst := { s.rst with retver := BitVec.ofNat 32 (hdrVersion goodHdr) } }
/-- The watchdog on, its window open when the argument says so. -/
def wdg (f : Wdog → Wdog) : State := { wRun with wdg := f { wRun.wdg with regs := { wRun.wdg.regs with ctl := 1 } } }
def wOpen (w : Wdog) : Wdog := { w with regs := { w.regs with stat := F.WDG_STAT.WOPEN.set w.regs.stat } }
def wKey1 (w : Wdog) : Wdog := { w with regs := { w.regs with stat := F.WDG_STAT.KEY1.set w.regs.stat } }
def wTask (w : Wdog) : Wdog := { w with regs := { w.regs with tasken := 1 } }
def wLast (w : Wdog) : Wdog := { w with lastExp := some 0 }
def eng0 (f : Engine → Engine) : State := modEng 0 f wRun
def engSt (e : EngId) (n : Nat) (s : State) : State := modEng e (fun g => { g with se := { g.se with stat := BitVec.ofNat 32 n } }) s
def sewOn (e : EngId) (s : State) : State := modEng e (fun g => { g with sew := { g.sew with ctl := 1 } }) s
def engmap (w : Word) (s : State) : State := { s with saf := { s.saf with engmap := w } }
def tmrOn (ctl : Word) (cnt cmp : Word) : State := { wRun with
  cru := { wRun.cru with regs := { wRun.cru.regs with gate := 0xFFFFFFFF } }
  tmr := wRun.tmr.set 0 { wRun.tmr[0] with ctl := ctl, cnt := cnt, cmp := cmp, reload := 7 }
  tmrHw := wRun.tmrHw.set 0 { wRun.tmrHw[0] with run := true, armed := true } }
def chained (s : State) : State := { s with
  tmr := s.tmr.set 1 { s.tmr[1] with ctl := F.TMR_CTL.CHAIN.set 0, cnt := 3 }
  tmrHw := s.tmrHw.set 1 { s.tmrHw[1] with run := true } }
def clocked (s : State) : State := { s with cru := { s.cru with regs := { s.cru.regs with gate := 0xFFFFFFFF } } }
/-- Controller 1 enabled, and changed. -/
def twc1 (f : Twc → Twc) : State := clocked { wRun with
  twc := wRun.twc.set 1 (f { Twc.reset with regs := { TwcRegs.reset with ctl := F.TWC_CTL.EN.set TwcRegs.reset.ctl } }) }
def onBus (t : Twc) : Twc := { t with xfer := some ⟨0, false, false⟩ }
def lostBus (n : Nat) (t : Twc) : Twc := { t with xfer := some ⟨n, true, false⟩ }
def busWait (s : State) : State := { s with host := { s.host with
  waits := [⟨2, 0xA01, 255, false, .busXfer 1 0xFFFFFFFF, []⟩] } }
def mtIs (f : Twt → Twt) (s : State) : State := { s with twt := f s.twt }
def mtAddr : State := mtIs (fun t => { t with regs := { t.regs with addr := 0x20 } }) wRun
def mtOn (f : Twt → Twt) : State := mtIs (fun t => f { t with regs := { t.regs with stat := F.TWT_STAT.ACTIVE.set t.regs.stat } }) wRun
def wrTo (n : Nat) (l : List Byte) (t : Twt) : Twt := { t with ptr := n, first := false, part := l, reading := false }
def rdAt (n : Nat) (x : Option (Nat × Word)) (t : Twt) : Twt := { t with ptr := n, first := false, reading := true, snap := x }
def otpAddr (n : Nat) (f : Otp → Otp) : State :=
  otpIs fun o => f { o with regs := { o.regs with addr := BitVec.ofNat 32 n } }
def otpWdata (v : Word) (o : Otp) : Otp := { o with regs := { o.regs with wdata := v } }
def otpOp (x : OtpOp) (o : Otp) : Otp := { o with op := some x, regs := { o.regs with stat := F.OTP_STAT.BUSY.set o.regs.stat } }
def fuseIs (a : Nat) (w : FuseW) (o : Otp) : Otp := { o with words := [(a, w)] }
def scans (n : Nat) (o : Otp) : Otp :=
  { o with regs := { o.regs with stat := F.OTP_STAT.SCANNING.set o.regs.stat, scanpos := F.OTP_SCANPOS.NEXT.put n 0xFFFF0000 } }
def stAddr : State := mtIs (fun t => { t with regs := { t.regs with addr := 0x20 } }) stby
def warmZero (slot : Nat) : State :=
  { wRun with flash := { wRun.flash with cells := (List.range 512).map fun i => (slotBase slot + i, 0) } }
def tmrOf (s : State) (n : Fin 16) : Tmr := (s.tmr[n], s.tmrHw[n])
/-! Flash, loader, telemetry, board -/
def flc (op : Option FlcOp) (a n : Nat) : State := { wRun with flash := { wRun.flash with
  op := op, regs := { wRun.flash.regs with addr := BitVec.ofNat 32 a, len := BitVec.ofNat 32 n, stat := if op.isSome then F.FLC_STAT.BUSY.set wRun.flash.regs.stat else wRun.flash.regs.stat } } }
def ldr (f : Loader → Loader) : State := phase .loader { wRun with loader := f Loader.reset }
def retired : State := { ldr id with shadow := [(0x100, 0xFFFFFFFF), (0x101, 0xFFFFFFFF), (0x102, 0xFFFFFFFF)] }
def ldrAt (h : List Byte) (n : Nat) (l : Loader) : Loader := { l with slot := some 0, hdr := h, next := n }
def ldrReady : State := phase .loader updReady
/-- A header's counts alone: one block of one byte. -/
def cheapHdr : List Byte := List.replicate 40 0 ++ bytes4 1 ++ bytes4 517 ++ List.replicate 464 0
def zeroHdr : List Byte := List.replicate 512 0
def telEn (s : State) : State := { s with tel := { s.tel with ctl := F.TEL_CTL.EN.set s.tel.ctl } }
def noAdc : State := { wRun with tel := { wRun.tel with adcfail := 0xFFFF } }
def cardUpd (f : Update → Update) : State := clocked { cardIn with upd := f { Update.reset with card := true, slot := 1, hdr := cheapHdr } }
def updStIs (n : Nat) (u : Update) : Update := { u with st := n }
/-! Feeds and caddy -/
def feed (stat : Word) (r : Option Feed) (s : State) : State :=
  { s with feeds := { s.feeds with rising := r, regs := { s.feeds.regs with stat := stat } } }
def noReturn (s : State) : State :=
  { s with feeds := { s.feeds with regs := { s.feeds.regs with ctl := F.FED_CTL.RETURN.clr s.feeds.regs.ctl } } }
def pport3 (s : State) : State :=
  { s with feeds := { s.feeds with regs := { s.feeds.regs with pport := F.FED_PPORT.VALID.set 3 } } }
def cadStat (w : Word) (s : State) : State := { s with cad := { s.cad with regs := { s.cad.regs with stat := w } } }
def cad3 (f : CadPort → CadPort) (s : State) : State := { s with cadp := s.cadp.set 3 (f s.cadp[3]) }
/-- Rows run on feed A's limit of 1000 units, with a snapshot of the given budget. -/
def rows (b : Nat) (s : State) : State := { s with cad := { s.cad with
  snapB := b, act := { CadRegs.reset with ctl := 0x3201 }, regs := { s.cad.regs with stat := 1, lima := 1000 } } }
def asks (p : Nat) (c : CadPort) : CadPort :=
  { c with req := some ⟨50, p, 0, false⟩, actPcfg := F.CAD_PCFG.PMIN.put 100 c.actPcfg }
def req100 (p : Nat) : CadReq := ⟨50, p, 0, false⟩
def syncRow (s : State) : State := { s with cad := { s.cad with act := { s.cad.act with rowcfg := F.CAD_ROWCFG.SYNC_EN.set s.cad.act.rowcfg } } }
def engOff (s : State) : State := { s with engines := State.reset.engines }
def pool (n : Nat) (s : State) : State := setPoolBal n s
def victim (target : Nat) (c : CadPort) : CadPort :=
  { c with regs := { c.regs with phold := F.CAD_PHOLD.SHED.set c.regs.phold }, contract := some (50, 1500), target := target }
def shedding : State := cadStat (F.CAD_STAT.SHEDDING.set 1) wRun
def prearm3 (s : State) : State := modPort 3 (fun q => { q with pol.prearmed := true }) s
/-! The path -/
def pthCtl (w : Word) (q : Port) : Port := { q with pth.ctl := w }
def pthStat (w : Word) (q : Port) : Port := { q with pth.stat := w }
def ceil0 (q : Port) : Port := { q with pth.ceil := 0 }
def noK (q : Port) : Port := { q with pol.contract := none }
def ride5 (q : Port) : Port := { q with hw.ride := some 5 }
def hot1 (q : Port) : Port := { q with hw.heat := 1 }
def cvAwaits (q : Port) : Port := { q with hw.cvWait := true }
def trims (q : Port) : Port := { q with pth.ctl := F.PTH_CTL.TRIM_EN.set q.pth.ctl }
def sink (q : Port) : Port := { q with pd.phycfg := F.PD_PHYCFG.PWR_ROLE.clr q.pd.phycfg }
def curve1 (q : Port) : Port := { q with hw.curve := [(64, 100)] }
def bindsOff (e : Bool) (q : Port) : Port := { q.setSt .bindingOff with pol.errRecovery := e }
def retries (q : Port) : Port := { q with hw.retryEnd := some 5 }
def absent (q : Port) : Port := { q with hw.absSince := some 5 }
def hooked (q : Port) : Port := { q with core.state := F.PRT_STATE.ORIENT.put 1 q.core.state }
def ccurve (n : Nat) (q : Port) : Port := { q with cur.ccfg := F.PTH_CCFG.NPTS.put n q.cur.ccfg }
/-! The protocol -/
def nopd (q : Port) : Port := { q with core.state := F.PRT_STATE.NOPD.set q.core.state }
def bistOn (q : Port) : Port := { q with phw.bistData := true }
def heard (n : Nat) (q : Port) : Port := q.modCtx 0 fun r => { r with id := F.CTX_ID.RX_VALID.set (F.CTX_ID.RX_ID.put n r.id) }
def full (q : Port) : Port := { q with pd.rxdesc := Vector.replicate 4 (F.PD_RXDESC.VALID.set 0) }
def reasms (r : Reasm) (q : Port) : Port := { q with phw.reasm := some r, pd.tmrrun := setBit 3 q.pd.tmrrun }
def chunk0 (size : Nat) : List Byte := bytes2 0x8000 ++ bytes2 (0x8000 + size) ++ List.replicate 26 0
def chunkN (n size : Nat) : List Byte := bytes2 0x8000 ++ bytes2 (0x8000 + 2048 * n + size) ++ List.replicate 26 0
/-- SOP holds the PHY, waiting for its line. -/
def holds (q : Port) : Port :=
  { q.modCtx 0 (fun r => { r with txstat := F.CTX_TXSTAT.RESULT.put 2 r.txstat }) with phw.txReady := #v[true, false, false] }
def inCa (q : Port) : Port := { q.modCtx 0 (fun r => { r with txstat := F.CTX_TXSTAT.RESULT.put 1 r.txstat }) with pd.tmrrun := setBit 1 q.pd.tmrrun }
def sent1 (q : Port) : Port := { holds q with phw.onWire := #v[true, false, false], pd.tmrrun := setBit 0 q.pd.tmrrun }
def tried (n : Nat) (q : Port) : Port := q.modCtx 0 fun r => { r with txstat := F.CTX_TXSTAT.TRIES.put n r.txstat }
def chunking (q : Port) : Port :=
  { (holds q).modCtx 0 (fun r => { r with xfer := F.CTX_XFER.TX_ACT.set r.xfer }) with pd.tmrrun := setBit 2 q.pd.tmrrun }
def longTx (q : Port) : Port := { sent1 q with phw.txbuf := #v[chunk0 100, []] }
def hrWaits (q : Port) : Port := { q with phw.hrWait := true, pd.tmrrun := setBit 4 q.pd.tmrrun }
def crWaits (q : Port) : Port := { q with phw.crWait := true }
def testUses (q : Port) : Port := { q with pol.testUse := true }
def dfp (q : Port) : Port := { q with pd.phycfg := F.PD_PHYCFG.DATA_ROLE.set q.pd.phycfg }
def slot (n : Nat) (q : Port) : Port := { q with pd.tmrrun := setBit n q.pd.tmrrun }
def kaAck (q : Port) : Port := q.modCtx 0 fun r => { r with ctl := F.CTX_CTL.KA_ACK.set r.ctl }
def epr (q : Port) : Port := { q with pd.phycfg := F.PD_PHYCFG.EPR.set q.pd.phycfg }
def offered (q : Port) : Port := { q with pol.sent := [(1, 0x0001912C)], core.cfg := 0 }
def swaps (k : Nat) (t : SwapStep) (q : Port) : Port := { q with pol.swap := some ⟨k, t, false, true⟩ }
def awaits (w : TxPurpose) (q : Port) : Port := { q with pol.await := some w }
def hrStep (x : HrStep) (q : Port) : Port := { q with pol.hr := x }
def accepts (q : Port) : Port := { q with pol.accepted := true }
def nextIs (k : Contract) (q : Port) : Port := { q with pol.next := some k }
def kIs (k : Contract) (q : Port) : Port := { q with pol.contract := some k }
def pps : Contract := ⟨1, 250, 40, 1, false, 0, 0⟩
def doneHeld (q : Port) : Port := { q with pol.doneHeld := true }
def tries20 (q : Port) : Port := { q with pol.cableTries := 20 }
def hr2 (q : Port) : Port := { q with pol.hrCount := 2 }
def cableKnown (q : Port) : Port := { q with pol.cable := none }
def reqWaits (q : Port) : Port := { q with pol.reqWait := true }
def drOk (b : Bool) (q : Port) : Port := { q with pol.drSwapOk := b, pol.prSwapOk := b, pol.vconnSwapOk := b }
def modal (q : Port) : Port := { q with pol.modes := [1] }
def at250 (q : Port) : Port := { q with pth.steep := F.PTH_STEEP.TARGET.put 250 q.pth.steep }
def sv (f : Port → Port) : State := on3 (f ∘ live)
def off (f : Port → Port) : State := idle3 (f ∘ live)
def identity (s : State) : State := { s with kept := { s.kept with identity := [1] } }
def mtFirst (t : Twt) : Twt := { t with first := true }
def upg3 (c : CadPort) : CadPort := { c with upg := some 3 }
/-! States of the later rules -/
/-- The raw outputs of the comparator slots. -/
def rawTo (m : Nat) (q : Port) : Port := { q with cc.out := BitVec.ofNat 32 m ||| q.cc.out }
def hiOpen (q : Port) : Port := { q with cc.out := 0xFFFFFFFF, cc.latch := 0xFF }
def unsup : State := { wRun with diag := { wRun.diag with supplied := Vector.replicate 4 false } }
def flashOp (o : FlcOp) (s : State) : State := { s with flash := { s.flash with op := some o } }
def warmWaits (s : State) : State := bootIs (fun b => { b with waiting := some ⟨0, 0, 0, false⟩ }) s
def restful (t : Twc) : Twc := { onBus t with rest := [1] }
def rx32 (t : Twc) : Twc := { onBus t with rx := List.replicate 32 0 }
def job : BusJob := ⟨0x20, 0, 0, false, 0, [], .free, 0⟩
def jobs (t : Twc) : Twc := { onBus t with queued := some job }
def toRead (n : Nat) (t : Twc) : Twc := { t with regs := { t.regs with xlen := F.TWC_XLEN.RLEN.put n t.regs.xlen } }
def blown1 : State := otpIs fun o => { o with words := [(0x200, ⟨5, 0, 1, 0⟩), (0x201, ⟨5, 0, 3, 0⟩)] }
/-- A ramp that has reached its target of 5 V. -/
def reached (q : Port) : Port := { at250 (pthStat 3 q) with pth.ref := F.PTH_REF.REF.put 250 0 }
def tripsNow (c : Nat) (q : Port) : Port :=
  { q.setSt .tripped with hw.tripAt := some 0, pth.stat := F.PTH_STAT.CAUSE.put c 0 }
def kaMsg : List Byte := bytes2 0x9010 ++ bytes2 0x8002 ++ [3, 0]
def hwMsg (w : Bool) : HwMsg := ⟨0, ctrlMsg Port.reset 0 1, 0, w⟩
def hwQueued (w : Bool) (q : Port) : Port := { q with phw.hwq := [hwMsg w] }
def k28 : Contract := ⟨0, 1400, 300, 8, true, 0x8004B12C, 0⟩
def floor3 (s : State) : State := cad3 (fun c => { c with floor := 112 }) s
def pps50 : Contract := ⟨1, 1000, 40, 1, false, 0, 0⟩
/-- The 32 bytes of a number, the most significant first. -/
def nat32 (n : Nat) : List Byte := (List.range 32).map fun i => BitVec.ofNat 8 (n / 256 ^ (31 - i))
/-- A public key, the signature of a header with no blocks under it, and the key's SHA-256 (computed outside the model). -/
def gPub : List Byte := nat32 p256Gx ++ nat32 p256Gy
def gSig : List Byte := nat32 0x7cf27b188d034f7e8a52380304b51ac3c08969e277f21b35a60b48fc47669978 ++ nat32 0x958ab781344a099757b44a5905e9e58ce9f52e3e0070c4f23cde8d2288cdd03f
def gKey : List Byte := nat32 0xd875db7def232236aec738c6b0bb3e80142f5d0fd8f4df24fed6eef5cbb50d9f
def sigHdr : List Byte := List.replicate 64 0 ++ List.replicate 128 0xFF ++ gPub ++ gSig ++ List.replicate 192 0xFF
def sigEnds : State := { wRun with
    shadow := (0x100, 0xFFFFFFFF) :: (List.range 8).map fun i => (0x130 + i, BitVec.ofNat 32 (leNat ((gKey.drop (4 * i)).take 4)))
    upd := { Update.reset with st := 2, hdr := sigHdr } }
def cardWaits : State := { updSt 1 0 with host := { wRun.host with waits := [⟨2, 0x701, 255, false, .card, []⟩] } }
/-- SYNC edges were lost at an earlier row. -/
def syncGone : State := { syncRow wRun with cad := { (syncRow wRun).cad with syncLost := true } }
/-- The state in which the statement on feeds looks for the first feed in reach, once a feed qualifies. -/
def nowQualified (f : Feed) (s : State) : State := { s with feeds := { s.feeds with
  regs := { s.feeds.regs with stat := setBit (3 + Feed.code f) s.feeds.regs.stat }
  failed := s.feeds.failed.filter (· != f)
  under := match Feed.die f with
    | some d => s.feeds.under.set d false
    | none => s.feeds.under } }
/-- The port whose curve registers PATH_CURVE has written. -/
def curveWritten (npts : Nat) (pts : List Word) (q : Port) : Port := { q with cur := { q.cur with
  cpt := Vector.ofFn fun i => if i.val < npts then (pts.getD i.val 0) &&& 0x3FFFFFF else q.cur.cpt[i]
  ccfg := F.PTH_CCFG.NPTS.put (min npts 31) (F.PTH_CCFG.COOL.put 0 q.cur.ccfg) } }


/-! ## Witnesses of the hypotheses, clause by clause -/

theorem evaluates_0 : headerCheck updReady (bulkRead updReady 1 512) = some (Status.imageInvalid, 1) := by decide +kernel
theorem evaluates_1 : headerCheck updReady (bulkRead updReady 0 512) = none := by decide +kernel
theorem evaluates_2 : blockCrcOk (bulkRead updRun 4096 5) = true := by decide +kernel
theorem evaluates_3 : flashRead (writeBlock updRun.upd.slot 0 (bulkRead updRun 4096 5) updRun) (blockAddr updRun.upd.slot 0) 5 = bulkRead updRun 4096 5 := by decide +kernel
theorem evaluates_4 : signatureOk sigEnds sigEnds.upd.slot sigEnds.upd.hdr = true := by decide +kernel
theorem evaluates_5 : slotHeader (flashProgram (slotBase sigEnds.upd.slot) sigEnds.upd.hdr sigEnds) sigEnds.upd.slot = sigEnds.upd.hdr := by decide +kernel
theorem evaluates_6 : headerCheck (ldr id) [] = some (Status.imageInvalid, 1) := by decide +kernel
theorem evaluates_7 : headerCheck ldrReady goodHdr = none := by decide +kernel
theorem evaluates_8 : blockCrcOk goodBlk = true := by decide +kernel

theorem test_hyps_DwxTwoRegisterResults :
    (Issues wRun (0 : CoreId) Form.wide (0 : Fin 8)) := by decide +kernel

theorem test_hyps_DwxOneRegisterResults :
    (Issues wRun (13 : CoreId) Form.wide (0 : Fin 8) ∧
      (∀ (i : Fin 4), BitVec.getLsbD (1 : Word) ↑i = wRun.cores[(13 : CoreId)].pred i) ∧
      BitVec.toNat (1 : Word) < 16) := by decide +kernel

theorem test_hyps_DwxComparesWriteByMode :
    (Issues wRun (0 : CoreId) Form.wide (0 : Fin 8) ∧
      (0 : Fin 4) = (0 : Fin 4)) ∧
    (Issues wRun (0 : CoreId) Form.wide (0 : Fin 8) ∧
      (1 : Fin 4) = (1 : Fin 4)) ∧
    (Issues wRun (0 : CoreId) Form.wide (0 : Fin 8) ∧
      (2 : Fin 4) = (2 : Fin 4)) ∧
    (Issues wRun (0 : CoreId) Form.wide (0 : Fin 8) ∧
      (3 : Fin 4) = (3 : Fin 4)) := by
  refine ⟨⟨?_, ?_⟩, ⟨?_, ?_⟩, ⟨?_, ?_⟩, ⟨?_, ?_⟩⟩ <;> decide +kernel

theorem test_hyps_DwxBranchesAndJumps :
    (Issues wRun (0 : CoreId) Form.wide (0 : Fin 8) ∧
      Form.wide = Form.wide ∧
      (1 : Int) % (2 : Int) ≠ (0 : Int)) ∧
    (Issues wRun (0 : CoreId) Form.wide (0 : Fin 8) ∧
      ¬(Form.wide = Form.wide ∧ (2 : Int) % (2 : Int) ≠ (0 : Int))) ∧
    (Issues wRun (0 : CoreId) Form.wide (0 : Fin 8) ∧
      Form.wide = Form.wide ∧
      (BitVec.toInt (wRun.cores[(0 : CoreId)].reg (0 : Fin 16)) + (1 : Int)) % (4294967296 : Int) % (2 : Int) ≠ (0 : Int)) ∧
    (Issues wRun (0 : CoreId) Form.wide (0 : Fin 8) ∧
      ¬(Form.wide = Form.wide ∧ (BitVec.toInt (wRun.cores[(0 : CoreId)].reg (0 : Fin 16)) + (2 : Int)) % (4294967296 : Int) % (2 : Int) ≠ (0 : Int))) ∧
    (Issues (core0 (Core.setReg (15 : Fin 16) (5 : Word))) (0 : CoreId) Form.wide (0 : Fin 8) ∧
      Form.wide = Form.wide ∧
      ↑(BitVec.toNat ((core0 (Core.setReg (15 : Fin 16) (5 : Word))).cores[(0 : CoreId)].reg (15 : Fin 16))) % (2 : Int) ≠ (0 : Int)) ∧
    (Issues wRun (0 : CoreId) Form.wide (0 : Fin 8) ∧
      ¬(Form.wide = Form.wide ∧ ↑(BitVec.toNat (wRun.cores[(0 : CoreId)].reg (15 : Fin 16))) % (2 : Int) ≠ (0 : Int))) := by
  refine ⟨⟨?_, ?_, ?_⟩, ⟨?_, ?_⟩, ⟨?_, ?_, ?_⟩, ⟨?_, ?_⟩, ⟨?_, ?_, ?_⟩, ⟨?_, ?_⟩⟩ <;> decide +kernel

theorem test_hyps_DwxGuardAndFetch :
    (dwx? (Instr.nop (0 : CoreId) Form.wide (4 : Fin 8)) = some ((0 : CoreId), Form.wide, (4 : Fin 8)) ∧
      coreRuns (core0 (atPc 65535)) (0 : CoreId) = true ∧
      encodes (core0 (atPc 65535)).cores[(0 : CoreId)] Form.wide = true ∧
      progSize (0 : CoreId) < (core0 (atPc 65535)).cores[(0 : CoreId)].pc + Form.parcels Form.wide) ∧
    (dwx? (Instr.nop (0 : CoreId) Form.wide (4 : Fin 8)) = some ((0 : CoreId), Form.wide, (4 : Fin 8)) ∧
      coreRuns wRun (0 : CoreId) = true ∧
      encodes wRun.cores[(0 : CoreId)] Form.wide = true ∧
      wRun.cores[(0 : CoreId)].pc + Form.parcels Form.wide ≤ progSize (0 : CoreId) ∧
      guardOn wRun.cores[(0 : CoreId)] (4 : Fin 8) = false) := by
  refine ⟨⟨?_, ?_, ?_, ?_⟩, ⟨?_, ?_, ?_, ?_, ?_⟩⟩ <;> decide +kernel

theorem test_hyps_DwxSystemFunctionsAndWaits :
    (Issues wRun (0 : CoreId) Form.wide (0 : Fin 8) ∧
      (8 ≤ (31 : Fin 32).val ∨ (31 : Fin 32) = (3 : Fin 32))) ∧
    (Issues (core0 line2) (0 : CoreId) Form.wide (0 : Fin 8) ∧
      evpend (core0 line2) (0 : CoreId) &&& (core0 line2).cores[(0 : CoreId)].reg (1 : Fin 16) ≠ (0 : Word)) ∧
    (Issues wRun (0 : CoreId) Form.wide (0 : Fin 8) ∧
      evpend wRun (0 : CoreId) &&& wRun.cores[(0 : CoreId)].reg (2 : Fin 16) = (0 : Word)) ∧
    (Issues wRun (0 : CoreId) Form.wide (0 : Fin 8) ∧
      (1 : Fin 16).val % 2 = 1) ∧
    (Issues wRun (0 : CoreId) Form.wide (0 : Fin 8) ∧
      (2 : Fin 16).val % 2 = 0 ∧
      (evpend wRun (0 : CoreId) &&& wRun.cores[(0 : CoreId)].reg (2 : Fin 16) ≠ (0 : Word) ∨ BitVec.toNat (wRun.cores[(0 : CoreId)].reg (2 : Fin 16)) + 2 ^ 32 * BitVec.toNat (wRun.cores[(0 : CoreId)].reg ((2 : Fin 16) + (1 : Fin 16))) ≤ wRun.cores[(0 : CoreId)].cyc)) ∧
    (Issues (core0 (regs0 [((3 : Fin 16), (1 : Word)), ((2 : Fin 16), (7 : Word))])) (0 : CoreId) Form.wide (0 : Fin 8) ∧
      (2 : Fin 16).val % 2 = 0 ∧
      evpend (core0 (regs0 [((3 : Fin 16), (1 : Word)), ((2 : Fin 16), (7 : Word))])) (0 : CoreId) &&& (core0 (regs0 [((3 : Fin 16), (1 : Word)), ((2 : Fin 16), (7 : Word))])).cores[(0 : CoreId)].reg (2 : Fin 16) = (0 : Word) ∧
      (core0 (regs0 [((3 : Fin 16), (1 : Word)), ((2 : Fin 16), (7 : Word))])).cores[(0 : CoreId)].cyc < BitVec.toNat ((core0 (regs0 [((3 : Fin 16), (1 : Word)), ((2 : Fin 16), (7 : Word))])).cores[(0 : CoreId)].reg (2 : Fin 16)) + 2 ^ 32 * BitVec.toNat ((core0 (regs0 [((3 : Fin 16), (1 : Word)), ((2 : Fin 16), (7 : Word))])).cores[(0 : CoreId)].reg ((2 : Fin 16) + (1 : Fin 16)))) ∧
    ((waits0 none).cores[(0 : CoreId)].wait = some (CoreWait.mk (2 : Fin 16) (4 : Word) none 2) ∧
      coreWaits (waits0 none) (0 : CoreId) = true ∧
      (CoreWait.mk (2 : Fin 16) (4 : Word) none 2).deadline = none ∧
      evpend (waits0 none) (0 : CoreId) &&& (CoreWait.mk (2 : Fin 16) (4 : Word) none 2).mask ≠ (0 : Word)) ∧
    ((waits0 (some 0)).cores[(0 : CoreId)].wait = some (CoreWait.mk (2 : Fin 16) (4 : Word) (some 0) 2) ∧
      coreWaits (waits0 (some 0)) (0 : CoreId) = true ∧
      (CoreWait.mk (2 : Fin 16) (4 : Word) (some 0) 2).deadline = some 0 ∧
      (evpend (waits0 (some 0)) (0 : CoreId) &&& (CoreWait.mk (2 : Fin 16) (4 : Word) (some 0) 2).mask ≠ (0 : Word) ∨ 0 ≤ (waits0 (some 0)).cores[(0 : CoreId)].cyc)) := by
  refine ⟨⟨?_, ?_⟩, ⟨?_, ?_⟩, ⟨?_, ?_⟩, ⟨?_, ?_⟩, ⟨?_, ?_, ?_⟩, ⟨?_, ?_, ?_, ?_⟩, ⟨?_, ?_, ?_, ?_⟩, ⟨?_, ?_, ?_, ?_⟩⟩ <;> decide +kernel

theorem test_hyps_DwxLoadsOfRam :
    (Issues wRun (0 : CoreId) Form.wide (0 : Fin 8) ∧
      inRam wRun (0 : CoreId) ((BitVec.toInt (wRun.cores[(0 : CoreId)].reg (1 : Fin 16)) + (0 : Int)) % (4294967296 : Int)).toNat = true ∧
      badWord wRun (0 : CoreId) (placeOf wRun (0 : CoreId) ((BitVec.toInt (wRun.cores[(0 : CoreId)].reg (1 : Fin 16)) + (0 : Int)) % (4294967296 : Int)).toNat) = none ∧
      ((BitVec.toInt (wRun.cores[(0 : CoreId)].reg (1 : Fin 16)) + (0 : Int)) % (4294967296 : Int)).toNat % 2 = 0) ∧
    (Issues wRun (0 : CoreId) Form.wide (0 : Fin 8) ∧
      inRam wRun (0 : CoreId) ((BitVec.toInt (wRun.cores[(0 : CoreId)].reg (1 : Fin 16)) + (0 : Int)) % (4294967296 : Int)).toNat = true ∧
      badWord wRun (0 : CoreId) (placeOf wRun (0 : CoreId) ((BitVec.toInt (wRun.cores[(0 : CoreId)].reg (1 : Fin 16)) + (0 : Int)) % (4294967296 : Int)).toNat) = none ∧
      ((BitVec.toInt (wRun.cores[(0 : CoreId)].reg (1 : Fin 16)) + (0 : Int)) % (4294967296 : Int)).toNat % 4 = 0) ∧
    (Issues wRun (0 : CoreId) Form.wide (0 : Fin 8) ∧
      ((BitVec.toInt (wRun.cores[(0 : CoreId)].reg (1 : Fin 16)) + (1 : Int)) % (4294967296 : Int)).toNat % 2 = 1) ∧
    (Issues wRun (0 : CoreId) Form.wide (0 : Fin 8) ∧
      ((BitVec.toInt (wRun.cores[(0 : CoreId)].reg (1 : Fin 16)) + (1 : Int)) % (4294967296 : Int)).toNat % 4 ≠ 0) ∧
    (Issues wRun (0 : CoreId) Form.wide (0 : Fin 8) ∧
      placeOf wRun (0 : CoreId) ((BitVec.toInt (wRun.cores[(0 : CoreId)].reg (1 : Fin 16)) + (-4 : Int)) % (4294967296 : Int)).toNat = Place.none ∧
      ((BitVec.toInt (wRun.cores[(0 : CoreId)].reg (1 : Fin 16)) + (-4 : Int)) % (4294967296 : Int)).toNat % 2 = 0) ∧
    (Issues wRun (0 : CoreId) Form.wide (0 : Fin 8) ∧
      placeOf wRun (0 : CoreId) ((BitVec.toInt (wRun.cores[(0 : CoreId)].reg (1 : Fin 16)) + (-4 : Int)) % (4294967296 : Int)).toNat = Place.none ∧
      ((BitVec.toInt (wRun.cores[(0 : CoreId)].reg (1 : Fin 16)) + (-4 : Int)) % (4294967296 : Int)).toNat % 4 = 0) := by
  refine ⟨⟨?_, ?_, ?_, ?_⟩, ⟨?_, ?_, ?_, ?_⟩, ⟨?_, ?_⟩, ⟨?_, ?_⟩, ⟨?_, ?_, ?_⟩, ⟨?_, ?_, ?_⟩⟩ <;> first | decide +kernel | rfl

theorem test_hyps_DwxStoresToRam :
    (Issues wRun (0 : CoreId) Form.wide (0 : Fin 8) ∧
      inRam wRun (0 : CoreId) ((BitVec.toInt (wRun.cores[(0 : CoreId)].reg (1 : Fin 16)) + (0 : Int)) % (4294967296 : Int)).toNat = true ∧
      ((BitVec.toInt (wRun.cores[(0 : CoreId)].reg (1 : Fin 16)) + (0 : Int)) % (4294967296 : Int)).toNat % 2 = 0) ∧
    (Issues wRun (0 : CoreId) Form.wide (0 : Fin 8) ∧
      inRam wRun (0 : CoreId) ((BitVec.toInt (wRun.cores[(0 : CoreId)].reg (1 : Fin 16)) + (0 : Int)) % (4294967296 : Int)).toNat = true ∧
      ((BitVec.toInt (wRun.cores[(0 : CoreId)].reg (1 : Fin 16)) + (0 : Int)) % (4294967296 : Int)).toNat % 4 = 0) ∧
    (Issues wRun (0 : CoreId) Form.wide (0 : Fin 8) ∧
      ((BitVec.toInt (wRun.cores[(0 : CoreId)].reg (1 : Fin 16)) + (1 : Int)) % (4294967296 : Int)).toNat % 2 = 1) ∧
    (Issues wRun (0 : CoreId) Form.wide (0 : Fin 8) ∧
      ((BitVec.toInt (wRun.cores[(0 : CoreId)].reg (1 : Fin 16)) + (1 : Int)) % (4294967296 : Int)).toNat % 4 ≠ 0) ∧
    (Issues wRun (0 : CoreId) Form.wide (0 : Fin 8) ∧
      placeOf wRun (0 : CoreId) ((BitVec.toInt (wRun.cores[(0 : CoreId)].reg (1 : Fin 16)) + (-4 : Int)) % (4294967296 : Int)).toNat = Place.none ∧
      ((BitVec.toInt (wRun.cores[(0 : CoreId)].reg (1 : Fin 16)) + (-4 : Int)) % (4294967296 : Int)).toNat % 2 = 0) ∧
    (Issues wRun (0 : CoreId) Form.wide (0 : Fin 8) ∧
      placeOf wRun (0 : CoreId) ((BitVec.toInt (wRun.cores[(0 : CoreId)].reg (1 : Fin 16)) + (-4 : Int)) % (4294967296 : Int)).toNat = Place.none ∧
      ((BitVec.toInt (wRun.cores[(0 : CoreId)].reg (1 : Fin 16)) + (-4 : Int)) % (4294967296 : Int)).toNat % 4 = 0) := by
  refine ⟨⟨?_, ?_, ?_⟩, ⟨?_, ?_, ?_⟩, ⟨?_, ?_⟩, ⟨?_, ?_⟩, ⟨?_, ?_, ?_⟩, ⟨?_, ?_, ?_⟩⟩ <;> first | decide +kernel | rfl

theorem test_hyps_SessionCommandsAnswer :
    (Ready hSys 2 true wRun ∧
      sessionOpen wRun = true ∧
      hSys.port = 255) ∧
    (Ready hSys 3 hSys.fence wRun ∧
      hSys.port = 255) ∧
    (Ready hSys 4 hSys.fence wRun ∧
      hSys.port = 255 ∧
      [(1 : Byte), (2 : Byte), (3 : Byte)].length ≤ 56) ∧
    (TakenSys hSys 5 wRun ∧
      0 ≤ wRun.time) := by
  refine ⟨⟨?_, ?_, ?_⟩, ⟨?_, ?_⟩, ⟨?_, ?_, ?_⟩, ⟨?_, ?_⟩⟩ <;> decide +kernel

theorem test_hyps_HostCommandsWaitAndNeedASession :
    (hostOpc? (Instr.telSnapshot hSys) = some (hSys, 1284) ∧
      hostServed State.reset = false) ∧
    (hostOpc? (Instr.telSnapshot hSys) = some (hSys, 1284) ∧
      hostServed wFence = true ∧
      blocked hSys 1284 hSys.fence wFence = true) ∧
    (hostOpc? (Instr.telSnapshot hSys) = some (hSys, 1284) ∧
      hostServed wTag = true ∧
      blocked hSys 1284 true wTag = false ∧
      tagFree hSys 1284 wTag = false) ∧
    (hostOpc? (Instr.telSnapshot hSys) = some (hSys, 1284) ∧
      Ready hSys 1284 true wNone ∧
      sessionOpen wNone = false ∧
      1284 ∉ [1, 3, 4, 2050]) := by
  refine ⟨⟨?_, ?_⟩, ⟨?_, ?_, ?_⟩, ⟨?_, ?_, ?_, ?_⟩, ⟨?_, ?_, ?_, ?_⟩⟩ <;> decide +kernel

theorem test_hyps_PortSetupCommandsAnswer :
    (TakenPort hP 258 (3 : PortId) wRun ∧
      wRun.ports[(3 : PortId)].st = PortSt.parked ∧
      linkUp wRun (dieOf (3 : PortId)) = true ∧
      dieHeld wRun (dieOf (3 : PortId)) = false ∧
      wRun.ports[(3 : PortId)].pol.cfgLater = none ∧
      wRun.ports[(3 : PortId)].pol.captLater = none ∧
      roleOf wRun (3 : PortId) = 0 ∧
      wRun.ports[(3 : PortId)].rdPhase = false ∧
      wRun.ports[(3 : PortId)].pattern = none) ∧
    (TakenPort hP 259 (3 : PortId) (on3 (Port.setSt PortSt.detached)) ∧
      (on3 (Port.setSt PortSt.detached)).ports[(3 : PortId)].st = PortSt.detached ∧
      noWaits (on3 (Port.setSt PortSt.detached)) (3 : PortId)) ∧
    (TakenPort hP 260 (3 : PortId) wRun ∧
      0 < 256) ∧
    (TakenPort hP 262 (3 : PortId) wRun ∧
      wRun.ports[(3 : PortId)].st ≠ PortSt.fenced ∧
      capsOk [(102700 : Word)] [] = true) ∧
    (TakenPort hP 264 (3 : PortId) (on3 (Port.setSt PortSt.detached)) ∧
      (on3 (Port.setSt PortSt.detached)).ports[(3 : PortId)].st = PortSt.detached ∧
      (on3 (Port.setSt PortSt.detached)).ports[(3 : PortId)].hw.retryEnd = none ∧
      (on3 (Port.setSt PortSt.detached)).ports[(3 : PortId)].retryExh = false) ∧
    (TakenPort hP 265 (3 : PortId) bidi ∧
      0 < 256 ∧
      (bidi.ports[(3 : PortId)].st = PortSt.parked ∨ bidi.ports[(3 : PortId)].st = PortSt.detached) ∧
      roleOf bidi (3 : PortId) ≠ 0) ∧
    (TakenPort hP 265 (3 : PortId) forced ∧
      0 < 256 ∧
      (forced.ports[(3 : PortId)].st = PortSt.parked ∨ forced.ports[(3 : PortId)].st = PortSt.detached) ∧
      roleOf forced (3 : PortId) = 0 ∧
      F.PRT_CAPT.FORCED.on forced.ports[(3 : PortId)].core.capt = true ∧
      false = false) ∧
    (TakenPort hP 265 (3 : PortId) wRun ∧
      0 < 256 ∧
      (wRun.ports[(3 : PortId)].st = PortSt.parked ∨ wRun.ports[(3 : PortId)].st = PortSt.detached) ∧
      roleOf wRun (3 : PortId) = 0 ∧
      F.PRT_CAPT.FORCED.on wRun.ports[(3 : PortId)].core.capt = false) := by
  refine ⟨⟨?_, ?_, ?_, ?_, ?_, ?_, ?_, ?_, ?_⟩, ⟨?_, ?_, ?_⟩, ⟨?_, ?_⟩, ⟨?_, ?_, ?_⟩, ⟨?_, ?_, ?_, ?_⟩, ⟨?_, ?_, ?_, ?_⟩, ⟨?_, ?_, ?_, ?_, ?_, ?_⟩, ⟨?_, ?_, ?_, ?_, ?_⟩⟩ <;> decide +kernel

theorem test_hyps_PortMessageCommandsSend :
    (1 < 3 ∧
      TakenPort hP 261 (3 : PortId) (on3 live) ∧
      (on3 live).ports[(3 : PortId)].attached = true ∧
      swapAllowed (on3 live) (3 : PortId) 1 = true ∧
      policyReady (on3 live).ports[(3 : PortId)] = true ∧
      Port.quiet (0 : Fin 3) (on3 live).ports[(3 : PortId)] ∧
      noWaits (on3 live) (3 : PortId) ∧
      (1 = 0 → (on3 live).ports[(3 : PortId)].isSource = true)) ∧
    (TakenPort hP 263 (3 : PortId) (on3 (vc ∘ live)) ∧
      (on3 (vc ∘ live)).ports[(3 : PortId)].attached = true ∧
      (on3 (vc ∘ live)).ports[(3 : PortId)].vconnOn = true ∧
      (on3 (vc ∘ live)).ports[(3 : PortId)].isDfp = true) ∧
    (TakenPort hP 263 (3 : PortId) (on3 live) ∧
      (on3 live).ports[(3 : PortId)].attached = true ∧
      (on3 live).ports[(3 : PortId)].vconnOn = false) ∧
    (0 < 3 ∧
      [(4278222849 : Word)] ≠ [] ∧
      [(4278222849 : Word)].length ≤ 7 ∧
      bulkOpt 0 30 = true ∧
      (on3 live).ports[(3 : PortId)].explicit = true ∧
      TakenPort hP 513 (3 : PortId) (on3 live) ∧
      Port.quiet (soptCtx 0) (on3 live).ports[(3 : PortId)]) ∧
    (1 < 3 ∧
      [(4278222849 : Word)] ≠ [] ∧
      [(4278222849 : Word)].length ≤ 7 ∧
      bulkOpt 0 30 = true ∧
      (on3 (cableOff ∘ live)).ports[(3 : PortId)].explicit = true ∧
      TakenPort hP 513 (3 : PortId) (on3 (cableOff ∘ live)) ∧
      1 ≠ 0 ∧
      F.CTX_CTL.EN.on (on3 (cableOff ∘ live)).ports[(3 : PortId)].ctx[soptCtx 1].ctl = false) ∧
    (0 < 3 ∧
      0 < 65536 ∧
      bulkOpt 0 30 = true ∧
      (on3 live).ports[(3 : PortId)].explicit = true ∧
      TakenPort hP 517 (3 : PortId) (on3 live) ∧
      Port.quiet (soptCtx 0) (on3 live).ports[(3 : PortId)]) ∧
    (1 < 256 ∧
      [(4278222849 : Word)] ≠ [] ∧
      [(4278222849 : Word)].length ≤ 7 ∧
      (on3 (heardVdm ∘ live)).ports[(3 : PortId)].explicit = true ∧
      TakenPort hP 514 (3 : PortId) (on3 (heardVdm ∘ live)) ∧
      Port.quiet (0 : Fin 3) (on3 (heardVdm ∘ live)).ports[(3 : PortId)] ∧
      (on3 (heardVdm ∘ live)).ports[(3 : PortId)].pol.hostVdm = #v[some 1, none, none]) ∧
    (0 < 256 ∧
      [(4278222849 : Word)] ≠ [] ∧
      [(4278222849 : Word)].length ≤ 7 ∧
      (on3 live).ports[(3 : PortId)].explicit = true ∧
      TakenPort hP 514 (3 : PortId) (on3 live) ∧
      (on3 live).ports[(3 : PortId)].pol.hostVdm[0] ≠ some 0) ∧
    (8 ∈ [8, 18, 20, 21, 22, 23, 24] ∧
      bulkOpt 0 266 = true ∧
      (on3 live).ports[(3 : PortId)].explicit = true ∧
      TakenPort hP 515 (3 : PortId) (on3 live) ∧
      Port.quiet (0 : Fin 3) (on3 live).ports[(3 : PortId)]) ∧
    (0 < 8 ∧
      bulkOpt 0 4096 = true ∧
      auths.ports[(3 : PortId)].explicit = true ∧
      TakenPort hP 516 (3 : PortId) auths ∧
      authRuns auths = true) ∧
    (0 < 8 ∧
      bulkOpt 0 4096 = true ∧
      (on3 live).ports[(3 : PortId)].explicit = true ∧
      TakenPort hP 516 (3 : PortId) (on3 live) ∧
      authRuns (on3 live) = false ∧
      Port.quiet (0 : Fin 3) (on3 live).ports[(3 : PortId)]) := by
  refine ⟨⟨?_, ?_, ?_, ?_, ?_, ?_, ?_, ?_⟩, ⟨?_, ?_, ?_, ?_⟩, ⟨?_, ?_, ?_⟩, ⟨?_, ?_, ?_, ?_, ?_, ?_, ?_⟩, ⟨?_, ?_, ?_, ?_, ?_, ?_, ?_, ?_⟩, ⟨?_, ?_, ?_, ?_, ?_, ?_⟩, ⟨?_, ?_, ?_, ?_, ?_, ?_, ?_⟩, ⟨?_, ?_, ?_, ?_, ?_, ?_⟩, ⟨?_, ?_, ?_, ?_, ?_⟩, ⟨?_, ?_, ?_, ?_, ?_⟩, ⟨?_, ?_, ?_, ?_, ?_, ?_⟩⟩ <;> decide +kernel

theorem test_hyps_PowerCommandsWriteSelectedFields :
    (TakenSys hSys 769 wRun ∧
      0 < 16 ∧
      0 < 2 ^ 20) ∧
    (0 < 4 ∧
      0 < 256 ∧
      TakenSys hSys 770 wRun) ∧
    (0 < 4 ∧
      0 < 256 ∧
      Taken hP 770 unpop ∧
      hP.port = (3 : PortId).val ∧
      unpopulated unpop (3 : PortId) = true) ∧
    (0 < 4 ∧
      0 < 256 ∧
      Taken hP 770 wRun ∧
      hP.port = (3 : PortId).val ∧
      unpopulated wRun (3 : PortId) = false) ∧
    (TakenSys hSys 771 wRun) ∧
    (Taken hP 771 wRun ∧
      hP.port = (3 : PortId).val) ∧
    (Taken hSys 771 wRun ∧
      hSys.port = 255 ∧
      0 + 1216 ≤ 262144) ∧
    (TakenSys hSys 772 wRun ∧
      (0 : Word) &&& ~~~(4129599 : Word) = (0 : Word)) ∧
    (TakenSys hSys 773 wRun ∧
      0 < 8 ∧
      (0 : Word) &&& ~~~(16711935 : Word) = (0 : Word) ∧
      0 < 65536 ∧
      0 < 256) ∧
    (Taken hP 1025 unpop ∧
      hP.port = (3 : PortId).val ∧
      0 < 256 ∧
      unpopulated unpop (3 : PortId) = true) ∧
    (Taken hP 1025 wRun ∧
      hP.port = (3 : PortId).val ∧
      2 < 256 ∧
      0 < 256 ∧
      unpopulated wRun (3 : PortId) = false ∧
      wRun.ports[(3 : PortId)].st ≠ PortSt.fenced ∧
      portServed wRun (3 : PortId) = true ∧
      linkUp wRun (dieOf (3 : PortId)) = true ∧
      curveFault (curveWritten 2 [0x480064, 0x500064] wRun.ports[(3 : PortId)]) = 0) ∧
    (Taken hP 1025 wRun ∧
      hP.port = (3 : PortId).val ∧
      0 < 256 ∧
      unpopulated wRun (3 : PortId) = false ∧
      wRun.ports[(3 : PortId)].st ≠ PortSt.fenced ∧
      portServed wRun (3 : PortId) = true ∧
      linkUp wRun (dieOf (3 : PortId)) = true ∧
      curveFault (curveWritten 0 [] wRun.ports[(3 : PortId)]) ≠ 0) ∧
    (Taken hP 1026 unpop ∧
      hP.port = (3 : PortId).val ∧
      0 < 65536 ∧
      (∀ x ∈ [], x < 65536) ∧
      unpopulated unpop (3 : PortId) = true) ∧
    (Taken hP 1026 (on3 (Port.setSt PortSt.detached)) ∧
      hP.port = (3 : PortId).val ∧
      4096 < 65536 ∧
      (∀ x ∈ [], x < 65536) ∧
      unpopulated (on3 (Port.setSt PortSt.detached)) (3 : PortId) = false ∧
      (on3 (Port.setSt PortSt.detached)).ports[(3 : PortId)].st ≠ PortSt.fenced ∧
      portServed (on3 (Port.setSt PortSt.detached)) (3 : PortId) = true ∧
      Nat.testBit 4096 12 = true ∧
      (on3 (Port.setSt PortSt.detached)).ports[(3 : PortId)].st ≠ PortSt.parked) ∧
    (Taken hP 1026 wRun ∧
      hP.port = (3 : PortId).val ∧
      0 < 65536 ∧
      (∀ x ∈ [], x < 65536) ∧
      unpopulated wRun (3 : PortId) = false ∧
      wRun.ports[(3 : PortId)].st ≠ PortSt.fenced ∧
      portServed wRun (3 : PortId) = true ∧
      (¬(Nat.testBit 0 12 = true ∨ Nat.testBit 0 13 = true ∨ Nat.testBit 0 14 = true))) ∧
    (TakenPort hP 1027 (3 : PortId) wRun) ∧
    (TakenSys hSys 1028 wRun ∧
      0 < 32 ∧
      0 < 256) := by
  refine ⟨⟨?_, ?_, ?_⟩, ⟨?_, ?_, ?_⟩, ⟨?_, ?_, ?_, ?_, ?_⟩, ⟨?_, ?_, ?_, ?_, ?_⟩, ?_, ⟨?_, ?_⟩, ⟨?_, ?_, ?_⟩, ⟨?_, ?_⟩, ⟨?_, ?_, ?_, ?_, ?_⟩, ⟨?_, ?_, ?_, ?_⟩, ⟨?_, ?_, ?_, ?_, ?_, ?_, ?_, ?_, ?_⟩, ⟨?_, ?_, ?_, ?_, ?_, ?_, ?_, ?_⟩, ⟨?_, ?_, ?_, ?_, ?_⟩, ⟨?_, ?_, ?_, ?_, ?_, ?_, ?_, ?_, ?_⟩, ⟨?_, ?_, ?_, ?_, ?_, ?_, ?_, ?_⟩, ?_, ⟨?_, ?_, ?_⟩⟩ <;> decide +kernel

theorem test_hyps_TelemetryAndEventCommandsAct :
    (15 < 16 ∧
      TakenSys hSys 1281 wRun) ∧
    (15 < 16 ∧
      Taken hP 1281 unpop ∧
      hP.port = (3 : PortId).val ∧
      unpopulated unpop (3 : PortId) = true) ∧
    (15 < 16 ∧
      Taken hP 1281 wRun ∧
      hP.port = (3 : PortId).val ∧
      unpopulated wRun (3 : PortId) = false ∧
      portReach wRun (3 : PortId) = true) ∧
    (TakenSys hSys 1282 wRun ∧
      F.TEL_STAT.RUN.on wRun.tel.stat = false) ∧
    (TakenSys hSys 1282 (running wRun) ∧
      F.TEL_STAT.RUN.on (running wRun).tel.stat = true) ∧
    (TakenSys hSys 1283 (running wRun) ∧
      F.TEL_STAT.RUN.on (running wRun).tel.stat = true) ∧
    (TakenSys hSys 1283 wRun ∧
      F.TEL_STAT.RUN.on wRun.tel.stat = false) ∧
    (TakenSys hSys 1284 wRun) ∧
    (Taken hP 1284 wRun ∧
      hP.port = (3 : PortId).val) ∧
    (15 + 15 ≤ 1216 ∧
      TakenSys hSys 1537 wRun ∧
      15 < 64) ∧
    (15 + 15 ≤ 1216 ∧
      TakenSys hSys 1538 wRun) := by
  refine ⟨⟨?_, ?_⟩, ⟨?_, ?_, ?_, ?_⟩, ⟨?_, ?_, ?_, ?_, ?_⟩, ⟨?_, ?_⟩, ⟨?_, ?_⟩, ⟨?_, ?_⟩, ⟨?_, ?_⟩, ?_, ⟨?_, ?_⟩, ⟨?_, ?_, ?_⟩, ⟨?_, ?_⟩⟩ <;> decide +kernel

theorem test_hyps_SystemAndBusCommandsAnswer :
    (TakenSys hSys 2049 (dueAt wRun) ∧
      0 < 2 ∧
      (dueAt wRun).boot.due.isSome = true) ∧
    (TakenSys hSys 2049 wRun ∧
      0 < 2 ∧
      wRun.upd.st ≠ 4 ∧
      wRun.boot.due = none) ∧
    (Ready hSys 2050 hSys.fence wRun ∧
      hSys.port = 255) ∧
    (TakenSys hSys 2051 wRun) ∧
    (TakenSys hSys 2052 wRun) ∧
    (TakenSys hSys 2053 wRun ∧
      0 + 0 ≤ 262144) ∧
    (TakenSys hSys 2054 wRun ∧
      0 < 2) ∧
    (TakenSys hSys 2561 xferOn ∧
      0 < 128 ∧
      0 ≤ 4096 ∧
      ((decide (40 < 0) || decide (12 < 0)) = true → 0 + 0 + 0 ≤ 262144) ∧
      xferOn.twc[(1 : Fin 2)].xfer.isSome = true) ∧
    (TakenSys hSys 2561 wRun ∧
      0 < 128 ∧
      0 ≤ 4096 ∧
      ((decide (40 < 0) || decide (12 < 0)) = true → 0 + 0 + 0 ≤ 262144) ∧
      wRun.twc[(1 : Fin 2)].xfer = none ∧
      BusCheck.free = BusCheck.free) ∧
    (TakenSys hSys 2561 wRun ∧
      0 < 128 ∧
      0 ≤ 4096 ∧
      ((decide (40 < 0) || decide (12 < 0)) = true → 0 + 0 + 0 ≤ 262144) ∧
      wRun.twc[(1 : Fin 2)].xfer = none ∧
      BusCheck.sdaHeld 9 = BusCheck.sdaHeld (nat_lit 9) ∧
      nat_lit 9 ≤ 9) ∧
    (TakenSys hSys 2561 wRun ∧
      0 < 128 ∧
      0 ≤ 4096 ∧
      ((decide (40 < 0) || decide (12 < 0)) = true → 0 + 0 + 0 ≤ 262144) ∧
      wRun.twc[(1 : Fin 2)].xfer = none ∧
      BusCheck.sclLow = BusCheck.sclLow ∧
      (∀ w ∈ wRun.host.waits, isBusWait (1 : Fin 2) w = false)) := by
  refine ⟨⟨?_, ?_, ?_⟩, ⟨?_, ?_, ?_, ?_⟩, ⟨?_, ?_⟩, ?_, ?_, ⟨?_, ?_⟩, ⟨?_, ?_⟩, ⟨?_, ?_, ?_, ?_, ?_⟩, ⟨?_, ?_, ?_, ?_, ?_, ?_⟩, ⟨?_, ?_, ?_, ?_, ?_, ?_, ?_⟩, ⟨?_, ?_, ?_, ?_, ?_, ?_, ?_⟩⟩ <;> decide +kernel

theorem test_hyps_FuseCommandsObeyLocksAndReasons :
    (TakenSys hSys 2305 otpRuns ∧
      1 ≤ 1 ∧
      1 ≤ 3 ∧
      1 + 1 ≤ 2048 ∧
      otpRuns.otp.op.isSome = true) ∧
    (TakenSys hSys 2305 rLock0 ∧
      1 ≤ 1 ∧
      1 ≤ 3 ∧
      1 + 1 ≤ 2048 ∧
      rLock0.otp.op = none ∧
      (∃ w ∈ List.map (fun x => 1 + x) (List.range 1), rLocked rLock0 (fuseRegion w) = true)) ∧
    (TakenSys hSys 2305 wRun ∧
      1 ≤ 1 ∧
      1 ≤ 3 ∧
      1 + 1 ≤ 2048 ∧
      wRun.otp.op = none ∧
      (∀ w ∈ List.map (fun x => 1 + x) (List.range 1), rLocked wRun (fuseRegion w) = false)) ∧
    (TakenSys hSys 2305 wRun ∧
      1 ≤ 1 ∧
      1 ≤ 3 ∧
      256 + 1 ≤ 2048 ∧
      256 + nat_lit 0 ∈ List.map (fun x => 256 + x) (List.range 1) ∧
      fuseRegion (256 + nat_lit 0) = 1) ∧
    (TakenSys hSys 2305 wRun ∧
      1 ≤ 1 ∧
      1 ≤ 3 ∧
      1 + 1 ≤ 2048 ∧
      1 + nat_lit 0 ∈ List.map (fun x => 1 + x) (List.range 1) ∧
      fuseRegion (1 + nat_lit 0) ≠ 1 ∧
      bitCount (fuseAt wRun (1 + nat_lit 0)).nrm = 0) ∧
    (TakenSys hSys 2305 blown1 ∧
      1 ≤ 1 ∧
      1 ≤ 3 ∧
      512 + 1 ≤ 2048 ∧
      512 + nat_lit 0 ∈ List.map (fun x => 512 + x) (List.range 1) ∧
      fuseRegion (512 + nat_lit 0) ≠ 1 ∧
      bitCount (fuseAt blown1 (512 + nat_lit 0)).nrm = 1) ∧
    (TakenSys hSys 2305 blown1 ∧
      1 ≤ 1 ∧
      1 ≤ 3 ∧
      513 + 1 ≤ 2048 ∧
      513 + nat_lit 0 ∈ List.map (fun x => 513 + x) (List.range 1) ∧
      fuseRegion (513 + nat_lit 0) ≠ 1 ∧
      bitCount (fuseAt blown1 (513 + nat_lit 0)).nrm = 2) ∧
    (TakenSys hSys 2306 otpRuns ∧
      1 < 2048 ∧
      otpBusy otpRuns = true) ∧
    (TakenSys hSys 2306 wRun ∧
      1 < 2048 ∧
      otpBusy wRun = false ∧
      progReason wRun 1 (0 : Word) ≠ 0) ∧
    (TakenSys hSys 2306 wRun ∧
      560 < 2048 ∧
      otpBusy wRun = false ∧
      progReason wRun 560 (1 : Word) = 0 ∧
      ¬((fuseAt wRun 560).data = (1 : Word) ∧ (fuseAt wRun 560).hi = 0 ∧ (fuseAt wRun 560).lo = 0)) ∧
    (TakenSys hSys 2306 wRun ∧
      560 < 2048 ∧
      otpBusy wRun = false ∧
      progReason wRun 560 (0 : Word) = 0 ∧
      (fuseAt wRun 560).data = (0 : Word) ∧
      (fuseAt wRun 560).hi = 0 ∧
      (fuseAt wRun 560).lo = 0 ∧
      (∀ w ∈ wRun.host.waits, w.kind ≠ WaitKind.otpProgram)) ∧
    (TakenSys hSys 2307 otpRuns ∧
      otpBusy otpRuns = true) ∧
    (TakenSys hSys 2307 wRun ∧
      otpBusy wRun = false) ∧
    (TakenSys hSys 2308 otpRuns ∧
      1 < 8 ∧
      1 < 2 ∧
      otpBusy otpRuns = true) ∧
    (TakenSys hSys 2308 wRun ∧
      1 < 8 ∧
      0 < 2 ∧
      otpBusy wRun = false ∧
      lockReason wRun 1 (0 == 1) ≠ 0) ∧
    (TakenSys hSys 2308 wRun ∧
      1 < 8 ∧
      1 < 2 ∧
      otpBusy wRun = false ∧
      lockReason wRun 1 (1 == 1) = 0 ∧
      (lockFuses wRun 1 (1 == 1))[(0 : Fin 3)] = false ∧
      (∀ j < (0 : Fin 3), (lockFuses wRun 1 (1 == 1))[j] = true)) ∧
    (TakenSys hSys 2308 wRun ∧
      0 < 8 ∧
      0 < 2 ∧
      otpBusy wRun = false ∧
      lockReason wRun 0 (0 == 1) = 0 ∧
      (∀ (k : Fin 3), (lockFuses wRun 0 (0 == 1))[k] = true) ∧
      (∀ w ∈ wRun.host.waits, w.kind ≠ WaitKind.otpLock)) := by
  refine ⟨⟨?_, ?_, ?_, ?_, ?_⟩, ⟨?_, ?_, ?_, ?_, ?_, ?_⟩, ⟨?_, ?_, ?_, ?_, ?_, ?_⟩, ⟨?_, ?_, ?_, ?_, ?_, ?_⟩, ⟨?_, ?_, ?_, ?_, ?_, ?_, ?_⟩, ⟨?_, ?_, ?_, ?_, ?_, ?_, ?_⟩, ⟨?_, ?_, ?_, ?_, ?_, ?_, ?_⟩, ⟨?_, ?_, ?_⟩, ⟨?_, ?_, ?_, ?_⟩, ⟨?_, ?_, ?_, ?_, ?_⟩, ⟨?_, ?_, ?_, ?_, ?_, ?_, ?_, ?_⟩, ⟨?_, ?_⟩, ⟨?_, ?_⟩, ⟨?_, ?_, ?_, ?_⟩, ⟨?_, ?_, ?_, ?_, ?_⟩, ⟨?_, ?_, ?_, ?_, ?_, ?_, ?_⟩, ⟨?_, ?_, ?_, ?_, ?_, ?_, ?_⟩⟩ <;> decide +kernel

theorem test_hyps_UpdateCommandsFollowTheirStates :
    (TakenSys hSys 1798 updReady) ∧
    (TakenSys hSys 1793 updRun ∧
      0 < 3 ∧
      ([] : List Byte).length ≤ 32 ∧
      updFree updRun = false) ∧
    (TakenSys hSys 1793 updReady ∧
      0 < 3 ∧
      ([] : List Byte).length ≤ 32 ∧
      updFree updReady = true ∧
      updReady.board.card = false) ∧
    (TakenSys hSys 1793 cardIn ∧
      0 < 3 ∧
      ([] : List Byte).length ≤ 32 ∧
      updFree cardIn = true ∧
      cardIn.board.card = true) ∧
    (TakenSys hSys 1794 updRun ∧
      0 + 512 ≤ 262144 ∧
      updFree updRun = false) ∧
    (TakenSys hSys 1794 updReady ∧
      1 + 512 ≤ 262144 ∧
      updFree updReady = true ∧
      headerCheck updReady (bulkRead updReady 1 512) = some (Status.imageInvalid, 1)) ∧
    (TakenSys hSys 1794 updReady ∧
      0 + 512 ≤ 262144 ∧
      updFree updReady = true ∧
      headerCheck updReady (bulkRead updReady 0 512) = none) ∧
    (TakenSys hSys 1795 updReady ∧
      0 + 16 ≤ 262144 ∧
      5 ≤ 16 ∧
      16 ≤ 4096 ∧
      (updReady.upd.st ≠ 1 ∧ updReady.upd.st ≠ 2 ∨ updReady.upd.card = true)) ∧
    (TakenSys hSys 1795 (updSt 2 1) ∧
      0 + 16 ≤ 262144 ∧
      5 ≤ 16 ∧
      16 ≤ 4096 ∧
      ((updSt 2 1).upd.st = 1 ∨ (updSt 2 1).upd.st = 2) ∧
      (updSt 2 1).upd.card = false ∧
      0 + 1 = (updSt 2 1).upd.next) ∧
    (TakenSys hSys 1795 updRun ∧
      0 + 16 ≤ 262144 ∧
      5 ≤ 16 ∧
      16 ≤ 4096 ∧
      (updRun.upd.st = 1 ∨ updRun.upd.st = 2) ∧
      updRun.upd.card = false ∧
      1 + 1 ≠ updRun.upd.next ∧
      (updRun.upd.st = 2 ∨ 1 ≠ updRun.upd.next)) ∧
    (TakenSys hSys 1795 updRun ∧
      0 + 16 ≤ 262144 ∧
      5 ≤ 16 ∧
      16 ≤ 4096 ∧
      updRun.upd.st = 1 ∧
      updRun.upd.card = false ∧
      0 = updRun.upd.next ∧
      (16 ≠ blockLen updRun.upd.hdr 0 ∨ blockCrcOk (bulkRead updRun 0 16) = false)) ∧
    (TakenSys hSys 1795 updRun ∧
      4096 + 5 ≤ 262144 ∧
      5 ≤ 5 ∧
      5 ≤ 4096 ∧
      updRun.upd.st = 1 ∧
      updRun.upd.card = false ∧
      0 = updRun.upd.next ∧
      5 = blockLen updRun.upd.hdr 0 ∧
      blockCrcOk (bulkRead updRun 4096 5) = true ∧
      true = true ∧
      flashRead (writeBlock updRun.upd.slot 0 (bulkRead updRun 4096 5) updRun) (blockAddr updRun.upd.slot 0) 5 = bulkRead updRun 4096 5) ∧
    (TakenSys hSys 1795 updRun ∧
      4096 + 5 ≤ 262144 ∧
      5 ≤ 5 ∧
      5 ≤ 4096 ∧
      updRun.upd.st = 1 ∧
      updRun.upd.card = false ∧
      0 = updRun.upd.next ∧
      5 = blockLen updRun.upd.hdr 0 ∧
      blockCrcOk (bulkRead updRun 4096 5) = true ∧
      (false = false ∨ flashRead (writeBlock updRun.upd.slot 0 (bulkRead updRun 4096 5) updRun) (blockAddr updRun.upd.slot 0) 5 ≠ bulkRead updRun 4096 5)) ∧
    (TakenSys hSys 1795 updReady ∧
      0 + 16 ≤ 262144 ∧
      5 ≤ 16 ∧
      16 ≤ 4096 ∧
      (blockAddr updReady.upd.slot 0 % 65536 = 0 ∨ ∀ j < 16, cget (255 : Byte) updReady.flash.cells (blockAddr updReady.upd.slot 0 + j) = (255 : Byte))) ∧
    (TakenSys hSys 1795 updReady ∧
      0 + 16 ≤ 262144 ∧
      5 ≤ 16 ∧
      16 ≤ 4096 ∧
      (0 < blockAddr updReady.upd.slot 0 ∨ blockAddr updReady.upd.slot 0 + 16 ≤ 0)) ∧
    (TakenSys hSys 1796 updReady ∧
      (updReady.upd.st ≠ 2 ∨ updReady.upd.card = true)) ∧
    (TakenSys hSys 1796 updEnds ∧
      updEnds.upd.st = 2 ∧
      updEnds.upd.card = false ∧
      signatureOk updEnds updEnds.upd.slot updEnds.upd.hdr = false) ∧
    (TakenSys hSys 1796 sigEnds ∧
      sigEnds.upd.st = 2 ∧
      sigEnds.upd.card = false ∧
      signatureOk sigEnds sigEnds.upd.slot sigEnds.upd.hdr = true ∧
      true = true ∧
      slotHeader (flashProgram (slotBase sigEnds.upd.slot) sigEnds.upd.hdr sigEnds) sigEnds.upd.slot = sigEnds.upd.hdr) ∧
    (TakenSys hSys 1796 sigEnds ∧
      sigEnds.upd.st = 2 ∧
      sigEnds.upd.card = false ∧
      signatureOk sigEnds sigEnds.upd.slot sigEnds.upd.hdr = true ∧
      (false = false ∨ slotHeader (flashProgram (slotBase sigEnds.upd.slot) sigEnds.upd.hdr sigEnds) sigEnds.upd.slot ≠ sigEnds.upd.hdr)) ∧
    (TakenSys hSys 1796 updRun ∧
      updRun.upd.hdr.length = 512 ∧
      (∀ j < 512, cget (255 : Byte) updRun.flash.cells (slotBase updRun.upd.slot + j) = (255 : Byte))) ∧
    (TakenSys hSys 1796 updReady ∧
      (0 < slotBase updReady.upd.slot ∨ slotBase updReady.upd.slot + updReady.upd.hdr.length ≤ 0)) ∧
    (TakenSys hSys 1797 updReady ∧
      0 < 2 ∧
      updReady.upd.st ≠ 3) ∧
    (TakenSys hSys 1797 (dueAt (updSt 3 0)) ∧
      0 < 2 ∧
      (dueAt (updSt 3 0)).upd.st = 3 ∧
      (dueAt (updSt 3 0)).boot.due.isSome = true) ∧
    (TakenSys hSys 1797 (updSt 3 0) ∧
      0 < 2 ∧
      (updSt 3 0).upd.st = 3 ∧
      (updSt 3 0).boot.due = none ∧
      0 = 0 ∧
      hitlessOk (updSt 3 0) = false) ∧
    (TakenSys hSys 1797 (updSt 3 0) ∧
      1 < 2 ∧
      (updSt 3 0).upd.st = 3 ∧
      (updSt 3 0).boot.due = none ∧
      (1 = 1 ∨ hitlessOk (updSt 3 0) = true)) ∧
    (TakenSys hSys 1797 updReady ∧
      0 < 2 ∧
      updReady.upd.slot < 2 ∧
      (∀ x ∈ bootTable updReady, x.gen + 1 < 2 ^ 32)) ∧
    (TakenSys hSys 1799 updReady ∧
      (∀ w ∈ updReady.host.waits, w.kind ≠ WaitKind.card)) ∧
    (TakenSys hSys 1799 cardWaits ∧
      List.filter (fun x => x.kind == WaitKind.card) cardWaits.host.waits = [Wait.mk 2 1793 255 false WaitKind.card []]) := by
  refine ⟨?_, ⟨?_, ?_, ?_, ?_⟩, ⟨?_, ?_, ?_, ?_, ?_⟩, ⟨?_, ?_, ?_, ?_, ?_⟩, ⟨?_, ?_, ?_⟩, ⟨?_, ?_, ?_, evaluates_0⟩, ⟨?_, ?_, ?_, evaluates_1⟩, ⟨?_, ?_, ?_, ?_, ?_⟩, ⟨?_, ?_, ?_, ?_, ?_, ?_, ?_⟩, ⟨?_, ?_, ?_, ?_, ?_, ?_, ?_, ?_⟩, ⟨?_, ?_, ?_, ?_, ?_, ?_, ?_, ?_⟩, ⟨?_, ?_, ?_, ?_, ?_, ?_, ?_, ?_, evaluates_2, ?_, evaluates_3⟩, ⟨?_, ?_, ?_, ?_, ?_, ?_, ?_, ?_, evaluates_2, ?_⟩, ⟨?_, ?_, ?_, ?_, ?_⟩, ⟨?_, ?_, ?_, ?_, ?_⟩, ⟨?_, ?_⟩, ⟨?_, ?_, ?_, ?_⟩, ⟨?_, ?_, ?_, evaluates_4, ?_, evaluates_5⟩, ⟨?_, ?_, ?_, evaluates_4, ?_⟩, ⟨?_, ?_, ?_⟩, ⟨?_, ?_⟩, ⟨?_, ?_, ?_⟩, ⟨?_, ?_, ?_, ?_⟩, ⟨?_, ?_, ?_, ?_, ?_, ?_⟩, ⟨?_, ?_, ?_, ?_, ?_⟩, ⟨?_, ?_, ?_, ?_⟩, ⟨?_, ?_⟩, ⟨?_, ?_⟩⟩ <;> decide +kernel

theorem test_hyps_StrainerTakesMajority :
    (slotOff wRun.ports[(3 : PortId)] (1 : Fin 8) = true) ∧
    (((on3 (Port.setSt PortSt.tripped)).ports[(3 : PortId)].st = PortSt.bindingOff ∨ (on3 (Port.setSt PortSt.tripped)).ports[(3 : PortId)].st = PortSt.tripped ∨ (on3 (Port.setSt PortSt.tripped)).ports[(3 : PortId)].st = PortSt.retryWait ∧ (1 : Fin 8) ≠ (4 : Fin 8) ∧ (on3 (Port.setSt PortSt.tripped)).ports[(3 : PortId)].strained (4 : Fin 8) = true) ∧
      slotQuiet (on3 (Port.setSt PortSt.tripped)).time (on3 (Port.setSt PortSt.tripped)).ports[(3 : PortId)] (1 : Fin 8) = false ∧
      (on3 (Port.setSt PortSt.tripped)).ports[(3 : PortId)].hw.strain[(1 : Fin 8)].length = 15 ∧
      1 ≤ F.CMP_STR.M.get (on3 (Port.setSt PortSt.tripped)).ports[(3 : PortId)].cc.str[(1 : Fin 8)] ∧
      F.CMP_STR.M.get (on3 (Port.setSt PortSt.tripped)).ports[(3 : PortId)].cc.str[(1 : Fin 8)] / 2 + 1 ≤ F.CMP_STR.N.get (on3 (Port.setSt PortSt.tripped)).ports[(3 : PortId)].cc.str[(1 : Fin 8)] ∧
      F.CMP_STR.N.get (on3 (Port.setSt PortSt.tripped)).ports[(3 : PortId)].cc.str[(1 : Fin 8)] ≤ F.CMP_STR.M.get (on3 (Port.setSt PortSt.tripped)).ports[(3 : PortId)].cc.str[(1 : Fin 8)]) ∧
    (frontWrites wRun (3 : PortId) = true) ∧
    (frontWrites State.reset (3 : PortId) = false) := by
  refine ⟨?_, ⟨?_, ?_, ?_, ?_, ?_, ?_⟩, ?_, ?_⟩ <;> decide +kernel

theorem test_hyps_AttachTimersAct :
    ((idle3 aw).ports[(3 : PortId)].st = PortSt.attachWait ∧
      (idle3 aw).ports[(3 : PortId)].hw.deb.isSome = true ∧
      (idle3 aw).ports[(3 : PortId)].trying = false ∧
      portServed (idle3 aw) (3 : PortId) = false) ∧
    ((on3 (strainedTo 16 ∘ dec 1 0 ∘ rp ∘ aw)).ports[(3 : PortId)].st = PortSt.attachWait ∧
      (on3 (strainedTo 16 ∘ dec 1 0 ∘ rp ∘ aw)).ports[(3 : PortId)].hw.deb.isSome = true ∧
      (on3 (strainedTo 16 ∘ dec 1 0 ∘ rp ∘ aw)).ports[(3 : PortId)].tc = 2 ∧
      portServed (on3 (strainedTo 16 ∘ dec 1 0 ∘ rp ∘ aw)) (3 : PortId) = true ∧
      (on3 (strainedTo 16 ∘ dec 1 0 ∘ rp ∘ aw)).ports[(3 : PortId)].pol.pend = [] ∧
      (on3 (strainedTo 16 ∘ dec 1 0 ∘ rp ∘ aw)).ports[(3 : PortId)].pattern.isSome = true ∧
      F.PRT_CFG.TRY.get (on3 (strainedTo 16 ∘ dec 1 0 ∘ rp ∘ aw)).ports[(3 : PortId)].core.cfg ≠ 2 ∧
      (on3 (strainedTo 16 ∘ dec 1 0 ∘ rp ∘ aw)).ports[(3 : PortId)].hw.retryEnd = none ∧
      (on3 (strainedTo 16 ∘ dec 1 0 ∘ rp ∘ aw)).ports[(3 : PortId)].retryExh = false ∧
      (on3 (strainedTo 16 ∘ dec 1 0 ∘ rp ∘ aw)).ports[(3 : PortId)].rdPhase = false ∧
      (on3 (strainedTo 16 ∘ dec 1 0 ∘ rp ∘ aw)).ports[(3 : PortId)].strained (4 : Fin 8) = true) ∧
    ((idle3 away).ports[(3 : PortId)].hw.nonAttach.isSome = true ∧
      portServed (idle3 away) (3 : PortId) = false) ∧
    ((on3 (away ∘ rp ∘ aw)).ports[(3 : PortId)].hw.nonAttach.isSome = true ∧
      portServed (on3 (away ∘ rp ∘ aw)) (3 : PortId) = true ∧
      (on3 (away ∘ rp ∘ aw)).ports[(3 : PortId)].pol.pend = [] ∧
      (on3 (away ∘ rp ∘ aw)).ports[(3 : PortId)].st = PortSt.attachWait ∧
      (on3 (away ∘ rp ∘ aw)).ports[(3 : PortId)].trying = false ∧
      (on3 (away ∘ rp ∘ aw)).ports[(3 : PortId)].pattern = none ∧
      (on3 (away ∘ rp ∘ aw)).ports[(3 : PortId)].pol.cfgLater = none ∧
      (on3 (away ∘ rp ∘ aw)).ports[(3 : PortId)].pol.captLater = none ∧
      roleOf (on3 (away ∘ rp ∘ aw)) (3 : PortId) = 0 ∧
      (on3 (away ∘ rp ∘ aw)).ports[(3 : PortId)].rdPhase = false) ∧
    ((on3 (strainedTo 16 ∘ away ∘ Port.setSt PortSt.tripped)).ports[(3 : PortId)].hw.nonAttach.isSome = true ∧
      portServed (on3 (strainedTo 16 ∘ away ∘ Port.setSt PortSt.tripped)) (3 : PortId) = true ∧
      (on3 (strainedTo 16 ∘ away ∘ Port.setSt PortSt.tripped)).ports[(3 : PortId)].pol.pend = [] ∧
      ((on3 (strainedTo 16 ∘ away ∘ Port.setSt PortSt.tripped)).ports[(3 : PortId)].st = PortSt.tripped ∨ (on3 (strainedTo 16 ∘ away ∘ Port.setSt PortSt.tripped)).ports[(3 : PortId)].st = PortSt.retryWait) ∧
      (on3 (strainedTo 16 ∘ away ∘ Port.setSt PortSt.tripped)).ports[(3 : PortId)].pattern = none ∧
      (on3 (strainedTo 16 ∘ away ∘ Port.setSt PortSt.tripped)).ports[(3 : PortId)].strained (4 : Fin 8) = true) ∧
    ((on3 (rp ∘ away ∘ Port.setSt PortSt.retryWait)).ports[(3 : PortId)].hw.nonAttach.isSome = true ∧
      portServed (on3 (rp ∘ away ∘ Port.setSt PortSt.retryWait)) (3 : PortId) = true ∧
      (on3 (rp ∘ away ∘ Port.setSt PortSt.retryWait)).ports[(3 : PortId)].pol.pend = [] ∧
      ((on3 (rp ∘ away ∘ Port.setSt PortSt.retryWait)).ports[(3 : PortId)].st = PortSt.tripped ∨ (on3 (rp ∘ away ∘ Port.setSt PortSt.retryWait)).ports[(3 : PortId)].st = PortSt.retryWait) ∧
      (on3 (rp ∘ away ∘ Port.setSt PortSt.retryWait)).ports[(3 : PortId)].pattern = none ∧
      (on3 (rp ∘ away ∘ Port.setSt PortSt.retryWait)).ports[(3 : PortId)].strained (4 : Fin 8) = false ∧
      (on3 (rp ∘ away ∘ Port.setSt PortSt.retryWait)).ports[(3 : PortId)].pol.cfgLater = none ∧
      (on3 (rp ∘ away ∘ Port.setSt PortSt.retryWait)).ports[(3 : PortId)].pol.captLater = none ∧
      roleOf (on3 (rp ∘ away ∘ Port.setSt PortSt.retryWait)) (3 : PortId) = 0 ∧
      (on3 (rp ∘ away ∘ Port.setSt PortSt.retryWait)).ports[(3 : PortId)].rdPhase = false) ∧
    (alternating altOn (3 : PortId) = true) ∧
    ((idle3 (tryAt 4)).ports[(3 : PortId)].hw.drpTry.isSome = true ∧
      portServed (idle3 (tryAt 4)) (3 : PortId) = false) ∧
    ((on3 (strainedTo 16 ∘ dec 1 0 ∘ rp ∘ tryAt 4)).ports[(3 : PortId)].hw.drpTry.isSome = true ∧
      portServed (on3 (strainedTo 16 ∘ dec 1 0 ∘ rp ∘ tryAt 4)) (3 : PortId) = true ∧
      (on3 (strainedTo 16 ∘ dec 1 0 ∘ rp ∘ tryAt 4)).ports[(3 : PortId)].pol.pend = [] ∧
      (on3 (strainedTo 16 ∘ dec 1 0 ∘ rp ∘ tryAt 4)).ports[(3 : PortId)].st = PortSt.attachWait ∧
      (on3 (strainedTo 16 ∘ dec 1 0 ∘ rp ∘ tryAt 4)).ports[(3 : PortId)].tc = 4) ∧
    ((idle3 (tryAt 4)).ports[(3 : PortId)].st = PortSt.attachWait ∧
      (idle3 (tryAt 4)).ports[(3 : PortId)].hw.deb.isSome = true ∧
      (idle3 (tryAt 4)).ports[(3 : PortId)].trying = true ∧
      portServed (idle3 (tryAt 4)) (3 : PortId) = false) ∧
    ((on3 (strainedTo 16 ∘ dec 1 0 ∘ rp ∘ tryAt 4)).ports[(3 : PortId)].st = PortSt.attachWait ∧
      (on3 (strainedTo 16 ∘ dec 1 0 ∘ rp ∘ tryAt 4)).ports[(3 : PortId)].hw.deb.isSome = true ∧
      (on3 (strainedTo 16 ∘ dec 1 0 ∘ rp ∘ tryAt 4)).ports[(3 : PortId)].tc = 4 ∧
      portServed (on3 (strainedTo 16 ∘ dec 1 0 ∘ rp ∘ tryAt 4)) (3 : PortId) = true ∧
      (on3 (strainedTo 16 ∘ dec 1 0 ∘ rp ∘ tryAt 4)).ports[(3 : PortId)].pol.pend = [] ∧
      (on3 (strainedTo 16 ∘ dec 1 0 ∘ rp ∘ tryAt 4)).ports[(3 : PortId)].pattern.isSome = true ∧
      (on3 (strainedTo 16 ∘ dec 1 0 ∘ rp ∘ tryAt 4)).ports[(3 : PortId)].hw.retryEnd = none ∧
      (on3 (strainedTo 16 ∘ dec 1 0 ∘ rp ∘ tryAt 4)).ports[(3 : PortId)].retryExh = false ∧
      (on3 (strainedTo 16 ∘ dec 1 0 ∘ rp ∘ tryAt 4)).ports[(3 : PortId)].rdPhase = false ∧
      (on3 (strainedTo 16 ∘ dec 1 0 ∘ rp ∘ tryAt 4)).ports[(3 : PortId)].strained (4 : Fin 8) = true) := by
  refine ⟨⟨?_, ?_, ?_, ?_⟩, ⟨?_, ?_, ?_, ?_, ?_, ?_, ?_, ?_, ?_, ?_, ?_⟩, ⟨?_, ?_⟩, ⟨?_, ?_, ?_, ?_, ?_, ?_, ?_, ?_, ?_, ?_⟩, ⟨?_, ?_, ?_, ?_, ?_, ?_⟩, ⟨?_, ?_, ?_, ?_, ?_, ?_, ?_, ?_, ?_, ?_⟩, ?_, ⟨?_, ?_⟩, ⟨?_, ?_, ?_, ?_, ?_⟩, ⟨?_, ?_, ?_, ?_⟩, ⟨?_, ?_, ?_, ?_, ?_, ?_, ?_, ?_, ?_, ?_⟩⟩ <;> decide +kernel

theorem test_hyps_DetachAndVconnAct :
    ((watchedOpen wRun.ports[(3 : PortId)] = false ∨ wRun.ports[(3 : PortId)].hw.ride = none ∧ wRun.ports[(3 : PortId)].swapHolds = true)) ∧
    (watchedOpen (on3 (hiOpen ∘ ride5 ∘ live)).ports[(3 : PortId)] = true ∧
      (on3 (hiOpen ∘ ride5 ∘ live)).ports[(3 : PortId)].hw.ride.isSome = true) ∧
    (watchedOpen (idle3 (hiOpen ∘ live)).ports[(3 : PortId)] = true ∧
      (idle3 (hiOpen ∘ live)).ports[(3 : PortId)].attached = true ∧
      (idle3 (hiOpen ∘ live)).ports[(3 : PortId)].rdPhase = false ∧
      (idle3 (hiOpen ∘ live)).ports[(3 : PortId)].swapHolds = false ∧
      (idle3 (hiOpen ∘ live)).ports[(3 : PortId)].hw.ride = none ∧
      ¬(portServed (idle3 (hiOpen ∘ live)) (3 : PortId) = true ∧ (idle3 (hiOpen ∘ live)).ports[(3 : PortId)].pol.pend = [])) ∧
    (watchedOpen (on3 (hiOpen ∘ live)).ports[(3 : PortId)] = true ∧
      (on3 (hiOpen ∘ live)).ports[(3 : PortId)].attached = true ∧
      (on3 (hiOpen ∘ live)).ports[(3 : PortId)].rdPhase = false ∧
      (on3 (hiOpen ∘ live)).ports[(3 : PortId)].swapHolds = false ∧
      (on3 (hiOpen ∘ live)).ports[(3 : PortId)].hw.ride = none ∧
      portServed (on3 (hiOpen ∘ live)) (3 : PortId) = true ∧
      (on3 (hiOpen ∘ live)).ports[(3 : PortId)].pol.pend = [] ∧
      (on3 (hiOpen ∘ live)).ports[(3 : PortId)].strained (4 : Fin 8) = true) ∧
    ((idle3 (vc ∘ live)).ports[(3 : PortId)].vconnOn = true ∧
      ¬(portServed (idle3 (vc ∘ live)) (3 : PortId) = true ∧ (idle3 (vc ∘ live)).ports[(3 : PortId)].pol.pend = [])) ∧
    ((on3 vc).ports[(3 : PortId)].vconnOn = true ∧
      portServed (on3 vc) (3 : PortId) = true ∧
      (on3 vc).ports[(3 : PortId)].pol.pend = []) ∧
    (wRun.ports[(3 : PortId)].vconnOn = false) ∧
    (frontDrives noLink (3 : PortId) = false) ∧
    (frontDrives wRun (3 : PortId) = true) := by
  refine ⟨?_, ⟨?_, ?_⟩, ⟨?_, ?_, ?_, ?_, ?_, ?_⟩, ⟨?_, ?_, ?_, ?_, ?_, ?_, ?_, ?_⟩, ⟨?_, ?_⟩, ⟨?_, ?_, ?_⟩, ?_, ?_, ?_⟩ <;> decide +kernel

theorem test_hyps_LinkTransactionsAnswer :
    (linkAnswers State.reset = false ∧
      Instr.read 262144 262144 ∈ [Instr.read 262144 262144, Instr.write 262144 [(1 : Byte)], Instr.readStatus, Instr.enterQuad, Instr.exitQuad, Instr.resetEnable, Instr.resetLink, Instr.unknownLinkInstruction (12 : Byte)]) ∧
    (linkAnswers wRun = true ∧
      262144 ≤ 262144 ∧
      262144 + [(1 : Byte)].length ≤ 524288) ∧
    (linkAnswers wRun = true ∧
      [(1 : Byte)] ≠ [] ∧
      (0 + [(1 : Byte)].length ≤ 4096 ∨ 524288 ≤ 0 ∧ 0 + [(1 : Byte)].length ≤ 1048576)) ∧
    (linkAnswers wRun = true ∧
      BitVec.toNat (12 : Byte) ∉ [11, 2, 5, 56, 245, 102, 153]) := by
  refine ⟨⟨?_, ?_⟩, ⟨?_, ?_, ?_⟩, ⟨?_, ?_, ?_⟩, ⟨?_, ?_⟩⟩ <;> decide +kernel

theorem test_hyps_DoorbellsMoveForward :
    (doorbellsUp State.reset = false ∧
      Instr.dbCmdTailWrite (0 : Word) ∈ [Instr.dbCmdTailWrite (0 : Word), Instr.dbCplHeadWrite (0 : Word), Instr.dbEvtHeadWrite (0 : Word), Instr.dbTelRoffWrite (0 : Word), Instr.dbVpendClear false (0 : Word), Instr.dbVpendClear true (0 : Word)]) ∧
    (doorbellsUp wRun = true ∧
      (BitVec.toNat (0 : Word) % 1024 + 1024 - cmdHead wRun) % 1024 ≤ 512 ∧
      wRun.host.consumed.length + wRun.host.waits.length + (unreadTags wRun).length + (BitVec.toNat (0 : Word) % 1024 + 1024 - cmdHead wRun) % 1024 ≤ 512) ∧
    (doorbellsUp wRun = true ∧
      ¬((BitVec.toNat (1023 : Word) % 1024 + 1024 - cmdHead wRun) % 1024 ≤ 512 ∧ wRun.host.consumed.length + wRun.host.waits.length + (unreadTags wRun).length + (BitVec.toNat (1023 : Word) % 1024 + 1024 - cmdHead wRun) % 1024 ≤ 512)) ∧
    (doorbellsUp wRun = true ∧
      (BitVec.toNat (0 : Word) % 1024 + 1024 - cplHead wRun) % 1024 ≤ (cplTail wRun + 1024 - cplHead wRun) % 1024) ∧
    (doorbellsUp wRun = true ∧
      ¬(BitVec.toNat (1023 : Word) % 1024 + 1024 - cplHead wRun) % 1024 ≤ (cplTail wRun + 1024 - cplHead wRun) % 1024) ∧
    (doorbellsUp wRun = true ∧
      (BitVec.toNat (0 : Word) % 8192 + 8192 - evtHead wRun) % 8192 ≤ evtUsed wRun) ∧
    (doorbellsUp wRun = true ∧
      ¬(BitVec.toNat (1023 : Word) % 8192 + 8192 - evtHead wRun) % 8192 ≤ evtUsed wRun) ∧
    (doorbellsUp wRun = true ∧
      onRecord wRun (BitVec.toNat (0 : Word) % 524288) = true) ∧
    (doorbellsUp wRun = true ∧
      ¬onRecord wRun (BitVec.toNat (1023 : Word) % 524288) = true) := by
  refine ⟨⟨?_, ?_⟩, ⟨?_, ?_, ?_⟩, ⟨?_, ?_⟩, ⟨?_, ?_⟩, ⟨?_, ?_⟩, ⟨?_, ?_⟩, ⟨?_, ?_⟩, ⟨?_, ?_⟩, ⟨?_, ?_⟩⟩ <;> decide +kernel

theorem test_hyps_RegisterWritesObeyAccessCodes :
    ((1074135040 ≤ 1074135040 ∧ 1074135040 < 1074331648 ∨ 1074397184 ≤ 1074135040 ∧ 1074135040 < 1074462720 ∨ 1074790400 ≤ 1074135040 ∧ 1074135040 < 1075052544)) ∧
    ((0 < 1073741824 ∨ 1073807360 ≤ 0 ∧ 0 < 1074069504 ∧ (hwUp State.reset = false ∨ 0 % 4 ≠ 0) ∨ 1077739520 ≤ 0)) ∧
    (hwUp wRun = true) := by
  refine ⟨?_, ?_, ?_⟩ <;> decide +kernel

theorem test_hyps_EventsReachTheRingInOrder :
    (portServed State.reset (3 : PortId) = false) ∧
    (portServed (on3 (queued oneEvt)) (3 : PortId) = true) ∧
    ((cpUp State.reset = false ∨ State.reset.host.weighted = false ∧ ∀ (e : EngId), pendingPorts State.reset e = [])) ∧
    (cpUp (on3 (queued oneEvt)) = true ∧
      (on3 (queued oneEvt)).host.weighted = false ∧
      0 < 13 ∧
      (∀ i < 0, pendingPorts (on3 (queued oneEvt)) (⟨((on3 (queued oneEvt)).host.fabNext + i) % 13, Nat.mod_lt _ (by decide)⟩) = []) ∧
      pendingPorts (on3 (queued oneEvt)) (⟨((on3 (queued oneEvt)).host.fabNext + 0) % 13, Nat.mod_lt _ (by decide)⟩) = [(3 : PortId)] ∧
      (on3 (queued oneEvt)).ports[(3 : PortId)].pol.queue = [EvtEntry.mk 0 36 0 (5 : Word)]) := by
  refine ⟨?_, ?_, ?_, ⟨?_, ?_, ?_, ?_, ?_, ?_⟩⟩ <;> decide +kernel

theorem test_hyps_OperatingPointsMoveInOrder :
    (cpWrites wRun = true ∧
      wRun.cru.seq = none ∧
      F.CRU_STAT.ROOT_PLL.on wRun.cru.regs.stat = true) ∧
    ((seqIs (some (DvfsSeq.raise 3 0)) 16 3).boot.phase ≠ Phase.held ∧
      (seqIs (some (DvfsSeq.raise 3 0)) 16 3).cru.seq = some (DvfsSeq.raise 3 0) ∧
      (seqIs (some (DvfsSeq.raise 3 0)) 16 3).boot.phase ≠ Phase.raise ∧
      opTarget (seqIs (some (DvfsSeq.raise 3 0)) 16 3) = 3) ∧
    (0 < 4 ∧
      (seqIs (some (DvfsSeq.steps 0)) 4 0).cru.seq = some (DvfsSeq.steps 0) ∧
      (seqIs (some (DvfsSeq.steps 0)) 4 0).cru.div + 1 < pointDiv 0) ∧
    (3 < 4 ∧
      (seqIs (some (DvfsSeq.steps 3)) 16 3).cru.seq = some (DvfsSeq.steps 3) ∧
      pointDiv 3 + 1 < (seqIs (some (DvfsSeq.steps 3)) 16 3).cru.div) ∧
    (3 < 4 ∧
      (seqIs (some (DvfsSeq.steps 3)) 4 3).cru.seq = some (DvfsSeq.steps 3) ∧
      (seqIs (some (DvfsSeq.steps 3)) 4 3).cru.div ≤ pointDiv 3 + 1 ∧
      pointDiv 3 ≤ (seqIs (some (DvfsSeq.steps 3)) 4 3).cru.div + 1 ∧
      (seqIs (some (DvfsSeq.steps 3)) 4 3).boot.phase ≠ Phase.raise ∧
      opTarget (seqIs (some (DvfsSeq.steps 3)) 4 3) = 3) ∧
    (F.CRU_STAT.ROOT_PLL.on (seqIs (some (DvfsSeq.raise 3 0)) 16 3).cru.regs.stat = true ∧
      (seqIs (some (DvfsSeq.raise 3 0)) 16 3).cru.seq = some (DvfsSeq.raise 3 0)) ∧
    (cpWrites State.reset = false ∧
      Instr.cruDvfsWrite (0 : Word) ∈ [Instr.cruDvfsWrite (0 : Word), Instr.cruPllctlWrite (0 : Word), Instr.cruGateWrite (0 : Word)]) := by
  refine ⟨⟨?_, ?_, ?_⟩, ⟨?_, ?_, ?_, ?_⟩, ⟨?_, ?_, ?_⟩, ⟨?_, ?_, ?_⟩, ⟨?_, ?_, ?_, ?_, ?_, ?_⟩, ⟨?_, ?_⟩, ⟨?_, ?_⟩⟩ <;> decide +kernel

theorem test_hyps_ClockRootFollowsReference :
    ((phase Phase.clocks wRun).boot.phase = Phase.clocks ∧
      F.CRU_STAT.XIN_OK.on (phase Phase.clocks wRun).cru.regs.stat = false) ∧
    ((xinOk (phase Phase.clocks wRun)).boot.phase = Phase.clocks ∧
      F.CRU_STAT.XIN_OK.on (xinOk (phase Phase.clocks wRun)).cru.regs.stat = true) ∧
    (standbyOk (noSession wRun) = true) ∧
    (standbyOk (phase Phase.clocks wRun) = false) ∧
    ((phase Phase.clocks wRun).cru.standby = false) ∧
    (stAddr.cru.standby = true ∧
      F.TWT_STAT.ACTIVE.on stAddr.twt.regs.stat = false ∧
      mtMatch stAddr (32 : Fin 128).val = some false) ∧
    (Instr.clockLoss ∈ [Instr.clockLoss, Instr.lpoLoss, Instr.spreadLockFailure] ∧
      (Instr.clockLoss = Instr.spreadLockFailure → F.CRU_STAT.SS_ON.on (phase Phase.clocks wRun).cru.regs.stat = true) ∧
      (phase Phase.clocks wRun).boot.phase ∉ [Phase.held, Phase.fuseFail, Phase.clockFail]) ∧
    ((phase Phase.clockFail wRun).boot.phase = Phase.clockFail) := by
  refine ⟨⟨?_, ?_⟩, ⟨?_, ?_⟩, ?_, ?_, ?_, ⟨?_, ?_, ?_⟩, ⟨?_, ?_, ?_⟩, ?_⟩ <;> decide +kernel

theorem test_hyps_DieHoldsFollowLinksAndHeat :
    (wRun.diag.supplied[(0 : DieId)] = true ∧
      hwUp wRun = true) ∧
    (reset0.diag.supplied[(0 : DieId)] = true ∧
      (hwUp reset0 = false ∨ linkUp reset0 (0 : DieId) = true)) ∧
    ((phase Phase.entered noLink).diag.supplied[(0 : DieId)] = true ∧
      hwUp (phase Phase.entered noLink) = true ∧
      (phase Phase.entered noLink).boot.phase = Phase.entered ∧
      linkUp (phase Phase.entered noLink) (0 : DieId) = false ∧
      dieHeld (phase Phase.entered noLink) (0 : DieId) = false) ∧
    ((saf (272 : Word) wRun).diag.supplied[(0 : DieId)] = true ∧
      hwUp (saf (272 : Word) wRun) = true ∧
      linkUp (saf (272 : Word) wRun) (0 : DieId) = false ∧
      dieHeld (saf (272 : Word) wRun) (0 : DieId) = true ∧
      dieHot (saf (272 : Word) wRun) (0 : DieId) = true) ∧
    (unsup.diag.supplied[(0 : DieId)] = false) ∧
    (linkUp wRun (0 : DieId) = true) ∧
    (linkUp reset0 (0 : DieId) = false) ∧
    (hwUp wRun = true ∧
      dieHot wRun (0 : DieId) = false) ∧
    ((hwUp reset0 = false ∨ dieHot reset0 (0 : DieId) = true)) ∧
    (dieHot (saf (273 : Word) booting) (0 : DieId) = true ∧
      cpRuns (saf (273 : Word) booting) = false ∧
      dieHeld (saf (273 : Word) booting) (0 : DieId) = true ∧
      linkUp (saf (273 : Word) booting) (0 : DieId) = true ∧
      (∀ p ∈ portsOfDie (0 : DieId), (saf (273 : Word) booting).ports[p].hw.ride = none)) ∧
    (reset0.ports[(3 : PortId)].hw.ride = none) ∧
    ((saf (16 : Word) rides).ports[(3 : PortId)].hw.ride ≠ none ∧
      (linkUp (saf (16 : Word) rides) (dieOf (3 : PortId)) = false ∨ dieHot (saf (16 : Word) rides) (dieOf (3 : PortId)) = true)) := by
  refine ⟨⟨?_, ?_⟩, ⟨?_, ?_⟩, ⟨?_, ?_, ?_, ?_, ?_⟩, ⟨?_, ?_, ?_, ?_, ?_⟩, ?_, ?_, ?_, ⟨?_, ?_⟩, ?_, ⟨?_, ?_, ?_, ?_, ?_⟩, ?_, ⟨?_, ?_⟩⟩ <;> decide +kernel

theorem test_hyps_StartsAndResets :
    (reset0.boot.phase = Phase.held ∧
      reset0.boot.rstLow = false) ∧
    (rstLow.boot.phase = Phase.held ∧
      rstLow.boot.rstLow = true) ∧
    (reset0.boot.phase = Phase.held ∧
      reset0.boot.supplyDown = false) ∧
    (noSupply.boot.phase = Phase.held ∧
      noSupply.boot.supplyDown = true) ∧
    (((startAt Phase.raise).boot.phase = Phase.raise ∨ (startAt Phase.raise).boot.phase = Phase.entered) ∧
      Instr.startTimerExpiry ∈ [Instr.startTimerExpiry, Instr.flashBusyTimeout] ∧
      (Instr.startTimerExpiry = Instr.startTimerExpiry → (startAt Phase.raise).boot.startAt.isSome = true) ∧
      (Instr.startTimerExpiry = Instr.flashBusyTimeout → (startAt Phase.raise).boot.phase = Phase.raise)) ∧
    ((failed1 (startAt Phase.warm)).boot.phase = Phase.warm ∧
      (failed1 (startAt Phase.warm)).boot.startAt.isSome = true ∧
      1 ≤ wfail (failed1 (startAt Phase.warm)) ∧
      Instr.startTimerExpiry ∈ [Instr.startTimerExpiry, Instr.flashBusyTimeout]) ∧
    (reset0.boot.startAt = none) ∧
    (cpRuns wRun = true) ∧
    (cpRuns reset0 = false ∧
      Instr.rstReqWarm ∈ [Instr.rstReqWarm, Instr.rstReqHitless (0 : Fin 2), Instr.rstReqCold]) ∧
    (mtAnswers (startAt Phase.raise) = true ∧
      statusCode (startAt Phase.raise) ≠ 5 ∧
      statusCode (startAt Phase.raise) ≠ 6) ∧
    ((mtAnswers reset0 = false ∨ statusCode reset0 = 5 ∨ statusCode reset0 = 6)) ∧
    (statusCode reset0 ≠ 0 ∧
      statusCode reset0 ≠ 7) ∧
    (cpUp (startAt Phase.entered) = true) := by
  refine ⟨⟨?_, ?_⟩, ⟨?_, ?_⟩, ⟨?_, ?_⟩, ⟨?_, ?_⟩, ⟨?_, ?_, ?_, ?_⟩, ⟨?_, ?_, ?_, ?_⟩, ?_, ?_, ⟨?_, ?_⟩, ⟨?_, ?_, ?_⟩, ?_, ⟨?_, ?_⟩, ?_⟩ <;> decide +kernel

theorem test_hyps_WarmStartsRunAndTrials :
    (cpRuns (warmZero 0) = true ∧
      Instr.rstReqWarm = Instr.rstReqWarm ∧
      0 = 0 ∧
      0 = 0 ∧
      0 = runSlot (warmZero 0) ∧
      WarmPasses (WarmReq.mk 0 0 0 false) (warmZero 0)) ∧
    (cpRuns wRun = true ∧
      Instr.rstReqWarm = Instr.rstReqWarm ∧
      0 = 0 ∧
      0 = 0 ∧
      0 = runSlot wRun ∧
      flashBusy wRun = false ∧
      retained (WarmReq.mk 0 0 0 false) (warmBegin (WarmReq.mk 0 0 0 false) wRun) = false) ∧
    (cpRuns (flashOp (FlcOp.mk 2 0 0 1) wRun) = true ∧
      Instr.rstReqWarm = Instr.rstReqWarm ∧
      0 = 0 ∧
      0 = 0 ∧
      0 = runSlot (flashOp (FlcOp.mk 2 0 0 1) wRun) ∧
      flashBusy (flashOp (FlcOp.mk 2 0 0 1) wRun) = true) ∧
    (cpUp booting = true ∧
      cpRuns booting = false) ∧
    (cpWrites (trial wRun) = true ∧
      (trial wRun).flash.trialEnd.isSome = true) ∧
    (wRun.flash.trialEnd = none) ∧
    (hwUp (trial wRun) = true ∧
      (trial wRun).flash.trialEnd.isSome = true) := by
  refine ⟨⟨?_, ?_, ?_, ?_, ?_, ?_⟩, ⟨?_, ?_, ?_, ?_, ?_, ?_, ?_⟩, ⟨?_, ?_, ?_, ?_, ?_, ?_⟩, ⟨?_, ?_⟩, ⟨?_, ?_⟩, ?_, ⟨?_, ?_⟩⟩ <;> decide +kernel

theorem test_hyps_WindowWatchdogExpires :
    (cpWrites wRun = true) ∧
    (cpWrites reset0 = false ∧
      Instr.wdgCtlWrite (1 : Word) ∈ [Instr.wdgCtlWrite (1 : Word), Instr.wdgKeyWrite (1 : Word), Instr.wdgChkin (0 : Fin 16)]) ∧
    (wdgOn (wdg wOpen) = true ∧
      cpWrites (wdg wOpen) = true ∧
      F.WDG_STAT.WOPEN.on (wdg wOpen).wdg.regs.stat = true ∧
      F.WDG_STAT.KEY1.on (wdg wOpen).wdg.regs.stat = false) ∧
    (wdgOn (wdg (wKey1 ∘ wOpen)) = true ∧
      cpWrites (wdg (wKey1 ∘ wOpen)) = true ∧
      F.WDG_STAT.WOPEN.on (wdg (wKey1 ∘ wOpen)).wdg.regs.stat = true ∧
      F.WDG_STAT.KEY1.on (wdg (wKey1 ∘ wOpen)).wdg.regs.stat = true ∧
      (∀ (i : Fin 16), bitOf (wdg (wKey1 ∘ wOpen)).wdg.regs.tasken ↑i = true → taskCount (wdg (wKey1 ∘ wOpen)) ↑i = taskExpected (wdg (wKey1 ∘ wOpen)) ↑i)) ∧
    (wdgOn (wdg id) = true ∧
      Instr.wdgPeriodEnd = Instr.wdgPeriodEnd ∧
      1 = 1) ∧
    (wdgOn wRun = false) := by
  refine ⟨?_, ⟨?_, ?_⟩, ⟨?_, ?_, ?_, ?_⟩, ⟨?_, ?_, ?_, ?_, ?_⟩, ⟨?_, ?_, ?_⟩, ?_⟩ <;> decide +kernel

theorem test_hyps_EngineControlAndTaskWatchdog :
    (cpWrites (engSt (0 : EngId) 0 wRun) = true ∧
      engState (engSt (0 : EngId) 0 wRun) (0 : EngId) = 0 ∧
      (∀ (p : PortId), skeinOf p ∈ skeinsOf (engSt (0 : EngId) 0 wRun) (0 : EngId) → Resumed (engSt (0 : EngId) 0 wRun) p)) ∧
    (cpWrites (engSt (0 : EngId) 0 wRun) = true ∧
      (engState (engSt (0 : EngId) 0 wRun) (0 : EngId) = 0 ∨ engState (engSt (0 : EngId) 0 wRun) (0 : EngId) = 3)) ∧
    (cpWrites wRun = true ∧
      engState wRun (0 : EngId) ≠ 0 ∧
      engState wRun (0 : EngId) ≠ 3) ∧
    (cpWrites reset0 = false ∧
      Instr.seCtlRun (0 : EngId) true ∈ [Instr.seCtlRun (0 : EngId) true, Instr.seCtlClr (0 : EngId), Instr.sePmdataWrite (0 : EngId) (0 : Word)]) ∧
    (hwUp wRun = true) ∧
    (engineRunning wRun (0 : EngId) = true) ∧
    (engineRunning (engSt (0 : EngId) 0 wRun) (0 : EngId) = false) ∧
    (hwUp (sewOn (0 : EngId) wRun) = true ∧
      F.SEW_CTL.EN.on (sewOn (0 : EngId) wRun).engines[(0 : EngId)].sew.ctl = true ∧
      engState (sewOn (0 : EngId) wRun) (0 : EngId) ≠ 0 ∧
      (0 : EngId).val = (0 : Fin 12).val ∧
      spareSkein (sewOn (0 : EngId) wRun) = none ∧
      engFailed (sewOn (0 : EngId) wRun) (12 : EngId) = false ∧
      (∀ p ∈ portsOfSkein (0 : Fin 12).val, Resumed (sewOn (0 : EngId) wRun) p)) ∧
    (hwUp (engmap (4096 : Word) (sewOn (0 : EngId) wRun)) = true ∧
      F.SEW_CTL.EN.on (engmap (4096 : Word) (sewOn (0 : EngId) wRun)).engines[(0 : EngId)].sew.ctl = true ∧
      engState (engmap (4096 : Word) (sewOn (0 : EngId) wRun)) (0 : EngId) ≠ 0 ∧
      (0 : EngId).val = (0 : Fin 12).val ∧
      (spareSkein (engmap (4096 : Word) (sewOn (0 : EngId) wRun)) ≠ none ∨ engFailed (engmap (4096 : Word) (sewOn (0 : EngId) wRun)) (12 : EngId) = true)) ∧
    (hwUp (sewOn (12 : EngId) wRun) = true ∧
      F.SEW_CTL.EN.on (sewOn (12 : EngId) wRun).engines[(12 : EngId)].sew.ctl = true ∧
      engState (sewOn (12 : EngId) wRun) (12 : EngId) ≠ 0 ∧
      (12 : EngId) = (12 : EngId) ∧
      spareSkein (sewOn (12 : EngId) wRun) = none) ∧
    ((hwUp wRun = false ∨ F.SEW_CTL.EN.on wRun.engines[(0 : EngId)].sew.ctl = false ∨ engState wRun (0 : EngId) = 0)) := by
  refine ⟨⟨?_, ?_, ?_⟩, ⟨?_, ?_⟩, ⟨?_, ?_, ?_⟩, ⟨?_, ?_⟩, ?_, ?_, ?_, ⟨?_, ?_, ?_, ?_, ?_, ?_, ?_⟩, ⟨?_, ?_, ?_, ?_, ?_⟩, ⟨?_, ?_, ?_, ?_, ?_⟩, ?_⟩ <;> decide +kernel

theorem test_hyps_ErrorsAreCountedAndRecorded :
    (hwUp reset0 = false) ∧
    (hwUp wRun = true ∧
      eccAccessor (1 : Fin 7).val 0 = some (13 : CoreId) ∧
      coreRuns wRun (13 : CoreId) = true) ∧
    ((hwUp wRun = false ∨ wRun.boot.phase = Phase.warm ∨ (0 : Fin 7).val = 0 ∨ (0 : Fin 7).val = 3 ∨ wRun.cru.standby = true)) ∧
    (hwUp wRun = true ∧
      wRun.boot.phase ≠ Phase.warm ∧
      (1 : Fin 7).val ≠ 0 ∧
      (1 : Fin 7).val ≠ 3 ∧
      wRun.cru.standby = false) := by
  refine ⟨?_, ⟨?_, ?_, ?_⟩, ?_, ⟨?_, ?_, ?_, ?_, ?_⟩⟩ <;> decide +kernel

theorem test_hyps_TimersCountCompareAndCapture :
    (tmrUp reset0 TmrBlk.control = false ∧
      Instr.tmrEnset TmrBlk.control (0 : Word) ∈ [Instr.tmrEnset TmrBlk.control (0 : Word), Instr.tmrEnclr TmrBlk.control (0 : Word), Instr.tmrRelnow TmrBlk.control (0 : Word), Instr.tmrCmpWrite TmrBlk.control (0 : Fin 16) (0 : Word), Instr.tmrCntRead TmrBlk.control (0 : Fin 16)]) ∧
    (ticking wRun TmrBlk.control (0 : Fin 16).val = false ∧
      Instr.tmrUnderflow TmrBlk.control (0 : Fin 16) ∈ [Instr.tmrUnderflow TmrBlk.control (0 : Fin 16), Instr.tmrMatch TmrBlk.control (0 : Fin 16)]) ∧
    (tmrUp wRun TmrBlk.control = true ∧
      tmrAt wRun TmrBlk.control (0 : Fin 16).val = some (wRun.tmr[(0 : Fin 16).val], wRun.tmrHw[(0 : Fin 16).val])) ∧
    (ticking (tmrOn (0 : Word) (3 : Word) (5 : Word)) TmrBlk.control (0 : Fin 16).val = true ∧
      tmrAt (tmrOn (0 : Word) (3 : Word) (5 : Word)) TmrBlk.control (0 : Fin 16).val = some (tmrOf (tmrOn (0 : Word) (3 : Word) (5 : Word)) (0 : Fin 16)) ∧
      (tmrOf (tmrOn (0 : Word) (3 : Word) (5 : Word)) (0 : Fin 16)).2.armed = true ∧
      (tmrOf (tmrOn (0 : Word) (3 : Word) (5 : Word)) (0 : Fin 16)).1.cnt ≤ (tmrOf (tmrOn (0 : Word) (3 : Word) (5 : Word)) (0 : Fin 16)).1.cmp) ∧
    (8 ≤ F.TMR_CTL.PIN.get wRun.tmr[(0 : Fin 16)].ctl) ∧
    (tmrUp (tmrOn (F.TMR_CTL.EDGE.put 1 (F.TMR_CTL.PIN.put 1 (0 : Word))) (3 : Word) (5 : Word)) TmrBlk.control = true ∧
      F.TMR_CTL.PIN.get (tmrOn (F.TMR_CTL.EDGE.put 1 (F.TMR_CTL.PIN.put 1 (0 : Word))) (3 : Word) (5 : Word)).tmr[(0 : Fin 16)].ctl < 8 ∧
      edgeTaken (tmrOn (F.TMR_CTL.EDGE.put 1 (F.TMR_CTL.PIN.put 1 (0 : Word))) (3 : Word) (5 : Word)).tmr[(0 : Fin 16)].ctl true = true ∧
      isHigh (tmrOn (F.TMR_CTL.EDGE.put 1 (F.TMR_CTL.PIN.put 1 (0 : Word))) (3 : Word) (5 : Word)) TmrBlk.control (0 : Fin 16).val = false ∧
      F.TMR_CTL.CLK.get (tmrOn (F.TMR_CTL.EDGE.put 1 (F.TMR_CTL.PIN.put 1 (0 : Word))) (3 : Word) (5 : Word)).tmr[(0 : Fin 16)].ctl ≠ 2) ∧
    (tmrUp (Tests.chained (tmrOn (0 : Word) (3 : Word) (5 : Word))) TmrBlk.control = true ∧
      (0 : Fin 16).val % 2 = 0 ∧
      isHigh (Tests.chained (tmrOn (0 : Word) (3 : Word) (5 : Word))) TmrBlk.control ((0 : Fin 16).val + 1) = true ∧
      tmrAt (Tests.chained (tmrOn (0 : Word) (3 : Word) (5 : Word))) TmrBlk.control (0 : Fin 16).val = some (tmrOf (tmrOn (0 : Word) (3 : Word) (5 : Word)) (0 : Fin 16)) ∧
      tmrAt (Tests.chained (tmrOn (0 : Word) (3 : Word) (5 : Word))) TmrBlk.control ((0 : Fin 16).val + 1) = some (tmrOf (Tests.chained (tmrOn (0 : Word) (3 : Word) (5 : Word))) (1 : Fin 16))) := by
  refine ⟨⟨?_, ?_⟩, ⟨?_, ?_⟩, ⟨?_, ?_⟩, ⟨?_, ?_, ?_, ?_⟩, ?_, ⟨?_, ?_, ?_, ?_, ?_⟩, ⟨?_, ?_, ?_, ?_, ?_⟩⟩ <;> decide +kernel

theorem test_hyps_ControllersTransferAndRecover :
    (twcUp (twc1 id) (1 : Fin 2) = true ∧
      F.TWC_CTL.EN.on (twc1 id).twc[(1 : Fin 2)].regs.ctl = true ∧
      (twc1 id).twc[(1 : Fin 2)].xfer = none ∧
      BusCheck.free = BusCheck.free) ∧
    (twcUp (twc1 id) (1 : Fin 2) = true ∧
      F.TWC_CTL.EN.on (twc1 id).twc[(1 : Fin 2)].regs.ctl = true ∧
      (twc1 id).twc[(1 : Fin 2)].xfer = none ∧
      BusCheck.sdaHeld 9 = BusCheck.sdaHeld 9 ∧
      9 ≤ 9) ∧
    (twcUp (twc1 id) (1 : Fin 2) = true ∧
      F.TWC_CTL.EN.on (twc1 id).twc[(1 : Fin 2)].regs.ctl = true ∧
      (twc1 id).twc[(1 : Fin 2)].xfer = none ∧
      (twc1 id).twc[(1 : Fin 2)].queued = none ∧
      BusCheck.sclLow = BusCheck.sclLow) ∧
    (¬(twcUp reset0 (1 : Fin 2) = true ∧ F.TWC_CTL.EN.on reset0.twc[(1 : Fin 2)].regs.ctl = true ∧ reset0.twc[(1 : Fin 2)].xfer = none) ∧
      Instr.twcCmdRecover (1 : Fin 2) BusCheck.free ∈ [Instr.twcCmdRecover (1 : Fin 2) BusCheck.free, Instr.twcGo (1 : Fin 2) BusCheck.free]) ∧
    (twcUp reset0 (1 : Fin 2) = false ∧
      Instr.twcTxdWrite (1 : Fin 2) (0 : Word) ∈ [Instr.twcTxdWrite (1 : Fin 2) (0 : Word), Instr.twcRxdRead (1 : Fin 2), Instr.twcCmdAbort (1 : Fin 2) 9 9]) ∧
    (twcUp wRun (1 : Fin 2) = true ∧
      wRun.twc[(1 : Fin 2)].xfer = none) ∧
    (twcUp wRun (1 : Fin 2) = true ∧
      wRun.twc[(1 : Fin 2)].rest = []) ∧
    (twcUp (twc1 restful) (1 : Fin 2) = true ∧
      (twc1 restful).twc[(1 : Fin 2)].rest ≠ [] ∧
      (twc1 restful).twc[(1 : Fin 2)].queued = none) ∧
    (twcOnBus (twc1 onBus) (1 : Fin 2) = true ∧
      (twc1 onBus).twc[(1 : Fin 2)].queued = none ∧
      twcUp (twc1 onBus) (1 : Fin 2) = true) ∧
    (twcOnBus (twc1 jobs) (1 : Fin 2) = true ∧
      (twc1 jobs).twc[(1 : Fin 2)].queued = some job ∧
      job.check = BusCheck.free ∧
      job.range = false ∧
      job.wlen ≤ 40 ∧
      job.rlen ≤ 12) ∧
    (twcOnBus (twc1 onBus) (1 : Fin 2) = true ∧
      9 < 8192 ∧
      9 < 16 ∧
      (twc1 onBus).twc[(1 : Fin 2)].xfer = some (Xfer.mk 0 false false)) ∧
    ((twc1 (lostBus 1)).twc[(1 : Fin 2)].rest = [] ∧
      (twc1 (lostBus 1)).twc[(1 : Fin 2)].xfer = some (Xfer.mk 1 true false) ∧
      (Xfer.mk 1 true false).waitBus = true ∧
      (Xfer.mk 1 true false).lost ≤ F.TWC_CTL.RETRY.get (twc1 (lostBus 1)).twc[(1 : Fin 2)].regs.ctl) ∧
    ((twc1 (lostBus 5)).twc[(1 : Fin 2)].rest = [] ∧
      (twc1 (lostBus 5)).twc[(1 : Fin 2)].xfer = some (Xfer.mk 5 true false) ∧
      (Xfer.mk 5 true false).waitBus = true ∧
      F.TWC_CTL.RETRY.get (twc1 (lostBus 5)).twc[(1 : Fin 2)].regs.ctl < (Xfer.mk 5 true false).lost ∧
      (twc1 (lostBus 5)).twc[(1 : Fin 2)].queued = none) ∧
    (twcOnBus (twc1 onBus) (1 : Fin 2) = true ∧
      (twc1 onBus).twc[(1 : Fin 2)].queued = none ∧
      (twc1 onBus).twc[(1 : Fin 2)].sent.length = min 4096 (F.TWC_XLEN.WLEN.get (twc1 onBus).twc[(1 : Fin 2)].regs.xlen) ∧
      ([] : List Byte).length = min 4096 (F.TWC_XLEN.RLEN.get (twc1 onBus).twc[(1 : Fin 2)].regs.xlen) ∧
      findWait (twc1 onBus) (isBusWait (1 : Fin 2)) = none ∧
      (twc1 onBus).twc[(1 : Fin 2)].rx.length + min 4096 (F.TWC_XLEN.RLEN.get (twc1 onBus).twc[(1 : Fin 2)].regs.xlen) ≤ 32) ∧
    (twcOnBus (twc1 (toRead 1 ∘ rx32)) (1 : Fin 2) = true ∧
      (twc1 (toRead 1 ∘ rx32)).twc[(1 : Fin 2)].queued = none ∧
      (twc1 (toRead 1 ∘ rx32)).twc[(1 : Fin 2)].sent.length = min 4096 (F.TWC_XLEN.WLEN.get (twc1 (toRead 1 ∘ rx32)).twc[(1 : Fin 2)].regs.xlen) ∧
      [(1 : Byte)].length = min 4096 (F.TWC_XLEN.RLEN.get (twc1 (toRead 1 ∘ rx32)).twc[(1 : Fin 2)].regs.xlen) ∧
      findWait (twc1 (toRead 1 ∘ rx32)) (isBusWait (1 : Fin 2)) = none ∧
      32 < (twc1 (toRead 1 ∘ rx32)).twc[(1 : Fin 2)].rx.length + min 4096 (F.TWC_XLEN.RLEN.get (twc1 (toRead 1 ∘ rx32)).twc[(1 : Fin 2)].regs.xlen) ∧
      (twc1 (toRead 1 ∘ rx32)).twc[(1 : Fin 2)].rx.length ≤ 32) ∧
    (twcOnBus (busWait (twc1 onBus)) (1 : Fin 2) = true ∧
      (busWait (twc1 onBus)).twc[(1 : Fin 2)].queued = none ∧
      (busWait (twc1 onBus)).twc[(1 : Fin 2)].sent.length = min 4096 (F.TWC_XLEN.WLEN.get (busWait (twc1 onBus)).twc[(1 : Fin 2)].regs.xlen) ∧
      ([] : List Byte).length = min 4096 (F.TWC_XLEN.RLEN.get (busWait (twc1 onBus)).twc[(1 : Fin 2)].regs.xlen) ∧
      findWait (busWait (twc1 onBus)) (isBusWait (1 : Fin 2)) = some (Wait.mk 2 2561 255 false (WaitKind.busXfer (1 : Fin 2) 4294967295) []) ∧
      (Wait.mk 2 2561 255 false (WaitKind.busXfer (1 : Fin 2) 4294967295) []).kind = WaitKind.busXfer (1 : Fin 2) 4294967295) ∧
    (twcOnBus reset0 (1 : Fin 2) = false ∧
      Instr.twcNack (1 : Fin 2) 9 ∈ [Instr.twcNack (1 : Fin 2) 9, Instr.twcSclTimeout (1 : Fin 2) 9 9, Instr.twcArbitrationLoss (1 : Fin 2) 9 9, Instr.twcTransferDone (1 : Fin 2) []]) := by
  refine ⟨⟨?_, ?_, ?_, ?_⟩, ⟨?_, ?_, ?_, ?_, ?_⟩, ⟨?_, ?_, ?_, ?_, ?_⟩, ⟨?_, ?_⟩, ⟨?_, ?_⟩, ⟨?_, ?_⟩, ⟨?_, ?_⟩, ⟨?_, ?_, ?_⟩, ⟨?_, ?_, ?_⟩, ⟨?_, ?_, ?_, ?_, ?_, ?_⟩, ⟨?_, ?_, ?_, ?_⟩, ⟨?_, ?_, ?_, ?_⟩, ⟨?_, ?_, ?_, ?_, ?_⟩, ⟨?_, ?_, ?_, ?_, ?_, ?_⟩, ⟨?_, ?_, ?_, ?_, ?_, ?_, ?_⟩, ⟨?_, ?_, ?_, ?_, ?_, ?_⟩, ⟨?_, ?_⟩⟩ <;> decide +kernel

theorem test_hyps_ManagementTargetTransactions :
    (mtAnswers reset0 = false) ∧
    (mtAnswers wRun = true ∧
      wRun.cru.standby = false ∧
      F.TWT_STAT.ACTIVE.on wRun.twt.regs.stat = false ∧
      mtMatch wRun (0 : Fin 128).val = none) ∧
    (mtAnswers mtAddr = true ∧
      mtAddr.cru.standby = false ∧
      F.TWT_STAT.ACTIVE.on mtAddr.twt.regs.stat = false ∧
      mtMatch mtAddr (32 : Fin 128).val = some false) ∧
    (F.TWT_ADDR.MODE.get reset0.twt.regs.addr = 0) ∧
    (mtAnswers (mtOn mtFirst) = true ∧
      (mtOn mtFirst).cru.standby = false ∧
      F.TWT_STAT.ACTIVE.on (mtOn mtFirst).twt.regs.stat = true ∧
      (mtOn mtFirst).twt.reading = false ∧
      (mtOn mtFirst).twt.first = true) ∧
    (mtAnswers (mtOn (wrTo 23 [(1 : Byte), (0 : Byte), (0 : Byte)])) = true ∧
      (mtOn (wrTo 23 [(1 : Byte), (0 : Byte), (0 : Byte)])).cru.standby = false ∧
      F.TWT_STAT.ACTIVE.on (mtOn (wrTo 23 [(1 : Byte), (0 : Byte), (0 : Byte)])).twt.regs.stat = true ∧
      (mtOn (wrTo 23 [(1 : Byte), (0 : Byte), (0 : Byte)])).twt.reading = false ∧
      (mtOn (wrTo 23 [(1 : Byte), (0 : Byte), (0 : Byte)])).twt.first = false ∧
      (mtOn (wrTo 23 [(1 : Byte), (0 : Byte), (0 : Byte)])).twt.ptr = 23 ∧
      (mtOn (wrTo 23 [(1 : Byte), (0 : Byte), (0 : Byte)])).twt.part = [(1 : Byte), (0 : Byte), (0 : Byte)] ∧
      (1 : Byte) ≠ (165 : Byte)) ∧
    (mtAnswers (mtOn id) = true ∧
      (mtOn id).cru.standby = false ∧
      F.TWT_STAT.ACTIVE.on (mtOn id).twt.regs.stat = true ∧
      (mtOn id).twt.reading = false ∧
      (mtOn id).twt.first = false ∧
      (mtOn id).twt.ptr < 256 ∧
      (mtOn id).twt.ptr % 4 ≠ 3) ∧
    (mtAnswers (mtOn (rdAt 0 none)) = true ∧
      (mtOn (rdAt 0 none)).cru.standby = false ∧
      F.TWT_STAT.ACTIVE.on (mtOn (rdAt 0 none)).twt.regs.stat = true ∧
      (mtOn (rdAt 0 none)).twt.reading = true ∧
      (mtOn (rdAt 0 none)).twt.snap = none) ∧
    (mtAnswers (mtOn (rdAt 1 (some (0, (5 : Word))))) = true ∧
      (mtOn (rdAt 1 (some (0, (5 : Word))))).cru.standby = false ∧
      F.TWT_STAT.ACTIVE.on (mtOn (rdAt 1 (some (0, (5 : Word))))).twt.regs.stat = true ∧
      (mtOn (rdAt 1 (some (0, (5 : Word))))).twt.reading = true ∧
      (mtOn (rdAt 1 (some (0, (5 : Word))))).twt.snap = some ((mtOn (rdAt 1 (some (0, (5 : Word))))).twt.ptr / 4, (5 : Word)) ∧
      (mtOn (rdAt 1 (some (0, (5 : Word))))).twt.ptr % 4 ≠ 0) ∧
    (F.TWT_STAT.ACTIVE.on reset0.twt.regs.stat = false ∧
      Instr.mtDataByte (165 : Byte) ∈ [Instr.mtDataByte (165 : Byte), Instr.mtStop, Instr.mtTransactionTimeout]) := by
  refine ⟨?_, ⟨?_, ?_, ?_, ?_⟩, ⟨?_, ?_, ?_, ?_⟩, ?_, ⟨?_, ?_, ?_, ?_, ?_⟩, ⟨?_, ?_, ?_, ?_, ?_, ?_, ?_, ?_⟩, ⟨?_, ?_, ?_, ?_, ?_, ?_, ?_⟩, ⟨?_, ?_, ?_, ?_, ?_⟩, ⟨?_, ?_, ?_, ?_, ?_, ?_⟩, ⟨?_, ?_⟩⟩ <;> decide +kernel

theorem test_hyps_FuseControllerReadsProgramsAndLocks :
    ((cpWrites reset0 = false ∨ otpBusy reset0 = true) ∧
      Instr.otpCmdProgram ∈ [Instr.otpCmdProgram, Instr.otpCmdWriteLock, Instr.otpCmdReadLock, Instr.otpCmdScanStart]) ∧
    (cpWrites wRun = true ∧
      F.OTP_STAT.BUSY.on wRun.otp.regs.stat = false ∧
      (Instr.otpCmdRead = Instr.otpCmdRead ∧ 1 = 1 ∧ 0 = (fuseAt wRun (F.OTP_ADDR.WORD.get wRun.otp.regs.addr)).nrm ∨ Instr.otpCmdRead = Instr.otpCmdReadHigh ∧ 1 = 2 ∧ 0 = (fuseAt wRun (F.OTP_ADDR.WORD.get wRun.otp.regs.addr)).hi ∨ Instr.otpCmdRead = Instr.otpCmdReadLow ∧ 1 = 3 ∧ 0 = (fuseAt wRun (F.OTP_ADDR.WORD.get wRun.otp.regs.addr)).lo)) ∧
    (cpWrites wRun = true ∧
      otpBusy wRun = false ∧
      wRun.otp.regs.wdata = wRun.otp.regs.wdata ∧
      progReason wRun (F.OTP_ADDR.WORD.get wRun.otp.regs.addr) wRun.otp.regs.wdata ≠ 0) ∧
    (cpWrites (otpAddr 560 (otpWdata (5 : Word))) = true ∧
      otpBusy (otpAddr 560 (otpWdata (5 : Word))) = false ∧
      (otpAddr 560 (otpWdata (5 : Word))).otp.regs.wdata = (otpAddr 560 (otpWdata (5 : Word))).otp.regs.wdata ∧
      progReason (otpAddr 560 (otpWdata (5 : Word))) (F.OTP_ADDR.WORD.get (otpAddr 560 (otpWdata (5 : Word))).otp.regs.addr) (otpAddr 560 (otpWdata (5 : Word))).otp.regs.wdata = 0 ∧
      ¬((fuseAt (otpAddr 560 (otpWdata (5 : Word))) (F.OTP_ADDR.WORD.get (otpAddr 560 (otpWdata (5 : Word))).otp.regs.addr)).data = (otpAddr 560 (otpWdata (5 : Word))).otp.regs.wdata ∧ (fuseAt (otpAddr 560 (otpWdata (5 : Word))) (F.OTP_ADDR.WORD.get (otpAddr 560 (otpWdata (5 : Word))).otp.regs.addr)).hi = 0 ∧ (fuseAt (otpAddr 560 (otpWdata (5 : Word))) (F.OTP_ADDR.WORD.get (otpAddr 560 (otpWdata (5 : Word))).otp.regs.addr)).lo = 0)) ∧
    (cpWrites (otpAddr 3 (otpWdata (1 : Word))) = true ∧
      otpBusy (otpAddr 3 (otpWdata (1 : Word))) = false ∧
      (Instr.otpCmdWriteLock = Instr.otpCmdWriteLock ∧ false = false ∨ Instr.otpCmdWriteLock = Instr.otpCmdReadLock ∧ false = true) ∧
      lockReason (otpAddr 3 (otpWdata (1 : Word))) (F.OTP_ADDR.WORD.get (otpAddr 3 (otpWdata (1 : Word))).otp.regs.addr % 8) false ≠ 0) ∧
    (cpWrites wRun = true ∧
      otpBusy wRun = false ∧
      (Instr.otpCmdReadLock = Instr.otpCmdWriteLock ∧ true = false ∨ Instr.otpCmdReadLock = Instr.otpCmdReadLock ∧ true = true) ∧
      lockReason wRun (F.OTP_ADDR.WORD.get wRun.otp.regs.addr % 8) true = 0 ∧
      (lockFuses wRun (F.OTP_ADDR.WORD.get wRun.otp.regs.addr % 8) true)[0] = false) ∧
    (reset0.otp.op = none) ∧
    ((otpIs (otpOp (OtpOp.program 560 (1 : Word) 1))).otp.op = some (OtpOp.program 560 (1 : Word) 1) ∧
      1 < 16 ∧
      0 < 2 ^ 39) ∧
    (3 < 8 ∧
      (otpIs (otpOp (OtpOp.lock 3 true (0 : Fin 3) 1 0))).otp.op = some (OtpOp.lock 3 true (0 : Fin 3) 1 0)) := by
  refine ⟨⟨?_, ?_⟩, ⟨?_, ?_, ?_⟩, ⟨?_, ?_, ?_, ?_⟩, ⟨?_, ?_, ?_, ?_, ?_⟩, ⟨?_, ?_, ?_, ?_⟩, ⟨?_, ?_, ?_, ?_, ?_⟩, ?_, ⟨?_, ?_, ?_⟩, ⟨?_, ?_⟩⟩ <;> decide +kernel

theorem test_hyps_MarginScanCountsWeakWords :
    (F.OTP_STAT.SCANNING.on wRun.otp.regs.stat = false) ∧
    (cpWrites (otpAddr 0 (scans 0)) = true ∧
      F.OTP_STAT.SCANNING.on (otpAddr 0 (scans 0)).otp.regs.stat = true ∧
      F.OTP_STAT.BUSY.on (otpAddr 0 (scans 0)).otp.regs.stat = false) := by
  refine ⟨?_, ⟨?_, ?_, ?_⟩⟩ <;> decide +kernel

theorem test_hyps_FlashControllerProtectsTheRunningSlot :
    ((cpWrites reset0 = false ∨ flcBusy reset0 = true) ∧
      Instr.flcCmdRead ∈ [Instr.flcCmdRead, Instr.flcCmdProgram 2, Instr.flcCmdErase 2, Instr.flcCmdReset, Instr.flcCmdStatus]) ∧
    (cpWrites wRun = true ∧
      flcBusy wRun = false) ∧
    (cpWrites (flc none 7340032 1) = true ∧
      flcBusy (flc none 7340032 1) = false ∧
      1 ≤ F.FLC_LEN.LEN.get (flc none 7340032 1).flash.regs.len ∧
      F.FLC_LEN.LEN.get (flc none 7340032 1).flash.regs.len ≤ 4096) ∧
    (cpWrites (flc none 7340032 1) = true ∧
      flcBusy (flc none 7340032 1) = false ∧
      (Instr.flcCmdProgram 1 = Instr.flcCmdProgram 1 ∧ 2 = 2 ∧ 1 ≤ F.FLC_LEN.LEN.get (flc none 7340032 1).flash.regs.len ∧ F.FLC_LEN.LEN.get (flc none 7340032 1).flash.regs.len ≤ 4096 ∧ 7340032 = F.FLC_ADDR.ADDR.get (flc none 7340032 1).flash.regs.addr ∧ 1 = F.FLC_LEN.LEN.get (flc none 7340032 1).flash.regs.len ∧ 1 = F.FLC_LEN.LEN.get (flc none 7340032 1).flash.regs.len ∨ Instr.flcCmdProgram 1 = Instr.flcCmdErase 1 ∧ 2 = 3 ∧ 7340032 = F.FLC_ADDR.ADDR.get (flc none 7340032 1).flash.regs.addr / 65536 * 65536 ∧ 1 = 65536 ∧ 1 = 0) ∧
      1 ≠ 15510 ∧
      1 ≠ 45178) ∧
    (cpWrites (flc none 1048576 1) = true ∧
      flcBusy (flc none 1048576 1) = false ∧
      (Instr.flcCmdProgram 15510 = Instr.flcCmdProgram 15510 ∧ 2 = 2 ∧ 1 ≤ F.FLC_LEN.LEN.get (flc none 1048576 1).flash.regs.len ∧ F.FLC_LEN.LEN.get (flc none 1048576 1).flash.regs.len ≤ 4096 ∧ 1048576 = F.FLC_ADDR.ADDR.get (flc none 1048576 1).flash.regs.addr ∧ 1 = F.FLC_LEN.LEN.get (flc none 1048576 1).flash.regs.len ∧ 1 = F.FLC_LEN.LEN.get (flc none 1048576 1).flash.regs.len ∨ Instr.flcCmdProgram 15510 = Instr.flcCmdErase 15510 ∧ 2 = 3 ∧ 1048576 = F.FLC_ADDR.ADDR.get (flc none 1048576 1).flash.regs.addr / 65536 * 65536 ∧ 1 = 65536 ∧ 1 = 0) ∧
      (15510 = 15510 ∨ 15510 = 45178) ∧
      (inRunSlot (flc none 1048576 1) 1048576 1 = true ∨ inBootArea 1048576 1 ≠ (15510 == 45178))) ∧
    (cpWrites (flc none 7340032 1) = true ∧
      flcBusy (flc none 7340032 1) = false ∧
      (Instr.flcCmdProgram 15510 = Instr.flcCmdProgram 15510 ∧ 2 = 2 ∧ 1 ≤ F.FLC_LEN.LEN.get (flc none 7340032 1).flash.regs.len ∧ F.FLC_LEN.LEN.get (flc none 7340032 1).flash.regs.len ≤ 4096 ∧ 7340032 = F.FLC_ADDR.ADDR.get (flc none 7340032 1).flash.regs.addr ∧ 1 = F.FLC_LEN.LEN.get (flc none 7340032 1).flash.regs.len ∧ 1 = F.FLC_LEN.LEN.get (flc none 7340032 1).flash.regs.len ∨ Instr.flcCmdProgram 15510 = Instr.flcCmdErase 15510 ∧ 2 = 3 ∧ 7340032 = F.FLC_ADDR.ADDR.get (flc none 7340032 1).flash.regs.addr / 65536 * 65536 ∧ 1 = 65536 ∧ 1 = 0) ∧
      (15510 = 15510 ∨ 15510 = 45178) ∧
      inRunSlot (flc none 7340032 1) 7340032 1 = false ∧
      inBootArea 7340032 1 = (15510 == 45178)) ∧
    (reset0.flash.op = none ∧
      (hwUp reset0 = false ∨ reset0.boot.waiting = none)) ∧
    ((warmWaits (flc (some (FlcOp.mk 1 0 1048576 1)) 0 1)).boot.waiting ≠ none ∧
      (warmWaits (flc (some (FlcOp.mk 1 0 1048576 1)) 0 1)).flash.op ≠ none) ∧
    ((flc (some (FlcOp.mk 1 0 1048576 1)) 0 1).boot.waiting = none ∧
      (flc (some (FlcOp.mk 1 0 1048576 1)) 0 1).flash.op = some (FlcOp.mk 1 0 1048576 1)) := by
  refine ⟨⟨?_, ?_⟩, ⟨?_, ?_⟩, ⟨?_, ?_, ?_, ?_⟩, ⟨?_, ?_, ?_, ?_, ?_⟩, ⟨?_, ?_, ?_, ?_, ?_⟩, ⟨?_, ?_, ?_, ?_, ?_, ?_⟩, ⟨?_, ?_⟩, ⟨?_, ?_⟩, ⟨?_, ?_⟩⟩ <;> decide +kernel

theorem test_hyps_LoaderAnswersFrames :
    (reset0.boot.phase ≠ Phase.loader ∧
      Instr.loaderPing ∈ [Instr.loaderPing, Instr.loaderBaud 0, Instr.loaderBaudRevert, Instr.loaderRead 0 0, Instr.loaderRestart, Instr.loaderBadFrame true] ++ [Instr.loaderBegin 0 [], Instr.loaderBlock 0 [] true, Instr.loaderEnd true, Instr.loaderErase 0]) ∧
    ((ldr id).boot.phase = Phase.loader ∧
      4 ≤ 4 ∧
      4 ≤ 65535) ∧
    ((ldr id).boot.phase = Phase.loader ∧
      1 ≤ 1 ∧
      1 ≤ 4096 ∧
      0 + 1 ≤ 16777216) ∧
    (retired.boot.phase = Phase.loader ∧
      lifecycle retired = 3 ∧
      Instr.loaderBegin 0 [] ∈ [Instr.loaderBegin 0 [], Instr.loaderBlock 0 [] true, Instr.loaderEnd true, Instr.loaderErase 0]) ∧
    ((ldr id).boot.phase = Phase.loader ∧
      lifecycle (ldr id) ≠ 3 ∧
      0 < 2 ∧
      headerCheck (ldr id) [] = some (Status.imageInvalid, 1)) ∧
    (ldrReady.boot.phase = Phase.loader ∧
      lifecycle ldrReady ≠ 3 ∧
      0 < 2 ∧
      headerCheck ldrReady goodHdr = none) ∧
    ((ldr (ldrAt cheapHdr 1)).boot.phase = Phase.loader ∧
      lifecycle (ldr (ldrAt cheapHdr 1)) ≠ 3 ∧
      (ldr (ldrAt cheapHdr 1)).loader.slot = some 0 ∧
      0 < hdrNblk (ldr (ldrAt cheapHdr 1)).loader.hdr ∧
      0 + 1 = (ldr (ldrAt cheapHdr 1)).loader.next) ∧
    ((ldr (ldrAt cheapHdr 5)).boot.phase = Phase.loader ∧
      lifecycle (ldr (ldrAt cheapHdr 5)) ≠ 3 ∧
      (ldr (ldrAt cheapHdr 5)).loader.slot = some 0 ∧
      0 < hdrNblk (ldr (ldrAt cheapHdr 5)).loader.hdr ∧
      0 ≠ (ldr (ldrAt cheapHdr 5)).loader.next ∧
      0 + 1 ≠ (ldr (ldrAt cheapHdr 5)).loader.next) ∧
    ((ldr (ldrAt cheapHdr 0)).boot.phase = Phase.loader ∧
      lifecycle (ldr (ldrAt cheapHdr 0)) ≠ 3 ∧
      (ldr (ldrAt cheapHdr 0)).loader.slot = some 0 ∧
      0 < hdrNblk (ldr (ldrAt cheapHdr 0)).loader.hdr ∧
      0 = (ldr (ldrAt cheapHdr 0)).loader.next ∧
      (([] : List Byte).length ≠ blockLen (ldr (ldrAt cheapHdr 0)).loader.hdr 0 ∨ blockCrcOk [] = false)) ∧
    ((ldr (ldrAt cheapHdr 0)).boot.phase = Phase.loader ∧
      lifecycle (ldr (ldrAt cheapHdr 0)) ≠ 3 ∧
      (ldr (ldrAt cheapHdr 0)).loader.slot = some 0 ∧
      0 < hdrNblk (ldr (ldrAt cheapHdr 0)).loader.hdr ∧
      0 = (ldr (ldrAt cheapHdr 0)).loader.next ∧
      goodBlk.length = blockLen (ldr (ldrAt cheapHdr 0)).loader.hdr 0 ∧
      blockCrcOk goodBlk = true ∧
      true = true ∧
      (∀ j < goodBlk.length, cget (255 : Byte) (ldr (ldrAt cheapHdr 0)).flash.cells (blockAddr 0 0 + j) = (255 : Byte))) ∧
    ((ldr (ldrAt cheapHdr 1)).boot.phase = Phase.loader ∧
      lifecycle (ldr (ldrAt cheapHdr 1)) ≠ 3 ∧
      (ldr (ldrAt cheapHdr 1)).loader.slot = some 0 ∧
      (ldr (ldrAt cheapHdr 1)).loader.next = hdrNblk (ldr (ldrAt cheapHdr 1)).loader.hdr ∧
      0 < 2 ∧
      (ldr (ldrAt cheapHdr 1)).loader.hdr.length = 512 ∧
      (∀ j < 512, cget (255 : Byte) (ldr (ldrAt cheapHdr 1)).flash.cells (slotBase 0 + j) = (255 : Byte))) := by
  refine ⟨⟨?_, ?_⟩, ⟨?_, ?_, ?_⟩, ⟨?_, ?_, ?_, ?_⟩, ⟨?_, ?_, ?_⟩, ⟨?_, ?_, ?_, evaluates_6⟩, ⟨?_, ?_, ?_, evaluates_7⟩, ⟨?_, ?_, ?_, ?_, ?_⟩, ⟨?_, ?_, ?_, ?_, ?_, ?_⟩, ⟨?_, ?_, ?_, ?_, ?_, ?_⟩, ⟨?_, ?_, ?_, ?_, ?_, ?_, evaluates_8, ?_, ?_⟩, ⟨?_, ?_, ?_, ?_, ?_, ?_, ?_⟩⟩ <;> decide +kernel

theorem test_hyps_TelemetrySamplesAndFrames :
    ((hwUp reset0 = false ∨ chanAbsent reset0 (0 : Fin 297).val = true)) ∧
    (hwUp wRun = true ∧
      chanAbsent wRun (0 : Fin 297).val = false ∧
      (0 : Fin 297).val = 96 * (0 : Fin 3).val + (0 : PortId).val) ∧
    ((hwUp reset0 = false ∨ adcOut reset0 (0 : Fin 16).val = true)) ∧
    (hwUp wRun = true ∧
      adcOut wRun (0 : Fin 16).val = false) ∧
    ((hwUp reset0 = false ∨ reset0.cru.standby = true)) ∧
    (hwUp wRun = true ∧
      wRun.cru.standby = false) ∧
    (hwUp (telEn wRun) = true ∧
      (telEn wRun).cru.standby = false ∧
      F.TEL_CTL.EN.on (telEn wRun).tel.ctl = true ∧
      F.TEL_STAT.RUN.on (telEn wRun).tel.stat = false ∧
      F.TEL_STAT.DROPPING.on (telEn wRun).tel.stat = false ∧
      telWoff (telEn wRun) + 9 ≤ 524288 ∧
      9 ≤ telFree (telEn wRun) ∧
      (∀ (ch : Fin 297), (telEn wRun).codec.chans[ch].block = none)) ∧
    (hwUp reset0 = false) := by
  refine ⟨?_, ⟨?_, ?_, ?_⟩, ?_, ⟨?_, ?_⟩, ?_, ⟨?_, ?_⟩, ⟨?_, ?_, ?_, ?_, ?_, ?_, ?_, ?_⟩, ?_⟩ <;> decide +kernel

theorem test_hyps_BoardAndCardEvents :
    ((reset0.boot.phase ≠ Phase.running ∨ reset0.cru.standby = true ∨ F.CRU_GATE.LED.on reset0.cru.regs.gate = false)) ∧
    (wRun.boot.phase = Phase.running ∧
      wRun.cru.standby = false ∧
      F.CRU_GATE.LED.on wRun.cru.regs.gate = true) ∧
    (stby.cru.standby = true) ∧
    (reset0.cru.standby = false ∧
      hostServed reset0 = false) ∧
    (wRun.cru.standby = false ∧
      hostServed wRun = true) ∧
    (¬(hwUp reset0 = true ∧ F.CRU_GATE.SD.on reset0.cru.regs.gate = true ∧ reset0.cru.standby = false)) ∧
    (hwUp wRun = true ∧
      F.CRU_GATE.SD.on wRun.cru.regs.gate = true ∧
      wRun.cru.standby = false ∧
      (hostServed wRun = false ∨ wRun.upd.card = false)) ∧
    (hwUp (cardUpd (updStIs 1)) = true ∧
      F.CRU_GATE.SD.on (cardUpd (updStIs 1)).cru.regs.gate = true ∧
      (cardUpd (updStIs 1)).cru.standby = false ∧
      hostServed (cardUpd (updStIs 1)) = true ∧
      (cardUpd (updStIs 1)).upd.card = true ∧
      CardRead.error = CardRead.error) ∧
    (hwUp (cardUpd (updStIs 1)) = true ∧
      F.CRU_GATE.SD.on (cardUpd (updStIs 1)).cru.regs.gate = true ∧
      (cardUpd (updStIs 1)).cru.standby = false ∧
      hostServed (cardUpd (updStIs 1)) = true ∧
      (cardUpd (updStIs 1)).upd.card = true ∧
      CardRead.notFound = CardRead.notFound) ∧
    (hwUp (cardUpd (updStIs 1)) = true ∧
      F.CRU_GATE.SD.on (cardUpd (updStIs 1)).cru.regs.gate = true ∧
      (cardUpd (updStIs 1)).cru.standby = false ∧
      hostServed (cardUpd (updStIs 1)) = true ∧
      (cardUpd (updStIs 1)).upd.card = true ∧
      CardRead.data [] = CardRead.data [] ∧
      (cardUpd (updStIs 1)).upd.st = 1 ∧
      (([] : List Byte).length ≠ blockLen (cardUpd (updStIs 1)).upd.hdr (cardUpd (updStIs 1)).upd.next ∨ blockCrcOk [] = false)) ∧
    (hwUp (cardUpd (updStIs 1)) = true ∧
      F.CRU_GATE.SD.on (cardUpd (updStIs 1)).cru.regs.gate = true ∧
      (cardUpd (updStIs 1)).cru.standby = false ∧
      hostServed (cardUpd (updStIs 1)) = true ∧
      (cardUpd (updStIs 1)).upd.card = true ∧
      CardRead.data goodBlk = CardRead.data goodBlk ∧
      (cardUpd (updStIs 1)).upd.st = 1 ∧
      goodBlk.length = blockLen (cardUpd (updStIs 1)).upd.hdr (cardUpd (updStIs 1)).upd.next ∧
      blockCrcOk goodBlk = true ∧
      (∀ j < goodBlk.length, cget (255 : Byte) (cardUpd (updStIs 1)).flash.cells (blockAddr (cardUpd (updStIs 1)).upd.slot (cardUpd (updStIs 1)).upd.next + j) = (255 : Byte))) ∧
    (¬(hwUp reset0 = true ∧ F.CRU_GATE.CRYPTO.on reset0.cru.regs.gate = true ∧ reset0.cru.standby = false)) ∧
    (hwUp wRun = true ∧
      F.CRU_GATE.CRYPTO.on wRun.cru.regs.gate = true ∧
      wRun.cru.standby = false ∧
      (hostServed wRun = false ∨ findWait wRun authVerifying = none ∧ (wRun.upd.card = false ∨ wRun.upd.st ≠ 2))) ∧
    (hwUp (cardUpd (updStIs 2)) = true ∧
      F.CRU_GATE.CRYPTO.on (cardUpd (updStIs 2)).cru.regs.gate = true ∧
      (cardUpd (updStIs 2)).cru.standby = false ∧
      hostServed (cardUpd (updStIs 2)) = true ∧
      findWait (cardUpd (updStIs 2)) authVerifying = none ∧
      (cardUpd (updStIs 2)).upd.card = true ∧
      (cardUpd (updStIs 2)).upd.st = 2 ∧
      signatureOk (cardUpd (updStIs 2)) (cardUpd (updStIs 2)).upd.slot (cardUpd (updStIs 2)).upd.hdr = false) := by
  refine ⟨?_, ⟨?_, ?_, ?_⟩, ?_, ⟨?_, ?_⟩, ⟨?_, ?_⟩, ?_, ⟨?_, ?_, ?_, ?_⟩, ⟨?_, ?_, ?_, ?_, ?_, ?_⟩, ⟨?_, ?_, ?_, ?_, ?_, ?_⟩, ⟨?_, ?_, ?_, ?_, ?_, ?_, ?_, ?_⟩, ⟨?_, ?_, ?_, ?_, ?_, ?_, ?_, ?_, evaluates_8, ?_⟩, ?_, ⟨?_, ?_, ?_, ?_⟩, ⟨?_, ?_, ?_, ?_, ?_, ?_, ?_, ?_⟩⟩ <;> decide +kernel

theorem test_hyps_FeedsSwitchBreakBeforeMake :
    (hwUp reset0 = false) ∧
    (hwUp (feed (256 : Word) none wRun) = true ∧
      (feedLinkDown (feed (256 : Word) none wRun) Feed.a = false ∧ (Feed.a ≠ Feed.p ∨ feedPServes (feed (256 : Word) none wRun) = true)) ∧
      feedSwitching (feed (256 : Word) none wRun) = true) ∧
    (hwUp wRun = true ∧
      (feedLinkDown wRun Feed.a = false ∧ (Feed.a ≠ Feed.p ∨ feedPServes wRun = true)) ∧
      feedSwitching wRun = false ∧
      F.FED_STAT.ACTIVE.get wRun.feeds.regs.stat = 0 ∧
      List.find? (feedReady (nowQualified Feed.a wRun)) (feedOrder wRun.feeds.regs) = some Feed.a) ∧
    (hwUp (noReturn (feed (17 : Word) none wRun)) = true ∧
      (feedLinkDown (noReturn (feed (17 : Word) none wRun)) Feed.a = false ∧ (Feed.a ≠ Feed.p ∨ feedPServes (noReturn (feed (17 : Word) none wRun)) = true)) ∧
      feedSwitching (noReturn (feed (17 : Word) none wRun)) = false ∧
      F.FED_STAT.ACTIVE.get (noReturn (feed (17 : Word) none wRun)).feeds.regs.stat = Feed.code Feed.a ∧
      feedQual (noReturn (feed (17 : Word) none wRun)) Feed.a = true ∧
      F.FED_CTL.RETURN.on (noReturn (feed (17 : Word) none wRun)).feeds.regs.ctl = false) ∧
    (hwUp (feed (50 : Word) none wRun) = true ∧
      (feedLinkDown (feed (50 : Word) none wRun) Feed.a = false ∧ (Feed.a ≠ Feed.p ∨ feedPServes (feed (50 : Word) none wRun) = true)) ∧
      feedSwitching (feed (50 : Word) none wRun) = false ∧
      F.FED_STAT.ACTIVE.get (feed (50 : Word) none wRun).feeds.regs.stat = Feed.code Feed.b ∧
      feedQual (feed (50 : Word) none wRun) Feed.b = true ∧
      F.FED_CTL.RETURN.on (feed (50 : Word) none wRun).feeds.regs.ctl = true ∧
      List.find? (feedReady (nowQualified Feed.a (feed (50 : Word) none wRun))) (feedOrder (feed (50 : Word) none wRun).feeds.regs) = some Feed.a ∧
      Feed.a ≠ Feed.b) ∧
    (hwUp wRun = true ∧
      F.FED_STAT.ACTIVE.get wRun.feeds.regs.stat ≠ Feed.code Feed.a) ∧
    (hwUp (feed (273 : Word) (some Feed.a) wRun) = true ∧
      F.FED_STAT.ACTIVE.get (feed (273 : Word) (some Feed.a) wRun).feeds.regs.stat = Feed.code Feed.a ∧
      (feed (273 : Word) (some Feed.a) wRun).feeds.rising = some Feed.a) ∧
    (hwUp wRun = true ∧
      Feed.a ∈ feedOrder wRun.feeds.regs ∧
      feedQual wRun Feed.a = false) ∧
    (Feed.p ∉ feedOrder reset0.feeds.regs) ∧
    (feedSwitching reset0 = false) ∧
    (feedSwitching (feed (272 : Word) none wRun) = true ∧
      (feed (272 : Word) none wRun).feeds.rising = none ∧
      bbmClear (feed (272 : Word) none wRun) = true ∧
      List.find? (feedReady (feed (272 : Word) none wRun)) (feedOrder (feed (272 : Word) none wRun).feeds.regs) = some Feed.a) ∧
    (feedSwitching (feed (256 : Word) none wRun) = true ∧
      (feed (256 : Word) none wRun).feeds.rising = none ∧
      bbmClear (feed (256 : Word) none wRun) = true ∧
      List.find? (feedReady (feed (256 : Word) none wRun)) (feedOrder (feed (256 : Word) none wRun).feeds.regs) = none) ∧
    (reset0.feeds.rising = none) ∧
    ((feed (273 : Word) (some Feed.a) wRun).feeds.rising = some Feed.a ∧
      F.FED_STAT.ACTIVE.get (feed (273 : Word) (some Feed.a) wRun).feeds.regs.stat = Feed.code Feed.a ∧
      feedQual (feed (273 : Word) (some Feed.a) wRun) Feed.a = true ∧
      List.find? (feedReady (feed (273 : Word) (some Feed.a) wRun)) (feedOrder (feed (273 : Word) (some Feed.a) wRun).feeds.regs) = some Feed.a) ∧
    (hwUp wRun = true ∧
      feedQual wRun Feed.a = false ∧
      feedQual wRun Feed.b = false ∧
      feedQual wRun Feed.p = false ∧
      (∀ (p : PortId), wRun.ports[p].attached = false ∨ wRun.ports[p].isSource = false)) := by
  refine ⟨?_, ⟨?_, ?_, ?_⟩, ⟨?_, ?_, ?_, ?_, ?_⟩, ⟨?_, ?_, ?_, ?_, ?_, ?_⟩, ⟨?_, ?_, ?_, ?_, ?_, ?_, ?_, ?_⟩, ⟨?_, ?_⟩, ⟨?_, ?_, ?_⟩, ⟨?_, ?_, ?_⟩, ?_, ?_, ⟨?_, ?_, ?_, ?_⟩, ⟨?_, ?_, ?_, ?_⟩, ?_, ⟨?_, ?_, ?_, ?_⟩, ⟨?_, ?_, ?_, ?_, ?_⟩⟩ <;> decide +kernel

theorem test_hyps_CaddySubmissions :
    (hwUp reset0 = false) ∧
    ((hwUp reset0 = false ∨ unpopulated reset0 (3 : PortId) = true)) ∧
    (hwUp (prearm3 (cad3 (CadPort.setHold 5000) wRun)) = true ∧
      unpopulated (prearm3 (cad3 (CadPort.setHold 5000) wRun)) (3 : PortId) = false ∧
      (prearm3 (cad3 (CadPort.setHold 5000) wRun)).ports[(3 : PortId)].pol.prearmed = true ∧
      unitsAt (prearm3 (cad3 (CadPort.setHold 5000) wRun)) 50 (levelPout (min 2 (F.CAD_PCFG.V5.get (prearm3 (cad3 (CadPort.setHold 5000) wRun)).cadp[(3 : PortId)].actPcfg))) ≤ (prearm3 (cad3 (CadPort.setHold 5000) wRun)).cadp[(3 : PortId)].hold - (prearm3 (cad3 (CadPort.setHold 5000) wRun)).cadp[(3 : PortId)].relAmt) ∧
    (hwUp wRun = true ∧
      unpopulated wRun (3 : PortId) = false ∧
      ¬(wRun.ports[(3 : PortId)].pol.prearmed = true ∧ unitsAt wRun 50 (levelPout (min 2 (F.CAD_PCFG.V5.get wRun.cadp[(3 : PortId)].actPcfg))) ≤ wRun.cadp[(3 : PortId)].hold - wRun.cadp[(3 : PortId)].relAmt) ∧
      (∀ n ≤ min 2 (F.CAD_PCFG.V5.get wRun.cadp[(3 : PortId)].actPcfg), poolBal wRun < unitsAt wRun 50 (levelPout n))) ∧
    ((reset0.cadp[(3 : PortId)].upg = none ∨ F.CAD_STAT.PAUSED.on reset0.cad.regs.stat = true)) ∧
    ((cad3 upg3 wRun).cadp[(3 : PortId)].upg ≠ none ∧
      F.CAD_STAT.PAUSED.on (cad3 upg3 wRun).cad.regs.stat = false) := by
  refine ⟨?_, ?_, ⟨?_, ?_, ?_, ?_⟩, ⟨?_, ?_, ?_, ?_⟩, ?_, ⟨?_, ?_⟩⟩ <;> decide +kernel

theorem test_hyps_RowBoundariesResolveRequests :
    ((hwUp reset0 = false ∨ reset0.cru.standby = true ∨ F.CAD_STAT.PAUSED.on reset0.cad.regs.stat = true)) ∧
    ((¬(hwUp (syncRow wRun) = false ∨ (syncRow wRun).cru.standby = true ∨ F.CAD_STAT.PAUSED.on (syncRow wRun).cad.regs.stat = true)) ∧
      F.CAD_ROWCFG.SYNC_EN.on (syncRow wRun).cad.act.rowcfg = true ∧
      (syncRow wRun).cad.syncLost = false) ∧
    ((¬(hwUp wRun = false ∨ wRun.cru.standby = true ∨ F.CAD_STAT.PAUSED.on wRun.cad.regs.stat = true)) ∧
      F.CAD_ROWCFG.SYNC_EN.on wRun.cad.act.rowcfg = false) ∧
    ((¬(hwUp syncGone = false ∨ syncGone.cru.standby = true ∨ F.CAD_STAT.PAUSED.on syncGone.cad.regs.stat = true)) ∧
      F.CAD_ROWCFG.SYNC_EN.on syncGone.cad.act.rowcfg = true ∧
      syncGone.cad.syncLost = true) ∧
    (RowCalm (rows 1000 wRun) 1000 ∧
      (∀ (p : PortId), (rows 1000 wRun).cadp[p].req = none) ∧
      committed (rows 1000 wRun) ≤ 1000) ∧
    ((cad3 (asks 10) (engOff (rows 1000 wRun))).cadp[(3 : PortId)].req = some (CadReq.mk 50 10 0 false) ∧
      RowCalm (cad3 (asks 10) (engOff (rows 1000 wRun))) 1000 ∧
      F.CAD_CTL.EN.on (cad3 (asks 10) (engOff (rows 1000 wRun))).cad.act.ctl = true ∧
      portServed (cad3 (asks 10) (engOff (rows 1000 wRun))) (3 : PortId) = false ∧
      (∀ (q : PortId), q ≠ (3 : PortId) → (cad3 (asks 10) (engOff (rows 1000 wRun))).cadp[q].req = none) ∧
      effRising (cad3 (asks 10) (engOff (rows 1000 wRun))).cad.act.eff = true ∧
      (CadReq.mk 50 10 0 false).volt < 1024 ∧
      unitsAt (cad3 (asks 10) (engOff (rows 1000 wRun))) (CadReq.mk 50 10 0 false).volt (CadReq.mk 50 10 0 false).pout - (cad3 (asks 10) (engOff (rows 1000 wRun))).cadp[(3 : PortId)].snapHold ≤ headroom (cad3 (asks 10) (engOff (rows 1000 wRun))) ∧
      unitsAt (cad3 (asks 10) (engOff (rows 1000 wRun))) (CadReq.mk 50 10 0 false).volt (CadReq.mk 50 10 0 false).pout < 65536 ∧
      committed (cad3 (asks 10) (engOff (rows 1000 wRun))) + (unitsAt (cad3 (asks 10) (engOff (rows 1000 wRun))) (CadReq.mk 50 10 0 false).volt (CadReq.mk 50 10 0 false).pout - (cad3 (asks 10) (engOff (rows 1000 wRun))).cadp[(3 : PortId)].hold) ≤ 1000) ∧
    ((cad3 (asks 10000) (engOff (rows 500 wRun))).cadp[(3 : PortId)].req = some (CadReq.mk 50 10000 0 false) ∧
      RowCalm (cad3 (asks 10000) (engOff (rows 500 wRun))) 1000 ∧
      F.CAD_CTL.EN.on (cad3 (asks 10000) (engOff (rows 500 wRun))).cad.act.ctl = true ∧
      portServed (cad3 (asks 10000) (engOff (rows 500 wRun))) (3 : PortId) = false ∧
      (∀ (q : PortId), q ≠ (3 : PortId) → (cad3 (asks 10000) (engOff (rows 500 wRun))).cadp[q].req = none) ∧
      effRising (cad3 (asks 10000) (engOff (rows 500 wRun))).cad.act.eff = true ∧
      (CadReq.mk 50 10000 0 false).volt < 1024 ∧
      headroom (cad3 (asks 10000) (engOff (rows 500 wRun))) < unitsAt (cad3 (asks 10000) (engOff (rows 500 wRun))) (CadReq.mk 50 10000 0 false).volt (CadReq.mk 50 10000 0 false).pout - (cad3 (asks 10000) (engOff (rows 500 wRun))).cadp[(3 : PortId)].snapHold ∧
      max 1 (F.CAD_PCFG.PMIN.get (cad3 (asks 10000) (engOff (rows 500 wRun))).cadp[(3 : PortId)].actPcfg) ≤ headroom (cad3 (asks 10000) (engOff (rows 500 wRun))) ∧
      unitsAt (cad3 (asks 10000) (engOff (rows 500 wRun))) (CadReq.mk 50 10000 0 false).volt (CadReq.mk 50 10000 0 false).pout < 65536 ∧
      committed (cad3 (asks 10000) (engOff (rows 500 wRun))) + ((cad3 (asks 10000) (engOff (rows 500 wRun))).cadp[(3 : PortId)].snapHold + headroom (cad3 (asks 10000) (engOff (rows 500 wRun))) - (cad3 (asks 10000) (engOff (rows 500 wRun))).cadp[(3 : PortId)].hold) ≤ 1000) ∧
    ((cad3 (asks 10000) (engOff (rows 5 wRun))).cadp[(3 : PortId)].req = some (CadReq.mk 50 10000 0 false) ∧
      RowCalm (cad3 (asks 10000) (engOff (rows 5 wRun))) 1000 ∧
      F.CAD_CTL.EN.on (cad3 (asks 10000) (engOff (rows 5 wRun))).cad.act.ctl = true ∧
      portServed (cad3 (asks 10000) (engOff (rows 5 wRun))) (3 : PortId) = false ∧
      (∀ (q : PortId), q ≠ (3 : PortId) → (cad3 (asks 10000) (engOff (rows 5 wRun))).cadp[q].req = none) ∧
      effRising (cad3 (asks 10000) (engOff (rows 5 wRun))).cad.act.eff = true ∧
      (CadReq.mk 50 10000 0 false).volt < 1024 ∧
      headroom (cad3 (asks 10000) (engOff (rows 5 wRun))) < unitsAt (cad3 (asks 10000) (engOff (rows 5 wRun))) (CadReq.mk 50 10000 0 false).volt (CadReq.mk 50 10000 0 false).pout - (cad3 (asks 10000) (engOff (rows 5 wRun))).cadp[(3 : PortId)].snapHold ∧
      headroom (cad3 (asks 10000) (engOff (rows 5 wRun))) < max 1 (F.CAD_PCFG.PMIN.get (cad3 (asks 10000) (engOff (rows 5 wRun))).cadp[(3 : PortId)].actPcfg) ∧
      committed (cad3 (asks 10000) (engOff (rows 5 wRun))) ≤ 1000) ∧
    ((F.CAD_ROWCFG.SYNC_EN.on reset0.cad.act.rowcfg = false ∨ F.CAD_ROWCFG.SYNC_EDGE.on reset0.cad.act.rowcfg = true)) ∧
    ((¬(hwUp (syncRow wRun) = false ∨ (syncRow wRun).cru.standby = true ∨ F.CAD_STAT.PAUSED.on (syncRow wRun).cad.regs.stat = true)) ∧
      F.CAD_ROWCFG.SYNC_EN.on (syncRow wRun).cad.act.rowcfg = true ∧
      F.CAD_ROWCFG.SYNC_EDGE.on (syncRow wRun).cad.act.rowcfg = !true ∧
      0 < 250) ∧
    ((¬(hwUp (syncRow wRun) = false ∨ (syncRow wRun).cru.standby = true ∨ F.CAD_STAT.PAUSED.on (syncRow wRun).cad.regs.stat = true)) ∧
      F.CAD_ROWCFG.SYNC_EN.on (syncRow wRun).cad.act.rowcfg = true ∧
      F.CAD_ROWCFG.SYNC_EDGE.on (syncRow wRun).cad.act.rowcfg = !true ∧
      250 ≤ 250) ∧
    (F.CAD_ROWCFG.SYNC_EN.on reset0.cad.act.rowcfg = false) := by
  refine ⟨?_, ⟨?_, ?_, ?_⟩, ⟨?_, ?_⟩, ⟨?_, ?_, ?_⟩, ⟨?_, ?_, ?_⟩, ⟨?_, ?_, ?_, ?_, ?_, ?_, ?_, ?_, ?_, ?_⟩, ⟨?_, ?_, ?_, ?_, ?_, ?_, ?_, ?_, ?_, ?_, ?_⟩, ⟨?_, ?_, ?_, ?_, ?_, ?_, ?_, ?_, ?_, ?_⟩, ?_, ⟨?_, ?_, ?_, ?_⟩, ⟨?_, ?_, ?_, ?_⟩, ?_⟩ <;> decide +kernel

theorem test_hyps_ShedDeadlineLimitsVictims :
    ((∀ (p : PortId), unsettled wRun.cadp[p] = false)) ∧
    ((F.CAD_STAT.PAUSED.on wRun.cad.regs.stat = true ∨ F.CAD_STAT.SHEDDING.on wRun.cad.regs.stat = false)) ∧
    (F.CAD_STAT.PAUSED.on (cad3 (victim 100000) shedding).cad.regs.stat = false ∧
      F.CAD_STAT.SHEDDING.on (cad3 (victim 100000) shedding).cad.regs.stat = true ∧
      unsettled (cad3 (victim 100000) shedding).cadp[(3 : PortId)] = true ∧
      (∀ (r : PortId), r ≠ (3 : PortId) → unsettled (cad3 (victim 100000) shedding).cadp[r] = false) ∧
      (cad3 (victim 100000) shedding).cadp[(3 : PortId)].contract = some (50, 1500) ∧
      0 < 50 ∧
      max 1 (F.CAD_SHED.LIMMIN.get (cad3 (victim 100000) shedding).cad.act.shed) ≤ coverAt (cad3 (victim 100000) shedding) 50 (cad3 (victim 100000) shedding).cadp[(3 : PortId)].target * 10 / 50) ∧
    (F.CAD_STAT.PAUSED.on (cad3 (victim 0) (modPort (3 : PortId) live shedding)).cad.regs.stat = false ∧
      F.CAD_STAT.SHEDDING.on (cad3 (victim 0) (modPort (3 : PortId) live shedding)).cad.regs.stat = true ∧
      unsettled (cad3 (victim 0) (modPort (3 : PortId) live shedding)).cadp[(3 : PortId)] = true ∧
      (∀ (r : PortId), r ≠ (3 : PortId) → unsettled (cad3 (victim 0) (modPort (3 : PortId) live shedding)).cadp[r] = false) ∧
      (cad3 (victim 0) (modPort (3 : PortId) live shedding)).cadp[(3 : PortId)].contract = some (50, 1500) ∧
      0 < 50 ∧
      coverAt (cad3 (victim 0) (modPort (3 : PortId) live shedding)) 50 (cad3 (victim 0) (modPort (3 : PortId) live shedding)).cadp[(3 : PortId)].target * 10 / 50 < max 1 (F.CAD_SHED.LIMMIN.get (cad3 (victim 0) (modPort (3 : PortId) live shedding)).cad.act.shed) ∧
      (cad3 (victim 0) (modPort (3 : PortId) live shedding)).ports[(3 : PortId)].attached = true) := by
  refine ⟨?_, ?_, ⟨?_, ?_, ?_, ?_, ?_, ?_, ?_⟩, ⟨?_, ?_, ?_, ?_, ?_, ?_, ?_, ?_⟩⟩ <;> decide +kernel

theorem test_hyps_RampsFollowTarget :
    (¬frontWrites reset0 (3 : PortId) = true) ∧
    (¬frontDrives reset0 (3 : PortId) = true) ∧
    (F.PTH_CTL.PATH_EN.on (sv id).ports[(3 : PortId)].pth.ctl = true) ∧
    (frontDrives wRun (3 : PortId) = true ∧
      F.PTH_CTL.PATH_EN.on wRun.ports[(3 : PortId)].pth.ctl = false) ∧
    (frontWrites wRun (3 : PortId) = true ∧
      F.PTH_CEIL.CEIL.get wRun.ports[(3 : PortId)].pth.ceil * 100 < 4095 % 4096 * 20) ∧
    (frontWrites wRun (3 : PortId) = true ∧
      0 % 4096 * 20 ≤ F.PTH_CEIL.CEIL.get wRun.ports[(3 : PortId)].pth.ceil * 100) ∧
    ((¬(reset0.ports[(3 : PortId)].ramping = true ∧ refNow reset0.time reset0.ports[(3 : PortId)] = reset0.ports[(3 : PortId)].target ∧ (adcFailed reset0 (3 : PortId) = true → reset0.ports[(3 : PortId)].strained (7 : Fin 8) = !decide (reset0.ports[(3 : PortId)].target < F.PTH_REF.REF.get reset0.ports[(3 : PortId)].pth.ref))))) ∧
    (((off Tests.reached).ports[(3 : PortId)].ramping = true ∧ refNow (off Tests.reached).time (off Tests.reached).ports[(3 : PortId)] = (off Tests.reached).ports[(3 : PortId)].target ∧ (adcFailed (off Tests.reached) (3 : PortId) = true → (off Tests.reached).ports[(3 : PortId)].strained (7 : Fin 8) = !decide ((off Tests.reached).ports[(3 : PortId)].target < F.PTH_REF.REF.get (off Tests.reached).ports[(3 : PortId)].pth.ref))) ∧
      ¬Acts (off Tests.reached) (3 : PortId)) ∧
    (((sv (Tests.reached ∘ sink)).ports[(3 : PortId)].ramping = true ∧ refNow (sv (Tests.reached ∘ sink)).time (sv (Tests.reached ∘ sink)).ports[(3 : PortId)] = (sv (Tests.reached ∘ sink)).ports[(3 : PortId)].target ∧ (adcFailed (sv (Tests.reached ∘ sink)) (3 : PortId) = true → (sv (Tests.reached ∘ sink)).ports[(3 : PortId)].strained (7 : Fin 8) = !decide ((sv (Tests.reached ∘ sink)).ports[(3 : PortId)].target < F.PTH_REF.REF.get (sv (Tests.reached ∘ sink)).ports[(3 : PortId)].pth.ref))) ∧
      Acts (sv (Tests.reached ∘ sink)) (3 : PortId) ∧
      ((sv (Tests.reached ∘ sink)).ports[(3 : PortId)].attached = false ∨ (sv (Tests.reached ∘ sink)).ports[(3 : PortId)].isSource = false)) ∧
    (((sv (Tests.reached ∘ noK)).ports[(3 : PortId)].ramping = true ∧ refNow (sv (Tests.reached ∘ noK)).time (sv (Tests.reached ∘ noK)).ports[(3 : PortId)] = (sv (Tests.reached ∘ noK)).ports[(3 : PortId)].target ∧ (adcFailed (sv (Tests.reached ∘ noK)) (3 : PortId) = true → (sv (Tests.reached ∘ noK)).ports[(3 : PortId)].strained (7 : Fin 8) = !decide ((sv (Tests.reached ∘ noK)).ports[(3 : PortId)].target < F.PTH_REF.REF.get (sv (Tests.reached ∘ noK)).ports[(3 : PortId)].pth.ref))) ∧
      Acts (sv (Tests.reached ∘ noK)) (3 : PortId) ∧
      (sv (Tests.reached ∘ noK)).ports[(3 : PortId)].attached = true ∧
      (sv (Tests.reached ∘ noK)).ports[(3 : PortId)].isSource = true ∧
      (sv (Tests.reached ∘ noK)).ports[(3 : PortId)].pol.contract = none ∧
      (sv (Tests.reached ∘ noK)).ports[(3 : PortId)].pol.hr = HrStep.none ∧
      Port.quiet (0 : Fin 3) (sv (Tests.reached ∘ noK)).ports[(3 : PortId)] ∧
      F.PD_PHYCFG.EPR.on (sv (Tests.reached ∘ noK)).ports[(3 : PortId)].pd.phycfg = false ∧
      F.PRT_STATE.NOPD.on (sv (Tests.reached ∘ noK)).ports[(3 : PortId)].core.state = false) ∧
    (¬(F.PTH_CTL.TRIM_EN.on reset0.ports[(3 : PortId)].pth.ctl = true ∧ reset0.ports[(3 : PortId)].atTarget = true ∧ reset0.ports[(3 : PortId)].hw.ride = none ∧ adcFailed reset0 (3 : PortId) = false)) ∧
    (F.PTH_CTL.TRIM_EN.on (sv id).ports[(3 : PortId)].pth.ctl = true ∧
      (sv id).ports[(3 : PortId)].atTarget = true ∧
      (sv id).ports[(3 : PortId)].hw.ride = none ∧
      adcFailed (sv id) (3 : PortId) = false) := by
  refine ⟨?_, ?_, ?_, ⟨?_, ?_⟩, ⟨?_, ?_⟩, ⟨?_, ?_⟩, ?_, ⟨?_, ?_⟩, ⟨?_, ?_, ?_⟩, ⟨?_, ?_, ?_, ?_, ?_, ?_, ?_, ?_, ?_⟩, ?_, ⟨?_, ?_, ?_, ?_⟩⟩ <;> decide +kernel

theorem test_hyps_MonitorsTripThePath :
    ((Instr.vbusOvDetected (3 : PortId), Cause.vbusOv, (sv id).ports[(3 : PortId)].gateOn) ∈ [(Instr.passShortDetected (3 : PortId), Cause.pass, !(sv id).ports[(3 : PortId)].gateOn), (Instr.gateFaultDetected (3 : PortId), Cause.gate, F.PTH_STAT.LIN.on (sv id).ports[(3 : PortId)].pth.stat || trippedNow (sv id) (3 : PortId)), (Instr.vbusOvDetected (3 : PortId), Cause.vbusOv, (sv id).ports[(3 : PortId)].gateOn), (Instr.cvOvDetected (3 : PortId), Cause.cvOv, true), (Instr.fastTrip (3 : PortId), Cause.fast, true), (Instr.reverseCurrentDetected (3 : PortId), Cause.rev, true), (Instr.rampTrackFault (3 : PortId), Cause.ramp, (sv id).ports[(3 : PortId)].ramping && decide (F.PTH_REF.REF.get (sv id).ports[(3 : PortId)].pth.ref < (sv id).ports[(3 : PortId)].target) || trippedNow (sv id) (3 : PortId)), (Instr.curveTrip (3 : PortId), Cause.curve, decide ((1 : ℚ) ≤ (sv id).ports[(3 : PortId)].hw.heat) || trippedNow (sv id) (3 : PortId)), (Instr.fallbackTrip (3 : PortId), Cause.fallback, adcFailed (sv id) (3 : PortId)), (Instr.cvTmo (3 : PortId), Cause.cvTmo, (sv id).ports[(3 : PortId)].hw.cvWait && !(sv id).ports[(3 : PortId)].strained (6 : Fin 8) || trippedNow (sv id) (3 : PortId)), (Instr.enhFault (3 : PortId), Cause.enh, (sv id).ports[(3 : PortId)].atTarget || trippedNow (sv id) (3 : PortId))] ∧
      (Instr.vbusOvDetected (3 : PortId), Cause.vbusOv, (sv id).ports[(3 : PortId)].gateOn).2.2 = true ∧
      (sv id).ports[(3 : PortId)].hw.ride = none ∧
      ((sv id).ports[(3 : PortId)].st ≠ PortSt.fenced ∧ ((Instr.vbusOvDetected (3 : PortId), Cause.vbusOv, (sv id).ports[(3 : PortId)].gateOn).2.1 = Cause.pass ∨ (sv id).ports[(3 : PortId)].st = PortSt.bindingOff ∧ (sv id).ports[(3 : PortId)].hw.detAt = some (sv id).time ∨ (sv id).ports[(3 : PortId)].st ∉ [PortSt.bindingOff, PortSt.tripped, PortSt.retryWait] ∧ ((sv id).ports[(3 : PortId)].attached = true ∨ (sv id).ports[(3 : PortId)].gateOn = true ∨ F.PTH_CTL.CEN_EN.on (sv id).ports[(3 : PortId)].pth.ctl = true)))) ∧
    ((Instr.cvOvDetected (3 : PortId), Cause.cvOv, true) ∈ [(Instr.passShortDetected (3 : PortId), Cause.pass, !wRun.ports[(3 : PortId)].gateOn), (Instr.gateFaultDetected (3 : PortId), Cause.gate, F.PTH_STAT.LIN.on wRun.ports[(3 : PortId)].pth.stat || trippedNow wRun (3 : PortId)), (Instr.vbusOvDetected (3 : PortId), Cause.vbusOv, wRun.ports[(3 : PortId)].gateOn), (Instr.cvOvDetected (3 : PortId), Cause.cvOv, true), (Instr.fastTrip (3 : PortId), Cause.fast, true), (Instr.reverseCurrentDetected (3 : PortId), Cause.rev, true), (Instr.rampTrackFault (3 : PortId), Cause.ramp, wRun.ports[(3 : PortId)].ramping && decide (F.PTH_REF.REF.get wRun.ports[(3 : PortId)].pth.ref < wRun.ports[(3 : PortId)].target) || trippedNow wRun (3 : PortId)), (Instr.curveTrip (3 : PortId), Cause.curve, decide ((1 : ℚ) ≤ wRun.ports[(3 : PortId)].hw.heat) || trippedNow wRun (3 : PortId)), (Instr.fallbackTrip (3 : PortId), Cause.fallback, adcFailed wRun (3 : PortId)), (Instr.cvTmo (3 : PortId), Cause.cvTmo, wRun.ports[(3 : PortId)].hw.cvWait && !wRun.ports[(3 : PortId)].strained (6 : Fin 8) || trippedNow wRun (3 : PortId)), (Instr.enhFault (3 : PortId), Cause.enh, wRun.ports[(3 : PortId)].atTarget || trippedNow wRun (3 : PortId))] ∧
      (Instr.cvOvDetected (3 : PortId), Cause.cvOv, true).2.2 = true ∧
      wRun.ports[(3 : PortId)].hw.ride = none ∧
      (¬(wRun.ports[(3 : PortId)].st ≠ PortSt.fenced ∧ ((Instr.cvOvDetected (3 : PortId), Cause.cvOv, true).2.1 = Cause.pass ∨ wRun.ports[(3 : PortId)].st = PortSt.bindingOff ∧ wRun.ports[(3 : PortId)].hw.detAt = some wRun.time ∨ wRun.ports[(3 : PortId)].st ∉ [PortSt.bindingOff, PortSt.tripped, PortSt.retryWait] ∧ (wRun.ports[(3 : PortId)].attached = true ∨ wRun.ports[(3 : PortId)].gateOn = true ∨ F.PTH_CTL.CEN_EN.on wRun.ports[(3 : PortId)].pth.ctl = true)))) ∧
      (trippedNow wRun (3 : PortId) = true → F.PTH_STAT.CAUSE.get wRun.ports[(3 : PortId)].pth.stat ≤ (Instr.cvOvDetected (3 : PortId), Cause.cvOv, true).2.1.code)) ∧
    ((Instr.gateFaultDetected (3 : PortId), Cause.gate, F.PTH_STAT.LIN.on (on3 (tripsNow 11)).ports[(3 : PortId)].pth.stat || trippedNow (on3 (tripsNow 11)) (3 : PortId)) ∈ [(Instr.passShortDetected (3 : PortId), Cause.pass, !(on3 (tripsNow 11)).ports[(3 : PortId)].gateOn), (Instr.gateFaultDetected (3 : PortId), Cause.gate, F.PTH_STAT.LIN.on (on3 (tripsNow 11)).ports[(3 : PortId)].pth.stat || trippedNow (on3 (tripsNow 11)) (3 : PortId)), (Instr.vbusOvDetected (3 : PortId), Cause.vbusOv, (on3 (tripsNow 11)).ports[(3 : PortId)].gateOn), (Instr.cvOvDetected (3 : PortId), Cause.cvOv, true), (Instr.fastTrip (3 : PortId), Cause.fast, true), (Instr.reverseCurrentDetected (3 : PortId), Cause.rev, true), (Instr.rampTrackFault (3 : PortId), Cause.ramp, (on3 (tripsNow 11)).ports[(3 : PortId)].ramping && decide (F.PTH_REF.REF.get (on3 (tripsNow 11)).ports[(3 : PortId)].pth.ref < (on3 (tripsNow 11)).ports[(3 : PortId)].target) || trippedNow (on3 (tripsNow 11)) (3 : PortId)), (Instr.curveTrip (3 : PortId), Cause.curve, decide ((1 : ℚ) ≤ (on3 (tripsNow 11)).ports[(3 : PortId)].hw.heat) || trippedNow (on3 (tripsNow 11)) (3 : PortId)), (Instr.fallbackTrip (3 : PortId), Cause.fallback, adcFailed (on3 (tripsNow 11)) (3 : PortId)), (Instr.cvTmo (3 : PortId), Cause.cvTmo, (on3 (tripsNow 11)).ports[(3 : PortId)].hw.cvWait && !(on3 (tripsNow 11)).ports[(3 : PortId)].strained (6 : Fin 8) || trippedNow (on3 (tripsNow 11)) (3 : PortId)), (Instr.enhFault (3 : PortId), Cause.enh, (on3 (tripsNow 11)).ports[(3 : PortId)].atTarget || trippedNow (on3 (tripsNow 11)) (3 : PortId))] ∧
      (Instr.gateFaultDetected (3 : PortId), Cause.gate, F.PTH_STAT.LIN.on (on3 (tripsNow 11)).ports[(3 : PortId)].pth.stat || trippedNow (on3 (tripsNow 11)) (3 : PortId)).2.2 = true ∧
      (on3 (tripsNow 11)).ports[(3 : PortId)].hw.ride = none ∧
      (¬((on3 (tripsNow 11)).ports[(3 : PortId)].st ≠ PortSt.fenced ∧ ((Instr.gateFaultDetected (3 : PortId), Cause.gate, F.PTH_STAT.LIN.on (on3 (tripsNow 11)).ports[(3 : PortId)].pth.stat || trippedNow (on3 (tripsNow 11)) (3 : PortId)).2.1 = Cause.pass ∨ (on3 (tripsNow 11)).ports[(3 : PortId)].st = PortSt.bindingOff ∧ (on3 (tripsNow 11)).ports[(3 : PortId)].hw.detAt = some (on3 (tripsNow 11)).time ∨ (on3 (tripsNow 11)).ports[(3 : PortId)].st ∉ [PortSt.bindingOff, PortSt.tripped, PortSt.retryWait] ∧ ((on3 (tripsNow 11)).ports[(3 : PortId)].attached = true ∨ (on3 (tripsNow 11)).ports[(3 : PortId)].gateOn = true ∨ F.PTH_CTL.CEN_EN.on (on3 (tripsNow 11)).ports[(3 : PortId)].pth.ctl = true)))) ∧
      trippedNow (on3 (tripsNow 11)) (3 : PortId) = true ∧
      (Instr.gateFaultDetected (3 : PortId), Cause.gate, F.PTH_STAT.LIN.on (on3 (tripsNow 11)).ports[(3 : PortId)].pth.stat || trippedNow (on3 (tripsNow 11)) (3 : PortId)).2.1.code < F.PTH_STAT.CAUSE.get (on3 (tripsNow 11)).ports[(3 : PortId)].pth.stat) ∧
    ((Instr.vbusOvDetected (3 : PortId), Cause.vbusOv, (sv ride5).ports[(3 : PortId)].gateOn) ∈ [(Instr.passShortDetected (3 : PortId), Cause.pass, !(sv ride5).ports[(3 : PortId)].gateOn), (Instr.gateFaultDetected (3 : PortId), Cause.gate, F.PTH_STAT.LIN.on (sv ride5).ports[(3 : PortId)].pth.stat || trippedNow (sv ride5) (3 : PortId)), (Instr.vbusOvDetected (3 : PortId), Cause.vbusOv, (sv ride5).ports[(3 : PortId)].gateOn), (Instr.cvOvDetected (3 : PortId), Cause.cvOv, true), (Instr.fastTrip (3 : PortId), Cause.fast, true), (Instr.reverseCurrentDetected (3 : PortId), Cause.rev, true), (Instr.rampTrackFault (3 : PortId), Cause.ramp, (sv ride5).ports[(3 : PortId)].ramping && decide (F.PTH_REF.REF.get (sv ride5).ports[(3 : PortId)].pth.ref < (sv ride5).ports[(3 : PortId)].target) || trippedNow (sv ride5) (3 : PortId)), (Instr.curveTrip (3 : PortId), Cause.curve, decide ((1 : ℚ) ≤ (sv ride5).ports[(3 : PortId)].hw.heat) || trippedNow (sv ride5) (3 : PortId)), (Instr.fallbackTrip (3 : PortId), Cause.fallback, adcFailed (sv ride5) (3 : PortId)), (Instr.cvTmo (3 : PortId), Cause.cvTmo, (sv ride5).ports[(3 : PortId)].hw.cvWait && !(sv ride5).ports[(3 : PortId)].strained (6 : Fin 8) || trippedNow (sv ride5) (3 : PortId)), (Instr.enhFault (3 : PortId), Cause.enh, (sv ride5).ports[(3 : PortId)].atTarget || trippedNow (sv ride5) (3 : PortId))] ∧
      (Instr.vbusOvDetected (3 : PortId), Cause.vbusOv, (sv ride5).ports[(3 : PortId)].gateOn).2.2 = true ∧
      (sv ride5).ports[(3 : PortId)].hw.ride ≠ none ∧
      (Instr.vbusOvDetected (3 : PortId), Cause.vbusOv, (sv ride5).ports[(3 : PortId)].gateOn).2.1 ∈ [Cause.fast, Cause.vbusOv, Cause.cvOv, Cause.rev]) ∧
    ((Instr.enhFault (3 : PortId), Cause.enh, (sv ride5).ports[(3 : PortId)].atTarget || trippedNow (sv ride5) (3 : PortId)) ∈ [(Instr.passShortDetected (3 : PortId), Cause.pass, !(sv ride5).ports[(3 : PortId)].gateOn), (Instr.gateFaultDetected (3 : PortId), Cause.gate, F.PTH_STAT.LIN.on (sv ride5).ports[(3 : PortId)].pth.stat || trippedNow (sv ride5) (3 : PortId)), (Instr.vbusOvDetected (3 : PortId), Cause.vbusOv, (sv ride5).ports[(3 : PortId)].gateOn), (Instr.cvOvDetected (3 : PortId), Cause.cvOv, true), (Instr.fastTrip (3 : PortId), Cause.fast, true), (Instr.reverseCurrentDetected (3 : PortId), Cause.rev, true), (Instr.rampTrackFault (3 : PortId), Cause.ramp, (sv ride5).ports[(3 : PortId)].ramping && decide (F.PTH_REF.REF.get (sv ride5).ports[(3 : PortId)].pth.ref < (sv ride5).ports[(3 : PortId)].target) || trippedNow (sv ride5) (3 : PortId)), (Instr.curveTrip (3 : PortId), Cause.curve, decide ((1 : ℚ) ≤ (sv ride5).ports[(3 : PortId)].hw.heat) || trippedNow (sv ride5) (3 : PortId)), (Instr.fallbackTrip (3 : PortId), Cause.fallback, adcFailed (sv ride5) (3 : PortId)), (Instr.cvTmo (3 : PortId), Cause.cvTmo, (sv ride5).ports[(3 : PortId)].hw.cvWait && !(sv ride5).ports[(3 : PortId)].strained (6 : Fin 8) || trippedNow (sv ride5) (3 : PortId)), (Instr.enhFault (3 : PortId), Cause.enh, (sv ride5).ports[(3 : PortId)].atTarget || trippedNow (sv ride5) (3 : PortId))] ∧
      (Instr.enhFault (3 : PortId), Cause.enh, (sv ride5).ports[(3 : PortId)].atTarget || trippedNow (sv ride5) (3 : PortId)).2.2 = true ∧
      (sv ride5).ports[(3 : PortId)].hw.ride ≠ none ∧
      (Instr.enhFault (3 : PortId), Cause.enh, (sv ride5).ports[(3 : PortId)].atTarget || trippedNow (sv ride5) (3 : PortId)).2.1 ∉ [Cause.fast, Cause.vbusOv, Cause.cvOv, Cause.rev]) ∧
    ((Instr.passShortDetected (3 : PortId), Cause.pass, !(sv id).ports[(3 : PortId)].gateOn) ∈ [(Instr.passShortDetected (3 : PortId), Cause.pass, !(sv id).ports[(3 : PortId)].gateOn), (Instr.gateFaultDetected (3 : PortId), Cause.gate, F.PTH_STAT.LIN.on (sv id).ports[(3 : PortId)].pth.stat || trippedNow (sv id) (3 : PortId)), (Instr.vbusOvDetected (3 : PortId), Cause.vbusOv, (sv id).ports[(3 : PortId)].gateOn), (Instr.cvOvDetected (3 : PortId), Cause.cvOv, true), (Instr.fastTrip (3 : PortId), Cause.fast, true), (Instr.reverseCurrentDetected (3 : PortId), Cause.rev, true), (Instr.rampTrackFault (3 : PortId), Cause.ramp, (sv id).ports[(3 : PortId)].ramping && decide (F.PTH_REF.REF.get (sv id).ports[(3 : PortId)].pth.ref < (sv id).ports[(3 : PortId)].target) || trippedNow (sv id) (3 : PortId)), (Instr.curveTrip (3 : PortId), Cause.curve, decide ((1 : ℚ) ≤ (sv id).ports[(3 : PortId)].hw.heat) || trippedNow (sv id) (3 : PortId)), (Instr.fallbackTrip (3 : PortId), Cause.fallback, adcFailed (sv id) (3 : PortId)), (Instr.cvTmo (3 : PortId), Cause.cvTmo, (sv id).ports[(3 : PortId)].hw.cvWait && !(sv id).ports[(3 : PortId)].strained (6 : Fin 8) || trippedNow (sv id) (3 : PortId)), (Instr.enhFault (3 : PortId), Cause.enh, (sv id).ports[(3 : PortId)].atTarget || trippedNow (sv id) (3 : PortId))] ∧
      (Instr.passShortDetected (3 : PortId), Cause.pass, !(sv id).ports[(3 : PortId)].gateOn).2.2 = false ∧
      (Instr.passShortDetected (3 : PortId), Cause.pass, !(sv id).ports[(3 : PortId)].gateOn).2.1 ≠ Cause.vbusOv) ∧
    ((Instr.vbusOvDetected (3 : PortId), Cause.vbusOv, wRun.ports[(3 : PortId)].gateOn) ∈ [(Instr.passShortDetected (3 : PortId), Cause.pass, !wRun.ports[(3 : PortId)].gateOn), (Instr.gateFaultDetected (3 : PortId), Cause.gate, F.PTH_STAT.LIN.on wRun.ports[(3 : PortId)].pth.stat || trippedNow wRun (3 : PortId)), (Instr.vbusOvDetected (3 : PortId), Cause.vbusOv, wRun.ports[(3 : PortId)].gateOn), (Instr.cvOvDetected (3 : PortId), Cause.cvOv, true), (Instr.fastTrip (3 : PortId), Cause.fast, true), (Instr.reverseCurrentDetected (3 : PortId), Cause.rev, true), (Instr.rampTrackFault (3 : PortId), Cause.ramp, wRun.ports[(3 : PortId)].ramping && decide (F.PTH_REF.REF.get wRun.ports[(3 : PortId)].pth.ref < wRun.ports[(3 : PortId)].target) || trippedNow wRun (3 : PortId)), (Instr.curveTrip (3 : PortId), Cause.curve, decide ((1 : ℚ) ≤ wRun.ports[(3 : PortId)].hw.heat) || trippedNow wRun (3 : PortId)), (Instr.fallbackTrip (3 : PortId), Cause.fallback, adcFailed wRun (3 : PortId)), (Instr.cvTmo (3 : PortId), Cause.cvTmo, wRun.ports[(3 : PortId)].hw.cvWait && !wRun.ports[(3 : PortId)].strained (6 : Fin 8) || trippedNow wRun (3 : PortId)), (Instr.enhFault (3 : PortId), Cause.enh, wRun.ports[(3 : PortId)].atTarget || trippedNow wRun (3 : PortId))] ∧
      (Instr.vbusOvDetected (3 : PortId), Cause.vbusOv, wRun.ports[(3 : PortId)].gateOn).2.2 = false ∧
      (Instr.vbusOvDetected (3 : PortId), Cause.vbusOv, wRun.ports[(3 : PortId)].gateOn).2.1 = Cause.vbusOv) := by
  refine ⟨⟨?_, ?_, ?_, ?_⟩, ⟨?_, ?_, ?_, ?_, ?_⟩, ⟨?_, ?_, ?_, ?_, ?_, ?_⟩, ⟨?_, ?_, ?_, ?_⟩, ⟨?_, ?_, ?_, ?_⟩, ⟨?_, ?_, ?_⟩, ⟨?_, ?_, ?_⟩⟩ <;> decide +kernel

theorem test_hyps_CurveDischargeAndRetries :
    ((F.PTH_STAT.LIN.on (sv (Tests.pthStat (3 : Word))).ports[(3 : PortId)].pth.stat = true ∨ adcFailed (sv (Tests.pthStat (3 : Word))) (3 : PortId) = true ∨ (sv (Tests.pthStat (3 : Word))).ports[(3 : PortId)].hw.ride ≠ none)) ∧
    (F.PTH_STAT.LIN.on (sv curve1).ports[(3 : PortId)].pth.stat = false ∧
      adcFailed (sv curve1) (3 : PortId) = false ∧
      (sv curve1).ports[(3 : PortId)].hw.ride = none ∧
      (sv curve1).ports[(3 : PortId)].hw.curve = [(64, 100)] ∧
      64 * 0 < (64, 100).1 * (10 * ratingEff (sv curve1).ports[(3 : PortId)])) ∧
    (F.PTH_STAT.LIN.on (sv curve1).ports[(3 : PortId)].pth.stat = false ∧
      adcFailed (sv curve1) (3 : PortId) = false ∧
      (sv curve1).ports[(3 : PortId)].hw.ride = none ∧
      (sv curve1).ports[(3 : PortId)].hw.curve = [] ++ [(64, 100)] ∧
      (∀ x ∈ ([] : List (Nat × Nat)), x.1 < (64, 100).1) ∧
      (64, 100).1 * (10 * ratingEff (sv curve1).ports[(3 : PortId)]) ≤ 64 * 10000000) ∧
    (frontWrites reset0 (3 : PortId) = false) ∧
    (frontWrites wRun (3 : PortId) = true ∧
      2 ≤ F.PTH_CCFG.NPTS.get wRun.ports[(3 : PortId)].cur.ccfg ∧
      F.PTH_CCFG.NPTS.get wRun.ports[(3 : PortId)].cur.ccfg ≤ 16 ∧
      64 ≤ ((writtenCurve wRun.ports[(3 : PortId)]).headD (0, 0)).1 ∧
      (∀ x ∈ writtenCurve wRun.ports[(3 : PortId)], 100 ≤ x.2) ∧
      List.Pairwise (fun a b => a.1 < b.1 ∧ b.2 ≤ a.2) (writtenCurve wRun.ports[(3 : PortId)])) ∧
    (frontWrites (on3 (ccurve 0)) (3 : PortId) = true ∧
      ¬(2 ≤ F.PTH_CCFG.NPTS.get (on3 (ccurve 0)).ports[(3 : PortId)].cur.ccfg ∧ F.PTH_CCFG.NPTS.get (on3 (ccurve 0)).ports[(3 : PortId)].cur.ccfg ≤ 16 ∧ 64 ≤ ((writtenCurve (on3 (ccurve 0)).ports[(3 : PortId)]).headD (0, 0)).1 ∧ (∀ x ∈ writtenCurve (on3 (ccurve 0)).ports[(3 : PortId)], 100 ≤ x.2) ∧ List.Pairwise (fun a b => a.1 < b.1 ∧ b.2 ≤ a.2) (writtenCurve (on3 (ccurve 0)).ports[(3 : PortId)]))) ∧
    (reset0.ports[(3 : PortId)].disAwaited = false) ∧
    ((off (Tests.pthStat (32 : Word))).ports[(3 : PortId)].disAwaited = true ∧
      dieHeld (off (Tests.pthStat (32 : Word))) (dieOf (3 : PortId)) = false ∧
      ¬Acts (off (Tests.pthStat (32 : Word))) (3 : PortId)) ∧
    ((on3 (bindsOff true)).ports[(3 : PortId)].disAwaited = true ∧
      dieHeld (on3 (bindsOff true)) (dieOf (3 : PortId)) = false ∧
      Acts (on3 (bindsOff true)) (3 : PortId) ∧
      (on3 (bindsOff true)).ports[(3 : PortId)].st = PortSt.bindingOff ∧
      (on3 (bindsOff true)).ports[(3 : PortId)].pol.errRecovery = true) ∧
    ((on3 (bindsOff false)).ports[(3 : PortId)].disAwaited = true ∧
      dieHeld (on3 (bindsOff false)) (dieOf (3 : PortId)) = false ∧
      Acts (on3 (bindsOff false)) (3 : PortId) ∧
      (on3 (bindsOff false)).ports[(3 : PortId)].st = PortSt.bindingOff ∧
      (on3 (bindsOff false)).ports[(3 : PortId)].pol.errRecovery = false ∧
      (on3 (bindsOff false)).ports[(3 : PortId)].pol.kept = none ∧
      (on3 (bindsOff false)).ports[(3 : PortId)].pol.cfgLater = none ∧
      (on3 (bindsOff false)).ports[(3 : PortId)].pol.captLater = none ∧
      roleOf (on3 (bindsOff false)) (3 : PortId) = 0 ∧
      (∀ (n : Fin 8), (on3 (bindsOff false)).ports[(3 : PortId)].strained n = false)) ∧
    ((F.PTH_STAT.DIS_ON.on reset0.ports[(3 : PortId)].pth.stat = false ∨ reset0.ports[(3 : PortId)].hw.rampDis = true)) ∧
    (F.PTH_STAT.DIS_ON.on (off (Tests.pthStat (32 : Word))).ports[(3 : PortId)].pth.stat = true ∧
      (off (Tests.pthStat (32 : Word))).ports[(3 : PortId)].hw.rampDis = false) ∧
    (reset0.ports[(3 : PortId)].hw.retryEnd = none) ∧
    ((idle3 retries).ports[(3 : PortId)].hw.retryEnd ≠ none ∧
      ¬Acts (idle3 retries) (3 : PortId)) ∧
    ((cadStat (F.CAD_STAT.PAUSED.set (0 : Word)) (on3 retries)).ports[(3 : PortId)].hw.retryEnd ≠ none ∧
      Acts (cadStat (F.CAD_STAT.PAUSED.set (0 : Word)) (on3 retries)) (3 : PortId) ∧
      F.CAD_STAT.PAUSED.on (cadStat (F.CAD_STAT.PAUSED.set (0 : Word)) (on3 retries)).cad.regs.stat = true) ∧
    ((pool 5000 (on3 (dec 1 1 ∘ hooked ∘ retries ∘ Port.setSt PortSt.retryWait))).ports[(3 : PortId)].hw.retryEnd ≠ none ∧
      Acts (pool 5000 (on3 (dec 1 1 ∘ hooked ∘ retries ∘ Port.setSt PortSt.retryWait))) (3 : PortId) ∧
      F.CAD_STAT.PAUSED.on (pool 5000 (on3 (dec 1 1 ∘ hooked ∘ retries ∘ Port.setSt PortSt.retryWait))).cad.regs.stat = false ∧
      (pool 5000 (on3 (dec 1 1 ∘ hooked ∘ retries ∘ Port.setSt PortSt.retryWait))).ports[(3 : PortId)].st = PortSt.retryWait ∧
      (pool 5000 (on3 (dec 1 1 ∘ hooked ∘ retries ∘ Port.setSt PortSt.retryWait))).ports[(3 : PortId)].pol.parkWait = false ∧
      (pool 5000 (on3 (dec 1 1 ∘ hooked ∘ retries ∘ Port.setSt PortSt.retryWait))).ports[(3 : PortId)].pol.tripDetach = false ∧
      (pool 5000 (on3 (dec 1 1 ∘ hooked ∘ retries ∘ Port.setSt PortSt.retryWait))).ports[(3 : PortId)].strained (4 : Fin 8) = false ∧
      (pool 5000 (on3 (dec 1 1 ∘ hooked ∘ retries ∘ Port.setSt PortSt.retryWait))).ports[(3 : PortId)].cableSeen = false ∧
      (pool 5000 (on3 (dec 1 1 ∘ hooked ∘ retries ∘ Port.setSt PortSt.retryWait))).ports[(3 : PortId)].orient ≠ 0 ∧
      unitsAt (pool 5000 (on3 (dec 1 1 ∘ hooked ∘ retries ∘ Port.setSt PortSt.retryWait))) 50 450 ≤ poolBal (pool 5000 (on3 (dec 1 1 ∘ hooked ∘ retries ∘ Port.setSt PortSt.retryWait)))) ∧
    (reset0.ports[(3 : PortId)].hw.absSince = none) ∧
    ((on3 absent).ports[(3 : PortId)].hw.absSince ≠ none) ∧
    (frontWrites wRun (3 : PortId) = true ∧
      wRun.ports[(3 : PortId)].hw.retryEnd = none ∧
      wRun.ports[(3 : PortId)].retryExh = false) ∧
    (frontWrites (idle3 retries) (3 : PortId) = true ∧
      ((idle3 retries).ports[(3 : PortId)].hw.retryEnd ≠ none ∨ (idle3 retries).ports[(3 : PortId)].retryExh = true) ∧
      ¬Acts (idle3 retries) (3 : PortId)) ∧
    (frontWrites (on3 retries) (3 : PortId) = true ∧
      ((on3 retries).ports[(3 : PortId)].hw.retryEnd ≠ none ∨ (on3 retries).ports[(3 : PortId)].retryExh = true) ∧
      Acts (on3 retries) (3 : PortId) ∧
      (on3 retries).ports[(3 : PortId)].st ≠ PortSt.attachWait) := by
  refine ⟨?_, ⟨?_, ?_, ?_, ?_, ?_⟩, ⟨?_, ?_, ?_, ?_, ?_, ?_⟩, ?_, ⟨?_, ?_, ?_, ?_, ?_, ?_⟩, ⟨?_, ?_⟩, ?_, ⟨?_, ?_, ?_⟩, ⟨?_, ?_, ?_, ?_, ?_⟩, ⟨?_, ?_, ?_, ?_, ?_, ?_, ?_, ?_, ?_, ?_⟩, ?_, ⟨?_, ?_⟩, ?_, ⟨?_, ?_⟩, ⟨?_, ?_, ?_⟩, ⟨?_, ?_, ?_, ?_, ?_, ?_, ?_, ?_, ?_, ?_⟩, ?_, ?_, ⟨?_, ?_, ?_⟩, ⟨?_, ?_, ?_⟩, ⟨?_, ?_, ?_, ?_⟩⟩ <;> decide +kernel

theorem test_hyps_ReceptionStoresMessages :
    ((reset0.ports[(3 : PortId)].orient = 0 ∨ reset0.ports[(3 : PortId)].rxEnabled (0 : Fin 3) = false)) ∧
    ((sv cableOff).ports[(3 : PortId)].orient ≠ 0 ∧
      (sv cableOff).ports[(3 : PortId)].ctxOn (1 : Fin 3) = false) ∧
    ((sv bistOn).ports[(3 : PortId)].ctxOn (0 : Fin 3) = true ∧
      (sv bistOn).ports[(3 : PortId)].orient ≠ 0 ∧
      (0 : Fin 3) = (0 : Fin 3) ∧
      (sv bistOn).ports[(3 : PortId)].phw.bistData = true) ∧
    ((sv (Tests.heard 0)).ports[(3 : PortId)].ctxOn (0 : Fin 3) = true ∧
      (sv (Tests.heard 0)).ports[(3 : PortId)].orient ≠ 0 ∧
      ¬(msgExt (bytes2 5) = false ∧ msgNobj (bytes2 5) = 0 ∧ msgType (bytes2 5) = 13) ∧
      ¬((0 : Fin 3) = (0 : Fin 3) ∧ (sv (Tests.heard 0)).ports[(3 : PortId)].phw.bistData = true) ∧
      (sv (Tests.heard 0)).ports[(3 : PortId)].heardId (0 : Fin 3) (msgId (bytes2 5))) ∧
    ((off (kaAck ∘ epr)).ports[(3 : PortId)].ctxOn (0 : Fin 3) = true ∧
      (off (kaAck ∘ epr)).ports[(3 : PortId)].orient ≠ 0 ∧
      ¬(msgExt kaMsg = false ∧ msgNobj kaMsg = 0 ∧ msgType kaMsg = 13) ∧
      ¬((0 : Fin 3) = (0 : Fin 3) ∧ (off (kaAck ∘ epr)).ports[(3 : PortId)].phw.bistData = true) ∧
      ¬(off (kaAck ∘ epr)).ports[(3 : PortId)].heardId (0 : Fin 3) (msgId kaMsg) ∧
      (0 : Fin 3) = (0 : Fin 3) ∧
      isKeepalive kaMsg = true ∧
      autoAnswers (off (kaAck ∘ epr)) (3 : PortId) = true) ∧
    ((sv full).ports[(3 : PortId)].ctxOn (0 : Fin 3) = true ∧
      (sv full).ports[(3 : PortId)].orient ≠ 0 ∧
      ¬(msgExt (bytes2 5) = false ∧ msgNobj (bytes2 5) = 0 ∧ msgType (bytes2 5) = 13) ∧
      ¬((0 : Fin 3) = (0 : Fin 3) ∧ (sv full).ports[(3 : PortId)].phw.bistData = true) ∧
      ¬(sv full).ports[(3 : PortId)].heardId (0 : Fin 3) (msgId (bytes2 5)) ∧
      ¬((0 : Fin 3) = (0 : Fin 3) ∧ isKeepalive (bytes2 5) = true ∧ autoAnswers (sv full) (3 : PortId) = true) ∧
      (sv full).ports[(3 : PortId)].rxFull ∧
      (sv full).ports[(3 : PortId)].holdsPhy (0 : Fin 3) = false) ∧
    ((off id).ports[(3 : PortId)].ctxOn (0 : Fin 3) = true ∧
      (off id).ports[(3 : PortId)].orient ≠ 0 ∧
      ¬(msgExt (bytes2 5) = false ∧ msgNobj (bytes2 5) = 0 ∧ msgType (bytes2 5) = 13) ∧
      ¬((0 : Fin 3) = (0 : Fin 3) ∧ (off id).ports[(3 : PortId)].phw.bistData = true) ∧
      ¬(off id).ports[(3 : PortId)].heardId (0 : Fin 3) (msgId (bytes2 5)) ∧
      ¬((0 : Fin 3) = (0 : Fin 3) ∧ isKeepalive (bytes2 5) = true ∧ autoAnswers (off id) (3 : PortId) = true) ∧
      (off id).ports[(3 : PortId)].rxRoom ∧
      ¬Acts (off id) (3 : PortId)) ∧
    ((sv (sink ∘ noK)).ports[(3 : PortId)].ctxOn (0 : Fin 3) = true ∧
      (sv (sink ∘ noK)).ports[(3 : PortId)].orient ≠ 0 ∧
      ¬(msgExt (bytes2 5) = false ∧ msgNobj (bytes2 5) = 0 ∧ msgType (bytes2 5) = 13) ∧
      ¬((0 : Fin 3) = (0 : Fin 3) ∧ (sv (sink ∘ noK)).ports[(3 : PortId)].phw.bistData = true) ∧
      ¬(sv (sink ∘ noK)).ports[(3 : PortId)].heardId (0 : Fin 3) (msgId (bytes2 5)) ∧
      (∀ (k : Fin 4), (sv (sink ∘ noK)).ports[(3 : PortId)].pd.rxdesc[k] = (0 : Word)) ∧
      (sv (sink ∘ noK)).ports[(3 : PortId)].phw.reasm = none ∧
      Acts (sv (sink ∘ noK)) (3 : PortId) ∧
      (sv (sink ∘ noK)).ports[(3 : PortId)].idle ∧
      (sv (sink ∘ noK)).ports[(3 : PortId)].pol.txNow[(0 : Fin 3)] = none ∧
      noWaits (sv (sink ∘ noK)) (3 : PortId) ∧
      F.PRT_STATE.NOPD.on (sv (sink ∘ noK)).ports[(3 : PortId)].core.state = false ∧
      (0 : Fin 3) = (0 : Fin 3) ∧
      (sv (sink ∘ noK)).ports[(3 : PortId)].isSource = false ∧
      msgExt (bytes2 5) = false ∧
      msgNobj (bytes2 5) = 0 ∧
      msgType (bytes2 5) = 5) ∧
    (msgExt (bytes2 13) = false ∧
      msgNobj (bytes2 13) = 0 ∧
      msgType (bytes2 13) = 13 ∧
      (Instr.softResetReceived (3 : PortId) (0 : Fin 3), bytes2 13) ∈ [(Instr.softResetReceived (3 : PortId) (0 : Fin 3), bytes2 13), (Instr.pdMessageReceived (3 : PortId) (0 : Fin 3) (bytes2 13) true, bytes2 13)] ∧
      (reset0.ports[(3 : PortId)].ctxOn (0 : Fin 3) = false ∨ reset0.ports[(3 : PortId)].orient = 0)) ∧
    (msgExt (bytes2 13) = false ∧
      msgNobj (bytes2 13) = 0 ∧
      msgType (bytes2 13) = 13 ∧
      (Instr.softResetReceived (3 : PortId) (0 : Fin 3), bytes2 13) ∈ [(Instr.softResetReceived (3 : PortId) (0 : Fin 3), bytes2 13), (Instr.pdMessageReceived (3 : PortId) (0 : Fin 3) (bytes2 13) true, bytes2 13)] ∧
      (sv bistOn).ports[(3 : PortId)].ctxOn (0 : Fin 3) = true ∧
      (sv bistOn).ports[(3 : PortId)].orient ≠ 0 ∧
      (0 : Fin 3) = (0 : Fin 3) ∧
      (sv bistOn).ports[(3 : PortId)].phw.bistData = true) ∧
    (msgExt (bytes2 13) = false ∧
      msgNobj (bytes2 13) = 0 ∧
      msgType (bytes2 13) = 13 ∧
      (Instr.softResetReceived (3 : PortId) (0 : Fin 3), bytes2 13) ∈ [(Instr.softResetReceived (3 : PortId) (0 : Fin 3), bytes2 13), (Instr.pdMessageReceived (3 : PortId) (0 : Fin 3) (bytes2 13) true, bytes2 13)] ∧
      (off id).ports[(3 : PortId)].ctxOn (0 : Fin 3) = true ∧
      (off id).ports[(3 : PortId)].orient ≠ 0 ∧
      ¬((0 : Fin 3) = (0 : Fin 3) ∧ (off id).ports[(3 : PortId)].phw.bistData = true) ∧
      (off id).ports[(3 : PortId)].rxRoom ∧
      ¬Acts (off id) (3 : PortId)) ∧
    (msgExt (bytes2 13) = false ∧
      msgNobj (bytes2 13) = 0 ∧
      msgType (bytes2 13) = 13 ∧
      (Instr.softResetReceived (3 : PortId) (0 : Fin 3), bytes2 13) ∈ [(Instr.softResetReceived (3 : PortId) (0 : Fin 3), bytes2 13), (Instr.pdMessageReceived (3 : PortId) (0 : Fin 3) (bytes2 13) true, bytes2 13)] ∧
      (sv (sink ∘ noK)).ports[(3 : PortId)].ctxOn (0 : Fin 3) = true ∧
      (sv (sink ∘ noK)).ports[(3 : PortId)].orient ≠ 0 ∧
      ¬((0 : Fin 3) = (0 : Fin 3) ∧ (sv (sink ∘ noK)).ports[(3 : PortId)].phw.bistData = true) ∧
      Acts (sv (sink ∘ noK)) (3 : PortId) ∧
      (0 : Fin 3) = (0 : Fin 3) ∧
      Port.quiet (0 : Fin 3) (sv (sink ∘ noK)).ports[(3 : PortId)] ∧
      noWaits (sv (sink ∘ noK)) (3 : PortId) ∧
      F.PRT_STATE.NOPD.on (sv (sink ∘ noK)).ports[(3 : PortId)].core.state = false ∧
      (sv (sink ∘ noK)).ports[(3 : PortId)].pol.accepted = false ∧
      (sv (sink ∘ noK)).ports[(3 : PortId)].isSource = false ∧
      (sv (sink ∘ noK)).ports[(3 : PortId)].phw.ams = false ∧
      (sv (sink ∘ noK)).ports[(3 : PortId)].phw.reasm = none ∧
      (∀ (k : Fin 4), (sv (sink ∘ noK)).ports[(3 : PortId)].pd.rxdesc[k] = (0 : Word))) ∧
    ((off id).ports[(3 : PortId)].orient ≠ 0 ∧
      (off id).ports[(3 : PortId)].rxEnabled (0 : Fin 3) = true ∧
      ¬Acts (off id) (3 : PortId)) ∧
    ((sv id).ports[(3 : PortId)].orient ≠ 0 ∧
      (sv id).ports[(3 : PortId)].rxEnabled (0 : Fin 3) = true ∧
      Acts (sv id) (3 : PortId) ∧
      noWaits (sv id) (3 : PortId) ∧
      (sv id).ports[(3 : PortId)].attached = true ∧
      (sv id).ports[(3 : PortId)].isSource = true ∧
      (sv id).ports[(3 : PortId)].pol.swap = none) ∧
    (¬(reset0.ports[(3 : PortId)].atTarget = true ∧ reset0.ports[(3 : PortId)].target = 250 ∧ reset0.ports[(3 : PortId)].hears (0 : Fin 3) = true)) ∧
    ((sv id).ports[(3 : PortId)].atTarget = true ∧
      (sv id).ports[(3 : PortId)].target = 250 ∧
      (sv id).ports[(3 : PortId)].hears (0 : Fin 3) = true) ∧
    (hwUp reset0 = false) ∧
    (hwUp wRun = true) := by
  refine ⟨?_, ⟨?_, ?_⟩, ⟨?_, ?_, ?_, ?_⟩, ⟨?_, ?_, ?_, ?_, ?_⟩, ⟨?_, ?_, ?_, ?_, ?_, ?_, ?_, ?_⟩, ⟨?_, ?_, ?_, ?_, ?_, ?_, ?_, ?_⟩, ⟨?_, ?_, ?_, ?_, ?_, ?_, ?_, ?_⟩, ⟨?_, ?_, ?_, ?_, ?_, ?_, ?_, ?_, ?_, ?_, ?_, ?_, ?_, ?_, ?_, ?_, ?_⟩, ⟨?_, ?_, ?_, ?_, ?_⟩, ⟨?_, ?_, ?_, ?_, ?_, ?_, ?_, ?_⟩, ⟨?_, ?_, ?_, ?_, ?_, ?_, ?_, ?_, ?_⟩, ⟨?_, ?_, ?_, ?_, ?_, ?_, ?_, ?_, ?_, ?_, ?_, ?_, ?_, ?_, ?_, ?_, ?_⟩, ⟨?_, ?_, ?_⟩, ⟨?_, ?_, ?_, ?_, ?_, ?_, ?_⟩, ?_, ⟨?_, ?_, ?_⟩, ?_, ?_⟩ <;> decide +kernel

theorem test_hyps_ChunksAreReassembled :
    ((reset0.ports[(3 : PortId)].ctxOn (0 : Fin 3) = false ∨ reset0.ports[(3 : PortId)].orient = 0)) ∧
    ((¬((sv bistOn).ports[(3 : PortId)].ctxOn (0 : Fin 3) = false ∨ (sv bistOn).ports[(3 : PortId)].orient = 0)) ∧
      ¬(sv bistOn).ports[(3 : PortId)].hears (0 : Fin 3) = true) ∧
    ((sv (Tests.heard 0)).ports[(3 : PortId)].hears (0 : Fin 3) = true ∧
      (sv (Tests.heard 0)).ports[(3 : PortId)].heardId (0 : Fin 3) (msgId (chunk0 100))) ∧
    ((sv id).ports[(3 : PortId)].hears (0 : Fin 3) = true ∧
      ¬(sv id).ports[(3 : PortId)].heardId (0 : Fin 3) (msgId (chunk0 100)) ∧
      extChunk (chunk0 100) = 0 ∧
      (sv id).ports[(3 : PortId)].rxRoom ∧
      26 < extSize (chunk0 100) ∧
      extSize (chunk0 100) ≤ 260 ∧
      (sv id).ports[(3 : PortId)].holdsPhy (0 : Fin 3) = false) ∧
    ((off id).ports[(3 : PortId)].hears (0 : Fin 3) = true ∧
      ¬(off id).ports[(3 : PortId)].heardId (0 : Fin 3) (msgId (chunk0 20)) ∧
      extChunk (chunk0 20) = 0 ∧
      (off id).ports[(3 : PortId)].rxRoom ∧
      extSize (chunk0 20) ≤ 26 ∧
      ¬Acts (off id) (3 : PortId)) ∧
    ((sv id).ports[(3 : PortId)].hears (0 : Fin 3) = true ∧
      ¬(sv id).ports[(3 : PortId)].heardId (0 : Fin 3) (msgId (chunk0 300)) ∧
      extChunk (chunk0 300) = 0 ∧
      (sv id).ports[(3 : PortId)].rxRoom ∧
      260 < extSize (chunk0 300) ∧
      (sv id).ports[(3 : PortId)].holdsPhy (0 : Fin 3) = false) ∧
    ((sv (reasms (Reasm.mk (0 : Fin 3) (0 : Fin 4) 100 1))).ports[(3 : PortId)].hears (0 : Fin 3) = true ∧
      ¬(sv (reasms (Reasm.mk (0 : Fin 3) (0 : Fin 4) 100 1))).ports[(3 : PortId)].heardId (0 : Fin 3) (msgId (chunkN 1 100)) ∧
      0 < extChunk (chunkN 1 100) ∧
      (sv (reasms (Reasm.mk (0 : Fin 3) (0 : Fin 4) 100 1))).ports[(3 : PortId)].phw.reasm = some (Reasm.mk (0 : Fin 3) (0 : Fin 4) 100 1) ∧
      (Reasm.mk (0 : Fin 3) (0 : Fin 4) 100 1).ctx = (0 : Fin 3) ∧
      (Reasm.mk (0 : Fin 3) (0 : Fin 4) 100 1).next = extChunk (chunkN 1 100) ∧
      26 < (Reasm.mk (0 : Fin 3) (0 : Fin 4) 100 1).size - 26 * (Reasm.mk (0 : Fin 3) (0 : Fin 4) 100 1).next) ∧
    ((off (reasms (Reasm.mk (0 : Fin 3) (0 : Fin 4) 30 1))).ports[(3 : PortId)].hears (0 : Fin 3) = true ∧
      ¬(off (reasms (Reasm.mk (0 : Fin 3) (0 : Fin 4) 30 1))).ports[(3 : PortId)].heardId (0 : Fin 3) (msgId (chunkN 1 100)) ∧
      0 < extChunk (chunkN 1 100) ∧
      (off (reasms (Reasm.mk (0 : Fin 3) (0 : Fin 4) 30 1))).ports[(3 : PortId)].phw.reasm = some (Reasm.mk (0 : Fin 3) (0 : Fin 4) 30 1) ∧
      (Reasm.mk (0 : Fin 3) (0 : Fin 4) 30 1).ctx = (0 : Fin 3) ∧
      (Reasm.mk (0 : Fin 3) (0 : Fin 4) 30 1).next = extChunk (chunkN 1 100) ∧
      (Reasm.mk (0 : Fin 3) (0 : Fin 4) 30 1).size - 26 * (Reasm.mk (0 : Fin 3) (0 : Fin 4) 30 1).next ≤ 26 ∧
      ¬Acts (off (reasms (Reasm.mk (0 : Fin 3) (0 : Fin 4) 30 1))) (3 : PortId)) ∧
    ((sv (reasms (Reasm.mk (0 : Fin 3) (0 : Fin 4) 100 1))).ports[(3 : PortId)].slotRuns (3 : Fin 26) = true ∧
      (sv (reasms (Reasm.mk (0 : Fin 3) (0 : Fin 4) 100 1))).ports[(3 : PortId)].phw.reasm = some (Reasm.mk (0 : Fin 3) (0 : Fin 4) 100 1)) ∧
    (reset0.ports[(3 : PortId)].slotRuns (3 : Fin 26) = false) ∧
    ((sv chunking).ports[(3 : PortId)].holdsPhy (0 : Fin 3) = true ∧
      F.CTX_XFER.TX_ACT.on (sv chunking).ports[(3 : PortId)].ctx[(0 : Fin 3)].xfer = true ∧
      (sv chunking).ports[(3 : PortId)].phw.onWire[(0 : Fin 3)] = false ∧
      1 = F.CTX_XFER.TX_CHUNK.get (sv chunking).ports[(3 : PortId)].ctx[(0 : Fin 3)].xfer + 1 ∧
      1 < 16) ∧
    (¬(reset0.ports[(3 : PortId)].holdsPhy (0 : Fin 3) = true ∧ F.CTX_XFER.TX_ACT.on reset0.ports[(3 : PortId)].ctx[(0 : Fin 3)].xfer = true ∧ reset0.ports[(3 : PortId)].phw.onWire[(0 : Fin 3)] = false ∧ 1 = F.CTX_XFER.TX_CHUNK.get reset0.ports[(3 : PortId)].ctx[(0 : Fin 3)].xfer + 1)) ∧
    ((reset0.ports[(3 : PortId)].slotRuns (2 : Fin 26) = false ∨ reset0.ports[(3 : PortId)].holdsPhy (0 : Fin 3) = false)) ∧
    ((off chunking).ports[(3 : PortId)].slotRuns (2 : Fin 26) = true ∧
      (off chunking).ports[(3 : PortId)].holdsPhy (0 : Fin 3) = true ∧
      ¬Acts (off chunking) (3 : PortId)) ∧
    ((sv chunking).ports[(3 : PortId)].slotRuns (2 : Fin 26) = true ∧
      (sv chunking).ports[(3 : PortId)].holdsPhy (0 : Fin 3) = true ∧
      Acts (sv chunking) (3 : PortId) ∧
      (sv chunking).ports[(3 : PortId)].pol.txNow[(0 : Fin 3)] = none ∧
      (sv chunking).ports[(3 : PortId)].idle ∧
      noWaits (sv chunking) (3 : PortId)) := by
  refine ⟨?_, ⟨?_, ?_⟩, ⟨?_, ?_⟩, ⟨?_, ?_, ?_, ?_, ?_, ?_, ?_⟩, ⟨?_, ?_, ?_, ?_, ?_, ?_⟩, ⟨?_, ?_, ?_, ?_, ?_, ?_⟩, ⟨?_, ?_, ?_, ?_, ?_, ?_, ?_⟩, ⟨?_, ?_, ?_, ?_, ?_, ?_, ?_, ?_⟩, ⟨?_, ?_⟩, ?_, ⟨?_, ?_, ?_, ?_, ?_⟩, ?_, ?_, ⟨?_, ?_, ?_⟩, ⟨?_, ?_, ?_, ?_, ?_, ?_⟩⟩ <;> decide +kernel

theorem test_hyps_TransmissionEndsWithAResult :
    (hwUp reset0 = false) ∧
    (hwUp wRun = true ∧
      (wRun.ports[(3 : PortId)].phyHeld = true ∨ wRun.ports[(3 : PortId)].ctxOn (0 : Fin 3) = false ∨ wRun.ports[(3 : PortId)].orient = 0)) ∧
    (hwUp (sv id) = true ∧
      (¬((sv id).ports[(3 : PortId)].phyHeld = true ∨ (sv id).ports[(3 : PortId)].ctxOn (0 : Fin 3) = false ∨ (sv id).ports[(3 : PortId)].orient = 0))) ∧
    ((reset0.ports[(3 : PortId)].orient = 0 ∨ reset0.ports[(3 : PortId)].phw.bistCarrier = true)) ∧
    ((off hrWaits).ports[(3 : PortId)].orient ≠ 0 ∧
      (off hrWaits).ports[(3 : PortId)].phw.bistCarrier = false ∧
      (off hrWaits).ports[(3 : PortId)].phw.hrWait = true ∧
      ¬Acts (off hrWaits) (3 : PortId)) ∧
    ((off crWaits).ports[(3 : PortId)].orient ≠ 0 ∧
      (off crWaits).ports[(3 : PortId)].phw.bistCarrier = false ∧
      (off crWaits).ports[(3 : PortId)].phw.hrWait = false ∧
      (off crWaits).ports[(3 : PortId)].phw.crWait = true ∧
      ¬Acts (off crWaits) (3 : PortId)) ∧
    ((sv (hwQueued false)).ports[(3 : PortId)].orient ≠ 0 ∧
      (sv (hwQueued false)).ports[(3 : PortId)].phw.bistCarrier = false ∧
      (¬((sv (hwQueued false)).ports[(3 : PortId)].phw.hrWait = true ∨ (sv (hwQueued false)).ports[(3 : PortId)].phw.crWait = true)) ∧
      (sv (hwQueued false)).ports[(3 : PortId)].slotRuns (0 : Fin 26) = false ∧
      (sv (hwQueued false)).ports[(3 : PortId)].phw.hwq.head? = some (hwMsg false)) ∧
    ((sv holds).ports[(3 : PortId)].orient ≠ 0 ∧
      (sv holds).ports[(3 : PortId)].phw.bistCarrier = false ∧
      (¬((sv holds).ports[(3 : PortId)].phw.hrWait = true ∨ (sv holds).ports[(3 : PortId)].phw.crWait = true)) ∧
      (sv holds).ports[(3 : PortId)].slotRuns (0 : Fin 26) = false ∧
      (sv holds).ports[(3 : PortId)].phw.hwq = [] ∧
      (sv holds).ports[(3 : PortId)].holdsPhy (0 : Fin 3) = true ∧
      (sv holds).ports[(3 : PortId)].phw.txReady[(0 : Fin 3)] = true ∧
      (∀ (d : Fin 3), d ≠ (0 : Fin 3) → (sv holds).ports[(3 : PortId)].holdsPhy d = false)) ∧
    ((sv id).ports[(3 : PortId)].orient ≠ 0 ∧
      (sv id).ports[(3 : PortId)].phw.bistCarrier = false ∧
      (¬((sv id).ports[(3 : PortId)].phw.hrWait = true ∨ (sv id).ports[(3 : PortId)].phw.crWait = true)) ∧
      ((sv id).ports[(3 : PortId)].slotRuns (0 : Fin 26) = true ∨ (sv id).ports[(3 : PortId)].phw.hwq = [] ∧ ∀ (c : Fin 3), (sv id).ports[(3 : PortId)].holdsPhy c = false ∨ (sv id).ports[(3 : PortId)].phw.txReady[c] = false)) ∧
    ((F.CTX_ID.TX_ID.get reset0.ports[(3 : PortId)].ctx[(0 : Fin 3)].id ≠ 0 ∨ ¬(hwOnWire (0 : Fin 3) reset0.ports[(3 : PortId)]).isSome = true ∧ reset0.ports[(3 : PortId)].phw.onWire[(0 : Fin 3)] = false)) ∧
    ((hwOnWire (0 : Fin 3) (sv (hwQueued true)).ports[(3 : PortId)]).isSome = true ∧
      F.CTX_ID.TX_ID.get (sv (hwQueued true)).ports[(3 : PortId)].ctx[(0 : Fin 3)].id = 0) ∧
    ((off sent1).ports[(3 : PortId)].phw.onWire[(0 : Fin 3)] = true ∧
      F.CTX_ID.TX_ID.get (off sent1).ports[(3 : PortId)].ctx[(0 : Fin 3)].id = 0 ∧
      ¬(hwOnWire (0 : Fin 3) (off sent1).ports[(3 : PortId)]).isSome = true ∧
      (off sent1).ports[(3 : PortId)].holdsPhy (0 : Fin 3) = true ∧
      moreChunks (off sent1).ports[(3 : PortId)] (0 : Fin 3) = false ∧
      ¬Acts (off sent1) (3 : PortId)) ∧
    ((sv sent1).ports[(3 : PortId)].phw.onWire[(0 : Fin 3)] = true ∧
      F.CTX_ID.TX_ID.get (sv sent1).ports[(3 : PortId)].ctx[(0 : Fin 3)].id = 0 ∧
      ¬(hwOnWire (0 : Fin 3) (sv sent1).ports[(3 : PortId)]).isSome = true ∧
      (sv sent1).ports[(3 : PortId)].holdsPhy (0 : Fin 3) = true ∧
      moreChunks (sv sent1).ports[(3 : PortId)] (0 : Fin 3) = false ∧
      Acts (sv sent1) (3 : PortId) ∧
      (sv sent1).ports[(3 : PortId)].pol.txNow[(0 : Fin 3)] = none ∧
      (sv sent1).ports[(3 : PortId)].idle ∧
      noWaits (sv sent1) (3 : PortId)) ∧
    ((sv longTx).ports[(3 : PortId)].phw.onWire[(0 : Fin 3)] = true ∧
      F.CTX_ID.TX_ID.get (sv longTx).ports[(3 : PortId)].ctx[(0 : Fin 3)].id = 0 ∧
      ¬(hwOnWire (0 : Fin 3) (sv longTx).ports[(3 : PortId)]).isSome = true ∧
      (sv longTx).ports[(3 : PortId)].holdsPhy (0 : Fin 3) = true ∧
      moreChunks (sv longTx).ports[(3 : PortId)] (0 : Fin 3) = true) ∧
    ((reset0.ports[(3 : PortId)].slotRuns (0 : Fin 26) = false ∨ ¬(hwOnWire (0 : Fin 3) reset0.ports[(3 : PortId)]).isSome = true ∧ reset0.ports[(3 : PortId)].phw.onWire[(0 : Fin 3)] = false)) ∧
    ((sv (slot 0 ∘ hwQueued true)).ports[(3 : PortId)].slotRuns (0 : Fin 26) = true ∧
      (hwOnWire (0 : Fin 3) (sv (slot 0 ∘ hwQueued true)).ports[(3 : PortId)]).isSome = true ∧
      (sv (slot 0 ∘ hwQueued true)).ports[(3 : PortId)].phw.hwq.head? = some (hwMsg true)) ∧
    ((sv sent1).ports[(3 : PortId)].slotRuns (0 : Fin 26) = true ∧
      ¬(hwOnWire (0 : Fin 3) (sv sent1).ports[(3 : PortId)]).isSome = true ∧
      (sv sent1).ports[(3 : PortId)].phw.onWire[(0 : Fin 3)] = true ∧
      (sv sent1).ports[(3 : PortId)].holdsPhy (0 : Fin 3) = true ∧
      F.CTX_TXSTAT.TRIES.get (sv sent1).ports[(3 : PortId)].ctx[(0 : Fin 3)].txstat < if F.CTX_CTL.REV.get (sv sent1).ports[(3 : PortId)].ctx[(0 : Fin 3)].ctl = 1 then 3 else 2) ∧
    ((off (tried 3 ∘ sent1)).ports[(3 : PortId)].slotRuns (0 : Fin 26) = true ∧
      ¬(hwOnWire (0 : Fin 3) (off (tried 3 ∘ sent1)).ports[(3 : PortId)]).isSome = true ∧
      (off (tried 3 ∘ sent1)).ports[(3 : PortId)].phw.onWire[(0 : Fin 3)] = true ∧
      (off (tried 3 ∘ sent1)).ports[(3 : PortId)].holdsPhy (0 : Fin 3) = true ∧
      (if F.CTX_CTL.REV.get (off (tried 3 ∘ sent1)).ports[(3 : PortId)].ctx[(0 : Fin 3)].ctl = 1 then 3 else 2) ≤ F.CTX_TXSTAT.TRIES.get (off (tried 3 ∘ sent1)).ports[(3 : PortId)].ctx[(0 : Fin 3)].txstat ∧
      ¬Acts (off (tried 3 ∘ sent1)) (3 : PortId)) ∧
    ((sv (tried 3 ∘ sent1)).ports[(3 : PortId)].slotRuns (0 : Fin 26) = true ∧
      ¬(hwOnWire (0 : Fin 3) (sv (tried 3 ∘ sent1)).ports[(3 : PortId)]).isSome = true ∧
      (sv (tried 3 ∘ sent1)).ports[(3 : PortId)].phw.onWire[(0 : Fin 3)] = true ∧
      (sv (tried 3 ∘ sent1)).ports[(3 : PortId)].holdsPhy (0 : Fin 3) = true ∧
      (if F.CTX_CTL.REV.get (sv (tried 3 ∘ sent1)).ports[(3 : PortId)].ctx[(0 : Fin 3)].ctl = 1 then 3 else 2) ≤ F.CTX_TXSTAT.TRIES.get (sv (tried 3 ∘ sent1)).ports[(3 : PortId)].ctx[(0 : Fin 3)].txstat ∧
      Acts (sv (tried 3 ∘ sent1)) (3 : PortId) ∧
      (sv (tried 3 ∘ sent1)).ports[(3 : PortId)].pol.txNow[(0 : Fin 3)] = none ∧
      (sv (tried 3 ∘ sent1)).ports[(3 : PortId)].idle ∧
      noWaits (sv (tried 3 ∘ sent1)) (3 : PortId)) ∧
    (reset0.ports[(3 : PortId)].slotRuns (1 : Fin 26) = false) ∧
    ((sv inCa).ports[(3 : PortId)].slotRuns (1 : Fin 26) = true) ∧
    (hwUp (sv (dfp ∘ vc)) = true ∧
      (sv (dfp ∘ vc)).ports[(3 : PortId)].vconnOn = true ∧
      (sv (dfp ∘ vc)).ports[(3 : PortId)].isDfp = true) ∧
    (hwUp wRun = true ∧
      (wRun.ports[(3 : PortId)].vconnOn = false ∨ wRun.ports[(3 : PortId)].isDfp = false)) ∧
    (hwUp (sv testUses) = true ∧
      (sv testUses).ports[(3 : PortId)].pol.testUse = true ∧
      (sv testUses).ports[(3 : PortId)].orient ≠ 0) ∧
    (hwUp wRun = true ∧
      (wRun.ports[(3 : PortId)].pol.testUse = false ∨ wRun.ports[(3 : PortId)].orient = 0)) ∧
    (hwUp (sv id) = true ∧
      (sv id).ports[(3 : PortId)].isSource = true) ∧
    (hwUp wRun = true ∧
      wRun.ports[(3 : PortId)].isSource = false) ∧
    ((reset0.ports[(3 : PortId)].phw.hrWait = false ∨ reset0.ports[(3 : PortId)].slotRuns (4 : Fin 26) = false)) ∧
    ((off hrWaits).ports[(3 : PortId)].phw.hrWait = true ∧
      (off hrWaits).ports[(3 : PortId)].slotRuns (4 : Fin 26) = true ∧
      ¬Acts (off hrWaits) (3 : PortId)) ∧
    ((sv hrWaits).ports[(3 : PortId)].phw.hrWait = true ∧
      (sv hrWaits).ports[(3 : PortId)].slotRuns (4 : Fin 26) = true ∧
      Acts (sv hrWaits) (3 : PortId) ∧
      noWaits (sv hrWaits) (3 : PortId) ∧
      (sv hrWaits).ports[(3 : PortId)].attached = true ∧
      (sv hrWaits).ports[(3 : PortId)].isSource = true ∧
      (sv hrWaits).ports[(3 : PortId)].pol.swap = none) ∧
    (reset0.ports[(3 : PortId)].slotRuns (5 : Fin 26) = false) ∧
    ((sv (slot 5)).ports[(3 : PortId)].slotRuns (5 : Fin 26) = true) ∧
    (reset0.ports[(3 : PortId)].hears (0 : Fin 3) = false) ∧
    ((off (kaAck ∘ epr)).ports[(3 : PortId)].hears (0 : Fin 3) = true ∧
      F.PD_PHYCFG.EPR.on (off (kaAck ∘ epr)).ports[(3 : PortId)].pd.phycfg = true ∧
      F.CTX_CTL.KA_ACK.on (off (kaAck ∘ epr)).ports[(3 : PortId)].ctx[0].ctl = true ∧
      portServed (off (kaAck ∘ epr)) (3 : PortId) = false) ∧
    ((off id).ports[(3 : PortId)].hears (0 : Fin 3) = true ∧
      ¬(F.PD_PHYCFG.EPR.on (off id).ports[(3 : PortId)].pd.phycfg = true ∧ F.CTX_CTL.KA_ACK.on (off id).ports[(3 : PortId)].ctx[0].ctl = true ∧ portServed (off id) (3 : PortId) = false) ∧
      ¬Acts (off id) (3 : PortId)) ∧
    ((sv id).ports[(3 : PortId)].hears (0 : Fin 3) = true ∧
      Acts (sv id) (3 : PortId) ∧
      Port.quiet (0 : Fin 3) (sv id).ports[(3 : PortId)] ∧
      F.PRT_STATE.NOPD.on (sv id).ports[(3 : PortId)].core.state = false ∧
      noWaits (sv id) (3 : PortId)) := by
  refine ⟨?_, ⟨?_, ?_⟩, ⟨?_, ?_⟩, ?_, ⟨?_, ?_, ?_, ?_⟩, ⟨?_, ?_, ?_, ?_, ?_⟩, ⟨?_, ?_, ?_, ?_, ?_⟩, ⟨?_, ?_, ?_, ?_, ?_, ?_, ?_, ?_⟩, ⟨?_, ?_, ?_, ?_⟩, ?_, ⟨?_, ?_⟩, ⟨?_, ?_, ?_, ?_, ?_, ?_⟩, ⟨?_, ?_, ?_, ?_, ?_, ?_, ?_, ?_, ?_⟩, ⟨?_, ?_, ?_, ?_, ?_⟩, ?_, ⟨?_, ?_, ?_⟩, ⟨?_, ?_, ?_, ?_, ?_⟩, ⟨?_, ?_, ?_, ?_, ?_, ?_⟩, ⟨?_, ?_, ?_, ?_, ?_, ?_, ?_, ?_, ?_⟩, ?_, ?_, ⟨?_, ?_, ?_⟩, ⟨?_, ?_⟩, ⟨?_, ?_, ?_⟩, ⟨?_, ?_⟩, ⟨?_, ?_⟩, ⟨?_, ?_⟩, ?_, ⟨?_, ?_, ?_⟩, ⟨?_, ?_, ?_, ?_, ?_, ?_, ?_⟩, ?_, ?_, ?_, ⟨?_, ?_, ?_, ?_⟩, ⟨?_, ?_, ?_⟩, ⟨?_, ?_, ?_, ?_, ?_⟩⟩ <;> decide +kernel

theorem test_hyps_PartnerMessagesAreAnswered :
    ((Instr.eprModeEnter (3 : PortId), (0 : Fin 3)) ∈ [(Instr.eprModeEnter (3 : PortId), (0 : Fin 3)), (Instr.eprModeExit (3 : PortId), (0 : Fin 3)), (Instr.prSwap (3 : PortId), (0 : Fin 3)), (Instr.drSwap (3 : PortId), (0 : Fin 3)), (Instr.vconnSwap (3 : PortId), (0 : Fin 3)), (Instr.psRdyReceived (3 : PortId), (0 : Fin 3)), (Instr.frSwapReceived (3 : PortId), (0 : Fin 3)), (Instr.requestReceived (3 : PortId) (268742956 : Word) 2, (0 : Fin 3)), (Instr.eprRequestReceived (3 : PortId) (268742956 : Word) (268742956 : Word), (0 : Fin 3)), (Instr.vendorDefinedReceived (3 : PortId) (0 : Fin 3) [], (0 : Fin 3)), (Instr.cableDiscoverIdentityReply (3 : PortId) 2 2 true 2, (1 : Fin 3)), (Instr.getRevisionReply (3 : PortId) none, (0 : Fin 3)), (Instr.securityRequestReceived (3 : PortId) (0 : Fin 3), (0 : Fin 3)), (Instr.alertReceived (3 : PortId) (268742956 : Word), (0 : Fin 3))] ∧
      reset0.ports[(3 : PortId)].hears (Instr.eprModeEnter (3 : PortId), (0 : Fin 3)).2 = false) ∧
    ((Instr.eprModeEnter (3 : PortId), (0 : Fin 3)) ∈ [(Instr.eprModeEnter (3 : PortId), (0 : Fin 3)), (Instr.eprModeExit (3 : PortId), (0 : Fin 3)), (Instr.prSwap (3 : PortId), (0 : Fin 3)), (Instr.drSwap (3 : PortId), (0 : Fin 3)), (Instr.vconnSwap (3 : PortId), (0 : Fin 3)), (Instr.psRdyReceived (3 : PortId), (0 : Fin 3)), (Instr.frSwapReceived (3 : PortId), (0 : Fin 3)), (Instr.requestReceived (3 : PortId) (268742956 : Word) 2, (0 : Fin 3)), (Instr.eprRequestReceived (3 : PortId) (268742956 : Word) (268742956 : Word), (0 : Fin 3)), (Instr.vendorDefinedReceived (3 : PortId) (0 : Fin 3) [], (0 : Fin 3)), (Instr.cableDiscoverIdentityReply (3 : PortId) 2 2 true 2, (1 : Fin 3)), (Instr.getRevisionReply (3 : PortId) none, (0 : Fin 3)), (Instr.securityRequestReceived (3 : PortId) (0 : Fin 3), (0 : Fin 3)), (Instr.alertReceived (3 : PortId) (268742956 : Word), (0 : Fin 3))] ∧
      (off id).ports[(3 : PortId)].hears (Instr.eprModeEnter (3 : PortId), (0 : Fin 3)).2 = true ∧
      ¬Acts (off id) (3 : PortId)) ∧
    (Acts (sv sink) (3 : PortId) ∧
      noWaits (sv sink) (3 : PortId) ∧
      F.PRT_STATE.NOPD.on (sv sink).ports[(3 : PortId)].core.state = false ∧
      (sv sink).ports[(3 : PortId)].hears (0 : Fin 3) = true ∧
      (sv sink).ports[(3 : PortId)].idle ∧
      ¬((sv sink).ports[(3 : PortId)].attached = true ∧ (sv sink).ports[(3 : PortId)].isSource = true)) ∧
    (Acts (sv id) (3 : PortId) ∧
      noWaits (sv id) (3 : PortId) ∧
      F.PRT_STATE.NOPD.on (sv id).ports[(3 : PortId)].core.state = false ∧
      (sv id).ports[(3 : PortId)].hears (0 : Fin 3) = true ∧
      (sv id).ports[(3 : PortId)].attached = true ∧
      (sv id).ports[(3 : PortId)].isSource = true ∧
      Port.quiet (0 : Fin 3) (sv id).ports[(3 : PortId)] ∧
      (sv id).ports[(3 : PortId)].pol.accepted = false ∧
      rdoPos (268742956 : Word) < 16 ∧
      (∀ x ∈ (sv id).ports[(3 : PortId)].pol.sent, x.1 ≠ rdoPos (268742956 : Word))) ∧
    (Acts (sv Tests.offered) (3 : PortId) ∧
      noWaits (sv Tests.offered) (3 : PortId) ∧
      F.PRT_STATE.NOPD.on (sv Tests.offered).ports[(3 : PortId)].core.state = false ∧
      (sv Tests.offered).ports[(3 : PortId)].hears (0 : Fin 3) = true ∧
      (sv Tests.offered).ports[(3 : PortId)].attached = true ∧
      (sv Tests.offered).ports[(3 : PortId)].isSource = true ∧
      Port.quiet (0 : Fin 3) (sv Tests.offered).ports[(3 : PortId)] ∧
      (sv Tests.offered).ports[(3 : PortId)].pol.accepted = false ∧
      (sv Tests.offered).ports[(3 : PortId)].pol.prearmed = false ∧
      (sv Tests.offered).ports[(3 : PortId)].pol.doneHeld = false ∧
      List.find? (fun x => x.1 == rdoPos (268742956 : Word)) (sv Tests.offered).ports[(3 : PortId)].pol.sent = some (rdoPos (268742956 : Word), (102700 : Word)) ∧
      1 < 2 ∧
      withinObject (contractOf (268742956 : Word) (102700 : Word)) = true) ∧
    (Acts (sv (epr ∘ Tests.offered)) (3 : PortId) ∧
      noWaits (sv (epr ∘ Tests.offered)) (3 : PortId) ∧
      F.PRT_STATE.NOPD.on (sv (epr ∘ Tests.offered)).ports[(3 : PortId)].core.state = false ∧
      (sv (epr ∘ Tests.offered)).ports[(3 : PortId)].hears (0 : Fin 3) = true ∧
      (sv (epr ∘ Tests.offered)).ports[(3 : PortId)].attached = true ∧
      (sv (epr ∘ Tests.offered)).ports[(3 : PortId)].isSource = true ∧
      Port.quiet (0 : Fin 3) (sv (epr ∘ Tests.offered)).ports[(3 : PortId)] ∧
      (sv (epr ∘ Tests.offered)).ports[(3 : PortId)].pol.accepted = false ∧
      (sv (epr ∘ Tests.offered)).ports[(3 : PortId)].pol.prearmed = false ∧
      (sv (epr ∘ Tests.offered)).ports[(3 : PortId)].pol.doneHeld = false ∧
      List.find? (fun x => x.1 == rdoPos (268742956 : Word)) (sv (epr ∘ Tests.offered)).ports[(3 : PortId)].pol.sent = some (rdoPos (268742956 : Word), (102700 : Word)) ∧
      revCode (sv (epr ∘ Tests.offered)).ports[(3 : PortId)].ctx[0] = 2 ∧
      F.PD_PHYCFG.EPR.on (sv (epr ∘ Tests.offered)).ports[(3 : PortId)].pd.phycfg = true ∧
      withinObject (contractOf (268742956 : Word) (102700 : Word)) = true) ∧
    (Acts (sv Tests.offered) (3 : PortId) ∧
      noWaits (sv Tests.offered) (3 : PortId) ∧
      F.PRT_STATE.NOPD.on (sv Tests.offered).ports[(3 : PortId)].core.state = false ∧
      (sv Tests.offered).ports[(3 : PortId)].hears (0 : Fin 3) = true ∧
      (sv Tests.offered).ports[(3 : PortId)].attached = true ∧
      (sv Tests.offered).ports[(3 : PortId)].isSource = true ∧
      Port.quiet (0 : Fin 3) (sv Tests.offered).ports[(3 : PortId)] ∧
      (sv Tests.offered).ports[(3 : PortId)].pol.accepted = false ∧
      (sv Tests.offered).ports[(3 : PortId)].pol.prearmed = false ∧
      (sv Tests.offered).ports[(3 : PortId)].pol.doneHeld = false ∧
      List.find? (fun x => x.1 == rdoPos (268742956 : Word)) (sv Tests.offered).ports[(3 : PortId)].pol.sent = some (rdoPos (268742956 : Word), (102700 : Word)) ∧
      (268742956 : Word) ≠ (102700 : Word)) ∧
    (Acts (sv id) (3 : PortId) ∧
      noWaits (sv id) (3 : PortId) ∧
      F.PRT_STATE.NOPD.on (sv id).ports[(3 : PortId)].core.state = false ∧
      (sv id).ports[(3 : PortId)].hears (0 : Fin 3) = true ∧
      (sv id).ports[(3 : PortId)].idle ∧
      ¬F.PD_PHYCFG.EPR.on (sv id).ports[(3 : PortId)].pd.phycfg = true) ∧
    (Acts (sv (epr ∘ Tests.offered)) (3 : PortId) ∧
      noWaits (sv (epr ∘ Tests.offered)) (3 : PortId) ∧
      F.PRT_STATE.NOPD.on (sv (epr ∘ Tests.offered)).ports[(3 : PortId)].core.state = false ∧
      (sv (epr ∘ Tests.offered)).ports[(3 : PortId)].hears (0 : Fin 3) = true ∧
      Port.quiet (0 : Fin 3) (sv (epr ∘ Tests.offered)).ports[(3 : PortId)] ∧
      F.PD_PHYCFG.EPR.on (sv (epr ∘ Tests.offered)).ports[(3 : PortId)].pd.phycfg = true ∧
      (Option.map Contract.volt (sv (epr ∘ Tests.offered)).ports[(3 : PortId)].pol.contract).getD 0 ≤ 1000) ∧
    (Acts (sv (epr ∘ kIs k28)) (3 : PortId) ∧
      noWaits (sv (epr ∘ kIs k28)) (3 : PortId) ∧
      F.PRT_STATE.NOPD.on (sv (epr ∘ kIs k28)).ports[(3 : PortId)].core.state = false ∧
      (sv (epr ∘ kIs k28)).ports[(3 : PortId)].hears (0 : Fin 3) = true ∧
      Port.quiet (0 : Fin 3) (sv (epr ∘ kIs k28)).ports[(3 : PortId)] ∧
      F.PD_PHYCFG.EPR.on (sv (epr ∘ kIs k28)).ports[(3 : PortId)].pd.phycfg = true ∧
      1000 < (Option.map Contract.volt (sv (epr ∘ kIs k28)).ports[(3 : PortId)].pol.contract).getD 0 ∧
      (sv (epr ∘ kIs k28)).ports[(3 : PortId)].pol.hrCount < 2) ∧
    (Acts (sv id) (3 : PortId) ∧
      noWaits (sv id) (3 : PortId) ∧
      F.PRT_STATE.NOPD.on (sv id).ports[(3 : PortId)].core.state = false ∧
      (sv id).ports[(3 : PortId)].hears (0 : Fin 3) = true ∧
      Port.quiet (0 : Fin 3) (sv id).ports[(3 : PortId)] ∧
      bidirectional (sv id) (3 : PortId) = false) ∧
    (Acts (bidiOf (sv (drOk false))) (3 : PortId) ∧
      noWaits (bidiOf (sv (drOk false))) (3 : PortId) ∧
      F.PRT_STATE.NOPD.on (bidiOf (sv (drOk false))).ports[(3 : PortId)].core.state = false ∧
      (bidiOf (sv (drOk false))).ports[(3 : PortId)].hears (0 : Fin 3) = true ∧
      Port.quiet (0 : Fin 3) (bidiOf (sv (drOk false))).ports[(3 : PortId)] ∧
      bidirectional (bidiOf (sv (drOk false))) (3 : PortId) = true ∧
      (bidiOf (sv (drOk false))).ports[(3 : PortId)].pol.prSwapOk = false) ∧
    (Acts (bidiOf (sv (drOk true))) (3 : PortId) ∧
      noWaits (bidiOf (sv (drOk true))) (3 : PortId) ∧
      F.PRT_STATE.NOPD.on (bidiOf (sv (drOk true))).ports[(3 : PortId)].core.state = false ∧
      (bidiOf (sv (drOk true))).ports[(3 : PortId)].hears (0 : Fin 3) = true ∧
      Port.quiet (0 : Fin 3) (bidiOf (sv (drOk true))).ports[(3 : PortId)] ∧
      bidirectional (bidiOf (sv (drOk true))) (3 : PortId) = true ∧
      (bidiOf (sv (drOk true))).ports[(3 : PortId)].pol.prSwapOk = true ∧
      (bidiOf (sv (drOk true))).ports[(3 : PortId)].isSource = true) ∧
    (Acts (bidiOf (sv (drOk true))) (3 : PortId) ∧
      noWaits (bidiOf (sv (drOk true))) (3 : PortId) ∧
      F.PRT_STATE.NOPD.on (bidiOf (sv (drOk true))).ports[(3 : PortId)].core.state = false ∧
      (bidiOf (sv (drOk true))).ports[(3 : PortId)].hears (0 : Fin 3) = true ∧
      Port.quiet (0 : Fin 3) (bidiOf (sv (drOk true))).ports[(3 : PortId)] ∧
      (bidiOf (sv (drOk true))).ports[(3 : PortId)].pol.modes = [] ∧
      (bidiOf (sv (drOk true))).ports[(3 : PortId)].pol.drSwapOk = true) ∧
    (Acts (sv id) (3 : PortId) ∧
      noWaits (sv id) (3 : PortId) ∧
      F.PRT_STATE.NOPD.on (sv id).ports[(3 : PortId)].core.state = false ∧
      (sv id).ports[(3 : PortId)].hears (0 : Fin 3) = true ∧
      Port.quiet (0 : Fin 3) (sv id).ports[(3 : PortId)] ∧
      (sv id).ports[(3 : PortId)].pol.modes = [] ∧
      (sv id).ports[(3 : PortId)].pol.drSwapOk = false) ∧
    (Acts (sv (modal ∘ drOk true)) (3 : PortId) ∧
      noWaits (sv (modal ∘ drOk true)) (3 : PortId) ∧
      F.PRT_STATE.NOPD.on (sv (modal ∘ drOk true)).ports[(3 : PortId)].core.state = false ∧
      (sv (modal ∘ drOk true)).ports[(3 : PortId)].hears (0 : Fin 3) = true ∧
      Port.quiet (0 : Fin 3) (sv (modal ∘ drOk true)).ports[(3 : PortId)] ∧
      (sv (modal ∘ drOk true)).ports[(3 : PortId)].pol.modes ≠ [] ∧
      (sv (modal ∘ drOk true)).ports[(3 : PortId)].pol.hrCount < 2) ∧
    (Acts (sv vc) (3 : PortId) ∧
      noWaits (sv vc) (3 : PortId) ∧
      F.PRT_STATE.NOPD.on (sv vc).ports[(3 : PortId)].core.state = false ∧
      (sv vc).ports[(3 : PortId)].hears (0 : Fin 3) = true ∧
      Port.quiet (0 : Fin 3) (sv vc).ports[(3 : PortId)] ∧
      (sv vc).ports[(3 : PortId)].vconnOn = true) ∧
    (Acts (sv id) (3 : PortId) ∧
      noWaits (sv id) (3 : PortId) ∧
      F.PRT_STATE.NOPD.on (sv id).ports[(3 : PortId)].core.state = false ∧
      (sv id).ports[(3 : PortId)].hears (0 : Fin 3) = true ∧
      Port.quiet (0 : Fin 3) (sv id).ports[(3 : PortId)] ∧
      (sv id).ports[(3 : PortId)].vconnOn = false ∧
      (sv id).ports[(3 : PortId)].pol.vconnSwapOk = false) ∧
    (Acts (sv id) (3 : PortId) ∧
      noWaits (sv id) (3 : PortId) ∧
      F.PRT_STATE.NOPD.on (sv id).ports[(3 : PortId)].core.state = false ∧
      (sv id).ports[(3 : PortId)].hears (0 : Fin 3) = true ∧
      Port.quiet (0 : Fin 3) (sv id).ports[(3 : PortId)] ∧
      (sv id).ports[(3 : PortId)].pol.accepted = false ∧
      (sv id).ports[(3 : PortId)].phw.ams = false) ∧
    (Acts (sv (noK ∘ swaps 2 SwapStep.vconnOff)) (3 : PortId) ∧
      noWaits (sv (noK ∘ swaps 2 SwapStep.vconnOff)) (3 : PortId) ∧
      F.PRT_STATE.NOPD.on (sv (noK ∘ swaps 2 SwapStep.vconnOff)).ports[(3 : PortId)].core.state = false ∧
      (sv (noK ∘ swaps 2 SwapStep.vconnOff)).ports[(3 : PortId)].hears (0 : Fin 3) = true ∧
      (sv (noK ∘ swaps 2 SwapStep.vconnOff)).ports[(3 : PortId)].pol.swap = some (Swap.mk 2 SwapStep.vconnOff false true) ∧
      (Swap.mk 2 SwapStep.vconnOff false true).step = SwapStep.vconnOff ∧
      (Swap.mk 2 SwapStep.vconnOff false true).kind = 2 ∧
      (sv (noK ∘ swaps 2 SwapStep.vconnOff)).ports[(3 : PortId)].pol.txq = [] ∧
      (sv (noK ∘ swaps 2 SwapStep.vconnOff)).ports[(3 : PortId)].pol.contract = none ∧
      (sv (noK ∘ swaps 2 SwapStep.vconnOff)).ports[(3 : PortId)].pol.discDue = false) ∧
    (Acts (sv id) (3 : PortId) ∧
      noWaits (sv id) (3 : PortId) ∧
      (sv id).ports[(3 : PortId)].hears (0 : Fin 3) = true ∧
      Port.quiet (0 : Fin 3) (sv id).ports[(3 : PortId)]) ∧
    (Acts (sv id) (3 : PortId) ∧
      noWaits (sv id) (3 : PortId) ∧
      (sv id).ports[(3 : PortId)].hears (1 : Fin 3) = true ∧
      (sv id).ports[(3 : PortId)].idle ∧
      2 < 256) ∧
    (Acts (sv id) (3 : PortId) ∧
      noWaits (sv id) (3 : PortId) ∧
      F.PRT_STATE.NOPD.on (sv id).ports[(3 : PortId)].core.state = false ∧
      (sv id).ports[(3 : PortId)].hears (0 : Fin 3) = true ∧
      none.getD 48 < 256 ∧
      (sv id).ports[(3 : PortId)].idle) ∧
    (Acts (sv (noK ∘ awaits TxPurpose.getRevision)) (3 : PortId) ∧
      noWaits (sv (noK ∘ awaits TxPurpose.getRevision)) (3 : PortId) ∧
      F.PRT_STATE.NOPD.on (sv (noK ∘ awaits TxPurpose.getRevision)).ports[(3 : PortId)].core.state = false ∧
      (sv (noK ∘ awaits TxPurpose.getRevision)).ports[(3 : PortId)].hears (0 : Fin 3) = true ∧
      none.getD 48 < 256 ∧
      (sv (noK ∘ awaits TxPurpose.getRevision)).ports[(3 : PortId)].pol.await = some TxPurpose.getRevision ∧
      (sv (noK ∘ awaits TxPurpose.getRevision)).ports[(3 : PortId)].pol.txq = [] ∧
      (sv (noK ∘ awaits TxPurpose.getRevision)).ports[(3 : PortId)].pol.contract = none ∧
      (sv (noK ∘ awaits TxPurpose.getRevision)).ports[(3 : PortId)].pol.discDue = false) ∧
    (Acts (sv id) (3 : PortId) ∧
      noWaits (sv id) (3 : PortId) ∧
      F.PRT_STATE.NOPD.on (sv id).ports[(3 : PortId)].core.state = false ∧
      (sv id).ports[(3 : PortId)].hears (0 : Fin 3) = true ∧
      (sv id).ports[(3 : PortId)].idle ∧
      srcEnabled (sv id) (12 * (3 : PortId).val + 6) = true ∧
      (sv id).ports[(3 : PortId)].pol.held = [] ∧
      (sv id).ports[(3 : PortId)].pol.queue.length < 32) := by
  refine ⟨⟨?_, ?_⟩, ⟨?_, ?_, ?_⟩, ⟨?_, ?_, ?_, ?_, ?_, ?_⟩, ⟨?_, ?_, ?_, ?_, ?_, ?_, ?_, ?_, ?_, ?_⟩, ⟨?_, ?_, ?_, ?_, ?_, ?_, ?_, ?_, ?_, ?_, ?_, ?_, ?_⟩, ⟨?_, ?_, ?_, ?_, ?_, ?_, ?_, ?_, ?_, ?_, ?_, ?_, ?_, ?_⟩, ⟨?_, ?_, ?_, ?_, ?_, ?_, ?_, ?_, ?_, ?_, ?_, ?_⟩, ⟨?_, ?_, ?_, ?_, ?_, ?_⟩, ⟨?_, ?_, ?_, ?_, ?_, ?_, ?_⟩, ⟨?_, ?_, ?_, ?_, ?_, ?_, ?_, ?_⟩, ⟨?_, ?_, ?_, ?_, ?_, ?_⟩, ⟨?_, ?_, ?_, ?_, ?_, ?_, ?_⟩, ⟨?_, ?_, ?_, ?_, ?_, ?_, ?_, ?_⟩, ⟨?_, ?_, ?_, ?_, ?_, ?_, ?_⟩, ⟨?_, ?_, ?_, ?_, ?_, ?_, ?_⟩, ⟨?_, ?_, ?_, ?_, ?_, ?_, ?_⟩, ⟨?_, ?_, ?_, ?_, ?_, ?_⟩, ⟨?_, ?_, ?_, ?_, ?_, ?_, ?_⟩, ⟨?_, ?_, ?_, ?_, ?_, ?_, ?_⟩, ⟨?_, ?_, ?_, ?_, ?_, ?_, ?_, ?_, ?_, ?_⟩, ⟨?_, ?_, ?_, ?_⟩, ⟨?_, ?_, ?_, ?_, ?_⟩, ⟨?_, ?_, ?_, ?_, ?_, ?_⟩, ⟨?_, ?_, ?_, ?_, ?_, ?_, ?_, ?_, ?_⟩, ⟨?_, ?_, ?_, ?_, ?_, ?_, ?_, ?_⟩⟩ <;> decide +kernel

theorem test_hyps_VendorMessagesAreRouted :
    (Acts (identity (sv id)) (3 : PortId) ∧
      noWaits (identity (sv id)) (3 : PortId) ∧
      Port.quiet (0 : Fin 3) (identity (sv id)).ports[(3 : PortId)] ∧
      (identity (sv id)).ports[(3 : PortId)].hears (0 : Fin 3) = true ∧
      F.PRT_STATE.NOPD.on (identity (sv id)).ports[(3 : PortId)].core.state = false ∧
      BitVec.toNat (4278222849 : Word) / 64 % 4 = 0 ∧
      BitVec.getLsbD (4278222849 : Word) 15 = true ∧
      BitVec.toNat (4278222849 : Word) / 65536 = 65280 ∧
      BitVec.toNat (4278222849 : Word) % 32 ≠ 6 ∧
      (if BitVec.toNat (4278222849 : Word) % 32 = 1 then (identity (sv id)).kept.identity else if BitVec.toNat (4278222849 : Word) % 32 = 2 then (identity (sv id)).kept.svids else []) ≠ []) ∧
    (Acts (sv id) (3 : PortId) ∧
      noWaits (sv id) (3 : PortId) ∧
      Port.quiet (0 : Fin 3) (sv id).ports[(3 : PortId)] ∧
      (sv id).ports[(3 : PortId)].hears (0 : Fin 3) = true ∧
      F.PRT_STATE.NOPD.on (sv id).ports[(3 : PortId)].core.state = false ∧
      BitVec.toNat (4278222849 : Word) / 64 % 4 = 0 ∧
      BitVec.getLsbD (4278222849 : Word) 15 = true ∧
      BitVec.toNat (4278222849 : Word) / 65536 = 65280 ∧
      BitVec.toNat (4278222849 : Word) % 32 ≠ 6 ∧
      (if BitVec.toNat (4278222849 : Word) % 32 = 1 then (sv id).kept.identity else if BitVec.toNat (4278222849 : Word) % 32 = 2 then (sv id).kept.svids else []) = []) ∧
    (Acts (sv heardVdm) (3 : PortId) ∧
      noWaits (sv heardVdm) (3 : PortId) ∧
      Port.quiet (0 : Fin 3) (sv heardVdm).ports[(3 : PortId)] ∧
      (sv heardVdm).ports[(3 : PortId)].hears (0 : Fin 3) = true ∧
      F.PRT_STATE.NOPD.on (sv heardVdm).ports[(3 : PortId)].core.state = false ∧
      BitVec.toNat (98305 : Word) / 64 % 4 = 0 ∧
      BitVec.getLsbD (98305 : Word) 15 = true ∧
      BitVec.toNat (98305 : Word) / 65536 ≠ 65280 ∧
      BitVec.toNat (98305 : Word) % 32 ≠ 6 ∧
      (sv heardVdm).ports[(3 : PortId)].pol.hostVdm[(0 : Fin 3)] ≠ none) ∧
    (Acts (sv id) (3 : PortId) ∧
      noWaits (sv id) (3 : PortId) ∧
      Port.quiet (0 : Fin 3) (sv id).ports[(3 : PortId)] ∧
      (sv id).ports[(3 : PortId)].hears (0 : Fin 3) = true ∧
      F.PRT_STATE.NOPD.on (sv id).ports[(3 : PortId)].core.state = false ∧
      BitVec.toNat (98305 : Word) / 64 % 4 = 0 ∧
      BitVec.getLsbD (98305 : Word) 15 = true ∧
      BitVec.toNat (98305 : Word) / 65536 ≠ 65280 ∧
      BitVec.toNat (98305 : Word) % 32 ≠ 6 ∧
      (sv id).ports[(3 : PortId)].pol.hostVdm[(0 : Fin 3)] = none) ∧
    (Acts (sv id) (3 : PortId) ∧
      noWaits (sv id) (3 : PortId) ∧
      Port.quiet (0 : Fin 3) (sv id).ports[(3 : PortId)] ∧
      (sv id).ports[(3 : PortId)].hears (0 : Fin 3) = true ∧
      F.PRT_STATE.NOPD.on (sv id).ports[(3 : PortId)].core.state = false ∧
      BitVec.toNat (65537 : Word) / 64 % 4 = 0 ∧
      (¬BitVec.getLsbD (65537 : Word) 15 = true ∨ BitVec.toNat (65537 : Word) % 32 = 6)) := by
  refine ⟨⟨?_, ?_, ?_, ?_, ?_, ?_, ?_, ?_, ?_, ?_⟩, ⟨?_, ?_, ?_, ?_, ?_, ?_, ?_, ?_, ?_, ?_⟩, ⟨?_, ?_, ?_, ?_, ?_, ?_, ?_, ?_, ?_, ?_⟩, ⟨?_, ?_, ?_, ?_, ?_, ?_, ?_, ?_, ?_, ?_⟩, ⟨?_, ?_, ?_, ?_, ?_, ?_, ?_⟩⟩ <;> decide +kernel

theorem test_hyps_EngineTimersExpire :
    (((6 : Fin 26), Instr.tsenderResponseExpiry (3 : PortId)) ∈ [((6 : Fin 26), Instr.tsenderResponseExpiry (3 : PortId)), ((7 : Fin 26), Instr.ttypecSendSourceCapExpiry (3 : PortId)), ((8 : Fin 26), Instr.tsrcTransitionExpiry (3 : PortId)), ((9 : Fin 26), Instr.tpsHardResetExpiry (3 : PortId)), ((10 : Fin 26), Instr.tsrcRecoverExpiry (3 : PortId)), ((11 : Fin 26), Instr.tpsSourceOnExpiry (3 : PortId)), ((12 : Fin 26), Instr.tpsSourceOffExpiry (3 : PortId)), ((13 : Fin 26), Instr.tpsTransitionExpiry (3 : PortId)), ((14 : Fin 26), Instr.tswapSourceStartExpiry (3 : PortId)), ((15 : Fin 26), Instr.tvdmSenderResponseExpiry (3 : PortId)), ((16 : Fin 26), Instr.hostVdmBudgetExpiry (3 : PortId)), ((17 : Fin 26), Instr.tdiscoverIdentityExpiry (3 : PortId)), ((18 : Fin 26), Instr.tvconnStableExpiry (3 : PortId)), ((19 : Fin 26), Instr.tvconnSourceTimeoutExpiry (3 : PortId)), ((20 : Fin 26), Instr.tsourceEprKeepaliveExpiry (3 : PortId)), ((21 : Fin 26), Instr.tsinkEprKeepaliveExpiry (3 : PortId)), ((22 : Fin 26), Instr.tenterEprExpiry (3 : PortId)), ((23 : Fin 26), Instr.tppsTimeoutExpiry (3 : PortId)), ((24 : Fin 26), Instr.tnoResponseExpiry (3 : PortId)), ((25 : Fin 26), Instr.terrorRecoveryExpiry (3 : PortId))] ∧
      wRun.ports[(3 : PortId)].slotRuns ((6 : Fin 26), Instr.tsenderResponseExpiry (3 : PortId)).1 = false) ∧
    (((6 : Fin 26), Instr.tsenderResponseExpiry (3 : PortId)) ∈ [((6 : Fin 26), Instr.tsenderResponseExpiry (3 : PortId)), ((7 : Fin 26), Instr.ttypecSendSourceCapExpiry (3 : PortId)), ((8 : Fin 26), Instr.tsrcTransitionExpiry (3 : PortId)), ((9 : Fin 26), Instr.tpsHardResetExpiry (3 : PortId)), ((10 : Fin 26), Instr.tsrcRecoverExpiry (3 : PortId)), ((11 : Fin 26), Instr.tpsSourceOnExpiry (3 : PortId)), ((12 : Fin 26), Instr.tpsSourceOffExpiry (3 : PortId)), ((13 : Fin 26), Instr.tpsTransitionExpiry (3 : PortId)), ((14 : Fin 26), Instr.tswapSourceStartExpiry (3 : PortId)), ((15 : Fin 26), Instr.tvdmSenderResponseExpiry (3 : PortId)), ((16 : Fin 26), Instr.hostVdmBudgetExpiry (3 : PortId)), ((17 : Fin 26), Instr.tdiscoverIdentityExpiry (3 : PortId)), ((18 : Fin 26), Instr.tvconnStableExpiry (3 : PortId)), ((19 : Fin 26), Instr.tvconnSourceTimeoutExpiry (3 : PortId)), ((20 : Fin 26), Instr.tsourceEprKeepaliveExpiry (3 : PortId)), ((21 : Fin 26), Instr.tsinkEprKeepaliveExpiry (3 : PortId)), ((22 : Fin 26), Instr.tenterEprExpiry (3 : PortId)), ((23 : Fin 26), Instr.tppsTimeoutExpiry (3 : PortId)), ((24 : Fin 26), Instr.tnoResponseExpiry (3 : PortId)), ((25 : Fin 26), Instr.terrorRecoveryExpiry (3 : PortId))] ∧
      (off (slot 6)).ports[(3 : PortId)].slotRuns ((6 : Fin 26), Instr.tsenderResponseExpiry (3 : PortId)).1 = true ∧
      ¬Acts (off (slot 6)) (3 : PortId)) ∧
    (Acts (sv (slot 6 ∘ noK ∘ awaits TxPurpose.getRevision)) (3 : PortId) ∧
      noWaits (sv (slot 6 ∘ noK ∘ awaits TxPurpose.getRevision)) (3 : PortId) ∧
      (sv (slot 6 ∘ noK ∘ awaits TxPurpose.getRevision)).ports[(3 : PortId)].pol.txq = [] ∧
      (sv (slot 6 ∘ noK ∘ awaits TxPurpose.getRevision)).ports[(3 : PortId)].pol.discDue = false ∧
      (sv (slot 6 ∘ noK ∘ awaits TxPurpose.getRevision)).ports[(3 : PortId)].slotRuns (6 : Fin 26) = true ∧
      (sv (slot 6 ∘ noK ∘ awaits TxPurpose.getRevision)).ports[(3 : PortId)].pol.await = some TxPurpose.getRevision ∧
      (sv (slot 6 ∘ noK ∘ awaits TxPurpose.getRevision)).ports[(3 : PortId)].pol.contract = none ∧
      (∀ (c : Fin 3), (sv (slot 6 ∘ noK ∘ awaits TxPurpose.getRevision)).ports[(3 : PortId)].result c ≠ 1)) ∧
    (Acts (sv (slot 7 ∘ noK)) (3 : PortId) ∧
      noWaits (sv (slot 7 ∘ noK)) (3 : PortId) ∧
      (sv (slot 7 ∘ noK)).ports[(3 : PortId)].pol.txq = [] ∧
      (sv (slot 7 ∘ noK)).ports[(3 : PortId)].pol.discDue = false ∧
      (sv (slot 7 ∘ noK)).ports[(3 : PortId)].slotRuns (7 : Fin 26) = true ∧
      (sv (slot 7 ∘ noK)).ports[(3 : PortId)].attached = true ∧
      (sv (slot 7 ∘ noK)).ports[(3 : PortId)].isSource = true ∧
      Port.quiet (0 : Fin 3) (sv (slot 7 ∘ noK)).ports[(3 : PortId)] ∧
      (sv (slot 7 ∘ noK)).ports[(3 : PortId)].pol.contract = none ∧
      (sv (slot 7 ∘ noK)).ports[(3 : PortId)].pol.hr = HrStep.none ∧
      F.PRT_STATE.NOPD.on (sv (slot 7 ∘ noK)).ports[(3 : PortId)].core.state = false ∧
      F.PD_PHYCFG.EPR.on (sv (slot 7 ∘ noK)).ports[(3 : PortId)].pd.phycfg = false) ∧
    (Acts (sv (slot 8 ∘ swaps 0 SwapStep.s1)) (3 : PortId) ∧
      noWaits (sv (slot 8 ∘ swaps 0 SwapStep.s1)) (3 : PortId) ∧
      (sv (slot 8 ∘ swaps 0 SwapStep.s1)).ports[(3 : PortId)].pol.txq = [] ∧
      (sv (slot 8 ∘ swaps 0 SwapStep.s1)).ports[(3 : PortId)].pol.discDue = false ∧
      (sv (slot 8 ∘ swaps 0 SwapStep.s1)).ports[(3 : PortId)].slotRuns (8 : Fin 26) = true ∧
      (sv (slot 8 ∘ swaps 0 SwapStep.s1)).ports[(3 : PortId)].pol.swap = some (Swap.mk 0 SwapStep.s1 false true) ∧
      (Swap.mk 0 SwapStep.s1 false true).step = SwapStep.s1) ∧
    (Acts (sv (slot 8 ∘ accepts)) (3 : PortId) ∧
      noWaits (sv (slot 8 ∘ accepts)) (3 : PortId) ∧
      (sv (slot 8 ∘ accepts)).ports[(3 : PortId)].pol.txq = [] ∧
      (sv (slot 8 ∘ accepts)).ports[(3 : PortId)].pol.discDue = false ∧
      (sv (slot 8 ∘ accepts)).ports[(3 : PortId)].slotRuns (8 : Fin 26) = true ∧
      Port.quiet (0 : Fin 3) (sv (slot 8 ∘ accepts)).ports[(3 : PortId)] ∧
      (sv (slot 8 ∘ accepts)).ports[(3 : PortId)].pol.contract = some k5 ∧
      (sv (slot 8 ∘ accepts)).ports[(3 : PortId)].pol.accepted = true) ∧
    (Acts (sv (slot 8 ∘ accepts ∘ nextIs k5 ∘ at250)) (3 : PortId) ∧
      noWaits (sv (slot 8 ∘ accepts ∘ nextIs k5 ∘ at250)) (3 : PortId) ∧
      (sv (slot 8 ∘ accepts ∘ nextIs k5 ∘ at250)).ports[(3 : PortId)].pol.txq = [] ∧
      (sv (slot 8 ∘ accepts ∘ nextIs k5 ∘ at250)).ports[(3 : PortId)].pol.discDue = false ∧
      (sv (slot 8 ∘ accepts ∘ nextIs k5 ∘ at250)).ports[(3 : PortId)].slotRuns (8 : Fin 26) = true ∧
      (sv (slot 8 ∘ accepts ∘ nextIs k5 ∘ at250)).ports[(3 : PortId)].pol.swap = none ∧
      (sv (slot 8 ∘ accepts ∘ nextIs k5 ∘ at250)).ports[(3 : PortId)].pol.next = some k5 ∧
      (sv (slot 8 ∘ accepts ∘ nextIs k5 ∘ at250)).ports[(3 : PortId)].pol.accepted = true ∧
      (sv (slot 8 ∘ accepts ∘ nextIs k5 ∘ at250)).ports[(3 : PortId)].phyHeld = false ∧
      (sv (slot 8 ∘ accepts ∘ nextIs k5 ∘ at250)).ports[(3 : PortId)].ctxOn (0 : Fin 3) = true ∧
      (sv (slot 8 ∘ accepts ∘ nextIs k5 ∘ at250)).ports[(3 : PortId)].orient ≠ 0 ∧
      k5.volt = (sv (slot 8 ∘ accepts ∘ nextIs k5 ∘ at250)).ports[(3 : PortId)].target) ∧
    (Acts (sv (slot 9 ∘ noK ∘ hrStep HrStep.psHardReset)) (3 : PortId) ∧
      noWaits (sv (slot 9 ∘ noK ∘ hrStep HrStep.psHardReset)) (3 : PortId) ∧
      (sv (slot 9 ∘ noK ∘ hrStep HrStep.psHardReset)).ports[(3 : PortId)].pol.txq = [] ∧
      (sv (slot 9 ∘ noK ∘ hrStep HrStep.psHardReset)).ports[(3 : PortId)].pol.discDue = false ∧
      (sv (slot 9 ∘ noK ∘ hrStep HrStep.psHardReset)).ports[(3 : PortId)].slotRuns (9 : Fin 26) = true ∧
      (sv (slot 9 ∘ noK ∘ hrStep HrStep.psHardReset)).ports[(3 : PortId)].pol.hr = HrStep.psHardReset ∧
      (sv (slot 9 ∘ noK ∘ hrStep HrStep.psHardReset)).ports[(3 : PortId)].pol.contract = none) ∧
    (Acts (floor3 (sv (dec 1 1 ∘ slot 10 ∘ noK ∘ hrStep HrStep.recover))) (3 : PortId) ∧
      noWaits (floor3 (sv (dec 1 1 ∘ slot 10 ∘ noK ∘ hrStep HrStep.recover))) (3 : PortId) ∧
      (floor3 (sv (dec 1 1 ∘ slot 10 ∘ noK ∘ hrStep HrStep.recover))).ports[(3 : PortId)].pol.txq = [] ∧
      (floor3 (sv (dec 1 1 ∘ slot 10 ∘ noK ∘ hrStep HrStep.recover))).ports[(3 : PortId)].pol.discDue = false ∧
      (floor3 (sv (dec 1 1 ∘ slot 10 ∘ noK ∘ hrStep HrStep.recover))).ports[(3 : PortId)].slotRuns (10 : Fin 26) = true ∧
      (floor3 (sv (dec 1 1 ∘ slot 10 ∘ noK ∘ hrStep HrStep.recover))).ports[(3 : PortId)].pol.hr = HrStep.recover ∧
      (floor3 (sv (dec 1 1 ∘ slot 10 ∘ noK ∘ hrStep HrStep.recover))).ports[(3 : PortId)].attached = true ∧
      (floor3 (sv (dec 1 1 ∘ slot 10 ∘ noK ∘ hrStep HrStep.recover))).ports[(3 : PortId)].cableSeen = false ∧
      (floor3 (sv (dec 1 1 ∘ slot 10 ∘ noK ∘ hrStep HrStep.recover))).ports[(3 : PortId)].pol.contract = none ∧
      (floor3 (sv (dec 1 1 ∘ slot 10 ∘ noK ∘ hrStep HrStep.recover))).cadp[(3 : PortId)].floor ≠ 0 ∧
      50 ≤ F.PTH_CEIL.CEIL.get (floor3 (sv (dec 1 1 ∘ slot 10 ∘ noK ∘ hrStep HrStep.recover))).ports[(3 : PortId)].pth.ceil) ∧
    (Acts (floor3 (sv (dec 1 1 ∘ ceil0 ∘ slot 10 ∘ noK ∘ hrStep HrStep.recover))) (3 : PortId) ∧
      noWaits (floor3 (sv (dec 1 1 ∘ ceil0 ∘ slot 10 ∘ noK ∘ hrStep HrStep.recover))) (3 : PortId) ∧
      (floor3 (sv (dec 1 1 ∘ ceil0 ∘ slot 10 ∘ noK ∘ hrStep HrStep.recover))).ports[(3 : PortId)].pol.txq = [] ∧
      (floor3 (sv (dec 1 1 ∘ ceil0 ∘ slot 10 ∘ noK ∘ hrStep HrStep.recover))).ports[(3 : PortId)].pol.discDue = false ∧
      (floor3 (sv (dec 1 1 ∘ ceil0 ∘ slot 10 ∘ noK ∘ hrStep HrStep.recover))).ports[(3 : PortId)].slotRuns (10 : Fin 26) = true ∧
      (floor3 (sv (dec 1 1 ∘ ceil0 ∘ slot 10 ∘ noK ∘ hrStep HrStep.recover))).ports[(3 : PortId)].pol.hr = HrStep.recover ∧
      (floor3 (sv (dec 1 1 ∘ ceil0 ∘ slot 10 ∘ noK ∘ hrStep HrStep.recover))).ports[(3 : PortId)].attached = true ∧
      (floor3 (sv (dec 1 1 ∘ ceil0 ∘ slot 10 ∘ noK ∘ hrStep HrStep.recover))).ports[(3 : PortId)].cableSeen = false ∧
      (floor3 (sv (dec 1 1 ∘ ceil0 ∘ slot 10 ∘ noK ∘ hrStep HrStep.recover))).ports[(3 : PortId)].pol.contract = none ∧
      (floor3 (sv (dec 1 1 ∘ ceil0 ∘ slot 10 ∘ noK ∘ hrStep HrStep.recover))).cadp[(3 : PortId)].floor ≠ 0 ∧
      F.PTH_CEIL.CEIL.get (floor3 (sv (dec 1 1 ∘ ceil0 ∘ slot 10 ∘ noK ∘ hrStep HrStep.recover))).ports[(3 : PortId)].pth.ceil < 50) ∧
    (Acts (sv (slot 11 ∘ swaps 0 SwapStep.s1)) (3 : PortId) ∧
      noWaits (sv (slot 11 ∘ swaps 0 SwapStep.s1)) (3 : PortId) ∧
      (sv (slot 11 ∘ swaps 0 SwapStep.s1)).ports[(3 : PortId)].pol.txq = [] ∧
      (sv (slot 11 ∘ swaps 0 SwapStep.s1)).ports[(3 : PortId)].pol.discDue = false ∧
      (sv (slot 11 ∘ swaps 0 SwapStep.s1)).ports[(3 : PortId)].pol.swap ≠ none ∧
      (sv (slot 11 ∘ swaps 0 SwapStep.s1)).ports[(3 : PortId)].st ≠ PortSt.fenced ∧
      (sv (slot 11 ∘ swaps 0 SwapStep.s1)).ports[(3 : PortId)].slotRuns (11 : Fin 26) = true) ∧
    (Acts (sv (slot 12 ∘ swaps 0 SwapStep.s1)) (3 : PortId) ∧
      noWaits (sv (slot 12 ∘ swaps 0 SwapStep.s1)) (3 : PortId) ∧
      (sv (slot 12 ∘ swaps 0 SwapStep.s1)).ports[(3 : PortId)].pol.txq = [] ∧
      (sv (slot 12 ∘ swaps 0 SwapStep.s1)).ports[(3 : PortId)].pol.discDue = false ∧
      (sv (slot 12 ∘ swaps 0 SwapStep.s1)).ports[(3 : PortId)].pol.swap ≠ none ∧
      (sv (slot 12 ∘ swaps 0 SwapStep.s1)).ports[(3 : PortId)].st ≠ PortSt.fenced ∧
      (sv (slot 12 ∘ swaps 0 SwapStep.s1)).ports[(3 : PortId)].slotRuns (12 : Fin 26) = true) ∧
    (Acts (sv (slot 19 ∘ swaps 0 SwapStep.s1)) (3 : PortId) ∧
      noWaits (sv (slot 19 ∘ swaps 0 SwapStep.s1)) (3 : PortId) ∧
      (sv (slot 19 ∘ swaps 0 SwapStep.s1)).ports[(3 : PortId)].pol.txq = [] ∧
      (sv (slot 19 ∘ swaps 0 SwapStep.s1)).ports[(3 : PortId)].pol.discDue = false ∧
      (sv (slot 19 ∘ swaps 0 SwapStep.s1)).ports[(3 : PortId)].pol.swap ≠ none ∧
      (sv (slot 19 ∘ swaps 0 SwapStep.s1)).ports[(3 : PortId)].st ≠ PortSt.fenced ∧
      (sv (slot 19 ∘ swaps 0 SwapStep.s1)).ports[(3 : PortId)].slotRuns (19 : Fin 26) = true ∧
      (sv (slot 19 ∘ swaps 0 SwapStep.s1)).ports[(3 : PortId)].pol.hrCount < 2) ∧
    (Acts (sv (slot 13 ∘ sink)) (3 : PortId) ∧
      noWaits (sv (slot 13 ∘ sink)) (3 : PortId) ∧
      (sv (slot 13 ∘ sink)).ports[(3 : PortId)].pol.txq = [] ∧
      (sv (slot 13 ∘ sink)).ports[(3 : PortId)].pol.discDue = false ∧
      (sv (slot 13 ∘ sink)).ports[(3 : PortId)].isSource = false ∧
      (sv (slot 13 ∘ sink)).ports[(3 : PortId)].pol.hrCount < 2 ∧
      (sv (slot 13 ∘ sink)).ports[(3 : PortId)].slotRuns (13 : Fin 26) = true) ∧
    (Acts (sv (slot 21 ∘ sink)) (3 : PortId) ∧
      noWaits (sv (slot 21 ∘ sink)) (3 : PortId) ∧
      (sv (slot 21 ∘ sink)).ports[(3 : PortId)].pol.txq = [] ∧
      (sv (slot 21 ∘ sink)).ports[(3 : PortId)].pol.discDue = false ∧
      (sv (slot 21 ∘ sink)).ports[(3 : PortId)].isSource = false ∧
      (sv (slot 21 ∘ sink)).ports[(3 : PortId)].pol.hrCount < 2 ∧
      (sv (slot 21 ∘ sink)).ports[(3 : PortId)].slotRuns (21 : Fin 26) = true) ∧
    (Acts (sv (slot 14)) (3 : PortId) ∧
      noWaits (sv (slot 14)) (3 : PortId) ∧
      (sv (slot 14)).ports[(3 : PortId)].pol.txq = [] ∧
      (sv (slot 14)).ports[(3 : PortId)].pol.discDue = false ∧
      (sv (slot 14)).ports[(3 : PortId)].slotRuns (14 : Fin 26) = true ∧
      (sv (slot 14)).ports[(3 : PortId)].isSource = true ∧
      (sv (slot 14)).ports[(3 : PortId)].attached = true ∧
      Port.quiet (0 : Fin 3) (sv (slot 14)).ports[(3 : PortId)] ∧
      F.PD_PHYCFG.EPR.on (sv (slot 14)).ports[(3 : PortId)].pd.phycfg = false) ∧
    (Acts (sv (slot 15 ∘ noK ∘ awaits TxPurpose.discIdentity)) (3 : PortId) ∧
      noWaits (sv (slot 15 ∘ noK ∘ awaits TxPurpose.discIdentity)) (3 : PortId) ∧
      (sv (slot 15 ∘ noK ∘ awaits TxPurpose.discIdentity)).ports[(3 : PortId)].pol.txq = [] ∧
      (sv (slot 15 ∘ noK ∘ awaits TxPurpose.discIdentity)).ports[(3 : PortId)].pol.discDue = false ∧
      (sv (slot 15 ∘ noK ∘ awaits TxPurpose.discIdentity)).ports[(3 : PortId)].slotRuns (15 : Fin 26) = true ∧
      (sv (slot 15 ∘ noK ∘ awaits TxPurpose.discIdentity)).ports[(3 : PortId)].pol.await = some TxPurpose.discIdentity ∧
      (sv (slot 15 ∘ noK ∘ awaits TxPurpose.discIdentity)).ports[(3 : PortId)].pol.contract = none) ∧
    (Acts (sv (slot 16 ∘ heardVdm)) (3 : PortId) ∧
      noWaits (sv (slot 16 ∘ heardVdm)) (3 : PortId) ∧
      (sv (slot 16 ∘ heardVdm)).ports[(3 : PortId)].pol.txq = [] ∧
      (sv (slot 16 ∘ heardVdm)).ports[(3 : PortId)].pol.discDue = false ∧
      (sv (slot 16 ∘ heardVdm)).ports[(3 : PortId)].slotRuns (16 : Fin 26) = true ∧
      (sv (slot 16 ∘ heardVdm)).ports[(3 : PortId)].pol.hostVdm = #v[some 1, none, none] ∧
      Port.quiet (0 : Fin 3) (sv (slot 16 ∘ heardVdm)).ports[(3 : PortId)]) ∧
    (Acts (sv (slot 17 ∘ tries20 ∘ vc)) (3 : PortId) ∧
      noWaits (sv (slot 17 ∘ tries20 ∘ vc)) (3 : PortId) ∧
      (sv (slot 17 ∘ tries20 ∘ vc)).ports[(3 : PortId)].pol.txq = [] ∧
      (sv (slot 17 ∘ tries20 ∘ vc)).ports[(3 : PortId)].pol.discDue = false ∧
      (sv (slot 17 ∘ tries20 ∘ vc)).ports[(3 : PortId)].slotRuns (17 : Fin 26) = true ∧
      (sv (slot 17 ∘ tries20 ∘ vc)).ports[(3 : PortId)].pol.await = none ∧
      (sv (slot 17 ∘ tries20 ∘ vc)).ports[(3 : PortId)].pol.next = none ∧
      (sv (slot 17 ∘ tries20 ∘ vc)).ports[(3 : PortId)].pol.swap = none ∧
      (sv (slot 17 ∘ tries20 ∘ vc)).ports[(3 : PortId)].pol.cable = none ∧
      (sv (slot 17 ∘ tries20 ∘ vc)).ports[(3 : PortId)].vconnOn = true ∧
      20 ≤ (sv (slot 17 ∘ tries20 ∘ vc)).ports[(3 : PortId)].pol.cableTries) ∧
    (Acts (sv (slot 17 ∘ vc ∘ noK)) (3 : PortId) ∧
      noWaits (sv (slot 17 ∘ vc ∘ noK)) (3 : PortId) ∧
      (sv (slot 17 ∘ vc ∘ noK)).ports[(3 : PortId)].pol.txq = [] ∧
      (sv (slot 17 ∘ vc ∘ noK)).ports[(3 : PortId)].pol.discDue = false ∧
      (sv (slot 17 ∘ vc ∘ noK)).ports[(3 : PortId)].slotRuns (17 : Fin 26) = true ∧
      (sv (slot 17 ∘ vc ∘ noK)).ports[(3 : PortId)].pol.await = none ∧
      (sv (slot 17 ∘ vc ∘ noK)).ports[(3 : PortId)].pol.next = none ∧
      (sv (slot 17 ∘ vc ∘ noK)).ports[(3 : PortId)].pol.swap = none ∧
      (sv (slot 17 ∘ vc ∘ noK)).ports[(3 : PortId)].pol.cable = none ∧
      (sv (slot 17 ∘ vc ∘ noK)).ports[(3 : PortId)].vconnOn = true ∧
      (sv (slot 17 ∘ vc ∘ noK)).ports[(3 : PortId)].pol.cableTries < 20 ∧
      Port.quiet (1 : Fin 3) (sv (slot 17 ∘ vc ∘ noK)).ports[(3 : PortId)] ∧
      amsNeeded (sv (slot 17 ∘ vc ∘ noK)).ports[(3 : PortId)] = false) ∧
    (Acts (sv (slot 18 ∘ swaps 2 SwapStep.vconnOn)) (3 : PortId) ∧
      noWaits (sv (slot 18 ∘ swaps 2 SwapStep.vconnOn)) (3 : PortId) ∧
      (sv (slot 18 ∘ swaps 2 SwapStep.vconnOn)).ports[(3 : PortId)].pol.txq = [] ∧
      (sv (slot 18 ∘ swaps 2 SwapStep.vconnOn)).ports[(3 : PortId)].pol.discDue = false ∧
      (sv (slot 18 ∘ swaps 2 SwapStep.vconnOn)).ports[(3 : PortId)].slotRuns (18 : Fin 26) = true ∧
      (sv (slot 18 ∘ swaps 2 SwapStep.vconnOn)).ports[(3 : PortId)].pol.swap = some (Swap.mk 2 SwapStep.vconnOn false true) ∧
      (Swap.mk 2 SwapStep.vconnOn false true).step = SwapStep.vconnOn ∧
      (sv (slot 18 ∘ swaps 2 SwapStep.vconnOn)).ports[(3 : PortId)].phyHeld = false ∧
      (sv (slot 18 ∘ swaps 2 SwapStep.vconnOn)).ports[(3 : PortId)].ctxOn (0 : Fin 3) = true ∧
      (sv (slot 18 ∘ swaps 2 SwapStep.vconnOn)).ports[(3 : PortId)].orient ≠ 0) ∧
    (Acts (sv (slot 18 ∘ vc ∘ dfp ∘ noK)) (3 : PortId) ∧
      noWaits (sv (slot 18 ∘ vc ∘ dfp ∘ noK)) (3 : PortId) ∧
      (sv (slot 18 ∘ vc ∘ dfp ∘ noK)).ports[(3 : PortId)].pol.txq = [] ∧
      (sv (slot 18 ∘ vc ∘ dfp ∘ noK)).ports[(3 : PortId)].pol.discDue = false ∧
      (sv (slot 18 ∘ vc ∘ dfp ∘ noK)).ports[(3 : PortId)].slotRuns (18 : Fin 26) = true ∧
      (sv (slot 18 ∘ vc ∘ dfp ∘ noK)).ports[(3 : PortId)].pol.await = none ∧
      (sv (slot 18 ∘ vc ∘ dfp ∘ noK)).ports[(3 : PortId)].pol.next = none ∧
      (sv (slot 18 ∘ vc ∘ dfp ∘ noK)).ports[(3 : PortId)].pol.swap = none ∧
      (sv (slot 18 ∘ vc ∘ dfp ∘ noK)).ports[(3 : PortId)].attached = true ∧
      (sv (slot 18 ∘ vc ∘ dfp ∘ noK)).ports[(3 : PortId)].vconnOn = true ∧
      (sv (slot 18 ∘ vc ∘ dfp ∘ noK)).ports[(3 : PortId)].isDfp = true ∧
      (sv (slot 18 ∘ vc ∘ dfp ∘ noK)).ports[(3 : PortId)].pol.cable = none ∧
      F.PRT_CAPT.CABLED.on (sv (slot 18 ∘ vc ∘ dfp ∘ noK)).ports[(3 : PortId)].core.capt = false ∧
      (sv (slot 18 ∘ vc ∘ dfp ∘ noK)).ports[(3 : PortId)].slotRuns (17 : Fin 26) = false ∧
      Port.quiet (1 : Fin 3) (sv (slot 18 ∘ vc ∘ dfp ∘ noK)).ports[(3 : PortId)] ∧
      amsNeeded (sv (slot 18 ∘ vc ∘ dfp ∘ noK)).ports[(3 : PortId)] = false) ∧
    (Acts (sv (slot 20 ∘ epr)) (3 : PortId) ∧
      noWaits (sv (slot 20 ∘ epr)) (3 : PortId) ∧
      (sv (slot 20 ∘ epr)).ports[(3 : PortId)].pol.txq = [] ∧
      (sv (slot 20 ∘ epr)).ports[(3 : PortId)].pol.discDue = false ∧
      (sv (slot 20 ∘ epr)).ports[(3 : PortId)].pol.hrCount < 2 ∧
      (sv (slot 20 ∘ epr)).ports[(3 : PortId)].slotRuns (20 : Fin 26) = true ∧
      F.PD_PHYCFG.EPR.on (sv (slot 20 ∘ epr)).ports[(3 : PortId)].pd.phycfg = true) ∧
    (Acts (sv (slot 23 ∘ kIs pps)) (3 : PortId) ∧
      noWaits (sv (slot 23 ∘ kIs pps)) (3 : PortId) ∧
      (sv (slot 23 ∘ kIs pps)).ports[(3 : PortId)].pol.txq = [] ∧
      (sv (slot 23 ∘ kIs pps)).ports[(3 : PortId)].pol.discDue = false ∧
      (sv (slot 23 ∘ kIs pps)).ports[(3 : PortId)].pol.hrCount < 2 ∧
      (sv (slot 23 ∘ kIs pps)).ports[(3 : PortId)].slotRuns (23 : Fin 26) = true ∧
      (sv (slot 23 ∘ kIs pps)).ports[(3 : PortId)].pol.contract = some pps ∧
      pps.kind = 1 ∧
      (sv (slot 23 ∘ kIs pps)).ports[(3 : PortId)].isSource = true) ∧
    (Acts (sv (slot 22 ∘ sink)) (3 : PortId) ∧
      noWaits (sv (slot 22 ∘ sink)) (3 : PortId) ∧
      (sv (slot 22 ∘ sink)).ports[(3 : PortId)].pol.txq = [] ∧
      (sv (slot 22 ∘ sink)).ports[(3 : PortId)].pol.discDue = false ∧
      (sv (slot 22 ∘ sink)).ports[(3 : PortId)].slotRuns (22 : Fin 26) = true ∧
      (sv (slot 22 ∘ sink)).ports[(3 : PortId)].isSource = false ∧
      Port.quiet (0 : Fin 3) (sv (slot 22 ∘ sink)).ports[(3 : PortId)]) ∧
    (Acts (sv (slot 22 ∘ doneHeld)) (3 : PortId) ∧
      noWaits (sv (slot 22 ∘ doneHeld)) (3 : PortId) ∧
      (sv (slot 22 ∘ doneHeld)).ports[(3 : PortId)].pol.txq = [] ∧
      (sv (slot 22 ∘ doneHeld)).ports[(3 : PortId)].pol.discDue = false ∧
      (sv (slot 22 ∘ doneHeld)).ports[(3 : PortId)].slotRuns (22 : Fin 26) = true ∧
      (sv (slot 22 ∘ doneHeld)).ports[(3 : PortId)].isSource = true ∧
      (sv (slot 22 ∘ doneHeld)).ports[(3 : PortId)].pol.doneHeld = true ∧
      (sv (slot 22 ∘ doneHeld)).ports[(3 : PortId)].pol.contract = some k5) ∧
    (Acts (sv (slot 24)) (3 : PortId) ∧
      noWaits (sv (slot 24)) (3 : PortId) ∧
      (sv (slot 24)).ports[(3 : PortId)].pol.txq = [] ∧
      (sv (slot 24)).ports[(3 : PortId)].pol.discDue = false ∧
      (sv (slot 24)).ports[(3 : PortId)].slotRuns (24 : Fin 26) = true ∧
      (sv (slot 24)).ports[(3 : PortId)].attached = true ∧
      (sv (slot 24)).ports[(3 : PortId)].pol.hrCount < 2) ∧
    (Acts (sv (slot 24 ∘ hr2)) (3 : PortId) ∧
      noWaits (sv (slot 24 ∘ hr2)) (3 : PortId) ∧
      (sv (slot 24 ∘ hr2)).ports[(3 : PortId)].pol.txq = [] ∧
      (sv (slot 24 ∘ hr2)).ports[(3 : PortId)].pol.discDue = false ∧
      (sv (slot 24 ∘ hr2)).ports[(3 : PortId)].slotRuns (24 : Fin 26) = true ∧
      (sv (slot 24 ∘ hr2)).ports[(3 : PortId)].attached = true ∧
      2 ≤ (sv (slot 24 ∘ hr2)).ports[(3 : PortId)].pol.hrCount ∧
      (sv (slot 24 ∘ hr2)).ports[(3 : PortId)].pol.spoke = false ∧
      ((sv (slot 24 ∘ hr2)).ports[(3 : PortId)].isSource = true ∨ isFeedPort (sv (slot 24 ∘ hr2)) (3 : PortId) = false)) ∧
    (Acts (on3 (slot 25 ∘ bindsOff true)) (3 : PortId) ∧
      noWaits (on3 (slot 25 ∘ bindsOff true)) (3 : PortId) ∧
      (on3 (slot 25 ∘ bindsOff true)).ports[(3 : PortId)].pol.txq = [] ∧
      (on3 (slot 25 ∘ bindsOff true)).ports[(3 : PortId)].pol.discDue = false ∧
      (on3 (slot 25 ∘ bindsOff true)).ports[(3 : PortId)].slotRuns (25 : Fin 26) = true ∧
      (on3 (slot 25 ∘ bindsOff true)).ports[(3 : PortId)].pol.errRecovery = true ∧
      (on3 (slot 25 ∘ bindsOff true)).ports[(3 : PortId)].st = PortSt.bindingOff ∧
      (on3 (slot 25 ∘ bindsOff true)).ports[(3 : PortId)].pol.kept = none ∧
      (on3 (slot 25 ∘ bindsOff true)).ports[(3 : PortId)].pol.cfgLater = none ∧
      (on3 (slot 25 ∘ bindsOff true)).ports[(3 : PortId)].pol.captLater = none ∧
      roleOf (on3 (slot 25 ∘ bindsOff true)) (3 : PortId) = 0 ∧
      (on3 (slot 25 ∘ bindsOff true)).ports[(3 : PortId)].dec1 = 0 ∧
      (on3 (slot 25 ∘ bindsOff true)).ports[(3 : PortId)].dec2 = 0) := by
  refine ⟨⟨?_, ?_⟩, ⟨?_, ?_, ?_⟩, ⟨?_, ?_, ?_, ?_, ?_, ?_, ?_, ?_⟩, ⟨?_, ?_, ?_, ?_, ?_, ?_, ?_, ?_, ?_, ?_, ?_, ?_⟩, ⟨?_, ?_, ?_, ?_, ?_, ?_, ?_⟩, ⟨?_, ?_, ?_, ?_, ?_, ?_, ?_, ?_⟩, ⟨?_, ?_, ?_, ?_, ?_, ?_, ?_, ?_, ?_, ?_, ?_, ?_⟩, ⟨?_, ?_, ?_, ?_, ?_, ?_, ?_⟩, ⟨?_, ?_, ?_, ?_, ?_, ?_, ?_, ?_, ?_, ?_, ?_⟩, ⟨?_, ?_, ?_, ?_, ?_, ?_, ?_, ?_, ?_, ?_, ?_⟩, ⟨?_, ?_, ?_, ?_, ?_, ?_, ?_⟩, ⟨?_, ?_, ?_, ?_, ?_, ?_, ?_⟩, ⟨?_, ?_, ?_, ?_, ?_, ?_, ?_, ?_⟩, ⟨?_, ?_, ?_, ?_, ?_, ?_, ?_⟩, ⟨?_, ?_, ?_, ?_, ?_, ?_, ?_⟩, ⟨?_, ?_, ?_, ?_, ?_, ?_, ?_, ?_, ?_⟩, ⟨?_, ?_, ?_, ?_, ?_, ?_, ?_⟩, ⟨?_, ?_, ?_, ?_, ?_, ?_, ?_⟩, ⟨?_, ?_, ?_, ?_, ?_, ?_, ?_, ?_, ?_, ?_, ?_⟩, ⟨?_, ?_, ?_, ?_, ?_, ?_, ?_, ?_, ?_, ?_, ?_, ?_, ?_⟩, ⟨?_, ?_, ?_, ?_, ?_, ?_, ?_, ?_, ?_, ?_⟩, ⟨?_, ?_, ?_, ?_, ?_, ?_, ?_, ?_, ?_, ?_, ?_, ?_, ?_, ?_, ?_, ?_⟩, ⟨?_, ?_, ?_, ?_, ?_, ?_, ?_⟩, ⟨?_, ?_, ?_, ?_, ?_, ?_, ?_, ?_, ?_⟩, ⟨?_, ?_, ?_, ?_, ?_, ?_, ?_⟩, ⟨?_, ?_, ?_, ?_, ?_, ?_, ?_, ?_⟩, ⟨?_, ?_, ?_, ?_, ?_, ?_, ?_⟩, ⟨?_, ?_, ?_, ?_, ?_, ?_, ?_, ?_, ?_⟩, ⟨?_, ?_, ?_, ?_, ?_, ?_, ?_, ?_, ?_, ?_, ?_, ?_, ?_⟩⟩ <;> decide +kernel

theorem test_hyps_PpsTargetAndOutcomeTimeouts :
    (¬Acts (off id) (3 : PortId)) ∧
    (Acts (sv id) (3 : PortId) ∧
      noWaits (sv id) (3 : PortId) ∧
      (sv id).ports[(3 : PortId)].idle ∧
      (sv id).ports[(3 : PortId)].pol.reqWait = false) ∧
    (Acts (sv reqWaits) (3 : PortId) ∧
      noWaits (sv reqWaits) (3 : PortId) ∧
      (sv reqWaits).ports[(3 : PortId)].pol.txq = [] ∧
      (sv reqWaits).ports[(3 : PortId)].pol.discDue = false ∧
      (sv reqWaits).ports[(3 : PortId)].phyHeld = false ∧
      (sv reqWaits).ports[(3 : PortId)].ctxOn (0 : Fin 3) = true ∧
      (sv reqWaits).ports[(3 : PortId)].orient ≠ 0 ∧
      (sv reqWaits).ports[(3 : PortId)].pol.reqWait = true) ∧
    (Acts (sv id) (3 : PortId) ∧
      noWaits (sv id) (3 : PortId) ∧
      (sv id).ports[(3 : PortId)].idle ∧
      (∀ (k : Contract), (sv id).ports[(3 : PortId)].pol.contract = some k → k.kind ≠ 1 ∨ (sv id).ports[(3 : PortId)].isSource = false)) ∧
    (Acts (sv (ceil0 ∘ kIs pps50)) (3 : PortId) ∧
      noWaits (sv (ceil0 ∘ kIs pps50)) (3 : PortId) ∧
      (sv (ceil0 ∘ kIs pps50)).ports[(3 : PortId)].idle ∧
      (sv (ceil0 ∘ kIs pps50)).ports[(3 : PortId)].pol.contract = some pps50 ∧
      pps50.kind = 1 ∧
      (sv (ceil0 ∘ kIs pps50)).ports[(3 : PortId)].isSource = true ∧
      (sv (ceil0 ∘ kIs pps50)).ports[(3 : PortId)].target < 4096 ∧
      ((sv (ceil0 ∘ kIs pps50)).ports[(3 : PortId)].target < if 10 * pps50.curr + 150 < 0 then if 165 < (sv (ceil0 ∘ kIs pps50)).ports[(3 : PortId)].target then (sv (ceil0 ∘ kIs pps50)).ports[(3 : PortId)].target - 1 else (sv (ceil0 ∘ kIs pps50)).ports[(3 : PortId)].target else if 0 < 10 * pps50.curr + 150 ∧ (sv (ceil0 ∘ kIs pps50)).ports[(3 : PortId)].target < pps50.volt then (sv (ceil0 ∘ kIs pps50)).ports[(3 : PortId)].target + 1 else (sv (ceil0 ∘ kIs pps50)).ports[(3 : PortId)].target) ∧
      F.PTH_CEIL.CEIL.get (sv (ceil0 ∘ kIs pps50)).ports[(3 : PortId)].pth.ceil * 100 < 20 * if 10 * pps50.curr + 150 < 0 then if 165 < (sv (ceil0 ∘ kIs pps50)).ports[(3 : PortId)].target then (sv (ceil0 ∘ kIs pps50)).ports[(3 : PortId)].target - 1 else (sv (ceil0 ∘ kIs pps50)).ports[(3 : PortId)].target else if 0 < 10 * pps50.curr + 150 ∧ (sv (ceil0 ∘ kIs pps50)).ports[(3 : PortId)].target < pps50.volt then (sv (ceil0 ∘ kIs pps50)).ports[(3 : PortId)].target + 1 else (sv (ceil0 ∘ kIs pps50)).ports[(3 : PortId)].target) ∧
    (Acts (sv (kIs pps)) (3 : PortId) ∧
      noWaits (sv (kIs pps)) (3 : PortId) ∧
      (sv (kIs pps)).ports[(3 : PortId)].idle ∧
      (sv (kIs pps)).ports[(3 : PortId)].pol.contract = some pps ∧
      pps.kind = 1 ∧
      (sv (kIs pps)).ports[(3 : PortId)].isSource = true ∧
      (sv (kIs pps)).ports[(3 : PortId)].target < 4096 ∧
      ¬(((sv (kIs pps)).ports[(3 : PortId)].target < if 10 * pps.curr + 150 < 0 then if 165 < (sv (kIs pps)).ports[(3 : PortId)].target then (sv (kIs pps)).ports[(3 : PortId)].target - 1 else (sv (kIs pps)).ports[(3 : PortId)].target else if 0 < 10 * pps.curr + 150 ∧ (sv (kIs pps)).ports[(3 : PortId)].target < pps.volt then (sv (kIs pps)).ports[(3 : PortId)].target + 1 else (sv (kIs pps)).ports[(3 : PortId)].target) ∧ F.PTH_CEIL.CEIL.get (sv (kIs pps)).ports[(3 : PortId)].pth.ceil * 100 < 20 * if 10 * pps.curr + 150 < 0 then if 165 < (sv (kIs pps)).ports[(3 : PortId)].target then (sv (kIs pps)).ports[(3 : PortId)].target - 1 else (sv (kIs pps)).ports[(3 : PortId)].target else if 0 < 10 * pps.curr + 150 ∧ (sv (kIs pps)).ports[(3 : PortId)].target < pps.volt then (sv (kIs pps)).ports[(3 : PortId)].target + 1 else (sv (kIs pps)).ports[(3 : PortId)].target)) := by
  refine ⟨?_, ⟨?_, ?_, ?_, ?_⟩, ⟨?_, ?_, ?_, ?_, ?_, ?_, ?_, ?_⟩, ⟨?_, ?_, ?_, ?_⟩, ⟨?_, ?_, ?_, ?_, ?_, ?_, ?_, ?_, ?_⟩, ⟨?_, ?_, ?_, ?_, ?_, ?_, ?_, ?_⟩⟩ <;> decide +kernel

theorem test_hyps_StepRunsTheFrontCommand :
    (reset0.pending = []) := by decide +kernel


/-! ## Witnesses written by hand -/

theorem test_hyps_SessionCommandsAnswer_hello :
    Ready hSys 0x001 (hSys.fence || sessionOpen wRun) wRun ∧ hSys.port = 255 ∧ 0 < 65536 ∧ 1 < 65536 ∧
    ∀ v : Nat, (0 ≤ v ∧ v ≤ 1 ∧ (protoWord wRun).toNat % 65536 ≤ v ∧ v ≤ (protoWord wRun).toNat / 65536) → v ≤ 0 := by
  have h : (protoWord wRun).toNat / 65536 = 0 := by decide +kernel
  exact ⟨by decide +kernel, rfl, by decide, by decide, fun v x => by omega⟩

theorem test_hyps_PortSetupCommandsAnswer_config :
    TakenPort hP 0x101 3 wRun ∧ 0 < 8192 ∧ wRun.ports[(3 : PortId)].st = .parked ∧
    (∀ i, (([] : List Byte).getD i 0).toNat <
      ([4, 4, 64, 256, 256, 256, 256, 16, 256, 128, 256, 256, 2] : List Nat).getD i 256) ∧
    (([] : List Byte).getD 4 0).toNat % 64 < 8 := by
  refine ⟨by decide +kernel, by decide, by decide +kernel, fun i => ?_, by decide⟩
  rcases Nat.lt_or_ge i 13 with h | h
  · interval_cases i <;> decide
  · rw [List.getD_eq_default (l := ([4, 4, 64, 256, 256, 256, 256, 16, 256, 128, 256, 256, 2] : List Nat)) _ (by simpa using h)]
    simp

theorem test_hyps_OperatingPointsMoveInOrder_lost :
    F.CRU_STAT.ROOT_PLL.on wRun.cru.regs.stat = true ∧
    (∀ op back : Nat, wRun.cru.seq ≠ some (.raise op back)) ∧ wRun.boot.phase ≠ .raise :=
  ⟨by decide +kernel, fun op back => show (none : Option DvfsSeq) ≠ _ by simp, by decide⟩

theorem test_hyps_CaddySubmissions_pool :
    let s := pool 5000 wRun
    let l := min 2 (F.CAD_PCFG.V5.get s.cadp[(3 : PortId)].actPcfg)
    hwUp s = true ∧ unpopulated s 3 = false ∧
    ¬(s.ports[(3 : PortId)].pol.prearmed = true ∧
      unitsAt s 50 (levelPout l) ≤ s.cadp[(3 : PortId)].hold - s.cadp[(3 : PortId)].relAmt) ∧
    2 ≤ l ∧ unitsAt s 50 (levelPout 2) ≤ poolBal s ∧
    ∀ n : Nat, 2 < n → n ≤ l → poolBal s < unitsAt s 50 (levelPout n) := by
  refine ⟨by decide +kernel, by decide +kernel, by decide +kernel, by decide +kernel, by decide +kernel, fun n h k => ?_⟩
  have : n ≤ 2 := Nat.le_trans k (Nat.min_le_left _ _)
  omega

theorem test_hyps_EveryStepKeepsBlownLocks :
    let s : State := { State.reset with pending := [.wdoPulseEnd] }
    LocksBlown (fun g _ => g == 0 || g == 2 || g == 7) (fun _ _ => false) s ∧ ∃ t, step s = .next t :=
  ⟨by unfold LocksBlown; decide +kernel, _, rfl⟩

theorem test_hyps_EngineStaysInItsSkein :
    dwx? (.nop 0 .wide 0) = some (0, .wide, 0) ∧ engineCore 0 = some 0 ∧ ∃ t, exec (.nop 0 .wide 0) wRun = .next t :=
  ⟨rfl, by decide, _, rfl⟩

/-! ## Worked examples of the spec -/

/-- A request of the row of 06 Table CAD-5 by its port, its delta over a holding of 1,244 units, and PMIN. -/
def cad5 (p : PortId) (units : Nat) (pmin : Nat) : RowReq := ⟨p, ⟨50, 0, 0, false⟩, false, units, 1244, pmin⟩

/-- 06 Table CAD-5: headroom 1,440; P30 gets the last 100 units, and what follows is denied. -/
theorem test_rowResolution :
    (resolve false [cad5 12 1709 50, cad5 70 1271 50, cad5 7 1456 50, cad5 40 1456 50, cad5 44 1456 50, cad5 91 422 50,
      cad5 2 1456 50, cad5 30 1554 50, cad5 20 1499 50, cad5 55 1395 50, cad5 88 1310 50, cad5 61 1368 50]
      1440 false).map Prod.snd =
    [.grant, .grant, .grant, .grant, .grant, .grant, .grant, .partialGrant 100, .deny, .deny, .deny, .deny] := by
  decide +kernel

/-- 06 R160, Table CAD-5's P91: 48 V 2.5 A takes 1,244 units. -/
theorem test_units_48V : unitsOf (effFor effReset 0 480) 12000 = 1244 := by decide +kernel

/-- 07 Table TEL-10: the record of its block, byte for byte. -/
theorem test_blockRecord :
    blockRecord 41 1953125 2
      [1600, 1601, 1599, 1600, 1602, 1601, 1600, 1599, 1598, 1600, 1601, 1600, 1599, 1597, 1590, 1582,
       1578, 1581, 1586, 1592, 1596, 1598, 1599, 1600, 1601, 1600, 1600, 1599, 1600, 1601, 1600, 1600]
      ((List.range 32).map fun i => i == 16 || i == 17) =
    [0x45, 0x28, 0x25, 0x62, 0xA6, 0x42, 0x31, 0xE7, 0x14, 0x23, 0xFE, 0xD6, 0x13, 0x12, 0xEF, 0xEF, 0xDB, 0x66,
     0x00, 0x00] := by decide +kernel

/-- 13 R341: arithmetic wraps. -/
theorem test_addWraps : (match exec (.add 0 .wide 0 3 1 2) (core0 (regs0 [(1, 0xFFFFFFFF), (2, 3)])) with
    | .next t => t.cores[(0 : CoreId)].reg 3
    | _ => 0) = 2 := by decide +kernel

/-- A step takes the command at the front of the queue and leaves the other. -/
theorem test_stepTakesFront : (match step { State.reset with pending := [.rstNAssert, .wdoPulseEnd] } with
    | .next t => t.pending
    | _ => []) = [.wdoPulseEnd] := by decide +kernel

end Sys2Proof.Tests
end

/-! SUPPORT. Register writes by the control pair (00 R7): where an address of its map lies, what each access code
of Table SCP-4 gives, and what the plain part of a write changes in a port, the watchdog, the safety registers and
the event router. -/

namespace Sys2Proof

/-! ## Fields and access codes -/

/-- Writing back what a field holds changes nothing. -/
theorem put_get (f : Fld) (w : Word) : f.put (f.get w) w = w := by
  apply BitVec.eq_of_getLsbD_eq
  intro i _
  rw [getLsbD_put]
  split
  next h =>
    have hw : i - f.lo < f.width := by omega
    have hi : f.lo + (i - f.lo) = i := by omega
    simp [testBit_get, hw, hi]
  next => rfl

end Sys2Proof

namespace Sys2Proof.Machine
open Sys2Proof

/-- An access code that reaches no bit masks none. -/
theorem and_ones (w : Word) : w &&& 4294967295#32 = w := BitVec.and_allOnes

theorem ro_write (locked : Bool) (old v : Word) : ro.write locked old v = old := by
  cases locked <;> simp [ro, Access.write, and_ones]

theorem rw_write (m : Word) (locked : Bool) (old v : Word) :
    (rw m).write locked old v = (old &&& ~~~m) ||| (v &&& m) := by
  cases locked <;> simp [rw, Access.write, and_ones]

theorem w1c_write (m : Word) (locked : Bool) (old v : Word) :
    (w1c m).write locked old v = old &&& ~~~(v &&& m) := by
  cases locked <;> simp [w1c, Access.write, and_ones]

theorem rwl_write (m : Word) (locked : Bool) (old v : Word) :
    (rwl m).write locked old v = if locked then old else (old &&& ~~~m) ||| (v &&& m) := by
  cases locked <;> simp [rwl, Access.write, and_ones]

/-- A write at an offset that the map lists takes effect by the access code of that register. -/
theorem regWrite_of_find? {α : Type} {l : List (Reg α)} {off : Nat} {r : Reg α} (locked : Bool) (v : Word) (x : α)
    (h : l.find? (·.off == off) = some r) :
    regWrite l locked off v x = r.set (r.acc.write locked (r.get x) v) x := by
  simp [regWrite, h]

/-! ## The control pair's map (01 Table ANA-6) -/

theorem pairPlace_notGiven {a : Nat}
    (h : (0x40060000 ≤ a ∧ a < 0x40090000) ∨ (0x400A0000 ≤ a ∧ a < 0x400B0000) ∨ (0x40100000 ≤ a ∧ a < 0x40140000)) :
    pairPlace a = .notGiven (a / 65536 * 65536) := by
  unfold pairPlace
  rw [if_neg (by omega), if_neg (by omega), if_neg (by omega)]
  by_cases hb : a < 0x400E0000
  · have hn : (a - 0x40000000) / 0x10000 = 6 ∨ (a - 0x40000000) / 0x10000 = 7 ∨ (a - 0x40000000) / 0x10000 = 8 ∨
      (a - 0x40000000) / 0x10000 = 10 := by omega
    rw [if_pos hb]
    simp only [Bool.or_eq_true, decide_eq_true_eq, or_assoc]
    rw [if_pos hn]
    congr 1
    omega
  · rw [if_neg hb, if_pos (by simp; omega)]

theorem pairPlace_block {a n off : Nat} (ha : a = 0x40000000 + 0x10000 * n + off) (ho : off < 0x10000) (hn : n < 14)
    (hg : n ∉ [6, 7, 8, 10]) : pairPlace a = .block n off := by
  have h1 : (a - 0x40000000) / 0x10000 = n := by omega
  have h2 : a % 0x10000 = off := by omega
  unfold pairPlace
  rw [if_neg (by omega), if_neg (by omega), if_neg (by omega), if_pos (by omega), h1, h2]
  exact if_neg (by simpa [and_assoc] using hg)

theorem pairPlace_port (p : PortId) {off : Nat} (h : off < 0x1000) :
    pairPlace (0x40200000 + 4096 * p.val + off) = .port p off := by
  have hp := p.isLt
  unfold pairPlace
  rw [if_neg (by omega), if_neg (by omega), if_neg (by omega), if_neg (by omega), if_neg (by simp; omega),
    dif_pos (by omega)]
  congr 1
  · ext; simp; omega
  · omega

/-- Below the registers lie memories and gaps; above the engines' control blocks lies nothing. -/
theorem placePlain_outside {a : Nat} (h : a < 0x40000000 ∨ 0x403D0000 ≤ a) (v : Word) (s : State) :
    (∀ b, pairPlace a ≠ .notGiven b) ∧ placePlain false (pairPlace a) v s = s := by
  unfold pairPlace
  rcases h with h | h
  · by_cases h1 : a < 0x100000
    · rw [if_pos h1]; exact ⟨fun _ => Place.noConfusion, rfl⟩
    · by_cases h2 : a < 0x300000
      · rw [if_neg h1, if_pos h2]; exact ⟨fun _ => Place.noConfusion, rfl⟩
      · rw [if_neg h1, if_neg h2, if_pos h]; exact ⟨fun _ => Place.noConfusion, rfl⟩
  · rw [if_neg (by omega), if_neg (by omega), if_neg (by omega), if_neg (by omega), if_neg (by simp; omega),
      dif_neg (by omega), dif_neg (by omega)]
    exact ⟨fun _ => Place.noConfusion, rfl⟩

/-! ## REGISTER_WRITE by the place of its address -/

theorem exec_registerWrite (a : Nat) (v : Word) (s : State) :
    exec (.registerWrite a v) s = execRegisterWrite a v s := rfl

/-- A block whose registers the spec does not give refuses. -/
theorem registerWrite_notGiven {a b : Nat} (h : pairPlace a = .notGiven b) (v : Word) (s : State) :
    exec (.registerWrite a v) s = .refused (.blockNotGiven b) := by
  simp [exec_registerWrite, execRegisterWrite, h]

/-- Elsewhere the plain part of the register takes effect, on a word while the control die is out of reset. -/
theorem registerWrite_given {a : Nat} (h : ∀ b, pairPlace a ≠ .notGiven b) (v : Word) (s : State) :
    exec (.registerWrite a v) s =
      .next (if hwUp s && a % 4 == 0 then placePlain false (pairPlace a) v s else s) := by
  rw [exec_registerWrite, execRegisterWrite]
  split
  next b hb => exact absurd hb (h b)
  next => rfl

theorem registerWrite_discarded {a : Nat} (h : ∀ b, pairPlace a ≠ .notGiven b) {s : State}
    (hd : hwUp s = false ∨ a % 4 ≠ 0) (v : Word) : exec (.registerWrite a v) s = .next s := by
  rw [registerWrite_given h, if_neg (by rcases hd with hd | hd <;> simp [hd])]

theorem registerWrite_outside {a : Nat} (h : a < 0x40000000 ∨ 0x403D0000 ≤ a) (v : Word) (s : State) :
    exec (.registerWrite a v) s = .next s := by
  obtain ⟨hn, hp⟩ := placePlain_outside h v s
  rw [registerWrite_given hn, hp, ite_self]

theorem registerWrite_block {s : State} (hw : hwUp s = true) {a n off : Nat} (ha : a = 0x40000000 + 0x10000 * n + off)
    (ho : off < 0x10000) (hn : n < 14) (hg : n ∉ [6, 7, 8, 10]) (h4 : off % 4 = 0) (v : Word) :
    exec (.registerWrite a v) s = .next (placePlain false (.block n off) v s) := by
  have hp := pairPlace_block ha ho hn hg
  have ha4 : a % 4 = 0 := by omega
  rw [registerWrite_given (by simp [hp]), hp]
  simp [hw, ha4]

theorem registerWrite_port {s : State} (hw : hwUp s = true) (p : PortId) {off : Nat} (ho : off < 0x1000)
    (h4 : off % 4 = 0) (v : Word) :
    exec (.registerWrite (0x40200000 + 4096 * p.val + off) v) s = .next (portPlain p off v s) := by
  have hp := pairPlace_port p ho
  have ha4 : (0x40200000 + 4096 * p.val + off) % 4 = 0 := by omega
  rw [registerWrite_given (by simp [hp]), hp]
  simp [hw, ha4, placePlain]

/-! ## A port's registers -/

/-- Hardware holds nothing back of a write that leaves PRT_STATE, PRT_CAPT and PD_PHYCFG. -/
theorem keepHeld_eq_self {old new : Port} (now : Nat) (hs : new.core.state = old.core.state)
    (hc : new.core.capt = old.core.capt) (hp : new.pd.phycfg = old.pd.phycfg) : keepHeld now old new = new := by
  simp only [keepHeld, ← hs, ← hc, put_get, ite_self, hp, Bool.and_not_self, Bool.false_eq_true, if_false]

/-- The registers of a port block outside the message contexts, in the order in which a write looks them up. -/
def portRegs : List (Reg Port) := coreRegs ++ ccRegs ++ pdRegs ++ pathRegs ++ curveRegs ++ telPortRegs

/-- An offset above PRT_STATE, outside the message contexts and below the buffers: a write looks it up in `portRegs`. -/
abbrev LookedUp (off : Nat) : Prop := off ≠ 0 ∧ off < 0xA00 ∧ ¬(0x200 ≤ off ∧ off < 0x500)

/-- A register of a port whose write leaves what hardware holds. -/
def Reg.LeavesHeld (r : Reg Port) : Prop :=
  ∀ w q, (r.set w q).core.state = q.core.state ∧ (r.set w q).core.capt = q.core.capt ∧
    (r.set w q).pd.phycfg = q.pd.phycfg

/-- A bus write of one register of a port, by its access code. -/
def Reg.written (r : Reg Port) (v : Word) (q : Port) : Port := r.set (r.acc.write false (r.get q) v) q

/-- A write of a listed register takes effect by its access code in the port and the control die's copy alike (01 R31),
one of the front die with the stitch link up. -/
theorem portPlain_listed (p : PortId) {off : Nat} {r : Reg Port} (v : Word) (s : State) (ho : LookedUp off)
    (hr : portRegs.find? (·.off == off) = some r) (hh : r.LeavesHeld)
    (hl : (frontOff off && !linkUp s (dieOf p)) = false) :
    portPlain p off v s = modFront p (r.written v) s := by
  obtain ⟨h0, hlow, hctx⟩ := ho
  have key : ∀ q : Port, keepHeld s.time q (regWrite portRegs false off v q) = r.written v q := by
    intro q
    obtain ⟨hs, hc, hp⟩ := hh (r.acc.write false (r.get q) v) q
    rw [regWrite_of_find? false v q hr, keepHeld_eq_self s.time hs hc hp, Reg.written]
  have hctx' : (decide (0x200 ≤ off) && decide (off < 0x500)) = false := by simpa using hctx
  simp only [portPlain, hl, Bool.false_eq_true, if_false, if_neg h0, if_neg (Nat.not_le.mpr hlow), hctx']
  exact congrArg (modFront p · s) (funext key)

/-- With the stitch link down a front-die register takes nothing (01 R32). -/
theorem portPlain_linkDown (p : PortId) {off : Nat} (v : Word) {s : State} (hf : frontOff off = true)
    (hl : linkUp s (dieOf p) = false) : portPlain p off v s = s := by
  simp [portPlain, hf, hl]

/-- A write that leaves the front die's registers, its hardware and the copy has one effect whether or not the stitch
link is up. -/
theorem reached_eq_of_front (up : Bool) {f : Port → Port}
    (hf : ∀ q, (f q).front = q.front ∧ (f q).hw = q.hw ∧ (f q).copy = q.copy) (q : Port) :
    Port.reached up f q = f q := by
  obtain ⟨hfront, hhw, hcopy⟩ := hf q
  cases up
  · simp only [Port.front, FrontRegs.mk.injEq] at hfront
    obtain ⟨hcc, hpth, hcur, htel⟩ := hfront
    simp only [Port.reached, Bool.false_eq_true, if_false, ← hcc, ← hpth, ← hcur, ← htel, ← hhw]
  · have same : ∀ c : FrontRegs,
        (f { q with cc := c.cc, pth := c.pth, cur := c.cur, tel := c.tel }).front = c := fun c => (hf _).1
    simp only [Port.reached, if_true, same, Option.map_id']
    rw [← hcopy]

/-- A command that changes one port by a core's write moves that port to what the write leaves in it. -/
theorem movesPort_of_modFront {i : Instr} {s : State} {p : PortId} {f : Port → Port} {R : Port → Prop}
    (h : exec i s = .next (modFront p f s)) (hR : R (Port.reached (linkUp s (dieOf p)) f s.ports[p])) :
    MovesPort i s p R := by
  refine ⟨_, h, rfl, fun r hr => modPort_other p _ s r hr, ?_⟩
  have hp : (modFront p f s).ports[p] = Port.reached (linkUp s (dieOf p)) f s.ports[p] :=
    modPort_self p _ s
  rw [hp]
  exact hR

/-- A write of a register that the control die holds moves the port by the register's access code. -/
theorem movesPort_control {s : State} (hw : hwUp s = true) (p : PortId) {off : Nat} {r : Reg Port} (v : Word)
    {R : Port → Prop} (ho : LookedUp off) (h4 : off % 4 = 0) (hfr : frontOff off = false)
    (hr : portRegs.find? (·.off == off) = some r) (hh : r.LeavesHeld)
    (hf : ∀ w q, (r.set w q).front = q.front ∧ (r.set w q).hw = q.hw ∧ (r.set w q).copy = q.copy)
    (hR : R (r.written v s.ports[p])) :
    MovesPort (.registerWrite (0x40200000 + 4096 * p.val + off) v) s p R := by
  have hx := registerWrite_port hw p (off := off) (by omega) h4 v
  rw [portPlain_listed p v s ho hr hh (by simp [hfr])] at hx
  refine movesPort_of_modFront hx ?_
  rwa [reached_eq_of_front (f := r.written v) _ fun q => hf _ q]

theorem movesPort_prtEvt {s : State} (hw : hwUp s = true) (p : PortId) (v : Word) :
    MovesPort (.registerWrite (0x40200000 + 4096 * p.val + 0x00C) v) s p (fun t =>
      t = { s.ports[p] with core := { s.ports[p].core with evt := t.core.evt } } ∧
      t.core.evt = s.ports[p].core.evt &&& ~~~(v &&& 0x1FF)) :=
  movesPort_control hw p v (by decide) rfl rfl rfl (fun _ _ => ⟨rfl, rfl, rfl⟩) (fun _ _ => ⟨rfl, rfl, rfl⟩)
    ⟨rfl, w1c_write 0x1FF false _ v⟩

theorem movesPort_prtEvten {s : State} (hw : hwUp s = true) (p : PortId) (v : Word) :
    MovesPort (.registerWrite (0x40200000 + 4096 * p.val + 0x010) v) s p (fun t =>
      t = { s.ports[p] with core := { s.ports[p].core with evten := t.core.evten } } ∧
      t.core.evten = (s.ports[p].core.evten &&& ~~~0x1FF) ||| (v &&& 0x1FF)) :=
  movesPort_control hw p v (by decide) rfl rfl rfl (fun _ _ => ⟨rfl, rfl, rfl⟩) (fun _ _ => ⟨rfl, rfl, rfl⟩)
    ⟨rfl, rw_write 0x1FF false _ v⟩

theorem movesPort_pdRxhead {s : State} (hw : hwUp s = true) (p : PortId) (v : Word) :
    MovesPort (.registerWrite (0x40200000 + 4096 * p.val + 0x530) v) s p (fun t => t = s.ports[p]) := by
  refine movesPort_control hw p v (by decide) rfl rfl rfl (fun _ _ => ⟨rfl, rfl, rfl⟩) (fun _ _ => ⟨rfl, rfl, rfl⟩) ?_
  simp only [Reg.written, ro_write]

/-- CC_DEB with its writable bits replaced. -/
def writeCcDeb (v : Word) (q : Port) : Port :=
  { q with cc := { q.cc with deb := (q.cc.deb &&& ~~~0xFFF00FF) ||| (v &&& 0xFFF00FF) } }

theorem portPlain_ccDeb (p : PortId) (v : Word) {s : State} (hl : linkUp s (dieOf p) = true) :
    portPlain p 0x10C v s = modFront p (writeCcDeb v) s := by
  rw [portPlain_listed p v s (by decide) rfl (fun _ _ => ⟨rfl, rfl, rfl⟩) (by simp [hl])]
  congr 1
  funext q
  simp only [Reg.written, rw_write, writeCcDeb]

theorem movesPort_ccDeb {s : State} (hw : hwUp s = true) (p : PortId) (v : Word) :
    MovesPort (.registerWrite (0x40200000 + 4096 * p.val + 0x10C) v) s p (fun t =>
      t = Port.reached (linkUp s (dieOf p)) (writeCcDeb v) s.ports[p] ∧
      (linkUp s (dieOf p) = false → t.cc = s.ports[p].cc)) := by
  have hx := registerWrite_port hw p (off := 0x10C) (by decide) (by decide) v
  cases hl : linkUp s (dieOf p)
  · rw [portPlain_linkDown p v (by decide) hl] at hx
    exact ⟨s, hx, rfl, fun _ _ => rfl, rfl, fun _ => rfl⟩
  · rw [portPlain_ccDeb p v hl] at hx
    exact movesPort_of_modFront hx ⟨by rw [hl], fun h => absurd h (by decide)⟩

/-! ## The watchdog and the safety registers -/

theorem placePlain_wdgTasken (v : Word) (s : State) :
    placePlain false (.block 2 0x010) v s = modWdg (fun r => { r with
      tasken := if wdgLocked s then r.tasken else (r.tasken &&& ~~~0xFFFF) ||| (v &&& 0xFFFF) }) s := by
  have key : ∀ r : WdgRegs, regWrite wdgRegs (wdgLocked s) 0x010 v r = { r with
      tasken := if wdgLocked s then r.tasken else (r.tasken &&& ~~~0xFFFF) ||| (v &&& 0xFFFF) } := by
    intro r
    rw [← rwl_write]
    rfl
  simp only [placePlain, if_pos (show 0x010 < 0x100 by decide), modWdg, key]

theorem placePlain_safEvt (v : Word) (s : State) :
    placePlain false (.block 2 0x104) v s =
      { s with saf := { s.saf with evt := s.saf.evt &&& ~~~(v &&& 0x3F) } } := by
  rw [← w1c_write 0x3F false]
  rfl

/-! ## The event router -/

theorem routeOf_setRoute (a : Nat) (b : Byte) (s : State) (src : Nat) :
    routeOf (setRoute a b s) src = if src = a then b else routeOf s src := by
  by_cases h : src = a
  · subst h
    simp only [routeOf, setRoute, cget_cput, if_true]
  · simp only [routeOf, setRoute, cput, if_neg h]
    split
    · rw [cget_cdel, if_neg h]
    · rw [cget_cins, if_neg h]

/-- The first `n` bytes of a write of routes at an offset of the router. -/
def putRoutes (off n : Nat) (v : Word) (s : State) : State :=
  (List.range n).foldl (fun s i =>
    if off + i < 1216 then setRoute (off + i) ((wordBytes v).getD i 0 &&& 0xBF) s else s) s

theorem routerPlain_eq_putRoutes (off : Nat) (v : Word) (s : State) : routerPlain off v s = putRoutes off 4 v s := rfl

theorem putRoutes_succ (off n : Nat) (v : Word) (s : State) (h : off + n < 1216) :
    putRoutes off (n + 1) v s = setRoute (off + n) ((wordBytes v).getD n 0 &&& 0xBF) (putRoutes off n v s) := by
  simp [putRoutes, List.range_succ, h]

theorem putRoutes_routes (off : Nat) (v : Word) (s : State) (n : Nat) (h : off + n ≤ 1216) :
    putRoutes off n v s = { s with host := { s.host with routes := (putRoutes off n v s).host.routes } } := by
  induction n with
  | zero => rfl
  | succ n ih =>
    rw [putRoutes_succ off n v s (by omega), ih (by omega)]
    rfl

theorem routeOf_putRoutes (off : Nat) (v : Word) (s : State) (src n : Nat) (h : off + n ≤ 1216) :
    routeOf (putRoutes off n v s) src =
      if off ≤ src ∧ src < off + n then (wordBytes v).getD (src - off) 0 &&& 0xBF else routeOf s src := by
  induction n with
  | zero => rw [if_neg (by omega)]; rfl
  | succ n ih =>
    rw [putRoutes_succ off n v s (by omega), routeOf_setRoute, ih (by omega)]
    by_cases he : src = off + n
    · rw [if_pos he, if_pos (by omega), show src - off = n by omega]
    · rw [if_neg he]
      exact if_congr (by omega) rfl rfl

theorem wordBytes_getD (v : Word) {i : Nat} (h : i < 4) :
    (wordBytes v).getD i 0 = BitVec.ofNat 8 (v.toNat / 256 ^ i) := by
  apply BitVec.eq_of_toNat_eq
  interval_cases i <;> simp [wordBytes, Nat.shiftRight_eq_div_pow]

/-- A word of the router takes its four routes, each without bit 6 (08 R236), and nothing else changes. -/
theorem registerWrite_routes {s : State} (hw : hwUp s = true) (k : Fin 304) (v : Word) :
    ∃ t, exec (.registerWrite (0x400D0000 + 4 * k.val) v) s = .next t ∧
      OnlyHost { s with host := { s.host with routes := t.host.routes } } t ∧
      ∀ src : Nat, routeOf t src =
        if 4 * k.val ≤ src ∧ src < 4 * k.val + 4 then
          BitVec.ofNat 8 (v.toNat / 256 ^ (src - 4 * k.val)) &&& 0xBF
        else routeOf s src := by
  have hk : 4 * k.val + 4 ≤ 1216 := by omega
  have hx : exec (.registerWrite (0x400D0000 + 4 * k.val) v) s = .next (routerPlain (4 * k.val) v s) :=
    registerWrite_block (n := 13) hw (by omega) (by omega) (by decide) (by decide) (by omega) v
  rw [routerPlain_eq_putRoutes] at hx
  refine ⟨_, hx, ?_, fun src => ?_⟩
  · rw [← putRoutes_routes (4 * k.val) v s 4 hk]
    exact ⟨rfl, rfl, rfl⟩
  · rw [routeOf_putRoutes (4 * k.val) v s src 4 hk]
    split
    next hin => rw [wordBytes_getD v (by omega)]
    next => rfl

/-! ## The obligation -/

/-- Settles O23, register by register: an address finds its place in the control pair's map, the place its register,
and the register's access code gives the bits that change. -/
theorem registerWritesObeyAccessCodes : Obligations.RegisterWritesObeyAccessCodes := by
  unfold Obligations.RegisterWritesObeyAccessCodes
  intro s v
  refine ⟨fun a ha => registerWrite_notGiven (pairPlace_notGiven ha) v s, fun a ha => ?_, fun hw =>
    ⟨fun p => ⟨movesPort_prtEvt hw p v, movesPort_prtEvten hw p v, movesPort_pdRxhead hw p v,
      movesPort_ccDeb hw p v⟩, ?_, ?_, fun k => registerWrite_routes hw k v⟩⟩
  · rcases ha with ha | ⟨hlo, hhi, hd⟩ | ha
    · exact registerWrite_outside (.inl ha) v s
    · have hp := pairPlace_block (a := a) (n := (a - 0x40000000) / 0x10000) (off := a % 0x10000) (by omega) (by omega)
        (by omega) (by simp; omega)
      exact registerWrite_discarded (by simp [hp]) hd v
    · exact registerWrite_outside (.inr ha) v s
  · have hx := registerWrite_block (a := 0x40020010) (n := 2) (off := 0x010) hw rfl (by decide) (by decide) (by decide)
      (by decide) v
    rw [placePlain_wdgTasken] at hx
    exact ⟨_, hx, rfl, rfl, rfl⟩
  · have hx := registerWrite_block (a := 0x40020104) (n := 2) (off := 0x104) hw rfl (by decide) (by decide) (by decide)
      (by decide) v
    rw [placePlain_safEvt] at hx
    exact ⟨_, hx, rfl⟩

end Sys2Proof.Machine

/-! SUPPORT. What an instruction of an engine may change (01 R20, 13 R358, Table DWX-11): the operations of one port
change that port alone, the operations of one engine that engine alone, and the places of an engine's map are its
memories, the ports of the skein it serves and its own control block. -/

namespace Sys2Proof.Machine
open Sys2Proof

/-! ## Changes of one port -/

/-- What belongs to one port may differ, and the caddy's common registers: its registers, its ledger entry and its
caddy window. -/
structure AtPort (p : PortId) (s t : State) : Prop where
  others : ∀ r : PortId, r ≠ p →
    t.ports[r] = s.ports[r] ∧ t.cadp[r] = s.cadp[r] ∧ t.cad.wres[r] = s.cad.wres[r]
  cad : { t.cad with regs := s.cad.regs, wres := s.cad.wres } = s.cad
  rest : { t with ports := s.ports, cadp := s.cadp, cad := s.cad } = s

section
variable {p : PortId} {s t u : State}

theorem AtPort.refl (p : PortId) (s : State) : AtPort p s s := ⟨fun _ _ => ⟨rfl, rfl, rfl⟩, rfl, rfl⟩

theorem AtPort.trans (h : AtPort p s t) (k : AtPort p t u) : AtPort p s u where
  others r hr := by
    obtain ⟨hp, hl, hw⟩ := h.others r hr
    obtain ⟨kp, kl, kw⟩ := k.others r hr
    exact ⟨kp.trans hp, kl.trans hl, kw.trans hw⟩
  cad := (congrArg (fun v : Caddy => { v with regs := s.cad.regs, wres := s.cad.wres }) k.cad).trans h.cad
  rest := (congrArg (fun v : State => { v with ports := s.ports, cadp := s.cadp, cad := s.cad }) k.rest).trans h.rest

theorem AtPort.ite {b : Prop} [Decidable b] (h : AtPort p s t) (k : AtPort p s u) :
    AtPort p s (if b then t else u) := by
  split
  · exact h
  · exact k

theorem AtPort.ite_self {b : Prop} [Decidable b] (h : AtPort p s t) : AtPort p s (if b then t else s) :=
  h.ite (.refl p s)

/-- A command that acts under a condition and always answers. -/
theorem AtPort.after_ite {b : Prop} [Decidable b] (h : AtPort p s t) :
    AtPort p s (after (.next (if b then t else s)) s) := h.ite_self

theorem atPort_modPort (p : PortId) (f : Port → Port) (s : State) : AtPort p s (modPort p f s) :=
  ⟨fun r hr => ⟨modPort_other p f s r hr, rfl, rfl⟩, rfl, rfl⟩

theorem atPort_modCad (p : PortId) (f : CadPort → CadPort) (s : State) : AtPort p s (modCad p f s) :=
  ⟨fun r hr => ⟨rfl, modCad_other p f s r hr, rfl⟩, rfl, rfl⟩

/-- A port's caddy window written. -/
theorem atPort_window (p : PortId) (w : Word) (s : State) :
    AtPort p s { s with cad := { s.cad with wres := s.cad.wres.set p w } } := by
  refine ⟨fun r hr => ⟨rfl, rfl, ?_⟩, rfl, rfl⟩
  have : p.val ≠ r.val := fun h => hr (Fin.ext h.symm)
  simp [this]

/-- The caddy's common registers written. -/
theorem atPort_cadRegs (p : PortId) (r : CadRegs) (s : State) : AtPort p s { s with cad := { s.cad with regs := r } } :=
  ⟨fun _ _ => ⟨rfl, rfl, rfl⟩, rfl, rfl⟩

/-! ## The ledger -/

theorem atPort_caddyRelease (p : PortId) (s : State) : AtPort p s (caddyRelease p s) := by
  unfold caddyRelease
  exact (atPort_modCad p _ s).trans (atPort_modPort p _ _)

theorem atPort_giveReserve (p : PortId) (l : Nat) (s : State) : AtPort p s (giveReserve p l s) :=
  (((atPort_cadRegs p _ s).trans (atPort_modCad p _ _)).trans (atPort_window p _ _)).trans (atPort_cadRegs p _ _)

theorem atPort_reserve (p : PortId) (s : State) : AtPort p s (reserve p s).1 := by
  unfold reserve
  dsimp only
  split
  · exact (atPort_modCad p _ s).trans (atPort_window p _ _)
  · split
    · exact atPort_giveReserve p _ s
    · exact ((atPort_modCad p _ s).trans (atPort_cadRegs p _ _)).trans (atPort_window p _ _)

theorem atPort_drawReserve (p : PortId) (s : State) : AtPort p s (drawReserve p s).1 :=
  (atPort_reserve p s).trans (atPort_window p _ _)

/-- A submission through the caddy window. -/
theorem atPort_cadWreq (p : PortId) (v : Word) (s : State) : AtPort p s (cadWreq p v s) := by
  unfold cadWreq
  dsimp only
  split
  · exact (atPort_reserve p s).after_ite
  · exact (atPort_modCad p _ s).after_ite
  · exact (atPort_modCad p _ s).after_ite
  · exact (atPort_modCad p _ s).after_ite
  · exact (atPort_modCad p _ s).after_ite
  · exact .refl p s

/-! ## The port's policy -/

theorem atPort_postPort (p : PortId) (ev : PortEvt) (d : Word) (s : State) : AtPort p s (postPort p ev d s) :=
  (atPort_modPort p _ s).ite_self

theorem atPort_refuseTarget (p : PortId) (v : Nat) (s : State) : AtPort p s (refuseTarget p v s) :=
  (atPort_modPort p _ s).trans (atPort_postPort p _ _ _)

theorem atPort_writeTarget (p : PortId) (v : Nat) (s : State) : AtPort p s (writeTarget p v s) :=
  (atPort_refuseTarget p v s).ite (atPort_modPort p _ s)

theorem atPort_vconnStart (p : PortId) (pin : Bool) (s : State) : AtPort p s (vconnStart p pin s) :=
  (atPort_modPort p _ s).ite (atPort_modPort p _ s)

theorem atPort_raise5 (p : PortId) (s : State) : AtPort p s (raise5 p s) :=
  (atPort_refuseTarget p 250 s).ite (atPort_modPort p _ s)

theorem atPort_castOnSource (p : PortId) (level : Nat) (s : State) : AtPort p s (castOnSource p level s) := by
  unfold castOnSource
  extract_lets o attached powered next
  have hattached : AtPort p s attached := atPort_modPort p _ s
  have hpowered : AtPort p attached powered := atPort_vconnStart p _ attached
  have hnext : AtPort p attached next := (hpowered.trans (atPort_modPort p _ powered).ite_self).ite_self
  exact (hattached.trans hnext).trans (atPort_raise5 p next)

theorem atPort_castOnSink (p : PortId) (s : State) : AtPort p s (castOnSink p s) :=
  (atPort_modPort p _ s).trans (atPort_postPort p _ _ _)

theorem atPort_castOn (p : PortId) (s : State) : AtPort p s (castOn p s) := by
  have hdrawn := atPort_drawReserve p s
  unfold castOn
  refine (AtPort.refl p s).ite ((atPort_modPort p _ s).ite ?_)
  generalize drawReserve p s = drawn at hdrawn ⊢
  obtain ⟨u, r⟩ := drawn
  cases r with
  | some l =>
    exact hdrawn.trans (((atPort_modPort p _ u).trans (atPort_castOnSource p l _)).trans (atPort_postPort p _ _ _))
  | none => exact hdrawn

theorem atPort_castAs (p : PortId) (s : State) : AtPort p s (castAs p s) :=
  (atPort_castOn p s).ite ((AtPort.refl p s).ite (atPort_castOnSink p s))

theorem atPort_polDebDone (p : PortId) (s : State) : AtPort p s (polDebDone p s) :=
  (AtPort.refl p s).ite <|
    ((AtPort.refl p s).ite ((atPort_modPort p _ s).ite (atPort_castAs p s))).ite
      ((atPort_modPort p _ s).ite (atPort_castAs p s))

theorem atPort_leaveHold (p : PortId) (s : State) : AtPort p s (leaveHold p s) :=
  (AtPort.refl p s).ite ((atPort_castAs p s).ite (atPort_polDebDone p s))

/-- A policy step is carried out or kept in the port's own context. -/
theorem AtPort.policy {f : State → State} (i : Instr) (h : AtPort p s (f s)) : AtPort p s (atPolicy p i f s) :=
  h.ite (atPort_modPort p _ s)

theorem atPort_retryClrWrite (p : PortId) (s : State) : AtPort p s (retryClrWrite p s) :=
  (atPort_modPort p _ s).trans (AtPort.policy _ (atPort_leaveHold p _)).ite_self

/-! ## Writes of a port block -/

theorem atPort_enteredState (p : PortId) (old : PortSt) (s : State) : AtPort p s (enteredState p old s) :=
  (atPort_caddyRelease p s).ite_self

theorem atPort_portPlain (p : PortId) (off : Nat) (v : Word) (s : State) : AtPort p s (portPlain p off v s) :=
  (AtPort.refl p s).ite <| (atPort_modPort p _ s).trans <| AtPort.ite_self <|
    (atPort_modPort p _ _).trans (atPort_enteredState p _ _)

theorem atPort_pathCtl (p : PortId) (v : Word) (s : State) : AtPort p s (pathCtl p v s) := by
  unfold pathCtl
  extract_lets q cen path
  have hcen : AtPort p s cen := (atPort_modPort p _ s).after_ite
  have hpath : AtPort p cen path := (atPort_modPort p _ cen).after_ite.ite (atPort_modPort p _ cen).ite_self
  exact (hcen.trans hpath).trans (((AtPort.refl p path).ite (atPort_modPort p _ path)).ite (atPort_modPort p _ path))

theorem atPort_pdSignal (p : PortId) (v : Word) (s : State) : AtPort p s (pdSignal p v s) :=
  ((atPort_modPort p _ s).after_ite.ite_self.trans (atPort_modPort p _ _).after_ite.ite_self).trans
    (atPort_modPort p _ _).after_ite.ite_self

/-- Every acting register of a port block changes its own port; PD_SIGNAL, PTH_CTL, PTH_STEEP and PTH_RETRY do so in
several steps, the others in one. -/
theorem atPort_portAct (p : PortId) (off : Nat) (v : Word) (s : State) : AtPort p s (portAct p off v s) := by
  unfold portAct
  refine (AtPort.refl p s).ite <| (atPort_modPort p _ s).after_ite.ite_self.ite <|
    (atPort_modPort p _ s).after_ite.ite_self.ite ?_
  split
  case h_1 | h_3 | h_6 | h_7 | h_8 => exact (atPort_modPort p _ s).after_ite
  case h_2 => exact atPort_modPort p _ s
  case h_4 | h_12 => exact (atPort_modPort p _ s).after_ite.ite_self
  case h_5 => exact atPort_pdSignal p v s
  case h_9 => exact atPort_pathCtl p v s
  case h_10 => exact (atPort_writeTarget p _ s).after_ite
  case h_11 => exact (atPort_retryClrWrite p s).after_ite.ite_self
  case h_13 => exact .refl p s

end

/-! ## What an engine's instruction may change -/

/-- What engine `e`, whose core is `c`, may change: the ports of the skein it serves with their ledger entries and
caddy windows, itself and its core, the latched lines of the other cores, the caddy's common registers, the shared
SRAM and the count of free values; with a word known to be uncorrectable also the error record, and what its event
reaches. The serving map stays, so that a step from `t` has the bounds of one from `s`. -/
structure Confined (c : CoreId) (e : EngId) (s t : State) : Prop where
  engmap : t.saf.engmap = s.saf.engmap
  ports : ∀ p : PortId, engineOf s (skeinOf p) ≠ some e →
    t.ports[p] = s.ports[p] ∧ t.cadp[p] = s.cadp[p] ∧ t.cad.wres[p] = s.cad.wres[p]
  engines : ∀ x : EngId, x ≠ e → t.engines[x] = s.engines[x]
  cores : ∀ y : CoreId, y ≠ c → { t.cores[y] with latched := s.cores[y].latched } = s.cores[y]
  cad : { t.cad with regs := s.cad.regs, wres := s.cad.wres } = s.cad
  rest : { t with ports := s.ports, cadp := s.cadp, cad := s.cad, engines := s.engines, cores := s.cores,
                  sram := s.sram, free := s.free, saf := s.saf, diag := s.diag, host := s.host, boot := s.boot } = s
  clean : s.diag.bad = [] → t.saf = s.saf ∧ t.diag = s.diag ∧ t.host = s.host ∧ t.boot = s.boot

/-- Which engine serves a skein follows from the serving map alone. -/
theorem engineOf_congr {s t : State} (h : t.saf.engmap = s.saf.engmap) (k : Fin 12) : engineOf t k = engineOf s k := by
  simp only [engineOf, h]

/-- A port on a line of an engine lies in a skein that the engine serves. -/
theorem engineOf_of_servedPort {s : State} {e : EngId} {k : Nat} {p : PortId} (h : servedPort s e k = some p) :
    engineOf s (skeinOf p) = some e := by
  unfold servedPort at h
  split at h
  next q hq =>
    have served : engineOf s q = some e := by
      have hm := List.mem_of_head? hq
      simpa [skeinsOf] using hm
    obtain ⟨hk, hp⟩ : k < 8 ∧ portOf (8 * q.val + k) = some p := by simpa using h
    unfold portOf at hp
    split at hp
    next hlt =>
      obtain rfl : _ = p := Option.some.inj hp
      have : skeinOf ⟨8 * q.val + k, hlt⟩ = q := by
        ext
        simp only [skeinOf]
        omega
      rw [this, served]
    next => cases hp
  next => cases h

section
variable {c : CoreId} {e : EngId} {s t u : State}

theorem Confined.refl (c : CoreId) (e : EngId) (s : State) : Confined c e s s :=
  ⟨rfl, fun _ _ => ⟨rfl, rfl, rfl⟩, fun _ _ => rfl, fun _ _ => rfl, rfl, rfl, fun _ => ⟨rfl, rfl, rfl, rfl⟩⟩

theorem Confined.trans (h : Confined c e s t) (k : Confined c e t u) : Confined c e s u where
  engmap := k.engmap.trans h.engmap
  ports p hp := by
    obtain ⟨hr, hl, hw⟩ := h.ports p hp
    obtain ⟨kr, kl, kw⟩ := k.ports p (by rwa [engineOf_congr h.engmap])
    exact ⟨kr.trans hr, kl.trans hl, kw.trans hw⟩
  engines x hx := (k.engines x hx).trans (h.engines x hx)
  cores y hy :=
    (congrArg (fun v : Core => { v with latched := s.cores[y].latched }) (k.cores y hy)).trans (h.cores y hy)
  cad := (congrArg (fun v : Caddy => { v with regs := s.cad.regs, wres := s.cad.wres }) k.cad).trans h.cad
  rest := (congrArg (fun v : State => { v with
    ports := s.ports, cadp := s.cadp, cad := s.cad, engines := s.engines, cores := s.cores, sram := s.sram,
    free := s.free, saf := s.saf, diag := s.diag, host := s.host, boot := s.boot }) k.rest).trans h.rest
  clean hb := by
    obtain ⟨hs, hd, hh, hboot⟩ := h.clean hb
    obtain ⟨ks, kd, kh, kboot⟩ := k.clean (by rw [hd, hb])
    exact ⟨ks.trans hs, kd.trans hd, kh.trans hh, kboot.trans hboot⟩

theorem Confined.ite {b : Prop} [Decidable b] (h : Confined c e s t) (k : Confined c e s u) :
    Confined c e s (if b then t else u) := by
  split
  · exact h
  · exact k

theorem Confined.ite_self {b : Prop} [Decidable b] (h : Confined c e s t) : Confined c e s (if b then t else s) :=
  h.ite (.refl c e s)

theorem Confined.after_ite {b : Prop} [Decidable b] (h : Confined c e s t) :
    Confined c e s (after (.next (if b then t else s)) s) := h.ite_self

theorem Confined.foldl {α : Type} (l : List α) {f : State → α → State} (h : ∀ s x, Confined c e s (f s x))
    (s : State) : Confined c e s (l.foldl f s) := by
  induction l generalizing s with
  | nil => exact .refl c e s
  | cons x l ih => exact (h s x).trans (ih (f s x))

/-- Changes of a port of the skein served. -/
theorem AtPort.confined {p : PortId} (c : CoreId) (h : AtPort p s t) (hp : engineOf s (skeinOf p) = some e) :
    Confined c e s t where
  engmap := congrArg (·.saf.engmap) h.rest
  ports r hr := h.others r fun hrp => hr (hrp ▸ hp)
  engines x _ := congrArg (·.engines[x]) h.rest
  cores y _ := by
    have : t.cores = s.cores := congrArg (·.cores) h.rest
    rw [this]
  cad := h.cad
  rest := congrArg (fun v : State => { v with
    ports := s.ports, cadp := s.cadp, cad := s.cad, engines := s.engines, cores := s.cores, sram := s.sram,
    free := s.free, saf := s.saf, diag := s.diag, host := s.host, boot := s.boot }) h.rest
  clean _ :=
    ⟨congrArg (·.saf) h.rest, congrArg (·.diag) h.rest, congrArg (·.host) h.rest, congrArg (·.boot) h.rest⟩

/-- Changes of the engine itself. -/
theorem confined_modEng (c : CoreId) (e : EngId) (f : Engine → Engine) (s : State) : Confined c e s (modEng e f s) :=
  ⟨rfl, fun _ _ => ⟨rfl, rfl, rfl⟩, fun x hx => modEng_other e f s x hx, fun _ _ => rfl, rfl, rfl,
    fun _ => ⟨rfl, rfl, rfl, rfl⟩⟩

/-- Changes of the engine's core. -/
theorem confined_modCore (c : CoreId) (e : EngId) (f : Core → Core) (s : State) : Confined c e s (modCore c f s) :=
  ⟨rfl, fun _ _ => ⟨rfl, rfl, rfl⟩, fun _ _ => rfl, fun y hy => by rw [modCore_other c f s y hy], rfl, rfl,
    fun _ => ⟨rfl, rfl, rfl, rfl⟩⟩

theorem confined_advance (c : CoreId) (e : EngId) (f : Form) (s : State) : Confined c e s (advance c f s) :=
  confined_modCore c e _ s

/-- A latched event line of any core set (13 R355). -/
theorem confined_modLatched (c : CoreId) (e : EngId) (x : CoreId) (f : Word → Word) (s : State) :
    Confined c e s (modCore x (fun k => { k with latched := f k.latched }) s) where
  engmap := rfl
  ports _ _ := ⟨rfl, rfl, rfl⟩
  engines _ _ := rfl
  cores y _ := by
    by_cases hy : y = x
    · subst hy
      simp
    · rw [modCore_other x _ s y hy]
  cad := rfl
  rest := rfl
  clean _ := ⟨rfl, rfl, rfl, rfl⟩

theorem confined_sram (c : CoreId) (e : EngId) (m : List Host.Cell) (s : State) : Confined c e s { s with sram := m } :=
  ⟨rfl, fun _ _ => ⟨rfl, rfl, rfl⟩, fun _ _ => rfl, fun _ _ => rfl, rfl, rfl, fun _ => ⟨rfl, rfl, rfl, rfl⟩⟩

theorem confined_free (c : CoreId) (e : EngId) (n : Nat) (s : State) : Confined c e s { s with free := n } :=
  ⟨rfl, fun _ _ => ⟨rfl, rfl, rfl⟩, fun _ _ => rfl, fun _ _ => rfl, rfl, rfl, fun _ => ⟨rfl, rfl, rfl, rfl⟩⟩

/-! ## Words known to be uncorrectable -/

theorem bad_ne_nil_of_badWord {pl : Place} {w : Nat × Nat} (h : badWord s c pl = some w) : s.diag.bad ≠ [] := by
  intro hb
  cases pl <;> simp [badWord, hb] at h

theorem eq_of_onlyHost (h : OnlyHost s t) : t = { s with host := t.host } :=
  congrArg (fun v : State => { v with host := t.host }) h.1

theorem onlyHost_postSys (src : Nat) (d : Word) (s : State) : OnlyHost s (postSys src d s) := by
  unfold postSys postSysAt
  split
  · obtain ⟨-, -, -, honly⟩ := ringEvent_host { time := s.time, src := src, seq := s.host.sysSeq, data := d }
      { s with host := { s.host with sysSeq := (s.host.sysSeq + 1) % 256 } }
    refine onlyHost_trans ?_ honly
    exact ⟨rfl, rfl, rfl⟩
  · exact ⟨rfl, rfl, rfl⟩

/-- An event of the control pair reaches the host side, or waits for RUN. -/
theorem postCp_eq (src : Nat) (d : Word) (s : State) :
    ∃ h b, postCp src d s = { s with host := h, boot := b } := by
  unfold postCp
  split
  · exact ⟨_, _, eq_of_onlyHost (onlyHost_postSys src d s)⟩
  · exact ⟨_, _, rfl⟩

/-- The record of an uncorrectable word leaves the serving map. -/
theorem confined_eccRecord (c : CoreId) (e : EngId) (m a : Nat) (hb : s.diag.bad ≠ []) :
    Confined c e s (eccRecord m a s) := by
  unfold eccRecord
  obtain ⟨h, b, heq⟩ := postCp_eq 1167 (BitVec.ofNat 32 (m + 256)) (safEvt F.SAF_EVT.UNCORR { s with
    diag := { s.diag with bad := (m, a) :: s.diag.bad.filter (· ≠ (m, a)) }
    saf := { s.saf with
      erraddr := BitVec.ofNat 32 a
      errmem := F.SAF_ERRMEM.VALID.set (F.SAF_ERRMEM.MEM.put m s.saf.errmem) } })
  rw [heq]
  exact ⟨rfl, fun _ _ => ⟨rfl, rfl, rfl⟩, fun _ _ => rfl, fun _ _ => rfl, rfl, rfl, fun h => absurd h hb⟩

theorem confined_mended (c : CoreId) (e : EngId) (pl : Place) (n : Nat) (s : State) :
    Confined c e s (mended c pl n s) := by
  unfold mended
  split
  next w hw =>
    exact Confined.ite_self ⟨rfl, fun _ _ => ⟨rfl, rfl, rfl⟩, fun _ _ => rfl, fun _ _ => rfl, rfl, rfl,
      fun h => absurd h (bad_ne_nil_of_badWord hw)⟩
  next => exact .refl c e s

/-! ## The engine's control block -/

theorem confined_modTmr (c : CoreId) (e : EngId) (n : Nat) (f : Tmr → Tmr) (s : State) :
    Confined c e s (modTmr (.engine e) n f s) := by
  unfold modTmr
  split
  · unfold putTmr
    dsimp only
    split
    · exact confined_modEng c e _ s
    · exact .refl c e s
  · exact .refl c e s

theorem confined_forTmrs (c : CoreId) (e : EngId) (v : Word) (f : Tmr → Tmr) (s : State) :
    Confined c e s (forTmrs (.engine e) v f s) :=
  Confined.foldl _ (fun s n => confined_modTmr c e n f s) s

theorem confined_timerPlain (c : CoreId) (e : EngId) (top off : Nat) (v : Word) (s : State) :
    Confined c e s (timerPlain (.engine e) top off v s) :=
  (Confined.refl c e s).ite (confined_modTmr c e _ _ s)

theorem confined_timerAct (c : CoreId) (e : EngId) (top off : Nat) (v : Word) (s : State) :
    Confined c e s (timerAct (.engine e) top off v s) :=
  (confined_forTmrs c e _ _ s).after_ite.ite <| (confined_forTmrs c e _ _ s).after_ite.ite <|
    (confined_forTmrs c e _ _ s).after_ite.ite <| (confined_modTmr c e _ _ s).after_ite.ite_self

theorem confined_tmrCntLatch (c : CoreId) (e : EngId) (n : Nat) (s : State) :
    Confined c e s (tmrCntLatch (.engine e) n s) := by
  unfold tmrCntLatch
  refine (confined_modTmr c e _ _ s).ite (Confined.ite_self ?_)
  split
  · exact confined_modTmr c e _ _ s
  · exact .refl c e s

theorem confined_cycLatch (c : CoreId) (e : EngId) (s : State) : Confined c e s (cycLatch e s) := by
  unfold cycLatch
  exact confined_modEng c e _ s

theorem confined_enginePlain (c : CoreId) (e : EngId) (off : Nat) (v : Word) (s : State) :
    Confined c e s (enginePlain true e off v s) := by
  unfold enginePlain
  refine (Confined.refl c e s).ite <| (confined_modEng c e _ s).ite <| (confined_timerPlain c e _ _ v s).ite
    (Confined.ite_self ?_)
  split
  next p hp => exact (atPort_window p _ s).confined c (engineOf_of_servedPort hp)
  next => exact .refl c e s

theorem confined_engineAct (c : CoreId) (e : EngId) (off : Nat) (v : Word) (s : State) :
    Confined c e s (engineAct true e off v s) := by
  unfold engineAct
  rw [if_neg (by simp), if_neg (by simp)]
  refine (confined_modEng c e _ s).after_ite.ite <| (confined_timerAct c e _ _ v s).ite (Confined.ite_self ?_)
  split
  next p hp => exact (atPort_cadWreq p v s).confined c (engineOf_of_servedPort hp)
  next => exact .refl c e s

/-! ## The engine's map (13 Table DWX-11) -/

/-- A place of the data map of engine `e`. -/
inductive Place.Of (s : State) (e : EngId) : Place → Prop
  | dmem (a : Nat) : Place.Of s e (.dmem a)
  | sram (a : Nat) : Place.Of s e (.sram a)
  | port (p : PortId) (off : Nat) : engineOf s (skeinOf p) = some e → Place.Of s e (.port p off)
  | engine (off : Nat) : Place.Of s e (.engine e off)
  | none : Place.Of s e .none

theorem enginePlace_of (s : State) (e : EngId) (a : Nat) : (enginePlace s e a).Of s e := by
  unfold enginePlace
  split
  · exact .dmem a
  · split
    · exact .sram a
    · split
      · split
        next p hp => exact .port p _ (engineOf_of_servedPort hp)
        next => exact .none
      · split
        · exact .engine _
        · exact .none

theorem placeOf_of (hc : engineCore c = some e) (s : State) (a : Nat) : (placeOf s c a).Of s e := by
  simp only [placeOf, hc]
  exact enginePlace_of s e a

theorem confined_readEffect (c : CoreId) {pl : Place} (h : pl.Of s e) : Confined c e s (readEffect pl s) := by
  cases h with
  | dmem a => exact .refl c e s
  | sram a => exact .refl c e s
  | none => exact .refl c e s
  | port p off hp =>
    unfold readEffect
    split
    case h_1 => exact confined_free c e _ s
    case h_2 => exact (confined_free c e _ s).ite_self
    case h_10 => exact .refl c e s
    case h_3 | h_4 | h_5 | h_6 | h_7 | h_8 | h_9 => contradiction
  | engine off =>
    exact (confined_cycLatch c e s).ite <| (confined_modEng c e _ s).ite (confined_tmrCntLatch c e _ s).ite_self

theorem confined_placePlain (c : CoreId) {pl : Place} (h : pl.Of s e) (v : Word) :
    Confined c e s (placePlain true pl v s) := by
  cases h with
  | dmem a => exact .refl c e s
  | sram a => exact .refl c e s
  | none => exact .refl c e s
  | port p off hp => exact (atPort_portPlain p off v s).confined c hp
  | engine off => exact confined_enginePlain c e off v s

theorem confined_placeAct (c : CoreId) {pl : Place} (h : pl.Of s e) (v : Word) :
    Confined c e s (placeAct true pl v s) := by
  cases h with
  | dmem a => exact .refl c e s
  | sram a => exact .refl c e s
  | none => exact .refl c e s
  | port p off hp => exact (atPort_portAct p off v s).confined c hp
  | engine off => exact confined_engineAct c e off v s

/-- The engine's map changes with the serving map alone. -/
theorem Place.Of.congr {pl : Place} (h : pl.Of s e) (hm : t.saf.engmap = s.saf.engmap) : pl.Of t e := by
  cases h with
  | dmem a => exact .dmem a
  | sram a => exact .sram a
  | none => exact .none
  | port p off hp => exact .port p off (by rwa [engineOf_congr hm])
  | engine off => exact .engine off

theorem confined_placeWrite (c : CoreId) {pl : Place} (h : pl.Of s e) (v : Word) :
    Confined c e s (placeWrite true pl v s) :=
  have plain := confined_placePlain c h v
  plain.trans (confined_placeAct c (h.congr plain.engmap) v)

/-! ## Loads and stores on the bus -/

theorem confined_busLoad (hc : engineCore c = some e) {a n : Nat} {v : Word} (h : busLoad c a n s = .ok (v, t)) :
    Confined c e s t := by
  have hpl := placeOf_of hc s a
  unfold busLoad at h
  dsimp only at h
  split at h
  · cases h
  · split at h <;> cases h
  · cases h; exact .refl c e s
  · cases h; exact .refl c e s
  · split at h
    · cases h; exact confined_readEffect c hpl
    · cases h

theorem confined_busStore (hc : engineCore c = some e) {a n : Nat} {v : Word} (h : busStore c a n v s = .ok t) :
    Confined c e s t := by
  have hpl := placeOf_of hc s a
  unfold busStore at h
  dsimp only at h
  split at h
  · cases h
  · split at h <;> cases h
  · cases h; exact (confined_mended c e _ n s).trans (confined_modCore c e _ _)
  · cases h; exact (confined_mended c e _ n s).trans (confined_sram c e _ _)
  · split at h
    · cases h
      rw [hc]
      exact confined_placeWrite c hpl v
    · cases h

/-! ## The shared operations of the instructions -/

theorem confined_faultCore (hc : engineCore c = some e) (code : Nat) (s : State) :
    Confined c e s (faultCore c code s) := by
  simp only [faultCore, hc]
  exact confined_modEng c e _ s

theorem confined_setCoreState (hc : engineCore c = some e) (n : Nat) (s : State) :
    Confined c e s (setCoreState n c s) := by
  simp only [setCoreState, hc]
  exact confined_modEng c e _ s

/-- An instruction that issues is confined where its body is; one that does not issue changes the engine or its core
at most. -/
theorem confined_issue (hc : engineCore c = some e) {f : Form} {gd : Fin 8}
    {body : State → Host.Outcome State Fault Refusal} (h : issue c f gd body s = .next t)
    (hbody : body s = .next t → Confined c e s t) : Confined c e s t := by
  unfold issue at h
  dsimp only at h
  split at h
  · cases h; exact .refl c e s
  · split at h
    · cases h; exact confined_faultCore hc 2 s
    · split at h
      · exact hbody h
      · cases h; exact confined_advance c e f s

/-- As above, for a body that changes the core and moves on. -/
theorem confined_issue_modCore (hc : engineCore c = some e) {f : Form} {gd : Fin 8} {g : State → Core → Core}
    (h : issue c f gd (fun s => .next (advance c f (modCore c (g s) s))) s = .next t) : Confined c e s t :=
  confined_issue hc h fun hb => by
    cases hb; exact (confined_modCore c e _ s).trans (confined_advance c e f _)

theorem confined_writesReg (hc : engineCore c = some e) {f : Form} {gd : Fin 8} {d : Fin 16} {v : Core → Word}
    (h : writesReg c f gd d v s = .next t) : Confined c e s t :=
  confined_issue_modCore hc h

theorem confined_compare (hc : engineCore c = some e) {f : Form} {gd : Fin 8} {mode pd : Fin 4} {r : Rel}
    {x y : Core → Word} (h : compare c f gd mode pd r x y s = .next t) : Confined c e s t :=
  confined_issue hc h fun hb => by
    dsimp only at hb
    split at hb
    · cases hb; exact (confined_modCore c e _ s).trans (confined_advance c e f _)
    · cases hb; exact confined_faultCore hc 1 s

theorem confined_load (hc : engineCore c = some e) {f : Form} {gd : Fin 8} {d b : Fin 16} {off : Int} {n : Nat}
    {sx : Bool} (h : load c f gd d b off n sx s = .next t) : Confined c e s t :=
  confined_issue hc h fun hb => by
    dsimp only at hb
    split at hb
    · cases hb; exact confined_faultCore hc 3 s
    · split at hb
      next m w hw =>
        cases hb
        exact (confined_eccRecord c e m w (bad_ne_nil_of_badWord hw)).trans (confined_faultCore hc 5 _)
      next =>
        split at hb
        next v u hu =>
          cases hb
          exact ((confined_busLoad hc hu).trans (confined_modCore c e _ u)).trans (confined_advance c e f _)
        next => cases hb; exact confined_faultCore hc 4 s
        next => cases hb

theorem confined_store (hc : engineCore c = some e) {f : Form} {gd : Fin 8} {d b : Fin 16} {off : Int} {n : Nat}
    (h : store c f gd d b off n s = .next t) : Confined c e s t :=
  confined_issue hc h fun hb => by
    dsimp only at hb
    split at hb
    · cases hb; exact confined_faultCore hc 3 s
    · split at hb
      next u hu => cases hb; exact (confined_advance c e f s).trans (confined_busStore hc hu)
      next => cases hb; exact confined_faultCore hc 4 s
      next => cases hb

theorem confined_jump (hc : engineCore c = some e) {f : Form} {gd : Fin 8} {link : Bool} {target : Core → Nat}
    {odd : Core → Bool} (h : jump c f gd link target odd s = .next t) : Confined c e s t :=
  confined_issue hc h fun hb => by
    dsimp only at hb
    split at hb
    · cases hb; exact confined_faultCore hc 1 s
    · cases hb; exact confined_modCore c e _ s

theorem confined_branch (hc : engineCore c = some e) {f : Form} {gd : Fin 8} {link : Bool} {off : Int}
    (h : branch c f gd link off s = .next t) : Confined c e s t := confined_jump hc h

theorem confined_jumpReg (hc : engineCore c = some e) {f : Form} {gd : Fin 8} {link : Bool} {r : Fin 16} {off : Int}
    (h : jumpReg c f gd link r off s = .next t) : Confined c e s t := confined_jump hc h

theorem confined_advances (hc : engineCore c = some e) {f : Form} {gd : Fin 8}
    (h : issue c f gd (fun s => .next (advance c f s)) s = .next t) : Confined c e s t :=
  confined_issue hc h fun hb => by cases hb; exact confined_advance c e f s

theorem confined_waitOn (hc : engineCore c = some e) (f : Form) (d : Fin 16) (mask : Word) (dl : Option Nat)
    (s : State) : Confined c e s (waitOn c f d mask dl s) :=
  (confined_modCore c e _ s).ite ((confined_modCore c e _ s).trans (confined_setCoreState hc 2 _))

theorem confined_execWfe (hc : engineCore c = some e) {f : Form} {gd : Fin 8} {d r : Fin 16}
    (h : execWfe c f gd d r s = .next t) : Confined c e s t :=
  confined_issue hc h fun hb => by cases hb; exact confined_waitOn hc f d _ _ s

theorem confined_execWuntil (hc : engineCore c = some e) {f : Form} {gd : Fin 8} {d r : Fin 16}
    (h : execWuntil c f gd d r s = .next t) : Confined c e s t :=
  confined_issue hc h fun hb => by
    dsimp only at hb
    split at hb
    · cases hb; exact confined_faultCore hc 1 s
    · cases hb; exact confined_waitOn hc f d _ _ s

theorem confined_raiseSev (c : CoreId) (e : EngId) (w : Word) (s : State) : Confined c e s (raiseSev c w s) :=
  Confined.foldl _ (fun s x => (confined_modLatched c e x _ s).ite_self) s

theorem confined_execSev (hc : engineCore c = some e) {f : Form} {gd : Fin 8} {r : Fin 16}
    (h : execSev c f gd r s = .next t) : Confined c e s t :=
  confined_issue hc h fun hb => by
    cases hb; exact (confined_raiseSev c e _ s).trans (confined_advance c e f _)

end

/-! ## The obligation -/

/-- A DWX instruction of an engine stays within what the engine may change, by the shared operation that gives the
instruction its meaning. -/
theorem confined_exec {i : Instr} {c : CoreId} {f : Form} {gd : Fin 8} {e : EngId} {s t : State}
    (hi : dwx? i = some (c, f, gd)) (hc : engineCore c = some e) (h : exec i s = .next t) : Confined c e s t := by
  cases i
  case add | sub | and | or | xor | shl | shr | sar | mul | mulhu | mulhs | min | max | minu | maxu | addi | andi | ori
      | xori | shli | shri | sari | movl | movh | mov | movi | not | neg | sextb | sexth | zexth | pget =>
    cases hi; unfold exec at h; exact confined_writesReg hc h
  case ceq | cne | clt | cge | cltu | cgeu | ceqi | cnei | clti | cgei | cltui | cgeui =>
    cases hi; unfold exec at h; exact confined_compare hc h
  case ldb | ldbs | ldh | ldhs | ldw => cases hi; unfold exec at h; exact confined_load hc h
  case stb | sth | stw => cases hi; unfold exec at h; exact confined_store hc h
  case br | call => cases hi; unfold exec at h; exact confined_branch hc h
  case jr | callr | ret => cases hi; unfold exec at h; exact confined_jumpReg hc h
  case mfs | mts | pput => cases hi; unfold exec at h; exact confined_issue_modCore hc h
  case nop | fence => cases hi; unfold exec at h; exact confined_advances hc h
  case wfe => cases hi; unfold exec at h; exact confined_execWfe hc h
  case wuntil => cases hi; unfold exec at h; exact confined_execWuntil hc h
  case sev => cases hi; unfold exec at h; exact confined_execSev hc h
  all_goals cases hi

/-- Settles O60: the places of an engine's map are its own, its skein's or the shared SRAM, and each operation on them
keeps to the port or the engine it is about. -/
theorem engineStaysInItsSkein : Obligations.EngineStaysInItsSkein := by
  unfold Obligations.EngineStaysInItsSkein
  intro i c f gd e s t hi hc h
  obtain ⟨-, hports, hengines, hcores, hcad, hrest, hclean⟩ := confined_exec hi hc h
  exact ⟨hports, hengines, hcores, hcad, hrest, hclean⟩

end Sys2Proof.Machine

/-! SUPPORT. What the engines submit to the caddy (06 R163 to R167, R174): a reservation by where its units come from, and
the submissions that change one port's ledger entry alone. -/

namespace Sys2Proof.Machine
open Sys2Proof

/-! ## Commands that change one ledger entry -/

theorem movesLedger_of_modCad {i : Instr} {s : State} {p : PortId} {f : CadPort → CadPort} {R : CadPort → Prop}
    (h : exec i s = .next (modCad p f s)) (hR : R (f s.cadp[p])) : MovesLedger i s p R := by
  refine ⟨_, h, rfl, fun r hr => modCad_other p f s r hr, ?_⟩
  have hp : (modCad p f s).cadp[p] = f s.cadp[p] := modCad_self p f s
  rwa [hp]

theorem exec_withdraw (p : PortId) (s : State) :
    exec (.withdraw p) s = .next (if hwUp s then submitWithdraw p s else s) := rfl

theorem exec_done (p : PortId) (v w : Nat) (s : State) :
    exec (.done p v w) s = .next (if hwUp s then submitDone p v w s else s) := rfl

theorem exec_reserve (p : PortId) (s : State) :
    exec (.reserve p) s = .next (if hwUp s && !unpopulated s p then (reserve p s).1 else s) := rfl

theorem exec_prearm (p : PortId) (v w : Nat) (s : State) :
    exec (.prearm p v w) s = .next (if hwUp s && !unpopulated s p then submit p true v w s else s) := rfl

theorem exec_caddyRequest (p : PortId) (v w : Nat) (s : State) :
    exec (.caddyRequest p v w) s = .next (if hwUp s && !unpopulated s p then submit p false v w s else s) := rfl

theorem exec_upgradeHoldEnd (p : PortId) (s : State) :
    exec (.upgradeHoldEnd p) s = .next (if s.cadp[p].upg.isSome && !F.CAD_STAT.PAUSED.on s.cad.regs.stat then
      submitWithdraw p (modCad p (fun c => { c with upg := none, stand := none }) s) else s) := rfl

theorem modCad_modCad (p : PortId) (f g : CadPort → CadPort) (s : State) :
    modCad p g (modCad p f s) = modCad p (fun c => g (f c)) s := by
  simp [modCad]

/-! ## The level that a balance covers (06 R163) -/

theorem levelFor_succ (s : State) (bal l : Nat) : levelFor s bal (l + 1) =
    if unitsAt s 50 (levelPout (l + 1)) ≤ bal then some (l + 1) else levelFor s bal l := rfl

/-- The highest level at or below `l` that the balance covers. -/
theorem levelFor_eq_some {s : State} {bal k : Nat} (hk : unitsAt s 50 (levelPout k) ≤ bal) :
    ∀ {l : Nat}, k ≤ l → (∀ n, k < n → n ≤ l → bal < unitsAt s 50 (levelPout n)) → levelFor s bal l = some k
  | 0, hl, _ => by
    obtain rfl : k = 0 := by omega
    exact if_pos hk
  | l + 1, hl, hn => by
    rw [levelFor_succ]
    by_cases h : k = l + 1
    · subst h
      exact if_pos hk
    · rw [if_neg (Nat.not_le.mpr (hn (l + 1) (by omega) le_rfl))]
      exact levelFor_eq_some hk (by omega) fun n h1 h2 => hn n h1 (by omega)

theorem levelFor_eq_none {s : State} {bal : Nat} :
    ∀ {l : Nat}, (∀ n, n ≤ l → bal < unitsAt s 50 (levelPout n)) → levelFor s bal l = none
  | 0, hn => if_neg (Nat.not_le.mpr (hn 0 le_rfl))
  | l + 1, hn => by
    rw [levelFor_succ, if_neg (Nat.not_le.mpr (hn (l + 1) le_rfl))]
    exact levelFor_eq_none fun n h => hn n (by omega)

/-! ## What a reservation leaves (06 R163) -/

theorem reserve_ports (p : PortId) (s : State) : (reserve p s).1.ports = s.ports := by
  unfold reserve
  dsimp only
  split
  · rfl
  · split <;> rfl

/-- Beside the caddy nothing differs, and in it neither another port's ledger entry nor its window. -/
theorem reserve_onlyCaddy (p : PortId) (s : State) :
    { (reserve p s).1 with cad := s.cad, cadp := s.cadp } = s ∧
      ∀ r : PortId, r ≠ p → (reserve p s).1.cadp[r] = s.cadp[r] ∧ (reserve p s).1.cad.wres[r] = s.cad.wres[r] := by
  obtain ⟨hothers, -, hrest⟩ := atPort_reserve p s
  have hports := reserve_ports p s
  refine ⟨?_, fun r hr => (hothers r hr).2⟩
  generalize (reserve p s).1 = t at *
  cases t
  cases s
  subst hports
  exact hrest

/-- A result stands in the window with its outcome and its level or power (06 R176). -/
theorem windowHolds_putResult (p : PortId) {outcome : Nat} (ho : outcome < 8) (gout : Nat) (s : State) :
    windowHolds (putResult p outcome gout s) p outcome gout := by
  have hw : (putResult p outcome gout s).cad.wres[p] = F.CAD_WRES.GOUT.put gout (F.CAD_WRES.ROW.put s.cad.row
      (F.CAD_WRES.OUTCOME.put outcome (F.CAD_WRES.VALID.set 0))) := by simp [putResult]
  rw [windowHolds, hw]
  refine ⟨?_, ?_, get_put _ (by decide) _ _⟩
  · rw [on_put_apart _ _ (by decide), on_put_apart _ _ (by decide), on_put_apart _ _ (by decide)]
    exact on_set _ (by decide) (by decide) _
  · rw [get_put_apart _ _ (by decide), get_put_apart _ _ (by decide), get_put _ (by decide)]
    exact Nat.mod_eq_of_lt ho

theorem poolBal_setPoolBal {n : Nat} (hn : n < 65536) (s : State) : poolBal (setPoolBal n s) = n :=
  (get_put F.CAD_POOL.BAL (by decide) n _).trans (Nat.mod_eq_of_lt hn)

theorem hold_setHold (n : Nat) (c : CadPort) : (c.setHold n).hold = n % 65536 :=
  get_put F.CAD_PHOLD.HOLD (by decide) n _

/-- A pre-arm holding covers the level that the port asks for (06 R163). -/
abbrev prearmCovers (p : PortId) (s : State) : Prop :=
  s.ports[p].pol.prearmed = true ∧
    unitsAt s 50 (levelPout (askedLevel s.cadp[p])) ≤ s.cadp[p].hold - s.cadp[p].relAmt

section
variable {p : PortId} {s : State}

theorem prearmed_and_covers (p : PortId) (s : State) : (s.ports[p].pol.prearmed &&
    decide (unitsAt s 50 (levelPout (askedLevel s.cadp[p])) ≤ s.cadp[p].hold - s.cadp[p].relAmt)) =
      decide (prearmCovers p s) := by
  rw [Bool.decide_and, Bool.decide_eq_true]

theorem reserve_of_prearm (h : prearmCovers p s) :
    (reserve p s).1 = putResult p 6 (askedLevel s.cadp[p])
      (modCad p (fun c => { c with floor := unitsAt s 50 (levelPout (askedLevel s.cadp[p])) }) s) := by
  simp only [reserve, prearmed_and_covers, decide_eq_true h, if_true]

theorem reserve_of_pool {k : Nat} (h : ¬prearmCovers p s)
    (hk : levelFor s (poolBal s) (askedLevel s.cadp[p]) = some k) : (reserve p s).1 = giveReserve p k s := by
  simp only [reserve, prearmed_and_covers, decide_eq_false h, Bool.false_eq_true, if_false, hk]

theorem reserve_waits (h : ¬prearmCovers p s)
    (hk : levelFor s (poolBal s) (askedLevel s.cadp[p]) = none) :
    (reserve p s).1 = putResult p 7 0 (cadEvt F.CAD_EVT.POOL_EMPTY
      (modCad p (fun c => { c with regs.phold := F.CAD_PHOLD.WAIT5.set c.regs.phold }) s)) := by
  simp only [reserve, prearmed_and_covers, decide_eq_false h, Bool.false_eq_true, if_false, hk]

end

/-- A level drawn from the pool: the balance falls, the holding rises, WAIT5 ends, and CAD_COMMIT follows. -/
theorem giveReserve_draws {p : PortId} {k : Nat} {s : State} :
    let t := giveReserve p k s
    let u := unitsAt s 50 (levelPout k)
    windowHolds t p 6 k ∧ poolBal t = poolBal s - u ∧ t.cadp[p].hold = (s.cadp[p].hold + u) % 65536 ∧
      t.cadp[p].floor = u ∧ F.CAD_PHOLD.WAIT5.on t.cadp[p].regs.phold = false ∧
      F.CAD_COMMIT.VALUE.get t.cad.regs.commit = committed t % 1048576 := by
  intro t u
  have hbal : poolBal s < 65536 := get_lt F.CAD_POOL.BAL _
  have hentry : t.cadp[p] = { (s.cadp[p].setHold (s.cadp[p].hold + u)) with
      floor := u, wait5Age := 0,
      regs.phold := F.CAD_PHOLD.WAIT5.clr (s.cadp[p].setHold (s.cadp[p].hold + u)).regs.phold } := by
    simp [t, u, giveReserve, syncCommit, putResult, setPoolBal]
  refine ⟨windowHolds_putResult p (by decide) k _, poolBal_setPoolBal (by omega) s, ?_, ?_, ?_,
    get_put F.CAD_COMMIT.VALUE (by decide) _ _⟩
  · rw [hentry]
    exact (get_clr_apart _ _ (by decide) _).trans (hold_setHold _ _)
  · rw [hentry]
  · rw [hentry]
    exact on_clr _ _

/-- The port waits: WAIT5 and POOL_EMPTY, with holding and balance as they were. -/
theorem waitResult_waits (p : PortId) (s : State) :
    let t := putResult p 7 0 (cadEvt F.CAD_EVT.POOL_EMPTY
      (modCad p (fun c => { c with regs.phold := F.CAD_PHOLD.WAIT5.set c.regs.phold }) s))
    windowHolds t p 7 0 ∧ t.cadp[p].hold = s.cadp[p].hold ∧ poolBal t = poolBal s ∧
      F.CAD_PHOLD.WAIT5.on t.cadp[p].regs.phold = true ∧ F.CAD_EVT.POOL_EMPTY.on t.cad.regs.evt = true := by
  intro t
  have hentry : t.cadp[p] = { s.cadp[p] with regs.phold := F.CAD_PHOLD.WAIT5.set s.cadp[p].regs.phold } := by
    simp [t, putResult, cadEvt]
  refine ⟨windowHolds_putResult p (by decide) 0 _, ?_, rfl, ?_, on_set _ (by decide) (by decide) _⟩
  · rw [hentry]
    exact get_set_apart _ _ (by decide) _
  · rw [hentry]
    exact on_set _ (by decide) (by decide) _

/-- A submission takes the place of an earlier and of a standing one, and keeps its age (06 R167). -/
theorem submit_eq (p : PortId) (early : Bool) (v w : Nat) (s : State) :
    submit p early v w s = modCad p (fun c => { c with
      req := some { volt := v, pout := w, prearm := early, age := match c.req, c.stand with
        | some r, _ => r.age
        | none, some r => r.age
        | none, none => 0 }
      stand := none }) s := rfl

/-- Settles O43: a reservation takes one of three ways, by what covers its level; every other submission changes the port's
ledger entry alone. -/
theorem caddySubmissions : Obligations.CaddySubmissions := by
  unfold Obligations.CaddySubmissions
  intro p s c l u onlyCaddy
  refine ⟨fun hd => ?_, fun hw => ?_, fun hd => ?_, fun hw hpop => ?_, fun hd => ?_, fun hupg hrun => ?_, rfl⟩
  · simp [exec_withdraw, exec_done, hd]
  · exact ⟨movesLedger_of_modCad (by rw [exec_withdraw, if_pos hw]; rfl) rfl,
      fun v w => movesLedger_of_modCad (by rw [exec_done, if_pos hw]; rfl) rfl⟩
  · have hno : (hwUp s && !unpopulated s p) = false := by rcases hd with h | h <;> simp [h]
    simp [exec_reserve, exec_prearm, exec_caddyRequest, hno]
  · have hyes : (hwUp s && !unpopulated s p) = true := by simp [hw, hpop]
    have hex : exec (.reserve p) s = .next (reserve p s).1 := by rw [exec_reserve, if_pos hyes]
    have honly : onlyCaddy (reserve p s).1 := reserve_onlyCaddy p s
    refine ⟨fun hc => ?_, fun hc k hk hbal hmax => ?_, fun hc hmax => ?_, fun v w => ⟨?_, ?_⟩⟩
    · refine ⟨_, hex, honly, ?_⟩
      rw [reserve_of_prearm hc]
      exact ⟨windowHolds_putResult p (by decide) l _, by simp [putResult, c, u, l, askedLevel], rfl⟩
    · refine ⟨_, hex, honly, ?_⟩
      rw [reserve_of_pool hc (levelFor_eq_some hbal hk hmax)]
      exact giveReserve_draws
    · refine ⟨_, hex, honly, ?_⟩
      rw [reserve_waits hc (levelFor_eq_none hmax)]
      exact waitResult_waits p s
    · exact movesLedger_of_modCad (by rw [exec_prearm, if_pos hyes, submit_eq]) rfl
    · exact movesLedger_of_modCad (by rw [exec_caddyRequest, if_pos hyes, submit_eq]) rfl
  · have hno : (c.upg.isSome && !F.CAD_STAT.PAUSED.on s.cad.regs.stat) = false := by rcases hd with h | h <;> simp [h]
    exact (exec_upgradeHoldEnd p s).trans (by simp [show s.cadp[p] = c from rfl, hno])
  · have hyes : (s.cadp[p].upg.isSome && !F.CAD_STAT.PAUSED.on s.cad.regs.stat) = true := by
      rw [Option.isSome_iff_ne_none.mpr hupg, hrun]
      rfl
    exact movesLedger_of_modCad (by rw [exec_upgradeHoldEnd, if_pos hyes, submitWithdraw, modCad_modCad]) rfl

end Sys2Proof.Machine

/-! SUPPORT. The end of a feed switch when FED_STAT.ACTIVE shows no feed (05 Table PTH-8, step 4): the feed logic then
evaluates the feeds as it does with no feed active, and may raise at once the gate of the feed whose switch has ended. -/

namespace Sys2Proof.Machine
open Sys2Proof

/-- FEED_A is qualified, its die's stitch link is up, and its gate rises while FED_STAT.ACTIVE shows no feed. -/
def risingNotActive : State :=
  { State.reset with
    feeds := { Feeds.reset with regs := { FeedRegs.reset with stat := F.FED_STAT.QUAL_A.mask }, rising := some .a }
    saf := { State.reset.saf with stat := 1 } }

/-- The row ends the rise of FEED_A, and its evaluation of the feeds selects FEED_A again. -/
theorem feedSwitched_raises_again :
    ∃ t, exec .feedSwitched risingNotActive = .next t ∧ t.feeds.rising = some .a := ⟨_, rfl, rfl⟩

/-- Refutes O42: FEED_SWITCHED need not leave the feed that was rising. The statement says so of every state whose `rising`
holds a feed; in one whose FED_STAT.ACTIVE shows none, the selection of R153 takes that same feed and raises it. -/
theorem not_feedsSwitchBreakBeforeMake : ¬ Obligations.FeedsSwitchBreakBeforeMake := by
  unfold Obligations.FeedsSwitchBreakBeforeMake
  intro h
  obtain ⟨-, -, -, -, -, hrising, -⟩ := h risingNotActive
  obtain ⟨⟨t, ht, -, hends⟩, -⟩ := hrising .a rfl
  obtain ⟨u, hu, hagain⟩ := feedSwitched_raises_again
  cases ht.symm.trans hu
  exact hends hagain

end Sys2Proof.Machine

/-! SUPPORT. The flash across a failed cold start (11 R310, R311, R314): what a start keeps of it, and what the reset of a
flash that stays busy with an erase leaves in the sector. -/

namespace Sys2Proof.Machine
open Sys2Proof

/-! ## What a cold start leaves of the flash -/

@[simp] theorem postCp_flash (src : Nat) (d : Word) (s : State) : (postCp src d s).flash = s.flash := by
  obtain ⟨h, b, heq⟩ := postCp_eq src d s
  rw [heq]

@[simp] theorem updTo_flash (st reason : Nat) (s : State) : (updTo st reason s).flash = s.flash := by
  unfold updTo
  dsimp only
  split
  · rfl
  · exact postCp_flash _ _ _

theorem updateCold_flash (s : State) : (updateCold s).flash = s.flash := by
  unfold updateCold
  split
  · exact updTo_flash _ _ _
  · rfl

theorem burnLock_flash (r : Nat) (rd : Bool) (i : Fin 3) (s : State) : (burnLock r rd i s).flash = s.flash := by
  unfold burnLock
  split <;> rfl

theorem otpCut_flash (s : State) : (otpCut s).flash = s.flash := by
  unfold otpCut
  split
  · rfl
  · rfl
  · dsimp only
    split
    · exact burnLock_flash _ _ _ _
    · rfl

theorem coldStart_flash (cause : Nat) (flags : Word) (s : State) :
    (coldStart cause flags s).flash = (controlReset ((otpCut s).ports.map offPort) Feeds.reset (otpCut s)).flash := by
  unfold coldStart
  dsimp only [senseFuses]
  split <;> exact updateCold_flash _

/-- With no operation of the flash under way a cold start leaves its bytes. -/
theorem coldStart_cells {s : State} (h : s.flash.op = none) (cause : Nat) (flags : Word) :
    (coldStart cause flags s).flash.cells = s.flash.cells := by
  have hf := otpCut_flash s
  rw [coldStart_flash]
  simp only [controlReset, flashReset, hf, h]

/-! ## The reset of a busy flash -/

theorem exec_flashBusyTimeout (s : State) : exec .flashBusyTimeout s =
    .next (if s.boot.phase = .raise || s.boot.phase = .warm then
      failStart (match s.flash.op with
        | some o => { (flcTimeout o s) with flash.op := none }
        | none => s)
    else s) := rfl

/-- In a cold start the bytes of a sector whose erase did not end are free values. -/
theorem flashBusyTimeout_frees_sector {s : State} {o : FlcOp} (hp : s.boot.phase = .raise) (ho : s.flash.op = some o)
    (h3 : o.op = 3) : ∃ t, exec .flashBusyTimeout s = .next t ∧ t.flash.cells =
      cputN (0xFF : Byte) s.flash.cells (o.addr / 65536 * 65536) (padTo 65536 (Config.freeBytes s.free)) := by
  refine ⟨_, exec_flashBusyTimeout s, ?_⟩
  have hphase : (flcTimeout o s).boot.phase = .raise := by simp only [flcTimeout, h3]; exact hp
  simp only [hp, ho, decide_true, Bool.true_or, if_true, failStart, hphase]
  rw [if_neg (by decide), coldStart_cells (by rfl)]
  simp only [setCfail, flcTimeout, h3]
  rfl

/-- The boot ROM waits at C7 for an erase of sector 0 that goes on; the sector's first byte holds `b`. -/
def erasing (b : Byte) : State :=
  { State.reset with
    boot := { Boot.reset with phase := .raise }
    flash := { Flash.reset with op := some ⟨3, 0, 0, 0⟩, cells := [(0, b)] } }

theorem length_padTo (n : Nat) (l : List Byte) : (padTo n l).length = n := by
  simp [padTo]

/-- What the timeout leaves in that byte does not depend on what the byte held. -/
theorem erasing_leaves_free_byte : ∃ v : Byte, ∀ b : Byte, ∃ t, exec .flashBusyTimeout (erasing b) = .next t ∧
    cget (0xFF : Byte) t.flash.cells 0 = v := by
  refine ⟨(padTo 65536 (Config.freeBytes State.reset.free))[0]'(by rw [length_padTo]; decide), fun b => ?_⟩
  obtain ⟨t, ht, hcells⟩ := flashBusyTimeout_frees_sector (s := erasing b) (o := ⟨3, 0, 0, 0⟩) rfl rfl rfl
  refine ⟨t, ht, ?_⟩
  rw [hcells, cget_cputN]
  exact dif_pos ⟨by decide, by rw [length_padTo]; decide⟩

/-- Refutes O28: a cold start that fails because the flash stays busy with an erase does not keep the flash as it was. The
statement excepts a program operation alone (`op ≠ 2`), but the reset of the flash leaves free bytes in the sector that it
was erasing (11 R314); of two states that differ in the first byte of that sector one must change. -/
theorem not_startsAndResets : ¬ Obligations.StartsAndResets := by
  unfold Obligations.StartsAndResets
  intro h
  obtain ⟨v, hv⟩ := erasing_leaves_free_byte
  have keeps (b : Byte) : v = b := by
    obtain ⟨-, -, hfailed, -⟩ := h (erasing b)
    obtain ⟨t, ht, hcold, -⟩ := hfailed (.inl rfl) .flashBusyTimeout (by simp) (by simp) fun _ => rfl
    obtain ⟨-, -, -, -, hcells, -⟩ := hcold
    obtain ⟨u, hu, hfree⟩ := hv b
    cases ht.symm.trans hu
    rw [← hfree, hcells (by rintro o ⟨⟩; decide)]
    rfl
  exact absurd ((keeps 0).symm.trans (keeps 1)) (by decide)

end Sys2Proof.Machine

/-! SUPPORT. What an engine's policy (03, 04, 06, 01 R21) leaves of the state: it acts on its ports, on the caddy and
its ledger and on the host side, and on nothing else. One rule per operation of the policy, in the order of the model. -/

namespace Sys2Proof.Machine
open Sys2Proof

/-! ## The state beyond the policy -/

/-- The state with all that the engines' policy acts on blanked: what is equal here is untouched by it. -/
def State.beyondPolicy (s : State) : State :=
  { s with
    ports := State.reset.ports
    cad := State.reset.cad
    cadp := State.reset.cadp
    host := State.reset.host
    free := 0 }

section
variable (p : PortId) (s : State)

@[simp] theorem beyondPolicy_update (ports : Vector Port 96) (cad : Caddy) (cadp : Vector CadPort 96) (host : HostSide)
    (free : Nat) :
    { s with ports := ports, cad := cad, cadp := cadp, host := host, free := free }.beyondPolicy = s.beyondPolicy := rfl

@[simp] theorem beyondPolicy_ite {b : Prop} [Decidable b] (t u : State) :
    (if b then t else u).beyondPolicy = if b then t.beyondPolicy else u.beyondPolicy := apply_ite ..

theorem beyondPolicy_foldl {α : Type} (l : List α) (f : State → α → State)
    (h : ∀ s x, (f s x).beyondPolicy = s.beyondPolicy) (s : State) : (l.foldl f s).beyondPolicy = s.beyondPolicy := by
  induction l generalizing s with
  | nil => rfl
  | cons x l ih => exact (ih _).trans (h s x)

@[simp] theorem modPort_beyondPolicy (f : Port → Port) : (modPort p f s).beyondPolicy = s.beyondPolicy := rfl

@[simp] theorem modPol_beyondPolicy (f : Policy → Policy) : (modPol p f s).beyondPolicy = s.beyondPolicy := rfl

@[simp] theorem modFront_beyondPolicy (f : Port → Port) : (modFront p f s).beyondPolicy = s.beyondPolicy := rfl

@[simp] theorem modCad_beyondPolicy (f : CadPort → CadPort) : (modCad p f s).beyondPolicy = s.beyondPolicy := rfl

/-! ## Events and completions -/

@[simp] theorem setVector_beyondPolicy (v : Nat) : (setVector v s).beyondPolicy = s.beyondPolicy := rfl

@[simp] theorem winWrite_beyondPolicy (a : Nat) (l : List Byte) : (winWrite a l s).beyondPolicy = s.beyondPolicy :=
  rfl

@[simp] theorem bulkWrite_beyondPolicy (boff : Nat) (l : List Byte) :
    (bulkWrite boff l s).beyondPolicy = s.beyondPolicy := by simp [bulkWrite]

@[simp] theorem ringPut_beyondPolicy (e : EvtEntry) : (ringPut e s).beyondPolicy = s.beyondPolicy := rfl

@[simp] theorem ringEvent_beyondPolicy (e : EvtEntry) : (ringEvent e s).beyondPolicy = s.beyondPolicy := by
  simp [ringEvent]

@[simp] theorem postSysAt_beyondPolicy (t src : Nat) (data : Word) :
    (postSysAt t src data s).beyondPolicy = s.beyondPolicy := by simp [postSysAt]

@[simp] theorem postSys_beyondPolicy (src : Nat) (data : Word) :
    (postSys src data s).beyondPolicy = s.beyondPolicy := by simp [postSys]

@[simp] theorem postPortAt_beyondPolicy (time : Nat) (t : PortEvt) (data : Word) :
    (postPortAt time p t data s).beyondPolicy = s.beyondPolicy := by simp [postPortAt]

@[simp] theorem postPort_beyondPolicy (t : PortEvt) (data : Word) :
    (postPort p t data s).beyondPolicy = s.beyondPolicy := by simp [postPort]

@[simp] theorem drainPort_beyondPolicy : (drainPort p s).beyondPolicy = s.beyondPolicy := by
  unfold drainPort
  exact (beyondPolicy_foldl _ _ (by simp) _).trans rfl

@[simp] theorem freeTag_beyondPolicy (tag : Nat) : (freeTag tag s).beyondPolicy = s.beyondPolicy := rfl

@[simp] theorem nextCpl_beyondPolicy : (nextCpl s).beyondPolicy = s.beyondPolicy := rfl

@[simp] theorem cplVector_beyondPolicy : (cplVector s).beyondPolicy = s.beyondPolicy := by simp [cplVector]

@[simp] theorem putCpl_beyondPolicy (tag opc port : Nat) (st : Status) (result : List Byte) :
    (putCpl tag opc port st result s).beyondPolicy = s.beyondPolicy := by simp [putCpl]

@[simp] theorem drainFor_beyondPolicy (port : Nat) : (drainFor port s).beyondPolicy = s.beyondPolicy := by
  unfold drainFor
  split <;> simp

@[simp] theorem complete_beyondPolicy (tag opc port : Nat) (st : Status) (result : List Byte) :
    (complete tag opc port st result s).beyondPolicy = s.beyondPolicy := by simp [complete]

@[simp] theorem completeWait_beyondPolicy (w : Wait) (st : Status) (result : List Byte) :
    (completeWait w st result s).beyondPolicy = s.beyondPolicy := by simp [completeWait]

@[simp] theorem completeAll_beyondPolicy (f : Wait → Bool) (st : Status) :
    (completeAll f st s).beyondPolicy = s.beyondPolicy := by
  unfold completeAll
  exact beyondPolicy_foldl _ _ (by simp) s

/-! ## The caddy -/

@[simp] theorem syncCommit_beyondPolicy : (syncCommit s).beyondPolicy = s.beyondPolicy := rfl

@[simp] theorem setPoolBal_beyondPolicy (n : Nat) : (setPoolBal n s).beyondPolicy = s.beyondPolicy := rfl

@[simp] theorem cadEvt_beyondPolicy (f : Fld) : (cadEvt f s).beyondPolicy = s.beyondPolicy := rfl

@[simp] theorem putResult_beyondPolicy (outcome gout : Nat) :
    (putResult p outcome gout s).beyondPolicy = s.beyondPolicy := rfl

@[simp] theorem caddyRelease_beyondPolicy : (caddyRelease p s).beyondPolicy = s.beyondPolicy := rfl

@[simp] theorem giveReserve_beyondPolicy (l : Nat) : (giveReserve p l s).beyondPolicy = s.beyondPolicy := rfl

@[simp] theorem reserve_beyondPolicy : (reserve p s).1.beyondPolicy = s.beyondPolicy := by
  unfold reserve
  dsimp only
  split
  · simp
  · split <;> simp

@[simp] theorem ackResult_beyondPolicy : (ackResult p s).beyondPolicy = s.beyondPolicy := rfl

@[simp] theorem drawReserve_beyondPolicy : (drawReserve p s).1.beyondPolicy = s.beyondPolicy := by simp [drawReserve]

@[simp] theorem submit_beyondPolicy (prearm : Bool) (volt pout : Nat) :
    (submit p prearm volt pout s).beyondPolicy = s.beyondPolicy := rfl

@[simp] theorem submitDone_beyondPolicy (volt pout : Nat) :
    (submitDone p volt pout s).beyondPolicy = s.beyondPolicy := rfl

@[simp] theorem submitWithdraw_beyondPolicy : (submitWithdraw p s).beyondPolicy = s.beyondPolicy := rfl

/-! ## What the engine sends, and the path -/

@[simp] theorem engineSend_beyondPolicy (c : Fin 3) (m : Port → List Byte) (ams : Bool) (w : TxPurpose) :
    (engineSend p c m ams w s).beyondPolicy = s.beyondPolicy := rfl

@[simp] theorem sendCtrl_beyondPolicy (type : Nat) (ams : Bool) (w : TxPurpose) :
    (sendCtrl p type ams w s).beyondPolicy = s.beyondPolicy := rfl

@[simp] theorem vconnStart_beyondPolicy (pin : Bool) : (vconnStart p pin s).beyondPolicy = s.beyondPolicy := by
  simp [vconnStart]

@[simp] theorem refuseTarget_beyondPolicy (t : Nat) : (refuseTarget p t s).beyondPolicy = s.beyondPolicy := by
  simp [refuseTarget]

@[simp] theorem writeTarget_beyondPolicy (t : Nat) : (writeTarget p t s).beyondPolicy = s.beyondPolicy := by
  simp [writeTarget]

@[simp] theorem cancelPort_beyondPolicy : (cancelPort p s).beyondPolicy = s.beyondPolicy := by simp [cancelPort]

@[simp] theorem cancelHard_beyondPolicy : (cancelHard p s).beyondPolicy = s.beyondPolicy := by simp [cancelHard]

@[simp] theorem loseContract_beyondPolicy (cause trip : Nat) :
    (loseContract p cause trip s).beyondPolicy = s.beyondPolicy := by
  unfold loseContract
  dsimp only
  split <;> simp

@[simp] theorem resetContexts_beyondPolicy : (resetContexts p s).beyondPolicy = s.beyondPolicy := by
  simp [resetContexts]

/-! ## Attach states and the contract -/

@[simp] theorem sendCaps_beyondPolicy (ams : Bool) : (sendCaps p ams s).beyondPolicy = s.beyondPolicy := by
  simp [sendCaps]

@[simp] theorem reoffer_beyondPolicy : (reoffer p s).beyondPolicy = s.beyondPolicy := by simp [reoffer]

@[simp] theorem enterAttachWait_beyondPolicy : (enterAttachWait p s).beyondPolicy = s.beyondPolicy := by
  simp [enterAttachWait]

@[simp] theorem enterDetached_beyondPolicy : (enterDetached p s).beyondPolicy = s.beyondPolicy := by
  simp [enterDetached]

@[simp] theorem completeParked_beyondPolicy : (completeParked p s).beyondPolicy = s.beyondPolicy := by
  unfold completeParked
  exact beyondPolicy_foldl _ _ (by simp) s

@[simp] theorem enterParked_beyondPolicy : (enterParked p s).beyondPolicy = s.beyondPolicy := by simp [enterParked]

@[simp] theorem postDetach_beyondPolicy (cause : Nat) (st : PortSt) :
    (postDetach p cause st s).beyondPolicy = s.beyondPolicy := by simp [postDetach]

@[simp] theorem postKept_beyondPolicy (cause : Nat) (st : PortSt) :
    (postKept p cause st s).beyondPolicy = s.beyondPolicy := by simp [postKept]

@[simp] theorem bindOff_beyondPolicy (cause lost : Nat) : (bindOff p cause lost s).beyondPolicy = s.beyondPolicy := by
  simp [bindOff]

@[simp] theorem endBindOff_beyondPolicy : (endBindOff p s).beyondPolicy = s.beyondPolicy := by
  unfold endBindOff
  dsimp only
  split
  · split <;> simp
  · split <;> simp

@[simp] theorem errorRecovery_beyondPolicy : (errorRecovery p s).beyondPolicy = s.beyondPolicy := by
  simp [errorRecovery]

@[simp] theorem polEcc_beyondPolicy : (polEcc p s).beyondPolicy = s.beyondPolicy := by simp [polEcc]

@[simp] theorem raise5_beyondPolicy : (raise5 p s).beyondPolicy = s.beyondPolicy := by simp [raise5]

@[simp] theorem cableCtxs_beyondPolicy : (cableCtxs p s).beyondPolicy = s.beyondPolicy := by simp [cableCtxs]

@[simp] theorem polVconnLost_beyondPolicy : (polVconnLost p s).beyondPolicy = s.beyondPolicy := by simp [polVconnLost]

@[simp] theorem castOnSource_beyondPolicy (level : Nat) : (castOnSource p level s).beyondPolicy = s.beyondPolicy := by
  simp [castOnSource]

@[simp] theorem postAttach_beyondPolicy : (postAttach p s).beyondPolicy = s.beyondPolicy := by simp [postAttach]

@[simp] theorem sinkPathOn_beyondPolicy : (sinkPathOn p s).beyondPolicy = s.beyondPolicy := by simp [sinkPathOn]

@[simp] theorem presentV5_beyondPolicy : (presentV5 p s).beyondPolicy = s.beyondPolicy := by simp [presentV5]

@[simp] theorem castOn_beyondPolicy : (castOn p s).beyondPolicy = s.beyondPolicy := by
  cases h : (drawReserve p s).2 <;> simp [castOn, h]

@[simp] theorem retryCast_beyondPolicy : (retryCast p s).beyondPolicy = s.beyondPolicy := by
  cases h : (drawReserve p (modPol p (fun l => { l with castWait := false }) s)).2 <;> simp [retryCast, h]

@[simp] theorem castOnSink_beyondPolicy : (castOnSink p s).beyondPolicy = s.beyondPolicy := by simp [castOnSink]

@[simp] theorem castAs_beyondPolicy : (castAs p s).beyondPolicy = s.beyondPolicy := by simp [castAs]

@[simp] theorem signalHardReset_beyondPolicy : (signalHardReset p s).beyondPolicy = s.beyondPolicy := rfl

@[simp] theorem engineHardReset_beyondPolicy : (engineHardReset p s).beyondPolicy = s.beyondPolicy := by
  simp [engineHardReset]

@[simp] theorem afterHardReset_beyondPolicy (cause : Nat) :
    (afterHardReset p cause s).beyondPolicy = s.beyondPolicy := by simp [afterHardReset]

@[simp] theorem afterCableReset_beyondPolicy : (afterCableReset p s).beyondPolicy = s.beyondPolicy := by
  simp [afterCableReset]

@[simp] theorem rejectRequest_beyondPolicy (caps : Bool) : (rejectRequest p caps s).beyondPolicy = s.beyondPolicy :=
  rfl

@[simp] theorem acceptRequest_beyondPolicy : (acceptRequest p s).beyondPolicy = s.beyondPolicy := rfl

@[simp] theorem partnerSpoke_beyondPolicy : (partnerSpoke p s).beyondPolicy = s.beyondPolicy := rfl

@[simp] theorem evaluateRequest_beyondPolicy (rdo : Word) :
    (evaluateRequest p rdo s).beyondPolicy = s.beyondPolicy := by
  unfold evaluateRequest
  dsimp only
  split
  · simp
  · split
    · simp
    · split <;> simp

@[simp] theorem postContract_beyondPolicy (k : Contract) (reneg : Bool) :
    (postContract p k reneg s).beyondPolicy = s.beyondPolicy := by simp [postContract]

@[simp] theorem discoverPartner_beyondPolicy : (discoverPartner p s).beyondPolicy = s.beyondPolicy := rfl

@[simp] theorem afterFirstContract_beyondPolicy : (afterFirstContract p s).beyondPolicy = s.beyondPolicy := by
  simp [afterFirstContract]

@[simp] theorem sendDeferred_beyondPolicy : (sendDeferred p s).beyondPolicy = s.beyondPolicy := by simp [sendDeferred]

@[simp] theorem contractInForce_beyondPolicy : (contractInForce p s).beyondPolicy = s.beyondPolicy := by
  unfold contractInForce
  split <;> simp

@[simp] theorem beginTransition_beyondPolicy : (beginTransition p s).beyondPolicy = s.beyondPolicy := by
  unfold beginTransition
  split <;> simp

@[simp] theorem runTransition_beyondPolicy : (runTransition p s).beyondPolicy = s.beyondPolicy := by
  unfold runTransition
  split <;> simp

@[simp] theorem onCaddyResult_beyondPolicy (outcome gout : Nat) :
    (onCaddyResult p outcome gout s).beyondPolicy = s.beyondPolicy := by
  unfold onCaddyResult
  split <;> simp

/-! ## Patterns, retries and ramps -/

@[simp] theorem polVsafe_beyondPolicy : (polVsafe p s).beyondPolicy = s.beyondPolicy := by simp [polVsafe]

@[simp] theorem polDebDone_beyondPolicy : (polDebDone p s).beyondPolicy = s.beyondPolicy := by simp [polDebDone]

@[simp] theorem leaveHold_beyondPolicy : (leaveHold p s).beyondPolicy = s.beyondPolicy := by simp [leaveHold]

@[simp] theorem polRetry_beyondPolicy : (polRetry p s).beyondPolicy = s.beyondPolicy := by simp [polRetry]

@[simp] theorem polPattern_beyondPolicy : (polPattern p s).beyondPolicy = s.beyondPolicy := by simp [polPattern]

@[simp] theorem polDetach_beyondPolicy : (polDetach p s).beyondPolicy = s.beyondPolicy := by simp [polDetach]

@[simp] theorem polPddeb_beyondPolicy : (polPddeb p s).beyondPolicy = s.beyondPolicy := by simp [polPddeb]

@[simp] theorem polTrippedDetach_beyondPolicy : (polTrippedDetach p s).beyondPolicy = s.beyondPolicy := by
  simp [polTrippedDetach]

@[simp] theorem polDrpTry_beyondPolicy : (polDrpTry p s).beyondPolicy = s.beyondPolicy := by
  unfold polDrpTry
  dsimp only
  split
  · rfl
  · split <;> simp

@[simp] theorem polTryDeb_beyondPolicy : (polTryDeb p s).beyondPolicy = s.beyondPolicy := by simp [polTryDeb]

@[simp] theorem polRampDone_beyondPolicy : (polRampDone p s).beyondPolicy = s.beyondPolicy := by simp [polRampDone]

@[simp] theorem polDisDone_beyondPolicy : (polDisDone p s).beyondPolicy = s.beyondPolicy := by
  unfold polDisDone
  dsimp only
  split <;> simp

/-! ## Messages of the partner and the cable -/

@[simp] theorem endAms_beyondPolicy : (endAms p s).beyondPolicy = s.beyondPolicy := by simp [endAms]

@[simp] theorem setAwait_beyondPolicy (w : Option TxPurpose) : (setAwait p w s).beyondPolicy = s.beyondPolicy := rfl

@[simp] theorem slotOn_beyondPolicy (i : Fin 26) : (slotOn p i s).beyondPolicy = s.beyondPolicy := rfl

@[simp] theorem slotOff'_beyondPolicy (i : Fin 26) : (slotOff' p i s).beyondPolicy = s.beyondPolicy := rfl

@[simp] theorem dropNext_beyondPolicy : (dropNext p s).beyondPolicy = s.beyondPolicy := by simp [dropNext]

@[simp] theorem endWait_beyondPolicy (f : WaitKind → Bool) (st : Status) (result : List Byte) :
    (endWait p f st result s).beyondPolicy = s.beyondPolicy := by
  unfold endWait
  split <;> simp

@[simp] theorem dropExchange_beyondPolicy (c : Fin 3) : (dropExchange p c s).beyondPolicy = s.beyondPolicy := by
  simp [dropExchange]

@[simp] theorem softReset_beyondPolicy (c : Fin 3) : (softReset p c s).beyondPolicy = s.beyondPolicy := by
  simp [softReset]

@[simp] theorem unexpected_beyondPolicy (c : Fin 3) : (unexpected p c s).beyondPolicy = s.beyondPolicy := by
  simp [unexpected]

@[simp] theorem releaseHeld_beyondPolicy : (releaseHeld p s).beyondPolicy = s.beyondPolicy := by
  unfold releaseHeld
  split <;> simp

@[simp] theorem discoverCable_beyondPolicy : (discoverCable p s).beyondPolicy = s.beyondPolicy := rfl

@[simp] theorem startDiscovery_beyondPolicy : (startDiscovery p s).beyondPolicy = s.beyondPolicy := by
  simp [startDiscovery]

@[simp] theorem sendNotSupported_beyondPolicy (c : Fin 3) : (sendNotSupported p c s).beyondPolicy = s.beyondPolicy :=
  rfl

@[simp] theorem heard_beyondPolicy (offer : Bool) : (heard p offer s).beyondPolicy = s.beyondPolicy := by simp [heard]

@[simp] theorem hardResetFor_beyondPolicy (cause : Nat) : (hardResetFor p cause s).beyondPolicy = s.beyondPolicy := by
  simp [hardResetFor]

@[simp] theorem swapDone_beyondPolicy : (swapDone p s).beyondPolicy = s.beyondPolicy := by
  unfold swapDone
  split <;> simp

@[simp] theorem swapFails_beyondPolicy (st : Status) : (swapFails p st s).beyondPolicy = s.beyondPolicy := by
  unfold swapFails
  split <;> simp

@[simp] theorem swapAsk_beyondPolicy (kind : Nat) : (swapAsk p kind s).beyondPolicy = s.beyondPolicy := rfl

@[simp] theorem swapStart_beyondPolicy : (swapStart p s).beyondPolicy = s.beyondPolicy := by
  unfold swapStart
  split
  · split
    · rfl
    · split
      · cases h : (drawReserve p s).2 <;> simp [h]
      · simp
      · rfl
  · rfl

@[simp] theorem policyNext_beyondPolicy : (policyNext p s).beyondPolicy = s.beyondPolicy := by simp [policyNext]

@[simp] theorem beginSwap_beyondPolicy : (beginSwap p s).beyondPolicy = s.beyondPolicy := by
  unfold beginSwap
  split
  · rfl
  · split <;> simp

@[simp] theorem swapS2_beyondPolicy (w : Swap) : (swapS2 p w s).beyondPolicy = s.beyondPolicy := by simp [swapS2]

@[simp] theorem swapPsRdySent_beyondPolicy : (swapPsRdySent p s).beyondPolicy = s.beyondPolicy := by
  unfold swapPsRdySent
  split
  · rfl
  · split <;> simp

@[simp] theorem swapPsRdyHeard_beyondPolicy (w : Swap) : (swapPsRdyHeard p w s).beyondPolicy = s.beyondPolicy := by
  unfold swapPsRdyHeard
  split <;> simp

@[simp] theorem answerVdm_beyondPolicy (c : Fin 3) (objs : List Word) :
    (answerVdm p c objs s).beyondPolicy = s.beyondPolicy := rfl

@[simp] theorem routeVdm_beyondPolicy (c : Fin 3) (objs : List Word) :
    (routeVdm p c objs s).beyondPolicy = s.beyondPolicy := by simp [routeVdm]

@[simp] theorem vdmCommand_beyondPolicy (c : Fin 3) (objs : List Word) :
    (vdmCommand p c objs s).beyondPolicy = s.beyondPolicy := by simp [vdmCommand]

@[simp] theorem writeAnswer_beyondPolicy (rboff : Nat) (l : List Byte) :
    (writeAnswer rboff l s).beyondPolicy = s.beyondPolicy := by simp [writeAnswer]

@[simp] theorem takeIdentity_beyondPolicy (objs : List Word) :
    (takeIdentity p objs s).beyondPolicy = s.beyondPolicy := by simp [takeIdentity]

@[simp] theorem takeCable_beyondPolicy (objs : List Word) : (takeCable p objs s).beyondPolicy = s.beyondPolicy := by
  simp [takeCable]

@[simp] theorem vdmResponse_beyondPolicy (c : Fin 3) (objs : List Word) :
    (vdmResponse p c objs s).beyondPolicy = s.beyondPolicy := by
  unfold vdmResponse
  dsimp only
  split
  · simp
  · split <;> simp

@[simp] theorem setKind_beyondPolicy (w : Wait) (k : WaitKind) : (setKind w k s).beyondPolicy = s.beyondPolicy := rfl

@[simp] theorem authEnd_beyondPolicy (w : Wait) (pass : Bool) (step slot root len : Nat) :
    (authEnd p w pass step slot root len s).beyondPolicy = s.beyondPolicy := by simp [authEnd]

@[simp] theorem authRefused_beyondPolicy (w : Wait) (st : Status) :
    (authRefused p w st s).beyondPolicy = s.beyondPolicy := by
  unfold authRefused
  split <;> simp

@[simp] theorem authCert_beyondPolicy (w : Wait) (c : Fin 3) (slot root got len rboff : Nat) :
    (authCert p w c slot root got len rboff s).beyondPolicy = s.beyondPolicy := by simp [authCert]

@[simp] theorem securityResponse_beyondPolicy (c : Fin 3) (data : List Byte) :
    (securityResponse p c data s).beyondPolicy = s.beyondPolicy := by
  unfold securityResponse
  split
  · rfl
  · split
    · dsimp only
      split
      · split
        · simp
        · split <;> simp
      · simp
    · rfl

@[simp] theorem hostSent_beyondPolicy (t : Nat) : (hostSent p t s).beyondPolicy = s.beyondPolicy := by
  unfold hostSent
  split
  · simp
  · split <;> simp

@[simp] theorem txSent_beyondPolicy (w : TxPurpose) : (txSent p w s).beyondPolicy = s.beyondPolicy := by
  unfold txSent
  split <;> simp

@[simp] theorem txFailed_beyondPolicy (w : TxPurpose) (r : Nat) :
    (txFailed p w r s).beyondPolicy = s.beyondPolicy := by
  cases w with
  | hostMsg t => cases h : tagWait s t <;> simp [txFailed, h]
  | _ => simp [txFailed]

@[simp] theorem polTxEnd_beyondPolicy (c : Fin 3) : (polTxEnd p c s).beyondPolicy = s.beyondPolicy := by
  unfold polTxEnd
  split <;> simp

@[simp] theorem refused_beyondPolicy (c : Fin 3) (st : Status) :
    (refused p c st s).beyondPolicy = s.beyondPolicy := by
  unfold refused
  split
  case h_2 t _ => dsimp only; split <;> simp
  all_goals simp

@[simp] theorem sinkAccepted_beyondPolicy : (sinkAccepted p s).beyondPolicy = s.beyondPolicy := rfl

@[simp] theorem accepted_beyondPolicy (c : Fin 3) : (accepted p c s).beyondPolicy = s.beyondPolicy := by
  unfold accepted
  split <;> simp

@[simp] theorem sinkRequest_beyondPolicy (rev : Nat) (objs : List Word) :
    (sinkRequest p rev objs s).beyondPolicy = s.beyondPolicy := rfl

@[simp] theorem msgAnswer_beyondPolicy (c : Fin 3) (m : List Byte) :
    (msgAnswer p c m s).beyondPolicy = s.beyondPolicy := by
  unfold msgAnswer
  split <;> simp

@[simp] theorem sendSinkCaps_beyondPolicy : (sendSinkCaps p s).beyondPolicy = s.beyondPolicy := rfl

@[simp] theorem getSourceCap_beyondPolicy : (getSourceCap p s).beyondPolicy = s.beyondPolicy := by simp [getSourceCap]

@[simp] theorem getEprCaps_beyondPolicy : (getEprCaps p s).beyondPolicy = s.beyondPolicy := by simp [getEprCaps]

@[simp] theorem polExtended_beyondPolicy (c : Fin 3) (m : List Byte) :
    (polExtended p c m s).beyondPolicy = s.beyondPolicy := by simp [polExtended]

@[simp] theorem polControl_beyondPolicy (c : Fin 3) (m : List Byte) :
    (polControl p c m s).beyondPolicy = s.beyondPolicy := by
  unfold polControl
  split <;> simp

@[simp] theorem polMessage_beyondPolicy (c : Fin 3) (m : List Byte) :
    (polMessage p c m s).beyondPolicy = s.beyondPolicy := by
  unfold polMessage
  dsimp only
  split
  · simp
  · split
    · simp
    · split
      · simp
      · split <;> simp

@[simp] theorem polRequest_beyondPolicy (rdo : Word) (rev : Nat) :
    (polRequest p rdo rev s).beyondPolicy = s.beyondPolicy := by simp [polRequest]

@[simp] theorem polEprRequest_beyondPolicy (rdo pdo : Word) :
    (polEprRequest p rdo pdo s).beyondPolicy = s.beyondPolicy := by simp [polEprRequest]

@[simp] theorem polSoftReset_beyondPolicy (c : Fin 3) : (polSoftReset p c s).beyondPolicy = s.beyondPolicy := by
  simp [polSoftReset]

@[simp] theorem polEprEnter_beyondPolicy : (polEprEnter p s).beyondPolicy = s.beyondPolicy := by simp [polEprEnter]

@[simp] theorem polEprExit_beyondPolicy : (polEprExit p s).beyondPolicy = s.beyondPolicy := by simp [polEprExit]

@[simp] theorem polKeepalive_beyondPolicy : (polKeepalive p s).beyondPolicy = s.beyondPolicy := by simp [polKeepalive]

@[simp] theorem takeSwap_beyondPolicy (kind : Nat) : (takeSwap p kind s).beyondPolicy = s.beyondPolicy := rfl

@[simp] theorem polPrSwap_beyondPolicy : (polPrSwap p s).beyondPolicy = s.beyondPolicy := by
  cases h : (drawReserve p (heard p true s)).2 <;> simp [polPrSwap, h]

@[simp] theorem polDrSwap_beyondPolicy : (polDrSwap p s).beyondPolicy = s.beyondPolicy := by simp [polDrSwap]

@[simp] theorem polVconnSwap_beyondPolicy : (polVconnSwap p s).beyondPolicy = s.beyondPolicy := by simp [polVconnSwap]

@[simp] theorem polPsRdy_beyondPolicy : (polPsRdy p s).beyondPolicy = s.beyondPolicy := by
  unfold polPsRdy
  dsimp only
  split <;> simp

/-! ## Timers -/

@[simp] theorem polVdm_beyondPolicy (c : Fin 3) (objs : List Word) :
    (polVdm p c objs s).beyondPolicy = s.beyondPolicy := by simp [polVdm]

@[simp] theorem polCableReply_beyondPolicy (curr volt : Nat) (epr : Bool) (rev : Nat) :
    (polCableReply p curr volt epr rev s).beyondPolicy = s.beyondPolicy := by simp [polCableReply]

@[simp] theorem polRevision_beyondPolicy (rev : Option Nat) : (polRevision p rev s).beyondPolicy = s.beyondPolicy := by
  simp [polRevision]

@[simp] theorem polAlert_beyondPolicy (ado : Word) : (polAlert p ado s).beyondPolicy = s.beyondPolicy := by
  simp [polAlert]

@[simp] theorem polStored_beyondPolicy (c : Fin 3) (m : List Byte) :
    (polStored p c m s).beyondPolicy = s.beyondPolicy := by simp [polStored]

@[simp] theorem polHardSent_beyondPolicy (sent : Bool) : (polHardSent p sent s).beyondPolicy = s.beyondPolicy := by
  simp [polHardSent]

@[simp] theorem polCableSent_beyondPolicy : (polCableSent p s).beyondPolicy = s.beyondPolicy := by simp [polCableSent]

@[simp] theorem polHardReceived_beyondPolicy : (polHardReceived p s).beyondPolicy = s.beyondPolicy := by
  simp [polHardReceived]

@[simp] theorem polSenderResponse_beyondPolicy : (polSenderResponse p s).beyondPolicy = s.beyondPolicy := by
  unfold polSenderResponse
  dsimp only
  split
  · simp
  · split
    case h_2 t _ => split <;> simp
    all_goals simp

@[simp] theorem polSendCap_beyondPolicy : (polSendCap p s).beyondPolicy = s.beyondPolicy := by simp [polSendCap]

@[simp] theorem polSrcTransition_beyondPolicy : (polSrcTransition p s).beyondPolicy = s.beyondPolicy := by
  unfold polSrcTransition
  split <;> simp

@[simp] theorem polPsHardReset_beyondPolicy : (polPsHardReset p s).beyondPolicy = s.beyondPolicy := by
  simp [polPsHardReset]

@[simp] theorem polSrcRecover_beyondPolicy : (polSrcRecover p s).beyondPolicy = s.beyondPolicy := by
  unfold polSrcRecover
  split
  · extract_lets powered ready
    have hready : ready.beyondPolicy = s.beyondPolicy := by simp [ready, powered]
    cases h : (drawReserve p ready).2 <;> simp [h, hready]
  · rfl

@[simp] theorem polSwapLost_beyondPolicy : (polSwapLost p s).beyondPolicy = s.beyondPolicy := by simp [polSwapLost]

@[simp] theorem polSinkReset_beyondPolicy : (polSinkReset p s).beyondPolicy = s.beyondPolicy := by simp [polSinkReset]

@[simp] theorem polSwapStart_beyondPolicy : (polSwapStart p s).beyondPolicy = s.beyondPolicy := by simp [polSwapStart]

@[simp] theorem polVdmTimeout_beyondPolicy : (polVdmTimeout p s).beyondPolicy = s.beyondPolicy := by
  unfold polVdmTimeout
  split
  case h_1 t _ => dsimp only; split <;> simp
  all_goals simp

@[simp] theorem polBudget_beyondPolicy : (polBudget p s).beyondPolicy = s.beyondPolicy := by
  refine beyondPolicy_foldl _ _ (fun s c => ?_) s
  split <;> simp

@[simp] theorem polDiscover_beyondPolicy : (polDiscover p s).beyondPolicy = s.beyondPolicy := by simp [polDiscover]

@[simp] theorem polVconnStable_beyondPolicy : (polVconnStable p s).beyondPolicy = s.beyondPolicy := by
  unfold polVconnStable
  dsimp only
  split <;> simp

@[simp] theorem polVconnTimeout_beyondPolicy : (polVconnTimeout p s).beyondPolicy = s.beyondPolicy := by
  simp [polVconnTimeout]

@[simp] theorem polEprLost_beyondPolicy : (polEprLost p s).beyondPolicy = s.beyondPolicy := by simp [polEprLost]

@[simp] theorem polEnterEpr_beyondPolicy : (polEnterEpr p s).beyondPolicy = s.beyondPolicy := by simp [polEnterEpr]

@[simp] theorem polPpsTimeout_beyondPolicy : (polPpsTimeout p s).beyondPolicy = s.beyondPolicy := by
  unfold polPpsTimeout
  split <;> simp

@[simp] theorem polNoResponse_beyondPolicy : (polNoResponse p s).beyondPolicy = s.beyondPolicy := by
  simp [polNoResponse]

@[simp] theorem polErrorRecovery_beyondPolicy : (polErrorRecovery p s).beyondPolicy = s.beyondPolicy := by
  simp [polErrorRecovery]

@[simp] theorem polOutcomeTimeout_beyondPolicy : (polOutcomeTimeout p s).beyondPolicy = s.beyondPolicy := by
  simp [polOutcomeTimeout]

@[simp] theorem polPpsStep_beyondPolicy (curr : Nat) : (polPpsStep p curr s).beyondPolicy = s.beyondPolicy := by
  unfold polPpsStep
  split <;> simp

/-! ## An engine that resumes its ports -/

@[simp] theorem resumeSlot_beyondPolicy (i : Fin 26) {f : State → State}
    (h : ∀ s, (f s).beyondPolicy = s.beyondPolicy) : (resumeSlot p i f s).beyondPolicy = s.beyondPolicy := by
  simp [resumeSlot, h]

@[simp] theorem resumePath_beyondPolicy (i : Instr) : (resumePath i s).beyondPolicy = s.beyondPolicy := by
  unfold resumePath
  split
  case h_15 who => cases h : portOf who <;> simp
  all_goals simp

@[simp] theorem resumeMessage_beyondPolicy (i : Instr) : (resumeMessage i s).beyondPolicy = s.beyondPolicy := by
  unfold resumeMessage
  split <;> simp

@[simp] theorem policyStep_beyondPolicy (i : Instr) : (policyStep i s).beyondPolicy = s.beyondPolicy := by
  unfold policyStep
  split <;> simp

@[simp] theorem checkContext_beyondPolicy : (checkContext p s).beyondPolicy = s.beyondPolicy := by simp [checkContext]

@[simp] theorem takeWindow_beyondPolicy : (takeWindow p s).beyondPolicy = s.beyondPolicy := by simp [takeWindow]

@[simp] theorem takeRetry_beyondPolicy : (takeRetry p s).beyondPolicy = s.beyondPolicy := by simp [takeRetry]

@[simp] theorem resumePort_beyondPolicy : (resumePort p s).beyondPolicy = s.beyondPolicy := by
  simp [resumePort, beyondPolicy_foldl]

@[simp] theorem resumePorts_beyondPolicy (l : List PortId) : (resumePorts l s).beyondPolicy = s.beyondPolicy := by
  exact beyondPolicy_foldl _ _ (fun s p => by simp) s

end

end Sys2Proof.Machine

/-! SUPPORT. The board and the card (02 R45, R48 to R50, 17 R414 to R420): the frame of the LED chain, the press that
ends standby, what an update writes into the flash, and what the end of a card update leaves. -/

namespace Sys2Proof.Machine
open Sys2Proof

/-! ## The LED chain (02 R48) -/

section
variable {α β : Type} (f g : α → β)

theorem length_flatMap_pair (l : List α) : (l.flatMap fun x => [f x, g x]).length = 2 * l.length := by
  induction l with
  | nil => rfl
  | cons x l ih => simp only [List.flatMap_cons, List.length_append, List.length_cons, List.length_nil, ih]; omega

theorem getElem?_flatMap_pair (l : List α) (i : Nat) :
    (l.flatMap fun x => [f x, g x])[2 * i]? = l[i]?.map f ∧
      (l.flatMap fun x => [f x, g x])[2 * i + 1]? = l[i]?.map g := by
  induction l generalizing i with
  | nil => simp
  | cons x l ih =>
    cases i with
    | zero => simp
    | succ i => simpa [Nat.mul_succ] using ih i

end

theorem length_ledFrame (s : State) : (ledFrame s).length = 192 := by
  unfold ledFrame
  rw [length_flatMap_pair]
  simp [allPorts]

theorem allPorts_reverse_getElem? (p : PortId) : allPorts.reverse[95 - p.val]? = some p := by
  unfold allPorts
  rw [List.getElem?_reverse (by simp; omega), List.getElem?_eq_getElem (by simp; omega)]
  simp only [List.length_finRange, List.getElem_finRange, Option.some.injEq, Fin.ext_iff, Fin.val_cast]
  omega

/-- A port's two bits in a frame: P95 comes first. -/
theorem ledFrame_getElem? (s : State) (p : PortId) :
    (ledFrame s)[190 - 2 * p.val]? = some (ledBits (s.board.frames / 25 % 2 == 1) s p).1 ∧
      (ledFrame s)[191 - 2 * p.val]? = some (ledBits (s.board.frames / 25 % 2 == 1) s p).2 := by
  obtain ⟨hfirst, hsecond⟩ := getElem?_flatMap_pair (fun p => (ledBits (s.board.frames / 25 % 2 == 1) s p).1)
    (fun p => (ledBits (s.board.frames / 25 % 2 == 1) s p).2) allPorts.reverse (95 - p.val)
  rw [allPorts_reverse_getElem?] at hfirst hsecond
  have h0 : 190 - 2 * p.val = 2 * (95 - p.val) := by omega
  have h1 : 191 - 2 * p.val = 2 * (95 - p.val) + 1 := by omega
  rw [h0, h1]
  exact ⟨hfirst, hsecond⟩

theorem ledBits_held {s : State} {p : PortId} (h : dieHeld s (dieOf p) = true) (blink : Bool) :
    ledBits blink s p = (true, blink) := by
  simp [ledBits, h]

/-- The bits that 02 Table BAL-10 gives the state of a port of a die that runs. -/
theorem ledBits_running {s : State} {p : PortId} (h : dieHeld s (dieOf p) = false) (blink : Bool) :
    (s.ports[p].st = .parked ∨ s.ports[p].st = .detached → ledBits blink s p = (false, false)) ∧
      (s.ports[p].st = .contracted → ledBits blink s p = (false, true)) ∧
      (s.ports[p].st = .fenced → ledBits blink s p = (true, false)) ∧
      (s.ports[p].st = .tripped ∨ s.ports[p].st = .retryWait → ledBits blink s p = (blink, false)) := by
  unfold ledBits
  rw [h]
  refine ⟨?_, ?_, ?_, ?_⟩
  · rintro (hst | hst) <;> rw [hst] <;> rfl
  · intro hst; rw [hst]; rfl
  · intro hst; rw [hst]; rfl
  · rintro (hst | hst) <;> rw [hst] <;> rfl

theorem exec_ledFrame (s : State) : exec .ledFrame s =
    .next (if s.boot.phase = .running && !s.cru.standby && F.CRU_GATE.LED.on s.cru.regs.gate then
      { s with board := { s.board with led := ledFrame s, frames := s.board.frames + 1 } }
      else s) := rfl

/-- No frame outside RUN, in standby, or with the chain's clock gate shut. -/
theorem ledFrame_off {s : State}
    (h : s.boot.phase ≠ .running ∨ s.cru.standby = true ∨ F.CRU_GATE.LED.on s.cru.regs.gate = false) :
    exec .ledFrame s = .next s := by
  rw [exec_ledFrame, if_neg]
  intro hcond
  simp only [Bool.and_eq_true, decide_eq_true_eq, Bool.not_eq_true'] at hcond
  obtain ⟨⟨hrun, hstby⟩, hgate⟩ := hcond
  rcases h with h | h | h
  · exact h hrun
  · simp [hstby] at h
  · simp [hgate] at h

/-- A frame shows every port's two bits. -/
theorem ledFrame_moves {s : State} (hrun : s.boot.phase = .running) (hstby : s.cru.standby = false)
    (hgate : F.CRU_GATE.LED.on s.cru.regs.gate = true) :
    Moves .ledFrame s fun t => { t with board := s.board } = s ∧ t.board.frames = s.board.frames + 1 ∧
      t.board.led.length = 192 ∧ ∀ p : PortId, ∃ b1 b0 : Bool,
        t.board.led[190 - 2 * p.val]? = some b1 ∧ t.board.led[191 - 2 * p.val]? = some b0 ∧
        (b1, b0) = ledBits (s.board.frames / 25 % 2 == 1) s p := by
  refine ⟨{ s with board := { s.board with led := ledFrame s, frames := s.board.frames + 1 } }, ?_, rfl, rfl,
    length_ledFrame s, fun p => ⟨_, _, (ledFrame_getElem? s p).1, (ledFrame_getElem? s p).2, rfl⟩⟩
  rw [exec_ledFrame, if_pos (by simp [hrun, hstby, hgate])]

/-! ## The press that ends standby (10 R295) -/

theorem wake_of_awake {s : State} (h : s.cru.standby = false) (cause : Fin 5) : wake cause s = s := by
  simp [wake, h]

@[simp] theorem resumePorts_cru (l : List PortId) (s : State) : (resumePorts l s).cru = s.cru :=
  (congrArg State.cru (resumePorts_beyondPolicy s l) :)

@[simp] theorem rootOnPll_standby (s : State) : (rootOnPll s).cru.standby = s.cru.standby := rfl

@[simp] theorem spreadOn_standby (s : State) : (spreadOn s).cru.standby = s.cru.standby := by
  unfold spreadOn
  split <;> rfl

@[simp] theorem cruEvt_standby (f : Fld) (s : State) : (cruEvt f s).cru.standby = s.cru.standby := rfl

@[simp] theorem raiseTo3_standby (s : State) : (raiseTo3 s).cru.standby = s.cru.standby := by
  unfold raiseTo3 dvfsStart
  dsimp only
  split
  · rfl
  · split <;> rfl

theorem wake_standby {s : State} (h : s.cru.standby = true) (cause : Fin 5) : (wake cause s).cru.standby = false := by
  simp [wake, h]

/-! ## The update's state (17 R415, R418) -/

section
variable (src : Nat) (d : Word) (s : State)

@[simp] theorem postCp_upd : (postCp src d s).upd = s.upd := by
  obtain ⟨h, b, heq⟩ := postCp_eq src d s
  rw [heq]

@[simp] theorem postCp_board : (postCp src d s).board = s.board := by
  obtain ⟨h, b, heq⟩ := postCp_eq src d s
  rw [heq]

@[simp] theorem postCp_time : (postCp src d s).time = s.time := by
  obtain ⟨h, b, heq⟩ := postCp_eq src d s
  rw [heq]

/-- An event is no completion. -/
theorem postCp_completions : (postCp src d s).host.waits = s.host.waits ∧ cplTail (postCp src d s) = cplTail s := by
  unfold postCp postSys postSysAt
  split
  · split
    · obtain ⟨htail, hwaits, -, -⟩ := ringEvent_host { time := s.time, src := src, seq := s.host.sysSeq, data := d }
        { s with host := { s.host with sysSeq := (s.host.sysSeq + 1) % 256 } }
      exact ⟨hwaits, htail⟩
    · exact ⟨rfl, rfl⟩
  · exact ⟨rfl, rfl⟩

end

section
variable (st reason : Nat) (s : State)

@[simp] theorem updTo_upd : (updTo st reason s).upd = { s.upd with st := st, reason := reason } := by
  unfold updTo
  dsimp only
  split
  · rfl
  · exact postCp_upd _ _ _

@[simp] theorem updTo_board : (updTo st reason s).board = s.board := by
  unfold updTo
  dsimp only
  split
  · rfl
  · exact postCp_board _ _ _

@[simp] theorem updTo_time : (updTo st reason s).time = s.time := by
  unfold updTo
  dsimp only
  split
  · rfl
  · exact postCp_time _ _ _

theorem updTo_completions :
    (updTo st reason s).host.waits = s.host.waits ∧ cplTail (updTo st reason s) = cplTail s := by
  unfold updTo
  dsimp only
  split
  · exact ⟨rfl, rfl⟩
  · exact postCp_completions _ _ _

@[simp] theorem abandon_upd :
    (abandon reason s).upd = { s.upd with st := 7, reason := reason, card := false } := by simp [abandon]

@[simp] theorem abandon_flash : (abandon reason s).flash = s.flash := by simp [abandon]

@[simp] theorem abandon_board : (abandon reason s).board = s.board := by simp [abandon]

@[simp] theorem abandon_time : (abandon reason s).time = s.time := by simp [abandon]

theorem abandon_completions :
    (abandon reason s).host.waits = s.host.waits ∧ cplTail (abandon reason s) = cplTail s :=
  updTo_completions 7 reason { s with upd := { s.upd with card := false } }

end

/-! ## The end of a card update (17 R419) -/

section
variable (st : Status) (reason : Nat) (s : State)

@[simp] theorem cardComplete_beyondPolicy : (cardComplete st s).beyondPolicy = s.beyondPolicy := by
  unfold cardComplete
  split <;> simp

@[simp] theorem cardComplete_upd : (cardComplete st s).upd = s.upd :=
  (congrArg State.upd (cardComplete_beyondPolicy st s) :)

@[simp] theorem cardComplete_flash : (cardComplete st s).flash = s.flash :=
  (congrArg State.flash (cardComplete_beyondPolicy st s) :)

@[simp] theorem cardComplete_board : (cardComplete st s).board = s.board :=
  (congrArg State.board (cardComplete_beyondPolicy st s) :)

@[simp] theorem cardFails_upd :
    (cardFails st reason s).upd = { s.upd with st := 7, reason := reason, card := false } := by simp [cardFails]

@[simp] theorem cardFails_flash : (cardFails st reason s).flash = s.flash := by simp [cardFails]

@[simp] theorem cardFails_board : (cardFails st reason s).board = s.board := by simp [cardFails]

end

/-- A waiting command's completion is the next entry of the ring. -/
theorem completed_completeWait (w : Wait) (st : Status) (result : List Byte) (s : State) :
    Completed w st result s (completeWait w st result s) := by
  unfold completeWait
  cases hp : portOf w.port with
  | none =>
    obtain ⟨hentry, htail, hwaits, -, -⟩ := complete_system w.tag w.opc w.port st result s hp
    exact ⟨hentry, htail, fun v hv => by rw [hwaits] at hv; simpa using (List.mem_filter.mp hv).2⟩
  | some p =>
    obtain ⟨hentry, htail, hwaits, -, -⟩ := complete_port w.tag w.opc w.port st result s p hp
    exact ⟨hentry, htail, fun v hv => by rw [hwaits] at hv; simpa using (List.mem_filter.mp hv).2⟩

/-- What a completion writes depends on the ring's tail and on the time. -/
theorem Completed.congr {w : Wait} {st : Status} {result : List Byte} {s u t : State} (htail : cplTail u = cplTail s)
    (htime : u.time = s.time) (h : Completed w st result u t) : Completed w st result s t := by
  obtain ⟨hentry, hnext, hwaits⟩ := h
  unfold cplBytes at hentry
  rw [htail, htime] at hentry
  exact ⟨hentry, by rw [hnext, htail], hwaits⟩

/-! ## Bytes written into the flash (17 R410, R417) -/

/-- On erased bytes a program writes the data as it is. -/
theorem flashProgram_cells (a : Nat) (l : List Byte) (s : State)
    (h : ∀ j : Nat, j < l.length → cget (0xFF : Byte) s.flash.cells (a + j) = 0xFF) :
    (flashProgram a l s).flash.cells = cputN (0xFF : Byte) s.flash.cells a l := by
  induction l generalizing a s with
  | nil => rfl
  | cons b l ih =>
    have hold : cget (0xFF : Byte) s.flash.cells a = 0xFF := h 0 (by simp)
    have hput : programmed s.free (cget (0xFF : Byte) s.flash.cells a) b = b := by
      unfold programmed
      rw [hold]
      rfl
    simp only [flashProgram, cputN]
    rw [ih, hput]
    intro j hj
    have hnext := h (j + 1) (by simpa using hj)
    rw [hput, cget_cput, if_neg (by omega), ← hnext]
    congr 1
    omega

@[simp] theorem flashProgram_upd (a : Nat) (l : List Byte) (s : State) : (flashProgram a l s).upd = s.upd := by
  induction l generalizing a s with
  | nil => rfl
  | cons b l ih => exact ih _ _

theorem flashRead_flashProgram (a : Nat) (l : List Byte) (s : State)
    (h : ∀ j : Nat, j < l.length → cget (0xFF : Byte) s.flash.cells (a + j) = 0xFF) :
    flashRead (flashProgram a l s) a l.length = l := by
  unfold flashRead
  rw [flashProgram_cells a l s h]
  exact cgetN_cputN _ _ _ _

theorem cget_filter {α : Type} (d : α) (m : List (Nat × α)) (f : Nat → Bool) (a : Nat) :
    cget d (m.filter fun c => f c.1) a = if f a then cget d m a else d := by
  induction m with
  | nil => simp [cget]
  | cons c m ih =>
    rw [List.filter_cons]
    split
    next hkept =>
      simp only [cget]
      split
      next ha => rw [← ha, if_pos hkept]
      next => exact ih
    next hgone =>
      rw [ih, cget]
      split
      next hf => rw [if_neg fun ha : c.1 = a => hgone (by rw [ha]; exact hf)]
      next => rfl

/-- What is erased stays so under an erase. -/
theorem flashErase_erased {s : State} {b : Nat} (h : cget (0xFF : Byte) s.flash.cells b = 0xFF) (a : Nat) :
    cget (0xFF : Byte) (flashErase a s).flash.cells b = 0xFF := by
  unfold flashErase
  dsimp only
  rw [cget_filter _ _ (fun c => decide (c < a / 65536 * 65536) || decide (a / 65536 * 65536 + 65536 ≤ c))]
  split
  · exact h
  · rfl

@[simp] theorem flashErase_upd (a : Nat) (s : State) : (flashErase a s).upd = s.upd := rfl

@[simp] theorem writeBlock_upd (slot k : Nat) (l : List Byte) (s : State) : (writeBlock slot k l s).upd = s.upd := by
  unfold writeBlock
  dsimp only
  split <;> simp

/-- A block written on erased bytes reads back. -/
theorem flashRead_writeBlock (slot k : Nat) (l : List Byte) (s : State)
    (h : ∀ j : Nat, j < l.length → cget (0xFF : Byte) s.flash.cells (blockAddr slot k + j) = 0xFF) :
    flashRead (writeBlock slot k l s) (blockAddr slot k) l.length = l := by
  unfold writeBlock
  apply flashRead_flashProgram
  intro j hj
  split
  · exact flashErase_erased (h j hj) _
  · exact h j hj

@[simp] theorem slotVerify_flash (ok : Bool) (s : State) : (slotVerify ok s).flash = s.flash := by
  unfold slotVerify setHealth
  split
  · rfl
  · exact postCp_flash _ _ _

@[simp] theorem slotVerify_upd (ok : Bool) (s : State) : (slotVerify ok s).upd = s.upd := by
  unfold slotVerify setHealth
  split
  · rfl
  · exact postCp_upd _ _ _

/-- A block that reads back is put: it stands in its place and the next is expected, or state 2 follows the last. -/
theorem putBlock_of_reads {s : State} {l : List Byte}
    (h : flashRead (writeBlock s.upd.slot s.upd.next l s) (blockAddr s.upd.slot s.upd.next) l.length = l) :
    ∃ t, putBlock l true s = (t, true) ∧ t.upd.next = s.upd.next + 1 ∧
      flashRead t (blockAddr s.upd.slot s.upd.next) l.length = l ∧
      t.upd.st = if s.upd.next + 1 = hdrNblk s.upd.hdr then 2 else s.upd.st := by
  unfold putBlock
  simp only [writeBlock_upd, slotVerify_upd, h, beq_self_eq_true, Bool.and_self, if_true]
  refine ⟨_, rfl, ?_, ?_, ?_⟩
  · split <;> simp
  · refine Eq.trans ?_ h
    unfold flashRead
    split <;> simp
  · split <;> simp

/-! ## The instructions -/

section
variable (s : State)

theorem exec_updateBtnPress : exec .updateBtnPress s = execUpdateBtnPress s := rfl

/-- A press in standby acts as one after the wake that it causes. -/
theorem updateBtnPress_standby (h : s.cru.standby = true) :
    exec .updateBtnPress s = exec .updateBtnPress (wake 3 s) := by
  simp only [exec_updateBtnPress, execUpdateBtnPress, wake_of_awake (wake_standby h 3) 3]

theorem updateBtnPress_unserved (h : s.cru.standby = false) (hs : hostServed s = false) :
    exec .updateBtnPress s = .next s := by
  simp [exec_updateBtnPress, execUpdateBtnPress, wake_of_awake h, hs]

/-- The press on event line 14 of the control pair (13 R355). -/
def buttonLatched : State := modCore pairCore (fun k => { k with latched := setBit 14 k.latched }) s

theorem bitOf_setBit_14 (w : Word) : bitOf (setBit 14 w) 14 = true := by
  simp [bitOf, setBit]

theorem buttonLatched_line : bitOf (buttonLatched s).cores[pairCore].latched 14 = true := by
  unfold buttonLatched
  rw [Fin.getElem_fin, modCore_self]
  exact bitOf_setBit_14 _

theorem exec_updateBtnPress_served (h : s.cru.standby = false) (hs : hostServed s = true) :
    exec .updateBtnPress s = .next (if s.board.card && updFree s then
      postSys 1163 3 (cardBegin 1 (buttonLatched s)) else postSys 1163 1 (buttonLatched s)) := by
  simp only [exec_updateBtnPress, execUpdateBtnPress, wake_of_awake h, hs, if_true]
  split <;> rfl

/-- A press that the firmware serves latches the line, and begins an update when a card is in and none is open. -/
theorem updateBtnPress_served (h : s.cru.standby = false) (hs : hostServed s = true) :
    Moves .updateBtnPress s fun t => t.flash = s.flash ∧ bitOf t.cores[pairCore].latched 14 = true ∧
      (s.board.card = true → updFree s = true → t.upd.card = true ∧ t.upd.act = 1 ∧ t.upd.st = s.upd.st) ∧
      (s.board.card = false ∨ updFree s = false → t.upd = s.upd) := by
  have hx := exec_updateBtnPress_served s h hs
  cases hstart : s.board.card && updFree s with
  | true =>
    rw [hstart, if_pos rfl, eq_of_onlyHost (onlyHost_postSys _ _ _)] at hx
    refine ⟨_, hx, rfl, buttonLatched_line s, fun _ _ => ⟨rfl, rfl, rfl⟩, fun hno => ?_⟩
    rw [Bool.and_eq_true] at hstart
    simp [hstart] at hno
  | false =>
    rw [hstart, if_neg (by simp), eq_of_onlyHost (onlyHost_postSys _ _ _)] at hx
    refine ⟨_, hx, rfl, buttonLatched_line s, fun hcard hfree => ?_, fun _ => rfl⟩
    rw [hcard, hfree] at hstart
    cases hstart

/-- A card that comes or goes; one that goes while an update still reads it ends the update. -/
theorem sdCdNChange_moves (b : Bool) :
    Moves (.sdCdNChange b) s fun t => t.board = { s.board with card := b } ∧ t.flash = s.flash ∧
      (hwUp s = true → b = false → s.upd.card = true → s.upd.st ≠ 2 →
        t.upd.st = 7 ∧ t.upd.reason = 8 ∧ t.upd.card = false) ∧
      (hwUp s = false ∨ b = true ∨ s.upd.card = false ∨ s.upd.st = 2 → t.upd = s.upd) := by
  have hup : hwUp { s with board := { s.board with card := b } } = hwUp s := rfl
  refine ⟨_, rfl, ?_⟩
  simp only [hup, postCp_upd]
  split
  next hw =>
    split
    next hends =>
      simp only [Bool.and_eq_true, Bool.not_eq_true', bne_iff_ne] at hends
      obtain ⟨⟨hb, hcard⟩, hst⟩ := hends
      exact ⟨by simp, by simp, fun _ _ _ _ => by simp, fun hno => by simp [hw, hb, hcard, hst] at hno⟩
    next hkept =>
      exact ⟨by simp, by simp, fun _ hb hcard hst => absurd (by simp [hb, hcard, hst]) hkept, fun _ => by simp⟩
  next hw => exact ⟨rfl, rfl, fun hyes => absurd hyes hw, fun _ => rfl⟩

theorem exec_sdCdNChange (b : Bool) : exec (.sdCdNChange b) s = execSdCdNChange b s := rfl

/-- With the hardware up, its clock gate open and no standby the SD host has brought something. -/
theorem exec_sdTransferDone (r : CardRead) : exec (.sdTransferDone r) s =
    .next (if hwUp s && F.CRU_GATE.SD.on s.cru.regs.gate && !s.cru.standby then
      if hostServed s && s.upd.card then cardRead r (sdFlag s) else sdFlag s
      else s) := rfl

section
variable (r : CardRead)

theorem sdTransferDone_off
    (h : ¬(hwUp s = true ∧ F.CRU_GATE.SD.on s.cru.regs.gate = true ∧ s.cru.standby = false)) :
    exec (.sdTransferDone r) s = .next s := by
  rw [exec_sdTransferDone, if_neg]
  simpa [and_assoc] using h

/-- With no update that reads the card the host's flag alone follows. -/
theorem sdTransferDone_idle
    (on : hwUp s = true ∧ F.CRU_GATE.SD.on s.cru.regs.gate = true ∧ s.cru.standby = false)
    (h : hostServed s = false ∨ s.upd.card = false) : exec (.sdTransferDone r) s =
      .next { s with board := { s.board with sdFlag := !hostServed s } } := by
  obtain ⟨hup, hgate, hstby⟩ := on
  rw [exec_sdTransferDone, if_pos (by simp [hup, hgate, hstby]), if_neg]
  · rfl
  · rcases h with h | h <;> simp [h]

theorem sdTransferDone_read
    (on : hwUp s = true ∧ F.CRU_GATE.SD.on s.cru.regs.gate = true ∧ s.cru.standby = false)
    (hs : hostServed s = true) (hcard : s.upd.card = true) :
    exec (.sdTransferDone r) s = .next (cardRead r (sdFlag s)) := by
  obtain ⟨hup, hgate, hstby⟩ := on
  rw [exec_sdTransferDone, if_pos (by simp [hup, hgate, hstby]), if_pos (by simp [hs, hcard])]

end

/-- A block that is not as long as it must be, or fails its CRC, ends the update before anything is written. -/
theorem cardRead_bad {l : List Byte} (hst : s.upd.st = 1)
    (hbad : l.length ≠ blockLen s.upd.hdr s.upd.next ∨ blockCrcOk l = false) :
    cardRead (.data l) s = cardFails .imageInvalid 0x02 s := by
  have hcond : (l.length != blockLen s.upd.hdr s.upd.next || !blockCrcOk l) = true := by simpa using hbad
  simp only [cardRead, hst, hcond, if_true]

/-- A good block is put in its place. -/
theorem cardRead_good {l : List Byte} (hst : s.upd.st = 1) (hlen : l.length = blockLen s.upd.hdr s.upd.next)
    (hcrc : blockCrcOk l = true)
    (herased : ∀ j : Nat, j < l.length →
      cget (0xFF : Byte) s.flash.cells (blockAddr s.upd.slot s.upd.next + j) = 0xFF) :
    (cardRead (.data l) s).upd.next = s.upd.next + 1 ∧
      flashRead (cardRead (.data l) s) (blockAddr s.upd.slot s.upd.next) l.length = l ∧
      (cardRead (.data l) s).upd.st = if s.upd.next + 1 = hdrNblk s.upd.hdr then 2 else 1 := by
  obtain ⟨t, ht, hnext, hread, hstate⟩ := putBlock_of_reads (flashRead_writeBlock _ _ l s herased)
  have hread' : cardRead (.data l) s = t := by simp [cardRead, hst, hcrc, ← hlen, ht]
  rw [hst] at hstate
  rw [hread']
  exact ⟨hnext, hread, hstate⟩

/-- The crypto block has finished: an authentication's verification, or that of a card's image. -/
theorem exec_cryptoDone (ok : Bool) : exec (.cryptoDone ok) s =
    .next (if hwUp s && F.CRU_GATE.CRYPTO.on s.cru.regs.gate && !s.cru.standby then
      if hostServed s then
        match findWait s authVerifying with
        | some w => authVerified ok w (cryptoFlag s)
        | none => if s.upd.card && s.upd.st == 2 then cardFinish (cryptoFlag s) else cryptoFlag s
      else cryptoFlag s
      else s) := rfl

section
variable (ok : Bool)

theorem cryptoDone_off
    (h : ¬(hwUp s = true ∧ F.CRU_GATE.CRYPTO.on s.cru.regs.gate = true ∧ s.cru.standby = false)) :
    exec (.cryptoDone ok) s = .next s := by
  rw [exec_cryptoDone, if_neg]
  simpa [and_assoc] using h

/-- With no verification under way the block's flag alone follows. -/
theorem cryptoDone_idle
    (on : hwUp s = true ∧ F.CRU_GATE.CRYPTO.on s.cru.regs.gate = true ∧ s.cru.standby = false)
    (h : hostServed s = false ∨ (findWait s authVerifying = none ∧ (s.upd.card = false ∨ s.upd.st ≠ 2))) :
    exec (.cryptoDone ok) s = .next { s with board := { s.board with cryptoFlag := !hostServed s } } := by
  obtain ⟨hup, hgate, hstby⟩ := on
  rw [exec_cryptoDone, if_pos (by simp [hup, hgate, hstby])]
  rcases h with h | ⟨hauth, hcard⟩
  · rw [if_neg (by simp [h])]
    rfl
  · split
    · rw [hauth]
      dsimp only
      rw [if_neg (by rcases hcard with h | h <;> simp [h])]
      rfl
    · rfl

theorem cryptoDone_image
    (on : hwUp s = true ∧ F.CRU_GATE.CRYPTO.on s.cru.regs.gate = true ∧ s.cru.standby = false)
    (hs : hostServed s = true) (hauth : findWait s authVerifying = none) (hcard : s.upd.card = true)
    (hst : s.upd.st = 2) : exec (.cryptoDone ok) s = .next (cardFinish (cryptoFlag s)) := by
  obtain ⟨hup, hgate, hstby⟩ := on
  rw [exec_cryptoDone, if_pos (by simp [hup, hgate, hstby]), if_pos hs, hauth]
  dsimp only
  rw [if_pos (by simp [hcard, hst])]

end

/-- A signature that does not verify ends the update before the header is written. -/
theorem cardFinish_unsigned (h : signatureOk s s.upd.slot s.upd.hdr = false) :
    cardFinish s = cardComplete .imageInvalid (abandon 0x03 s) := by
  simp [cardFinish, finishUpdate, h]

theorem cardFinish_unsigned_completed (h : signatureOk s s.upd.slot s.upd.hdr = false) {w : Wait}
    (hw : findWait s (fun v => v.kind == .card) = some w) :
    Completed w .imageInvalid ([BitVec.ofNat 8 s.upd.slot, 3, 0, 0] ++ bytes4 (hdrVersion s.upd.hdr)) s
      (cardFinish s) := by
  obtain ⟨hwaits, htail⟩ := abandon_completions 0x03 s
  have hresult : cardResult (abandon 0x03 s) =
      [BitVec.ofNat 8 s.upd.slot, 3, 0, 0] ++ bytes4 (hdrVersion s.upd.hdr) := by simp [cardResult]
  have hfound : findWait (abandon 0x03 s) (fun v => v.kind == .card) = some w := by
    unfold findWait at hw ⊢
    rw [hwaits, hw]
  rw [cardFinish_unsigned s h, cardComplete, hfound, ← hresult]
  exact (completed_completeWait w _ _ _).congr htail (abandon_time _ s)

end

/-! ## The obligation -/

/-- Settles O41, instruction by instruction: the LED chain's frame bit by bit, the button, the card detect, what the SD
host brought, and what the crypto block found. -/
theorem boardAndCardEvents : Obligations.BoardAndCardEvents := by
  unfold Obligations.BoardAndCardEvents
  intro s
  refine ⟨ledFrame_off, fun hrun hstby hgate => ?_, updateBtnPress_standby s, updateBtnPress_unserved s,
    updateBtnPress_served s, sdCdNChange_moves s, fun r => ⟨fun hoff => ?_, fun on hidle => ?_, fun on hs hcard => ?_⟩,
    fun ok => ⟨fun hoff => ?_, fun on hidle => ?_, fun on hs hauth hcard hst hsig => ?_⟩⟩
  · obtain ⟨t, hx, hrest, hframes, hlen, hbits⟩ := ledFrame_moves hrun hstby hgate
    refine ⟨t, hx, hrest, hframes, hlen, fun p => ?_⟩
    obtain ⟨b1, b0, h1, h0, hb⟩ := hbits p
    refine ⟨b1, b0, h1, h0, fun hheld => ?_, fun hheld => ?_⟩
    · rw [ledBits_held hheld] at hb
      exact Prod.mk.inj hb
    · obtain ⟨hidle, hcontracted, hfenced, htripped⟩ := ledBits_running hheld (s.board.frames / 25 % 2 == 1)
      exact ⟨fun h => Prod.mk.inj (hb.trans (hidle h)), fun h => Prod.mk.inj (hb.trans (hcontracted h)),
        fun h => Prod.mk.inj (hb.trans (hfenced h)), fun h => Prod.mk.inj (hb.trans (htripped h))⟩
  · exact sdTransferDone_off s r hoff
  · exact sdTransferDone_idle s r on hidle
  · have hx := sdTransferDone_read s r on hs hcard
    refine ⟨?_, ?_, ?_⟩
    · rintro rfl
      exact ⟨_, hx, by simp [cardRead]⟩
    · rintro rfl
      exact ⟨_, hx, by simp [cardRead]⟩
    · rintro l rfl hst
      refine ⟨fun hbad => ?_, fun hlen hcrc herased => ?_⟩
      · rw [cardRead_bad (sdFlag s) hst hbad] at hx
        exact ⟨_, hx, by simp, by simp, cardFails_flash _ _ _⟩
      · exact ⟨_, hx, cardRead_good (sdFlag s) hst hlen hcrc herased⟩
  · exact cryptoDone_off s ok hoff
  · exact cryptoDone_idle s ok on hidle
  · have hx := cryptoDone_image s ok on hs hauth hcard hst
    refine ⟨_, hx, ?_⟩
    have hunsigned := cardFinish_unsigned (cryptoFlag s) hsig
    refine ⟨by simp [hunsigned], by simp [hunsigned], ?_, fun w hw =>
      cardFinish_unsigned_completed (cryptoFlag s) hsig hw⟩
    rw [hunsigned, cardComplete_flash, abandon_flash]
    rfl

end Sys2Proof.Machine

/-! SUPPORT. What the front die and the protocol hardware of one port leave of it: the fields of PRT_STATE and CC_CTL,
and one rule per operation that acts on PD registers, message contexts and terminations alone (03 R61, R74, 04 R92,
R98, R101). -/

namespace Sys2Proof

/-! ## Fields under a mask -/

/-- A field that a mask covers. -/
abbrev Fld.within (f : Fld) (m : Word) : Prop := ∀ i < f.width, m.getLsbD (f.lo + i) = true

theorem get_congr {f : Fld} {v w : Word} (h : ∀ i < f.width, v.getLsbD (f.lo + i) = w.getLsbD (f.lo + i)) :
    f.get v = f.get w := by
  apply Nat.eq_of_testBit_eq
  intro i
  rw [testBit_get, testBit_get]
  by_cases hi : i < f.width
  · rw [h i hi]
  · simp [hi]

theorem get_and (f : Fld) (m : Word) (hf : f.within m) (w : Word) : f.get (w &&& m) = f.get w :=
  get_congr fun i hi => by rw [BitVec.getLsbD_and, hf i hi, Bool.and_true]

/-- A write of the bits of a mask gives a field that lies in it. -/
theorem get_masked (f : Fld) (m : Word) (hf : f.within m) (old v : Word) :
    f.get ((old &&& ~~~m) ||| (v &&& m)) = f.get v := by
  refine get_congr fun i hi => ?_
  have hm := hf i hi
  simp [hm]

/-- A field of one bit is the bit. -/
theorem on_eq_getLsbD (f : Fld) (hf : f.width = 1) (w : Word) : f.on w = w.getLsbD f.lo := by
  have hlt : f.get w < 2 := by simpa [hf] using get_lt f w
  have hbit : (f.get w).testBit 0 = w.getLsbD f.lo := by rw [testBit_get, hf, Nat.add_zero]; rfl
  rw [← hbit, Fld.on]
  interval_cases f.get w <;> rfl

end Sys2Proof

namespace Sys2Proof.Machine
open Sys2Proof

/-! ## One port's change as a command's outcome -/

theorem movesPort_of_modPort {i : Instr} {s : State} {p : PortId} {f : Port → Port} {R : Port → Prop}
    (h : exec i s = .next (modPort p f s)) (hR : R (f s.ports[p])) : MovesPort i s p R := by
  refine ⟨_, h, rfl, fun r hr => modPort_other p f s r hr, ?_⟩
  have hp : (modPort p f s).ports[p] = f s.ports[p] := modPort_self p f s
  rwa [hp]

theorem modPort_modPort (p : PortId) (f g : Port → Port) (s : State) :
    modPort p g (modPort p f s) = modPort p (fun q => g (f q)) s := by
  simp [modPort]

theorem modPort_eq_self {p : PortId} {f : Port → Port} {s : State} (h : f s.ports[p] = s.ports[p]) :
    modPort p f s = s := by
  unfold modPort
  rw [h]
  simp

/-- The port with a step of its policy kept for the engine (01 R20). -/
def Port.waiting (i : Instr) (q : Port) : Port := { q with pol := { q.pol with pend := q.pol.pend ++ [i] } }

section
variable {p : PortId} {s : State}

theorem atPolicy_of_acts (h : Acts s p) (i : Instr) (f : State → State) : atPolicy p i f s = f s := by
  rw [atPolicy, h.1, h.2]
  rfl

theorem atPolicy_of_not_acts (h : ¬Acts s p) (i : Instr) (f : State → State) :
    atPolicy p i f s = modPort p (Port.waiting i) s := by
  have hn : ¬(portServed s p && s.ports[p].pol.pend.isEmpty) = true := by
    rwa [Bool.and_eq_true, List.isEmpty_iff]
  rw [atPolicy, if_neg hn]
  rfl

/-- What the hardware does to a port does not decide whether its engine acts. -/
theorem acts_modPort {f : Port → Port} (hf : (f s.ports[p]).pol = s.ports[p].pol) :
    Acts (modPort p f s) p ↔ Acts s p := by
  have hp : (modPort p f s).ports[p] = f s.ports[p] := modPort_self p f s
  have hs : portServed (modPort p f s) p = portServed s p := rfl
  rw [Acts, hs, hp, hf]

/-- The hardware's part of a command whose engine's part waits. -/
theorem atPolicy_modPort_waits {f : Port → Port} (hf : (f s.ports[p]).pol = s.ports[p].pol) (h : ¬Acts s p)
    (i : Instr) (g : State → State) :
    atPolicy p i g (modPort p f s) = modPort p (fun q => (f q).waiting i) s := by
  rw [atPolicy_of_not_acts (mt (acts_modPort hf).mp h), modPort_modPort]

theorem atPolicy_modPort_acts {f : Port → Port} (hf : (f s.ports[p]).pol = s.ports[p].pol) (h : Acts s p)
    (i : Instr) (g : State → State) : atPolicy p i g (modPort p f s) = g (modPort p f s) :=
  atPolicy_of_acts ((acts_modPort hf).mpr h) i g

end

/-! ## PRT_STATE (03 R61) -/

theorem ofCode_code (t : PortSt) : PortSt.ofCode t.code = t := by cases t <;> rfl

theorem setSt_st {q : Port} (h : q.st ≠ .fenced) (t : PortSt) : (q.setSt t).st = t := by
  have hcode : t.code % 2 ^ F.PRT_STATE.STATE.width = t.code := by cases t <;> rfl
  rw [Port.setSt, if_neg h]
  exact (congrArg PortSt.ofCode ((get_put _ (by decide) _ _).trans hcode)).trans (ofCode_code t)

@[simp] theorem setTc_st (n : Nat) (q : Port) : (q.setTc n).st = q.st :=
  congrArg PortSt.ofCode (get_put_apart _ _ (by decide) n q.core.state)

theorem setTc_tc {n : Nat} (hn : n < 32) (q : Port) : (q.setTc n).tc = n :=
  (get_put _ (by decide) n q.core.state).trans (Nat.mod_eq_of_lt hn)

theorem st_of_core {q t : Port} (h : t.core = q.core) : t.st = q.st := by simp only [Port.st, h]

theorem tc_of_core {q t : Port} (h : t.core = q.core) : t.tc = q.tc := by simp only [Port.tc, h]

theorem orient_of_core {q t : Port} (h : t.core = q.core) : t.orient = q.orient := by simp only [Port.orient, h]

/-! ## What the protocol hardware leaves (04 R88 to R101) -/

/-- The port with its PD registers, message contexts and protocol hardware blanked: what is equal here is untouched by
them. -/
def Port.beyondPhy (q : Port) : Port := { q with pd := PdRegs.reset, ctx := Port.reset.ctx, phw := PdHw.reset }

/-- As beyondPhy, with CC_CTL, the thresholds that it loads and the engine's policy context blanked too. -/
def Port.beyondPd (q : Port) : Port :=
  { q.beyondPhy with cc := { q.cc with ctl := 0, cfg := CcRegs.reset.cfg }, pol := Policy.reset }

section
variable {q t : Port}

theorem beyondPd_of_beyondPhy (h : t.beyondPhy = q.beyondPhy) : t.beyondPd = q.beyondPd :=
  congrArg (fun u : Port => { u with cc := { u.cc with ctl := 0, cfg := CcRegs.reset.cfg }, pol := Policy.reset }) h

/-- What lies beyond the protocol hardware, register block by register block. -/
theorem eq_of_beyondPhy (h : t.beyondPhy = q.beyondPhy) :
    t.core = q.core ∧ t.cc = q.cc ∧ t.pth = q.pth ∧ t.hw = q.hw ∧ t.pol = q.pol := by
  simp only [Port.beyondPhy, Port.mk.injEq] at h
  tauto

/-- What lies beyond the terminations and the protocol, register block by register block. -/
theorem eq_of_beyondPd (h : t.beyondPd = q.beyondPd) : t.core = q.core ∧ t.pth = q.pth ∧ t.hw = q.hw ∧
    t.cc.stat = q.cc.stat ∧ t.cc.vctl = q.cc.vctl ∧ t.cc.vstat = q.cc.vstat := by
  simp only [Port.beyondPd, Port.beyondPhy, Port.mk.injEq, CcRegs.mk.injEq] at h
  tauto

end

/-- The end of a wait for SinkTxOk changes message contexts, their timer and the PHY alone (04 R92). -/
theorem releaseWaiting_keeps {α : Type} (g : Port → α)
    (hg : ∀ (q : Port) ctx run phw, g { q with ctx := ctx, pd := { q.pd with tmrrun := run }, phw := phw } = g q)
    (q : Port) : g (releaseWaiting q) = g q := by
  unfold releaseWaiting
  split
  · rfl
  · refine List.foldlRecOn _ _ (motive := fun t => g t = g q) rfl fun t ht c _ => ?_
    split
    · exact (hg t _ _ _).trans ht
    · exact ht

section
variable (q : Port)

@[simp] theorem beyondPd_ite {b : Prop} [Decidable b] (t u : Port) :
    (if b then t else u).beyondPd = if b then t.beyondPd else u.beyondPd := apply_ite ..

@[simp] theorem stopAllSlots_beyondPd : (stopAllSlots q).beyondPd = q.beyondPd := rfl

@[simp] theorem syncTxOk_beyondPhy : (syncTxOk q).beyondPhy = q.beyondPhy := by
  unfold syncTxOk
  dsimp only
  split
  · exact releaseWaiting_keeps Port.beyondPhy (fun _ _ _ _ => rfl) _
  · rfl

@[simp] theorem syncTxOk_beyondPd : (syncTxOk q).beyondPd = q.beyondPd :=
  beyondPd_of_beyondPhy (syncTxOk_beyondPhy q)

@[simp] theorem loadPin_beyondPd (lo hi : Fin 8) (t : Option (Nat × Nat)) :
    (loadPin lo hi t q).beyondPd = q.beyondPd := by
  cases t <;> rfl

@[simp] theorem writeCcCtl_beyondPd (v : Word) : (writeCcCtl v q).beyondPd = q.beyondPd := by
  unfold writeCcCtl
  rw [syncTxOk_beyondPd, beyondPd_ite, loadPin_beyondPd, loadPin_beyondPd, ite_self]
  rfl

@[simp] theorem setRp_beyondPd (l : Nat) : (setRp l q).beyondPd = q.beyondPd := writeCcCtl_beyondPd q _

@[simp] theorem setTerms_beyondPd (a b : Nat) : (setTerms a b q).beyondPd = q.beyondPd := writeCcCtl_beyondPd q _

@[simp] theorem finishTx_beyondPd (c : Fin 3) (r : Nat) (adv : Bool) : (finishTx c r adv q).beyondPd = q.beyondPd := by
  unfold finishTx
  split <;> rfl

@[simp] theorem abortTx_beyondPd (c : Fin 3) : (abortTx c q).beyondPd = q.beyondPd := by simp [abortTx]

@[simp] theorem resetCtx_beyondPd (c : Fin 3) : (resetCtx c q).beyondPd = q.beyondPd := abortTx_beyondPd q c

@[simp] theorem enableCtx_beyondPd (c : Fin 3) (on : Bool) : (enableCtx c on q).beyondPd = q.beyondPd := by
  cases on
  · exact abortTx_beyondPd q c
  · rfl

@[simp] theorem dropReasm_beyondPd : (dropReasm q).beyondPd = q.beyondPd := by
  unfold dropReasm
  split <;> rfl

@[simp] theorem amsEnd_beyondPd : (amsEnd q).beyondPd = q.beyondPd := by
  unfold amsEnd
  dsimp only
  split
  · exact setRp_beyondPd _ 2
  · rfl

@[simp] theorem amsRestore_beyondPd : (amsRestore q).beyondPd = q.beyondPd := by simp [amsRestore]

@[simp] theorem hardResetCtxs_beyondPd : (hardResetCtxs q).beyondPd = q.beyondPd :=
  (amsRestore_beyondPd _).trans (by simp)

@[simp] theorem detachCtxs_beyondPd : (detachCtxs q).beyondPd = q.beyondPd :=
  (stopAllSlots_beyondPd _).trans (by simp)

/-! ## SINKTXOK and CC_CTL (03 R74, 04 R92) -/

theorem txOkNow_syncTxOk : txOkNow (syncTxOk q) = txOkNow q := by
  have h := congrArg txOkNow (syncTxOk_beyondPhy q)
  exact h

/-- PD_PHYSTAT.SINKTXOK shows what the oriented pin presents. -/
theorem syncTxOk_shows : F.PD_PHYSTAT.SINKTXOK.on (syncTxOk q).pd.phystat = txOkNow (syncTxOk q) := by
  have hreg : (syncTxOk q).pd.phystat = F.PD_PHYSTAT.SINKTXOK.setTo (txOkNow q) q.pd.phystat := by
    unfold syncTxOk
    dsimp only
    split
    · exact releaseWaiting_keeps (fun t => t.pd.phystat) (fun _ _ _ _ => rfl) _
    · rfl
  rw [txOkNow_syncTxOk, hreg]
  exact on_setTo _ (by decide) (by decide) _ _

@[simp] theorem syncTxOk_cc : (syncTxOk q).cc = q.cc := by
  obtain ⟨-, hcc, -⟩ := eq_of_beyondPhy (syncTxOk_beyondPhy q)
  exact hcc

@[simp] theorem syncTxOk_pol : (syncTxOk q).pol = q.pol := by
  obtain ⟨-, -, -, -, hpol⟩ := eq_of_beyondPhy (syncTxOk_beyondPhy q)
  exact hpol

theorem writeCcCtl_ctl (v : Word) : (writeCcCtl v q).cc.ctl = v &&& 0xFF := by
  have hload : ∀ (lo hi : Fin 8) t (u : Port), (loadPin lo hi t u).cc.ctl = u.cc.ctl := by
    intro lo hi t u
    cases t <;> rfl
  rw [writeCcCtl, syncTxOk_cc]
  split
  · rw [hload, hload]
  · rfl

theorem writeCcCtl_pol (v : Word) : (writeCcCtl v q).pol = q.pol := by
  have hload : ∀ (lo hi : Fin 8) t (u : Port), (loadPin lo hi t u).pol = u.pol := by
    intro lo hi t u
    cases t <;> rfl
  rw [writeCcCtl, syncTxOk_pol]
  split
  · rw [hload, hload]
  · rfl

theorem amsRestore_pol : (amsRestore q).pol = q.pol := by
  unfold amsRestore amsEnd
  dsimp only
  split_ifs
  · exact writeCcCtl_pol _ _
  · rfl
  · rfl

theorem setTerms_termsAre {n : Nat} (hn : n < 4) : (setTerms n n q).termsAre n := by
  have hmod : n % 4 = n := Nat.mod_eq_of_lt hn
  unfold Port.termsAre setTerms
  rw [writeCcCtl_ctl, get_and _ _ (by decide), get_and _ _ (by decide)]
  exact ⟨(get_put_apart _ _ (by decide) _ _).trans ((get_put _ (by decide) _ _).trans hmod),
    (get_put _ (by decide) _ _).trans hmod⟩

theorem setRp_termsAre {n : Nat} (l : Nat) : (setRp l q).termsAre n ↔ q.termsAre n := by
  unfold Port.termsAre setRp
  rw [writeCcCtl_ctl, get_and _ _ (by decide), get_and _ _ (by decide), get_put_apart _ _ (by decide),
    get_put_apart _ _ (by decide)]

end

end Sys2Proof.Machine

/-! SUPPORT. The ends of the attach debounce and of the timers beside it (03 R67 to R69, Table ATT-7, Table ATT-8, 05
R148): what each sets in the port, and what the engine that serves the port then does. -/

namespace Sys2Proof.Machine
open Sys2Proof

/-! ## The decoded pattern (03 R60, R66) -/

section
variable {q t : Port}

theorem rdPhase_of_termsAre_rp (h : q.termsAre 1) : q.rdPhase = false := by
  have hpin : ∀ pin, q.presents pin ≠ .rd := by
    intro pin
    have hterm : (if pin then F.CC_CTL.CC2_TERM.get q.cc.ctl else F.CC_CTL.CC1_TERM.get q.cc.ctl) = 1 := by
      cases pin
      · exact h.1
      · exact h.2
    unfold Port.presents
    rw [hterm]
    split_ifs <;> simp
  simp [Port.rdPhase, hpin]

/-- The pattern rests on the pins' decoding, on what the pins present, and on DBGACC_EN. -/
theorem pattern_congr (hr : t.rdPhase = q.rdPhase) (h1 : t.dec1 = q.dec1) (h2 : t.dec2 = q.dec2)
    (hc : t.core.cfg = q.core.cfg) : t.pattern = q.pattern := by
  simp only [Port.pattern, hr, h1, h2, hc]

end

/-! ## The end of a debounce (03 R68, R69) -/

/-- The debounce under way has ended, with its flag in PRT_EVT. -/
def debEnds (f : Fld) (q : Port) : Port :=
  { stopDeb q with core := { q.core with evt := f.set q.core.evt } }

section
variable (f : Fld) (q : Port)

theorem debEnds_debRun : F.CC_STAT.DEB_RUN.on (debEnds f q).cc.stat = false := on_clr _ _

@[simp] theorem debEnds_pattern : (debEnds f q).pattern = q.pattern :=
  pattern_congr rfl (get_clr_apart _ _ (by decide) _) (get_clr_apart _ _ (by decide) _) rfl

end

/-- Nothing but VBUS above vSafe0V holds the port's cast-on as a source: no retry interval, no exhausted retries (05
R149), Rp presented. -/
abbrev Port.vbusHolds (q : Port) : Prop :=
  q.hw.retryEnd = none ∧ q.retryExh = false ∧ q.rdPhase = false ∧ q.strained 4 = true

/-- The port waits for vSafe0V with the sink on (03 Table ATT-7). -/
def awaitsVsafe (q : Port) : Port := { sinkOn q with pol := { q.pol with castWait := true } }

theorem awaitsVsafe_sink (q : Port) : F.PTH_STAT.DIS_ON.on (awaitsVsafe q).pth.stat = true :=
  on_set _ (by decide) (by decide) _

section
variable {p : PortId} {s : State}

theorem castAs_awaitsVsafe (hp : s.ports[p].pattern.isSome = true) (hh : s.ports[p].vbusHolds) :
    castAs p s = modPort p awaitsVsafe s := by
  obtain ⟨hend, hexh, hrd, hvbus⟩ := hh
  have hpat : s.ports[p].pattern.isNone = false := by rw [Option.isNone_eq_false_iff]; exact hp
  simp only [castAs, castOn, hend, hexh, hrd, hvbus, hpat]
  rfl

/-- The end of the attach debounce of a source port that VBUS holds. -/
theorem polDebDone_awaitsVsafe (hst : s.ports[p].st = .attachWait) (hdeb : s.ports[p].hw.deb = none)
    (htc : s.ports[p].tc = 2) (hp : s.ports[p].pattern.isSome = true)
    (htry : F.PRT_CFG.TRY.get s.ports[p].core.cfg ≠ 2) (hh : s.ports[p].vbusHolds) :
    polDebDone p s = modPort p awaitsVsafe s := by
  have hpat : s.ports[p].pattern.isNone = false := by rw [Option.isNone_eq_false_iff]; exact hp
  simp [-Fin.getElem_fin, polDebDone, hst, hdeb, htc, hpat, htry, castAs_awaitsVsafe hp hh]

theorem polTryDeb_awaitsVsafe (hst : s.ports[p].st = .attachWait) (htc : s.ports[p].tc = 4)
    (hp : s.ports[p].pattern.isSome = true) (hh : s.ports[p].vbusHolds) :
    polTryDeb p s = modPort p awaitsVsafe s := by
  have hpat : s.ports[p].pattern.isNone = false := by rw [Option.isNone_eq_false_iff]; exact hp
  have htry : s.ports[p].trying = true := by rw [Port.trying, htc]; rfl
  simp [-Fin.getElem_fin, polTryDeb, hst, hpat, htry, castAs_awaitsVsafe hp hh]

theorem exec_debDone (hst : s.ports[p].st = .attachWait) (hdeb : s.ports[p].hw.deb.isSome = true)
    (htry : s.ports[p].trying = false) : exec (.debDone p) s =
      .next (atPolicy p (.debDone p) (polDebDone p) (modPort p (debEnds F.PRT_EVT.DEB_DONE) s)) := by
  have hx : exec (.debDone p) s = .next (debDone p s) := rfl
  rw [hx, debDone, hst, hdeb, htry]
  rfl

theorem exec_ttrydebExpiry (hst : s.ports[p].st = .attachWait) (hdeb : s.ports[p].hw.deb.isSome = true)
    (htry : s.ports[p].trying = true) : exec (.ttrydebExpiry p) s =
      .next (atPolicy p (.ttrydebExpiry p) (polTryDeb p) (modPort p (debEnds F.PRT_EVT.CC_TMR) s)) := by
  have hx : exec (.ttrydebExpiry p) s = execTtrydebExpiry p s := rfl
  rw [hx, execTtrydebExpiry, hst, hdeb, htry]
  rfl

/-- A debounce that ends on a port whose engine does not act. -/
theorem debEnds_waits {i : Instr} {f : Fld} {g : State → State} (hf : f.fits = true) (hw : 0 < f.width)
    (hx : exec i s = .next (atPolicy p i g (modPort p (debEnds f) s))) (hst : s.ports[p].st = .attachWait)
    (hn : ¬Acts s p) : MovesPort i s p fun t => f.on t.core.evt = true ∧ t.hw.deb = none ∧
      F.CC_STAT.DEB_RUN.on t.cc.stat = false ∧ t.st = .attachWait ∧ Port.keeps i s.ports[p] t := by
  rw [atPolicy_modPort_waits (by rfl) hn] at hx
  exact movesPort_of_modPort hx ⟨on_set f hf hw _, rfl, debEnds_debRun f _, hst, rfl⟩

/-- A debounce that ends on a source port that VBUS holds, with the engine's part done: the sink is on. -/
theorem debEnds_awaitsVsafe {i : Instr} {f : Fld} {g : State → State} (hf : f.fits = true) (hw : 0 < f.width)
    (hx : exec i s = .next (atPolicy p i g (modPort p (debEnds f) s))) (ha : Acts s p)
    (hg : g (modPort p (debEnds f) s) = modPort p awaitsVsafe (modPort p (debEnds f) s))
    (hst : s.ports[p].st = .attachWait) : MovesPort i s p fun t => f.on t.core.evt = true ∧ t.hw.deb = none ∧
      F.PTH_STAT.DIS_ON.on t.pth.stat = true ∧ t.pol.castWait = true ∧ t.st = .attachWait := by
  rw [atPolicy_modPort_acts (by rfl) ha, hg, modPort_modPort] at hx
  exact movesPort_of_modPort hx ⟨on_set f hf hw _, rfl, awaitsVsafe_sink _, rfl, hst⟩

theorem debDone_awaitsVsafe (hst : s.ports[p].st = .attachWait) (hdeb : s.ports[p].hw.deb.isSome = true)
    (htc : s.ports[p].tc = 2) (ha : Acts s p) (hp : s.ports[p].pattern.isSome = true)
    (htry : F.PRT_CFG.TRY.get s.ports[p].core.cfg ≠ 2) (hh : s.ports[p].vbusHolds) :
    MovesPort (.debDone p) s p fun t => F.PRT_EVT.DEB_DONE.on t.core.evt = true ∧ t.hw.deb = none ∧
      F.PTH_STAT.DIS_ON.on t.pth.stat = true ∧ t.pol.castWait = true ∧ t.st = .attachWait := by
  have hnot : s.ports[p].trying = false := by rw [Port.trying, htc]; rfl
  refine debEnds_awaitsVsafe (by decide) (by decide) (exec_debDone hst hdeb hnot) ha ?_ hst
  have hq : (modPort p (debEnds F.PRT_EVT.DEB_DONE) s).ports[p] = debEnds F.PRT_EVT.DEB_DONE s.ports[p] :=
    modPort_self p _ s
  apply polDebDone_awaitsVsafe <;> rw [hq]
  · exact hst
  · rfl
  · exact htc
  · rwa [debEnds_pattern]
  · exact htry
  · exact hh

theorem ttrydeb_awaitsVsafe (hst : s.ports[p].st = .attachWait) (hdeb : s.ports[p].hw.deb.isSome = true)
    (htc : s.ports[p].tc = 4) (ha : Acts s p) (hp : s.ports[p].pattern.isSome = true) (hh : s.ports[p].vbusHolds) :
    MovesPort (.ttrydebExpiry p) s p fun t => F.PRT_EVT.CC_TMR.on t.core.evt = true ∧ t.hw.deb = none ∧
      F.PTH_STAT.DIS_ON.on t.pth.stat = true ∧ t.pol.castWait = true ∧ t.st = .attachWait := by
  have htry : s.ports[p].trying = true := by rw [Port.trying, htc]; rfl
  refine debEnds_awaitsVsafe (by decide) (by decide) (exec_ttrydebExpiry hst hdeb htry) ha ?_ hst
  have hq : (modPort p (debEnds F.PRT_EVT.CC_TMR) s).ports[p] = debEnds F.PRT_EVT.CC_TMR s.ports[p] :=
    modPort_self p _ s
  apply polTryDeb_awaitsVsafe <;> rw [hq]
  · exact hst
  · exact htc
  · rwa [debEnds_pattern]
  · exact hh

end

/-! ## The return to DETACHED (03 R64, R67, 05 R148) -/

/-- PRT_STATE of a port that enters DETACHED: no orientation, no accessory. -/
def toDetached (role : Nat) (q : Port) : Port :=
  let q := (q.setSt .detached).setTc (if role = 1 then 6 else 1)
  { q with core := { q.core with
    state := F.PRT_STATE.NOPD.clr (F.PRT_STATE.DEBUG.clr (F.PRT_STATE.ORIENT.clr q.core.state)) } }

/-- A port of a role as it enters DETACHED: the role's terminations with Rp at a level, no debounce, no Try state. -/
def enteredDetached (role lvl : Nat) (q : Port) : Port :=
  let q := stopDeb (setRp lvl (roleTerms role (toDetached role q)))
  { q with
    cc := { q.cc with
      stat := F.CC_STAT.DRP_PHASE.clr q.cc.stat
      cfg := q.cc.cfg.set 5 (F.CMP_CFG.THR.put 80 q.cc.cfg[5]) }
    hw := { q.hw with drpTry := none, tryPassed := false }
    pol := { q.pol with
      kept := none, detachCause := none, detachAt := none, errRecovery := false, tripDetach := false, retrying := false,
      castWait := false, prearmed := false, capLimit := none, only5 := false } }

/-- The port in DETACHED with its holding released, before an attach pattern moves it on (03 R64, 06 R165). -/
def releasedDetached (p : PortId) (s : State) : State :=
  caddyRelease p (modPort p (enteredDetached (roleOf s p) (askedLevel s.cadp[p])) s)

theorem enterDetached_eq (p : PortId) (s : State) : enterDetached p s =
    if (releasedDetached p (modFront p applyLater s)).ports[p].pattern.isSome
      then enterAttachWait p (releasedDetached p (modFront p applyLater s))
      else releasedDetached p (modFront p applyLater s) := rfl

theorem releasedDetached_port (p : PortId) (s : State) : (releasedDetached p s).ports[p] =
    setCadLim 0 (setCeil 50 (enteredDetached (roleOf s p) (askedLevel s.cadp[p]) s.ports[p])) := by
  simp [releasedDetached, caddyRelease, modPort]

theorem atPort_releasedDetached (p : PortId) (s : State) : AtPort p s (releasedDetached p s) :=
  (atPort_modPort p _ s).trans (atPort_caddyRelease p _)

section
variable (role lvl : Nat) {q : Port}

theorem toDetached_state (h : q.st ≠ .fenced) : (toDetached role q).core.state =
    F.PRT_STATE.NOPD.clr (F.PRT_STATE.DEBUG.clr (F.PRT_STATE.ORIENT.clr
      (F.PRT_STATE.TC_STATE.put (if role = 1 then 6 else 1) (F.PRT_STATE.STATE.put 1 q.core.state)))) := by
  rw [toDetached, Port.setSt, if_neg h]
  rfl

theorem toDetached_st (h : q.st ≠ .fenced) : (toDetached role q).st = .detached := by
  rw [Port.st, toDetached_state role h]
  simp (disch := decide) only [get_clr_apart, get_put_apart, get_put]
  rfl

theorem toDetached_tc (h : q.st ≠ .fenced) : (toDetached role q).tc = if role = 1 then 6 else 1 := by
  rw [Port.tc, toDetached_state role h]
  simp (disch := decide) only [get_clr_apart, get_put]
  split <;> rfl

theorem toDetached_orient (h : q.st ≠ .fenced) : (toDetached role q).orient = 0 := by
  rw [Port.orient, toDetached_state role h]
  simp (disch := decide) only [get_clr_apart, get_clr]

theorem toDetached_rest : (toDetached role q).cc = q.cc ∧ (toDetached role q).core.cfg = q.core.cfg := by
  unfold toDetached Port.setTc Port.setSt
  split <;> exact ⟨rfl, rfl⟩

theorem roleTerms_beyondPd (q : Port) : (roleTerms role q).beyondPd = q.beyondPd := by
  unfold roleTerms
  split <;> exact setTerms_beyondPd q _ _

theorem enteredDetached_core : (enteredDetached role lvl q).core = (toDetached role q).core :=
  (eq_of_beyondPd ((setRp_beyondPd _ lvl).trans (roleTerms_beyondPd role _))).1

theorem enteredDetached_stat : (enteredDetached role lvl q).cc.stat =
    F.CC_STAT.DRP_PHASE.clr (F.CC_STAT.DEB_RUN.clr q.cc.stat) := by
  obtain ⟨-, -, -, hstat, -, -⟩ :=
    eq_of_beyondPd ((setRp_beyondPd _ lvl).trans (roleTerms_beyondPd role (toDetached role q)))
  rw [(toDetached_rest role).1] at hstat
  rw [← hstat]
  rfl

theorem enteredDetached_termsAre : (enteredDetached 0 lvl q).termsAre 1 :=
  (setRp_termsAre _ lvl).mpr (setTerms_termsAre _ (by decide))

/-- With Rp before and after, the pins decode to the pattern that they had. -/
theorem enteredDetached_pattern (hrd : q.rdPhase = false) : (enteredDetached 0 lvl q).pattern = q.pattern := by
  refine pattern_congr ((rdPhase_of_termsAre_rp (enteredDetached_termsAre lvl)).trans hrd.symm) ?_ ?_
    (by rw [enteredDetached_core, (toDetached_rest 0).2])
  · rw [Port.dec1, enteredDetached_stat]
    simp (disch := decide) only [get_clr_apart]
    rfl
  · rw [Port.dec2, enteredDetached_stat]
    simp (disch := decide) only [get_clr_apart]
    rfl

end

theorem applyLater_of_none {q : Port} (h1 : q.pol.cfgLater = none) (h2 : q.pol.captLater = none) :
    applyLater q = q := by
  obtain ⟨core, cc, ctx, pd, pth, cur, tel, hw, phw, pol, copy⟩ := q
  dsimp only at h1 h2
  simp only [applyLater, h1, h2]
  rw [← h1, ← h2]

theorem modFront_applyLater_of_none {p : PortId} {s : State} (h1 : s.ports[p].pol.cfgLater = none)
    (h2 : s.ports[p].pol.captLater = none) : modFront p applyLater s = s := by
  refine modPort_eq_self ?_
  unfold Port.reached
  generalize s.ports[p] = q at h1 h2
  have hcopy : ∀ c : FrontRegs,
      applyLater { q with cc := c.cc, pth := c.pth, cur := c.cur, tel := c.tel } =
        { q with cc := c.cc, pth := c.pth, cur := c.cur, tel := c.tel } := fun c => applyLater_of_none h1 h2
  rw [applyLater_of_none h1 h2]
  simp [hcopy, Port.front]

section
variable {p : PortId} {s : State}

/-- A source port without an attach pattern and with no configuration waiting enters DETACHED and stays there. -/
theorem enterDetached_source (h1 : s.ports[p].pol.cfgLater = none) (h2 : s.ports[p].pol.captLater = none)
    (hrole : roleOf s p = 0) (hrd : s.ports[p].rdPhase = false) (hpat : s.ports[p].pattern = none) :
    enterDetached p s = releasedDetached p s := by
  have hp : (releasedDetached p s).ports[p].pattern = none := by
    rw [releasedDetached_port, hrole]
    exact (enteredDetached_pattern _ hrd).trans hpat
  rw [enterDetached_eq, modFront_applyLater_of_none h1 h2, hp]
  rfl

/-- A source port in DETACHED: Rp on both pins, no orientation, no debounce. -/
theorem releasedDetached_source (hst : s.ports[p].st ≠ .fenced) (hrole : roleOf s p = 0) :
    let t := (releasedDetached p s).ports[p]
    t.st = .detached ∧ t.tc = 1 ∧ t.orient = 0 ∧ t.termsAre 1 ∧ t.hw.deb = none := by
  intro t
  have ht : t = setCadLim 0 (setCeil 50 (enteredDetached 0 (askedLevel s.cadp[p]) s.ports[p])) := by
    have h := releasedDetached_port p s
    rwa [hrole] at h
  have hcore : t.core = (toDetached 0 s.ports[p]).core := by
    rw [ht]
    exact enteredDetached_core _ _
  refine ⟨?_, ?_, ?_, ?_, ?_⟩
  · exact (st_of_core hcore).trans (toDetached_st 0 hst)
  · exact (tc_of_core hcore).trans (toDetached_tc 0 hst)
  · exact (orient_of_core hcore).trans (toDetached_orient 0 hst)
  · rw [ht]
    exact enteredDetached_termsAre _
  · rw [ht]
    rfl

theorem movesPortAndLedger_of_atPort {i : Instr} {t : State} {R : Port → Prop} (h : exec i s = .next t)
    (hat : AtPort p s t) (hcad : t.cad = s.cad) (hR : R t.ports[p]) : MovesPortAndLedger i s p R := by
  refine ⟨t, h, ?_, fun r hr => ?_, hR⟩
  · have hrest := hat.rest
    rwa [← hcad] at hrest
  · obtain ⟨hport, hledger, -⟩ := hat.others r hr
    exact ⟨hport, hledger⟩

/-- PDDEB_EXPIRY and TRIPPED_DETACH, whose end of a time sets no flag of the port. -/
theorem exec_pddebExpiry (h : s.ports[p].hw.nonAttach.isSome = true) :
    exec (.pddebExpiry p) s = .next (atPolicy p (.pddebExpiry p) (polPddeb p) s) :=
  congrArg Host.Outcome.next (if_pos h)

theorem exec_trippedDetach (h : s.ports[p].hw.nonAttach.isSome = true) :
    exec (.trippedDetach p) s = .next (atPolicy p (.trippedDetach p) (polTrippedDetach p) s) :=
  congrArg Host.Outcome.next (if_pos h)

theorem pddebExpiry_waits (h : s.ports[p].hw.nonAttach.isSome = true) (hn : ¬Acts s p) :
    MovesPort (.pddebExpiry p) s p fun t =>
      Port.keeps (.pddebExpiry p) s.ports[p] t ∧ t.st = s.ports[p].st := by
  have hx := exec_pddebExpiry h
  rw [atPolicy_of_not_acts hn] at hx
  exact movesPort_of_modPort hx ⟨rfl, rfl⟩

theorem pddebExpiry_detaches (h : s.ports[p].hw.nonAttach.isSome = true) (ha : Acts s p)
    (hst : s.ports[p].st = .attachWait) (htry : s.ports[p].trying = false) (hpat : s.ports[p].pattern = none)
    (h1 : s.ports[p].pol.cfgLater = none) (h2 : s.ports[p].pol.captLater = none) (hrole : roleOf s p = 0)
    (hrd : s.ports[p].rdPhase = false) :
    MovesPortAndLedger (.pddebExpiry p) s p fun t =>
      t.st = .detached ∧ t.tc = 1 ∧ t.orient = 0 ∧ t.termsAre 1 ∧ t.hw.deb = none := by
  have hpol : polPddeb p s = enterDetached p s := by simp [-Fin.getElem_fin, polPddeb, hst, htry, hpat]
  have hx := exec_pddebExpiry h
  rw [atPolicy_of_acts ha, hpol, enterDetached_source h1 h2 hrole hrd hpat] at hx
  exact movesPortAndLedger_of_atPort hx (atPort_releasedDetached p s) rfl
    (releasedDetached_source (by rw [hst]; decide) hrole)

/-- A port without a module waits for vSafe0V (05 R148). -/
theorem trippedDetach_awaitsVsafe (h : s.ports[p].hw.nonAttach.isSome = true) (ha : Acts s p)
    (hst : s.ports[p].st = .tripped ∨ s.ports[p].st = .retryWait) (hpat : s.ports[p].pattern = none)
    (hvbus : s.ports[p].strained 4 = true) :
    MovesPort (.trippedDetach p) s p fun t => t.pol.tripDetach = true ∧ t.st = s.ports[p].st := by
  have hpol : polTrippedDetach p s = modPol p (fun l => { l with tripDetach := true }) s := by
    simp [-Fin.getElem_fin, polTrippedDetach, hst, hvbus, hpat]
  have hx := exec_trippedDetach h
  rw [atPolicy_of_acts ha, hpol] at hx
  exact movesPort_of_modPort hx ⟨rfl, rfl⟩

/-- An event of the port changes its event queue alone, and not the configuration that waits for DETACHED. -/
theorem postPort_eq_modPol (p : PortId) (ev : PortEvt) (d : Word) (s : State) :
    ∃ f : Policy → Policy, postPort p ev d s = modPol p f s ∧
      ∀ l, (f l).cfgLater = l.cfgLater ∧ (f l).captLater = l.captLater := by
  unfold postPort postPortAt
  dsimp only
  split
  · refine ⟨_, rfl, fun l => ?_⟩
    split <;> exact ⟨rfl, rfl⟩
  · exact ⟨id, (modPort_eq_self rfl).symm, fun _ => ⟨rfl, rfl⟩⟩

theorem trippedDetach_detaches (h : s.ports[p].hw.nonAttach.isSome = true) (ha : Acts s p)
    (hst : s.ports[p].st = .tripped ∨ s.ports[p].st = .retryWait) (hpat : s.ports[p].pattern = none)
    (hvbus : s.ports[p].strained 4 = false) (h1 : s.ports[p].pol.cfgLater = none)
    (h2 : s.ports[p].pol.captLater = none) (hrole : roleOf s p = 0) (hrd : s.ports[p].rdPhase = false) :
    MovesPortAndLedger (.trippedDetach p) s p fun t => t.st = .detached ∧ t.tc = 1 ∧ t.termsAre 1 := by
  have hpol : polTrippedDetach p s = enterDetached p (postDetach p 3 .detached s) := by
    simp [-Fin.getElem_fin, polTrippedDetach, hst, hvbus, hpat]
  obtain ⟨f, hpost, hf⟩ := postPort_eq_modPol p .detach (BitVec.ofNat 32 (3 + 16 * PortSt.detached.code)) s
  have hposted : postDetach p 3 .detached s = modPol p f s := hpost
  obtain ⟨hcfg, hcapt⟩ := hf s.ports[p].pol
  have hq : (modPol p f s).ports[p] = { s.ports[p] with pol := f s.ports[p].pol } := modPort_self p _ s
  have hrole' : roleOf (modPol p f s) p = 0 := by
    rw [← hrole, roleOf, hq]
    rfl
  have hst' : (modPol p f s).ports[p].st ≠ .fenced := by
    have hsame : (modPol p f s).ports[p].st = s.ports[p].st := st_of_core (by rw [hq])
    rw [hsame]
    rcases hst with h | h <;> rw [h] <;> decide
  have hx := exec_trippedDetach h
  rw [atPolicy_of_acts ha, hpol, hposted, enterDetached_source (by rw [hq, hcfg, h1]) (by rw [hq, hcapt, h2]) hrole'
    (by rw [hq]; exact hrd) (by rw [hq]; exact hpat)] at hx
  obtain ⟨hdet, htc, -, hterms, -⟩ := releasedDetached_source hst' hrole'
  exact movesPortAndLedger_of_atPort hx ((atPort_modPort p _ s).trans (atPort_releasedDetached p _)) rfl
    ⟨hdet, htc, hterms⟩

/-! ## DRP alternation and TDRPTRY (03 R69, Table ATT-8) -/

theorem togglePhase_changes (q : Port) (hst : q.st = .detached) : (togglePhase q).st = .detached ∧
    F.CC_STAT.DRP_PHASE.on (togglePhase q).cc.stat = !F.CC_STAT.DRP_PHASE.on q.cc.stat ∧
    (togglePhase q).termsAre (if F.CC_STAT.DRP_PHASE.on q.cc.stat then 1 else 2) ∧
    (togglePhase q).tc = (if F.CC_STAT.DRP_PHASE.on q.cc.stat then 1 else 6) := by
  have hcore : ∀ n, (setTerms n n q).st = .detached := fun n =>
    (st_of_core (eq_of_beyondPd (setTerms_beyondPd q n n)).1).trans hst
  unfold togglePhase
  by_cases h : F.CC_STAT.DRP_PHASE.on q.cc.stat = true
  · simp only [h, if_true]
    exact ⟨(setTc_st 1 _).trans (hcore 1), on_clr _ _, setTerms_termsAre q (by decide), setTc_tc (by decide) _⟩
  · rw [Bool.not_eq_true] at h
    simp only [h, Bool.false_eq_true, if_false]
    exact ⟨(setTc_st 6 _).trans (hcore 2), on_set _ (by decide) (by decide) _, setTerms_termsAre q (by decide),
      setTc_tc (by decide) _⟩

theorem drpPhaseToggle_changes (h : alternating s p = true) :
    MovesPort (.drpPhaseToggle p) s p fun t => t.st = .detached ∧
      F.CC_STAT.DRP_PHASE.on t.cc.stat = !F.CC_STAT.DRP_PHASE.on s.ports[p].cc.stat ∧
      t.termsAre (if F.CC_STAT.DRP_PHASE.on s.ports[p].cc.stat then 1 else 2) ∧
      t.tc = (if F.CC_STAT.DRP_PHASE.on s.ports[p].cc.stat then 1 else 6) := by
  have hx : exec (.drpPhaseToggle p) s = .next (modPort p togglePhase s) := congrArg Host.Outcome.next (if_pos h)
  have hst : s.ports[p].st = .detached := by
    simp only [alternating, Bool.and_eq_true, beq_iff_eq] at h
    exact h.1.1.1
  exact movesPort_of_modPort hx (togglePhase_changes _ hst)

/-- TDRPTRY has passed, with its flag in PRT_EVT. -/
def drpTryEnds (q : Port) : Port :=
  { q with core := { q.core with evt := F.PRT_EVT.CC_TMR.set q.core.evt }, hw := { q.hw with drpTry := none } }

theorem exec_tdrptryExpiry (h : s.ports[p].hw.drpTry.isSome = true) : exec (.tdrptryExpiry p) s =
    .next (atPolicy p (.tdrptryExpiry p) (polDrpTry p) (modPort p drpTryEnds s)) :=
  congrArg Host.Outcome.next (if_pos h)

theorem tdrptryExpiry_waits (h : s.ports[p].hw.drpTry.isSome = true) (hn : ¬Acts s p) :
    MovesPort (.tdrptryExpiry p) s p fun t => F.PRT_EVT.CC_TMR.on t.core.evt = true ∧ t.hw.drpTry = none ∧
      Port.keeps (.tdrptryExpiry p) s.ports[p] t := by
  have hx := exec_tdrptryExpiry h
  rw [atPolicy_modPort_waits (by rfl) hn] at hx
  exact movesPort_of_modPort hx ⟨on_set _ (by decide) (by decide) _, rfl, rfl⟩

/-- The debounce of a Try state starts without a change of PRT_STATE, PRT_EVT or the terminations. -/
theorem tryPattern_keeps (s : State) (p : PortId) (q : Port) :
    (tryPattern s p q).core = q.core ∧ (tryPattern s p q).cc.ctl = q.cc.ctl := by
  unfold tryPattern patternDeb
  split_ifs <;> exact ⟨rfl, rfl⟩

theorem toTryWaitSnk_enters (s : State) (p : PortId) (q : Port) : (toTryWaitSnk s p q).core = (q.setTc 10).core ∧
    (toTryWaitSnk s p q).termsAre 2 := by
  unfold toTryWaitSnk
  dsimp only
  constructor
  · refine (tryPattern_keeps s p _).1.trans ?_
    have h := (eq_of_beyondPd (setTerms_beyondPd (stopDeb q) 2 2)).1
    exact congrArg (fun c : PortCore => { c with state := F.PRT_STATE.TC_STATE.put 10 c.state }) h
  · unfold Port.termsAre
    rw [(tryPattern_keeps s p _).2]
    exact setTerms_termsAre (stopDeb q) (by decide)

/-- Try.SRC gives way to TryWait.SNK. -/
theorem tdrptryExpiry_toTryWaitSnk (h : s.ports[p].hw.drpTry.isSome = true) (ha : Acts s p)
    (hst : s.ports[p].st = .attachWait) (htc : s.ports[p].tc = 4) :
    MovesPort (.tdrptryExpiry p) s p fun t => F.PRT_EVT.CC_TMR.on t.core.evt = true ∧ t.tc = 10 ∧ t.termsAre 2 ∧
      t.st = .attachWait := by
  have hq : (modPort p drpTryEnds s).ports[p] = drpTryEnds s.ports[p] := modPort_self p _ s
  have hst' : (drpTryEnds s.ports[p]).st = .attachWait := hst
  have htc' : (drpTryEnds s.ports[p]).tc = 4 := htc
  have hpol : polDrpTry p (modPort p drpTryEnds s) =
      modPort p (toTryWaitSnk (modPort p drpTryEnds s) p) (modPort p drpTryEnds s) := by
    simp only [polDrpTry, hq, hst', htc']
    rfl
  have hx := exec_tdrptryExpiry h
  rw [atPolicy_modPort_acts (by rfl) ha, hpol, modPort_modPort] at hx
  obtain ⟨hcore, hterms⟩ := toTryWaitSnk_enters (modPort p drpTryEnds s) p (drpTryEnds s.ports[p])
  refine movesPort_of_modPort hx ⟨?_, ?_, hterms, ?_⟩
  · rw [hcore]
    exact on_set _ (by decide) (by decide) _
  · exact (tc_of_core hcore).trans (setTc_tc (by decide) _)
  · exact (st_of_core hcore).trans ((setTc_st 10 _).trans hst)

/-! ## The obligation -/

theorem MovesPort.imp {i : Instr} {P R : Port → Prop} (h : MovesPort i s p P) (hPR : ∀ t, P t → R t) :
    MovesPort i s p R := by
  obtain ⟨t, hx, hrest, hothers, hp⟩ := h
  exact ⟨t, hx, hrest, hothers, hPR _ hp⟩

theorem not_acts_of_idle (h : portServed s p = false) : ¬Acts s p := by
  rintro ⟨hserved, -⟩
  rw [h] at hserved
  exact Bool.false_ne_true hserved

end

/-- Settles O19, command by command: the hardware's part alone where no engine serves the port, and with it the engine's
part where one does. -/
theorem attachTimersAct : Obligations.AttachTimersAct := by
  unfold Obligations.AttachTimersAct
  intro p s q idle served plain free
  refine ⟨fun hst hdeb htry hidle => ?_, fun hst hdeb htc hserved hpat htry hfree => ?_, fun hnon hidle => ?_,
    fun hnon hserved hst htry hpat hplain => ?_, fun hnon hserved hst hpat hvbus => ?_,
    fun hnon hserved hst hpat hvbus hplain => ?_, fun halt => ?_, fun hdrp hidle => ?_,
    fun hdrp hserved hst htc => ?_, fun hst hdeb htry hidle => ?_, fun hst hdeb htc hserved hpat hfree => ?_⟩
  · exact debEnds_waits (by decide) (by decide) (exec_debDone hst hdeb htry) hst (not_acts_of_idle hidle)
  · exact debDone_awaitsVsafe hst hdeb htc hserved hpat htry hfree
  · exact pddebExpiry_waits hnon (not_acts_of_idle hidle)
  · obtain ⟨hcfg, hcapt, hrole, hrd⟩ := hplain
    exact pddebExpiry_detaches hnon hserved hst htry hpat hcfg hcapt hrole hrd
  · exact trippedDetach_awaitsVsafe hnon hserved hst hpat hvbus
  · obtain ⟨hcfg, hcapt, hrole, hrd⟩ := hplain
    exact trippedDetach_detaches hnon hserved hst hpat hvbus hcfg hcapt hrole hrd
  · exact drpPhaseToggle_changes halt
  · exact tdrptryExpiry_waits hdrp (not_acts_of_idle hidle)
  · exact tdrptryExpiry_toTryWaitSnk hdrp hserved hst htc
  · refine (debEnds_waits (by decide) (by decide) (exec_ttrydebExpiry hst hdeb htry) hst
      (not_acts_of_idle hidle)).imp fun t ht => ?_
    obtain ⟨hevt, hnone, -, hsame, hkeeps⟩ := ht
    exact ⟨hevt, hnone, hsame, hkeeps⟩
  · refine (ttrydeb_awaitsVsafe hst hdeb htc hserved hpat hfree).imp fun t ht => ?_
    obtain ⟨hevt, -, hsink, hwait, -⟩ := ht
    exact ⟨hevt, hsink, hwait⟩

end Sys2Proof.Machine

/-! SUPPORT. The hardware detach, the VCONN switch and the writes of CC_CTL and VCONN_CTL (03 R72 to R74): what each
does to the port, and what the engine's part and the completions that it makes leave of it. -/

namespace Sys2Proof.Machine
open Sys2Proof

/-! ## The power path and the VCONN switch (05 R139, 03 R73) -/

section
variable (q : Port)

@[simp] theorem vconnOpen_vconnOn : (vconnOpen q).vconnOn = false := by
  unfold vconnOpen
  split
  · exact on_clr _ _
  · next h => exact Bool.not_eq_true _ ▸ h

@[simp] theorem vconnOpen_vconnEn : F.VCONN_CTL.VCONN_EN.on (vconnOpen q).cc.vctl = false := by
  unfold vconnOpen
  split <;> exact on_clr _ _

/-- The switch opens in the VCONN registers alone, and discharges the pin that carried VCONN. -/
theorem vconnOpen_eq : vconnOpen q = { q with
    cc := { q.cc with vctl := F.VCONN_CTL.VCONN_EN.clr q.cc.vctl, vstat := (vconnOpen q).cc.vstat }
    hw := { q.hw with
      vdis := if q.vconnOn = true then some (F.VCONN_CTL.VCONN_PIN.on q.cc.vctl) else q.hw.vdis } } := by
  unfold vconnOpen
  split <;> rfl

theorem vconnOpen_core : (vconnOpen q).core = q.core := by rw [vconnOpen_eq]

theorem vconnOpen_pth : (vconnOpen q).pth = q.pth := by rw [vconnOpen_eq]

/-- The safe power state of 05 R139 and R151: gate, converter and VCONN off, the sink on. -/
def powerDown (q : Port) : Port := vconnOpen (sinkOn (cenOff (gateOff q)))

theorem powerDown_core : (powerDown q).core = q.core := vconnOpen_core _

theorem powerDown_pol : (powerDown q).pol = q.pol := by
  rw [powerDown, vconnOpen_eq]
  rfl

theorem powerDown_pth : (powerDown q).pth = (sinkOn (cenOff (gateOff q))).pth := vconnOpen_pth _

theorem powerDown_isDown : (powerDown q).isDown := by
  unfold Port.isDown
  rw [powerDown_pth]
  refine ⟨?_, ?_, ?_, ?_, ?_, vconnOpen_vconnEn _, vconnOpen_vconnOn _⟩
  all_goals dsimp only [sinkOn, cenOff, gateOff]
  · rw [on_set_apart _ _ (by decide), on_clr_apart _ _ (by decide), on_clr]
  · rw [on_set_apart _ _ (by decide)]
    simp (disch := decide) only [on_clr_apart, on_clr]
  · rw [on_set_apart _ _ (by decide), on_clr]
  · exact on_set _ (by decide) (by decide) _
  · exact on_set _ (by decide) (by decide) _

end

/-- Neither the protocol nor the terminations hold a register by which a port's power is down. -/
theorem isDown_of_beyondPd {q t : Port} (h : t.beyondPd = q.beyondPd) (hq : q.isDown) : t.isDown := by
  have hsame : ∀ u : Port, u.isDown ↔ u.beyondPd.isDown := fun _ => Iff.rfl
  rwa [hsame, h, ← hsame]

/-! ## The hardware detach (03 R72) -/

section
variable {p : PortId} {s : State}

/-- The port that a hardware detach at a time has taken down. -/
structure Port.DetachedHw (now : Nat) (t : Port) : Prop where
  down : t.isDown
  st : t.st = .bindingOff
  detach : F.PRT_EVT.DETACH_HW.on t.core.evt = true
  hwState : F.PRT_EVT.HW_STATE.on t.core.evt = true
  detAt : t.hw.detAt = some now

theorem detachedHw_of_beyondPd {now : Nat} {q t : Port} (h : t.beyondPd = q.beyondPd) (hq : q.DetachedHw now) :
    t.DetachedHw now := by
  obtain ⟨hdown, hst, hdet, hhw, hat⟩ := hq
  obtain ⟨hcore, -, hhard, -⟩ := eq_of_beyondPd h
  exact ⟨isDown_of_beyondPd h hdown, (st_of_core hcore).trans hst, by rwa [hcore], by rwa [hcore], by rwa [hhard]⟩

theorem hwSt_st {q : Port} (h : q.st ≠ .fenced) (t : PortSt) : (q.hwSt t).st = t := setSt_st h t

/-- A hardware write of STATE changes PRT_STATE and PRT_EVT alone. -/
theorem hwSt_eq (t : PortSt) (q : Port) : q.hwSt t = { q with core := (q.hwSt t).core } := by
  unfold Port.hwSt Port.setSt
  split <;> rfl

theorem hwSt_hwState (t : PortSt) (q : Port) : F.PRT_EVT.HW_STATE.on (q.hwSt t).core.evt = true :=
  on_set _ (by decide) (by decide) _

/-- The flag and the time of a hardware detach. -/
def flagDetach (now : Nat) (q : Port) : Port :=
  { q with
    core := { q.core with evt := F.PRT_EVT.DETACH_HW.set q.core.evt }
    hw := { q.hw with detAt := some now } }

theorem flagDetach_beyondPd {q t : Port} (now : Nat) (h : t.beyondPd = q.beyondPd) :
    (flagDetach now t).beyondPd = (flagDetach now q).beyondPd :=
  congrArg (flagDetach now) h

theorem detachHw_eq (now : Nat) (q : Port) :
    detachHw now q = flagDetach now (amsRestore ((powerDown q).hwSt .bindingOff)) := rfl

theorem detachHw_pol (now : Nat) (q : Port) : (detachHw now q).pol = q.pol := by
  have h : (detachHw now q).pol = (amsRestore ((powerDown q).hwSt .bindingOff)).pol := rfl
  rw [h, amsRestore_pol, hwSt_eq]
  exact powerDown_pol q

theorem detachHw_detachedHw (now : Nat) {q : Port} (h : q.st ≠ .fenced) : (detachHw now q).DetachedHw now := by
  have hst : (powerDown q).st ≠ .fenced := by rwa [st_of_core (powerDown_core q)]
  rw [detachHw_eq]
  refine detachedHw_of_beyondPd (flagDetach_beyondPd now (amsRestore_beyondPd _))
    ⟨?_, hwSt_st hst .bindingOff, ?_, ?_, rfl⟩
  · have hdown := powerDown_isDown q
    unfold flagDetach
    rw [hwSt_eq]
    exact hdown
  · exact on_set _ (by decide) (by decide) _
  · exact (on_set_apart _ _ (by decide) _).trans (hwSt_hwState _ _)

/-- Of the ports only the protocol side of one differs. -/
structure PdOnly (p : PortId) (s t : State) : Prop where
  others : ∀ r : PortId, r ≠ p → t.ports[r] = s.ports[r]
  port : t.ports[p].beyondPd = s.ports[p].beyondPd

theorem PdOnly.trans {t u : State} (h : PdOnly p s t) (k : PdOnly p t u) : PdOnly p s u :=
  ⟨fun r hr => (k.others r hr).trans (h.others r hr), k.port.trans h.port⟩

theorem pdOnly_modPort {f : Port → Port} (hf : (f s.ports[p]).beyondPd = s.ports[p].beyondPd) :
    PdOnly p s (modPort p f s) := by
  refine ⟨fun r hr => modPort_other p f s r hr, ?_⟩
  have hp : (modPort p f s).ports[p] = f s.ports[p] := modPort_self p f s
  rwa [hp]

theorem pdOnly_modPol (f : Policy → Policy) : PdOnly p s (modPol p f s) := pdOnly_modPort rfl

theorem pdOnly_loseContract (cause trip : Nat) : PdOnly p s (loseContract p cause trip s) := by
  have hcad : PdOnly p s (modCad p (fun c => { c with contract := none }) s) := ⟨fun _ _ => rfl, rfl⟩
  unfold loseContract
  dsimp only
  split
  · obtain ⟨f, hpost, -⟩ := postPort_eq_modPol p .contractLost (BitVec.ofNat 32 (cause + 16 * trip))
      (modPol p (fun l => { l with contract := none, next := none, accepted := false })
        (modCad p (fun c => { c with contract := none }) s))
    rw [hpost]
    exact hcad.trans ((pdOnly_modPol _).trans (pdOnly_modPol f))
  · exact hcad.trans (pdOnly_modPol _)

/-! ## Completions of the port's commands -/

theorem onlyPort_refl (p : PortId) (s : State) : OnlyPort p s.ports[p] s s := ⟨rfl, rfl, rfl, fun _ _ => rfl, rfl⟩

theorem onlyPort_trans {q : Port} {t u : State} (h : OnlyPort p q s t) (k : OnlyPort p t.ports[p] t u) :
    OnlyPort p q s u := by
  obtain ⟨hrest, hses, hrou, hoth, hport⟩ := h
  obtain ⟨krest, kses, krou, koth, kport⟩ := k
  exact ⟨(congrArg (fun v : State => { v with host := s.host, ports := s.ports }) krest).trans hrest,
    kses.trans hses, krou.trans hrou, fun r hr => (koth r hr).trans (hoth r hr), kport.trans hport⟩

/-- The completion of a port's commands changes the host side and that port's event queue. -/
theorem completeAll_onlyPort {f : Wait → Bool} (hf : ∀ w, f w = true → w.port = p.val) (st : Status) (s : State) :
    OnlyPort p s.ports[p] s (completeAll f st s) := by
  unfold completeAll
  refine List.foldlRecOn _ _ (motive := fun t => OnlyPort p s.ports[p] s t) (onlyPort_refl p s) fun t ht w hw => ?_
  have hport : portOf w.port = some p := by rw [hf w (List.mem_filter.mp hw).2, portOf_val]
  obtain ⟨-, -, -, -, honly⟩ := complete_port w.tag w.opc w.port st [] t p hport
  exact onlyPort_trans ht honly

theorem OnlyPort.pdOnly {t : State} (h : OnlyPort p s.ports[p] s t) : PdOnly p s t := by
  obtain ⟨-, -, -, hothers, hport⟩ := h
  refine ⟨hothers, ?_⟩
  have hsame : ∀ u : Port, u.noQueue.beyondPd = u.beyondPd := fun _ => rfl
  rw [← hsame, hport, hsame]

theorem pdOnly_resetContexts : PdOnly p s (resetContexts p s) := by
  unfold resetContexts
  dsimp only
  have hport : PdOnly p s (cancelPort p s) := (completeAll_onlyPort (fun w hw => by simp_all) _ s).pdOnly
  have hhard : PdOnly p (cancelPort p s) (cancelHard p (cancelPort p s)) :=
    (completeAll_onlyPort (fun w hw => by simp_all) _ _).pdOnly
  exact (hport.trans hhard).trans (pdOnly_modPort (detachCtxs_beyondPd _))

/-- What the engine does after a hardware detach keeps the port's power, state and flags. -/
theorem pdOnly_polDetach : PdOnly p s (polDetach p s) :=
  ((pdOnly_loseContract 3 0).trans pdOnly_resetContexts).trans (pdOnly_modPol _)

/-! ## HARDWARE_DETACH -/

theorem exec_hardwareDetach (p : PortId) (s : State) :
    exec (.hardwareDetach p) s = .next (hardwareDetach p s) := rfl

theorem hardwareDetach_none
    (h : watchedOpen s.ports[p] = false ∨ (s.ports[p].hw.ride = none ∧ s.ports[p].swapHolds = true)) :
    exec (.hardwareDetach p) s = .next s := by
  rw [exec_hardwareDetach, hardwareDetach]
  rcases h with h | ⟨hride, hswap⟩
  · rw [h]
    rfl
  · simp [-Fin.getElem_fin, hride, hswap]

/-- The safe state of a die-level hold (12 R321). -/
theorem safeOff_safe (q : Port) : (safeOff q).hw.ride = none ∧ (safeOff q).gateOn = false ∧
    F.PTH_CTL.CEN_EN.on (safeOff q).pth.ctl = false ∧ (safeOff q).vconnOn = false ∧ (safeOff q).core = q.core := by
  unfold safeOff
  split
  · next h =>
    simp only [Bool.and_eq_true, Bool.not_eq_true'] at h
    obtain ⟨hgate, hcen⟩ := h
    have hpth := vconnOpen_pth q
    refine ⟨rfl, ?_, ?_, vconnOpen_vconnOn q, vconnOpen_core q⟩
    · exact (congrArg (fun x : PathRegs => F.PTH_STAT.GATE_ON.on x.stat) hpth).trans hgate
    · exact (congrArg (fun x : PathRegs => F.PTH_CTL.CEN_EN.on x.ctl) hpth).trans hcen
  · obtain ⟨-, hgate, hcen, -, -, -, hvconn⟩ := powerDown_isDown q
    exact ⟨rfl, hgate, hcen, hvconn, powerDown_core q⟩

theorem hardwareDetach_ride (ho : watchedOpen s.ports[p] = true) (hr : s.ports[p].hw.ride.isSome = true) :
    MovesPort (.hardwareDetach p) s p fun t => t.hw.ride = none ∧ t.gateOn = false ∧
      F.PTH_CTL.CEN_EN.on t.pth.ctl = false ∧ t.vconnOn = false ∧ t.st = s.ports[p].st ∧
      t.core = s.ports[p].core := by
  have hx : exec (.hardwareDetach p) s = .next (modPort p safeOff s) := by
    simp [-Fin.getElem_fin, exec_hardwareDetach, hardwareDetach, ho, hr]
  obtain ⟨hride, hgate, hcen, hvconn, hcore⟩ := safeOff_safe s.ports[p]
  exact movesPort_of_modPort hx ⟨hride, hgate, hcen, hvconn, st_of_core hcore, hcore⟩

/-- A port of which the hardware detach takes the power down (03 R72). -/
abbrev Port.detaches (q : Port) : Prop :=
  watchedOpen q = true ∧ q.attached = true ∧ q.rdPhase = false ∧ q.swapHolds = false ∧ q.hw.ride = none

theorem exec_hardwareDetach_down (h : s.ports[p].detaches) : exec (.hardwareDetach p) s =
    .next (atPolicy p (.hardwareDetach p) (polDetach p) (modPort p (detachHw s.time) s)) := by
  obtain ⟨ho, hatt, hrd, hswap, hride⟩ := h
  simp [-Fin.getElem_fin, exec_hardwareDetach, hardwareDetach, ho, hatt, hrd, hswap, hride]

theorem detaches_st {q : Port} (h : q.detaches) : q.st ≠ .fenced := by
  intro hf
  have hatt := h.2.1
  rw [Port.attached, hf] at hatt
  exact absurd hatt (by decide)

theorem hardwareDetach_waits (h : s.ports[p].detaches) (hn : ¬Acts s p) :
    MovesPort (.hardwareDetach p) s p fun t =>
      t.DetachedHw s.time ∧ Port.keeps (.hardwareDetach p) s.ports[p] t := by
  have hx := exec_hardwareDetach_down h
  have hpol := detachHw_pol s.time s.ports[p]
  rw [atPolicy_modPort_waits hpol hn] at hx
  have hkept : (Port.waiting (.hardwareDetach p) (detachHw s.time s.ports[p])).beyondPd =
      (detachHw s.time s.ports[p]).beyondPd := rfl
  refine movesPort_of_modPort hx ⟨detachedHw_of_beyondPd hkept (detachHw_detachedHw s.time (detaches_st h)), ?_⟩
  exact congrArg (fun l : Policy => l.pend ++ [.hardwareDetach p]) hpol

theorem hardwareDetach_acts (h : s.ports[p].detaches) (ha : Acts s p) :
    Moves (.hardwareDetach p) s fun t => t.ports[p].DetachedHw s.time ∧
      ∀ r : PortId, r ≠ p → t.ports[r] = s.ports[r] := by
  have hx := exec_hardwareDetach_down h
  rw [atPolicy_modPort_acts (detachHw_pol s.time s.ports[p]) ha] at hx
  obtain ⟨hothers, hport⟩ := pdOnly_polDetach (p := p) (s := modPort p (detachHw s.time) s)
  refine ⟨_, hx, ?_, fun r hr => (hothers r hr).trans (modPort_other p _ s r hr)⟩
  have hp : (modPort p (detachHw s.time) s).ports[p] = detachHw s.time s.ports[p] := modPort_self p _ s
  rw [hp] at hport
  exact detachedHw_of_beyondPd hport (detachHw_detachedHw s.time (detaches_st h))

/-! ## A VCONN switch that opens on a fault (03 R73) -/

/-- The port whose VCONN switch a fault has opened, from what it was. -/
structure Port.VconnLost (t : Port) (f : Fld) (q : Port) : Prop where
  on : t.vconnOn = false
  en : F.VCONN_CTL.VCONN_EN.on t.cc.vctl = false
  reason : f.on t.cc.vstat = true
  flag : F.PRT_EVT.VCONN_FLT.on t.core.evt = true
  vdis : t.hw.vdis = some (F.VCONN_CTL.VCONN_PIN.on q.cc.vctl)
  pth : t.pth = q.pth

/-- A flag of VCONN_STAT beside ON. -/
abbrev IsVconnFlag (f : Fld) : Prop := f.fits = true ∧ 0 < f.width ∧ F.VCONN_STAT.ON.apart f = true

theorem vconnFault_lost {f : Fld} (hf : IsVconnFlag f) {q : Port} (h : q.vconnOn = true) :
    (vconnFault f q).VconnLost f q := by
  obtain ⟨hfits, hwidth, hapart⟩ := hf
  refine ⟨?_, vconnOpen_vconnEn q, on_set f hfits hwidth _, on_set _ (by decide) (by decide) _, ?_, vconnOpen_pth q⟩
  · exact (on_set_apart _ _ hapart _).trans (vconnOpen_vconnOn q)
  · have hdis : (vconnFault f q).hw.vdis = (vconnOpen q).hw.vdis := rfl
    rw [hdis, vconnOpen_eq]
    exact if_pos h

theorem vconnLost_of_beyondPd {f : Fld} {q t u : Port} (h : u.beyondPd = t.beyondPd) (ht : t.VconnLost f q) :
    u.VconnLost f q := by
  obtain ⟨hcore, hpth, hhw, -, hvctl, hvstat⟩ := eq_of_beyondPd h
  obtain ⟨hon, hen, hreason, hflag, hvdis, hpath⟩ := ht
  have hsame : u.vconnOn = t.vconnOn := by simp only [Port.vconnOn, hvstat]
  exact ⟨hsame.trans hon, by rwa [hvctl], by rwa [hvstat], by rwa [hcore], by rwa [hhw], hpth.trans hpath⟩

/-- Ending a transmission leaves every context's control register. -/
theorem abortTx_ctl (c d : Fin 3) (q : Port) : (abortTx d q).ctx[c].ctl = q.ctx[c].ctl := by
  unfold abortTx finishTx
  by_cases h : c = d
  · subst h
    split_ifs <;> simp [Port.modCtx, stopSlot]
  · have hne : d.val ≠ c.val := fun e => h (Fin.ext e.symm)
    split_ifs <;> simp [Port.modCtx, stopSlot, hne]

/-- A context turned off has its enable cleared, and none gains it. -/
theorem enableCtx_off_en {c d : Fin 3} {q : Port} (h : c = d ∨ F.CTX_CTL.EN.on q.ctx[c].ctl = false) :
    F.CTX_CTL.EN.on (enableCtx d false q).ctx[c].ctl = false := by
  by_cases hd : c = d
  · subst hd
    simp [enableCtx, Port.modCtx, Fld.setTo]
  · have hne : d.val ≠ c.val := fun e => hd (Fin.ext e.symm)
    have hctl : (enableCtx d false q).ctx[c].ctl = (abortTx d q).ctx[c].ctl := by
      simp [enableCtx, Port.modCtx, hne]
    rw [hctl, abortTx_ctl]
    exact h.resolve_left hd

/-- Both cable contexts of a port turned off. -/
def cablesOff (q : Port) : Port := enableCtx 2 false (enableCtx 1 false q)

theorem cablesOff_ctxOn (q : Port) : (cablesOff q).ctxOn 1 = false ∧ (cablesOff q).ctxOn 2 = false := by
  have h1 : F.CTX_CTL.EN.on (cablesOff q).ctx[(1 : Fin 3)].ctl = false :=
    enableCtx_off_en (.inr (enableCtx_off_en (.inl rfl)))
  have h2 : F.CTX_CTL.EN.on (cablesOff q).ctx[(2 : Fin 3)].ctl = false := enableCtx_off_en (.inl rfl)
  simp only [Port.ctxOn, h1, h2, Bool.false_and, and_self]

/-- Both cable contexts off, with what they carry and were to send dropped (04 R86). -/
def cablesDropped (q : Port) : Port :=
  { cablesOff q with pol := { (cablesOff q).pol with
    txq := (cablesOff q).pol.txq.filter fun r => r.ctx == 0
    txNow := ((cablesOff q).pol.txNow.set 1 none).set 2 none } }

theorem cablesDropped_beyondPd (q : Port) : (cablesDropped q).beyondPd = q.beyondPd :=
  (enableCtx_beyondPd _ 2 false).trans (enableCtx_beyondPd q 1 false)

/-- A port that does not source VCONN turns its cable contexts off; host messages to the cable are cancelled. -/
theorem cableCtxs_off (h : s.ports[p].vconnOn = false) : ∃ f : Wait → Bool, (∀ w, f w = true → w.port = p.val) ∧
    cableCtxs p s = completeAll f .cancelled (modPort p cablesDropped s) := by
  have hgone : ∀ l : List TxPurpose, ∀ w : Wait,
      (w.port == p.val && w.kind != .cancelled && l.contains (.hostMsg w.tag)) = true → w.port = p.val := by
    intro l w hw
    simp only [Bool.and_eq_true, beq_iff_eq] at hw
    exact hw.1.1
  unfold cableCtxs
  dsimp only
  rw [h]
  simp only [Bool.false_and, Bool.false_eq_true, if_false, modPol, modPort_modPort]
  exact ⟨_, hgone _, rfl⟩

/-- The cable counts as 3 A and 20 V, and its discovery ends. -/
def basicCable (q : Port) : Port := stopSlot 17 (stopSlot 18 { q with
  pol := { q.pol with cable := some { curr := 30, volt := 20, epr := false, discovered := false } } })

theorem polVconnLost_off (h : s.ports[p].vconnOn = false) :
    ∃ (k : Port → Port) (f : Wait → Bool), (∀ w, f w = true → w.port = p.val) ∧
      (∀ q, (k q).beyondPd = q.beyondPd ∧ (k q).ctxOn 1 = false ∧ (k q).ctxOn 2 = false) ∧
      polVconnLost p s = completeAll f .cancelled (modPort p k s) := by
  obtain ⟨b, hb, hsame⟩ : ∃ b : Port → Port, (∀ q, (b q).beyondPd = q.beyondPd) ∧
      polVconnLost p s = cableCtxs p (modPort p b s) := by
    by_cases hc : (s.ports[p].attached && s.ports[p].pol.cable.isNone && !s.ports[p].vconnOn) = true
    · exact ⟨basicCable, fun _ => rfl, congrArg (cableCtxs p) (if_pos hc)⟩
    · exact ⟨id, fun _ => rfl, congrArg (cableCtxs p) ((if_neg hc).trans (modPort_eq_self rfl).symm)⟩
  have hp : (modPort p b s).ports[p] = b s.ports[p] := modPort_self p b s
  have hoff : (modPort p b s).ports[p].vconnOn = false := by
    obtain ⟨-, -, -, -, -, hvstat⟩ := eq_of_beyondPd (hb s.ports[p])
    rwa [hp, Port.vconnOn, hvstat]
  obtain ⟨f, hf, hcables⟩ := cableCtxs_off hoff
  rw [hsame, hcables, modPort_modPort]
  exact ⟨_, f, hf, fun q => ⟨(cablesDropped_beyondPd (b q)).trans (hb q), cablesOff_ctxOn (b q)⟩, rfl⟩

/-- A fault opens a closed switch, and the engine's part follows; an open switch has none. -/
theorem loseVconn_closed (h : s.ports[p].vconnOn = true) (f : Fld) (i : Instr) : loseVconn p f i s =
    atPolicy p i (polVconnLost p) (modPort p (vconnFault f) s) := if_pos h

theorem loseVconn_open (h : s.ports[p].vconnOn = false) (f : Fld) (i : Instr) : loseVconn p f i s = s :=
  if_neg (by rw [h]; decide)

/-- Of the port the VCONN registers, the flag and the discharge change. -/
theorem vconnFault_keeps (f : Fld) (q : Port) : (vconnFault f q).pol = q.pol ∧ (vconnFault f q).pd = q.pd := by
  have h : (vconnFault f q).pol = (vconnOpen q).pol ∧ (vconnFault f q).pd = (vconnOpen q).pd := ⟨rfl, rfl⟩
  rw [h.1, h.2, vconnOpen_eq]
  exact ⟨rfl, rfl⟩

section
variable {i : Instr} {f : Fld} (hf : IsVconnFlag f) (hx : exec i s = .next (loseVconn p f i s))
include hf hx

theorem vconnFault_waits (h : s.ports[p].vconnOn = true) (hn : ¬Acts s p) :
    MovesPort i s p fun t => t.VconnLost f s.ports[p] ∧ Port.keeps i s.ports[p] t ∧ t.pd = s.ports[p].pd := by
  obtain ⟨hpol, hpd⟩ := vconnFault_keeps f s.ports[p]
  rw [loseVconn_closed h, atPolicy_modPort_waits hpol hn] at hx
  have hkept : (Port.waiting i (vconnFault f s.ports[p])).beyondPd = (vconnFault f s.ports[p]).beyondPd := rfl
  exact movesPort_of_modPort hx ⟨vconnLost_of_beyondPd hkept (vconnFault_lost hf h),
    congrArg (fun l : Policy => l.pend ++ [i]) hpol, hpd⟩

theorem vconnFault_acts (h : s.ports[p].vconnOn = true) (ha : Acts s p) :
    Moves i s fun t => { t with host := s.host, ports := s.ports } = s ∧
      (∀ r : PortId, r ≠ p → t.ports[r] = s.ports[r]) ∧ t.ports[p].VconnLost f s.ports[p] ∧
      t.ports[p].ctxOn 1 = false ∧ t.ports[p].ctxOn 2 = false := by
  have hlost := vconnFault_lost hf h
  have hp : (modPort p (vconnFault f) s).ports[p] = vconnFault f s.ports[p] := modPort_self p _ s
  have hoff : (modPort p (vconnFault f) s).ports[p].vconnOn = false := by
    rw [hp]
    exact hlost.on
  obtain ⟨k, g, hg, hk, hpol⟩ := polVconnLost_off hoff
  rw [loseVconn_closed h, atPolicy_modPort_acts (vconnFault_keeps f _).1 ha, hpol, modPort_modPort] at hx
  refine ⟨_, hx, ?_⟩
  have honly := completeAll_onlyPort hg .cancelled (modPort p (fun q => k (vconnFault f q)) s)
  generalize completeAll g .cancelled (modPort p (fun q => k (vconnFault f q)) s) = t at honly
  have hq : (modPort p (fun q => k (vconnFault f q)) s).ports[p] = k (vconnFault f s.ports[p]) := modPort_self p _ s
  have hport := honly.pdOnly.port
  obtain ⟨hrest, -, -, hothers, hqueue⟩ := honly
  rw [hq] at hport hqueue
  obtain ⟨hbeyond, h1, h2⟩ := hk (vconnFault f s.ports[p])
  have hctx : ∀ c, t.ports[p].ctxOn c = (k (vconnFault f s.ports[p])).ctxOn c := by
    intro c
    have hsame : ∀ u : Port, u.ctxOn c = u.noQueue.ctxOn c := fun _ => rfl
    rw [hsame, hqueue, ← hsame]
  exact ⟨congrArg (fun v : State => { v with host := s.host, ports := s.ports }) hrest,
    fun r hr => (hothers r hr).trans (modPort_other p _ s r hr), vconnLost_of_beyondPd (hport.trans hbeyond) hlost,
    (hctx 1).trans h1, (hctx 2).trans h2⟩

end

/-! ## Register writes (03 R73, R74) -/

theorem vconnDischargeDone_ends (p : PortId) (s : State) :
    MovesPort (.vconnDischargeDone p) s p fun t => t.hw.vdis = none ∧ t.cc = s.ports[p].cc ∧ t.pth = s.ports[p].pth ∧
      t.core = s.ports[p].core ∧ F.PD_PHYSTAT.SINKTXOK.on t.pd.phystat = txOkNow t := by
  have hx : exec (.vconnDischargeDone p) s =
      .next (modPort p (fun q => syncTxOk { q with hw := { q.hw with vdis := none } }) s) := rfl
  obtain ⟨hcore, hcc, hpth, hhw, -⟩ :=
    eq_of_beyondPhy (syncTxOk_beyondPhy { s.ports[p] with hw := { s.ports[p].hw with vdis := none } })
  exact movesPort_of_modPort hx ⟨by rw [hhw], hcc, hpth, hcore, syncTxOk_shows _⟩

theorem ccCtlWrite_discarded (h : frontDrives s p = false) (v : Word) : exec (.ccCtlWrite p v) s = .next s :=
  congrArg Host.Outcome.next (if_neg (by rw [h]; decide))

theorem vconnCtlWrite_discarded (h : frontDrives s p = false) (v : Word) : exec (.vconnCtlWrite p v) s = .next s :=
  congrArg Host.Outcome.next (if_neg (by rw [h]; decide))

theorem ccCtlWrite_writes (h : frontDrives s p = true) (v : Word) :
    MovesPort (.ccCtlWrite p v) s p fun t => t.cc.ctl = v &&& 0xFF ∧
      F.PD_PHYSTAT.SINKTXOK.on t.pd.phystat = txOkNow t ∧ t.core = s.ports[p].core ∧ t.pth = s.ports[p].pth ∧
      t.pol = s.ports[p].pol := by
  have hx : exec (.ccCtlWrite p v) s = .next (modPort p (writeCcCtl v) s) := congrArg Host.Outcome.next (if_pos h)
  obtain ⟨hcore, hpth, -⟩ := eq_of_beyondPd (writeCcCtl_beyondPd s.ports[p] v)
  exact movesPort_of_modPort hx ⟨writeCcCtl_ctl _ v, syncTxOk_shows _, hcore, hpth, writeCcCtl_pol _ v⟩

/-- VCONN_CTL with its writable bits replaced. -/
def vctlWritten (v : Word) (q : Port) : Word := (q.cc.vctl &&& ~~~0xFF03) ||| (v &&& 0xFF03)

/-- VCONN_EN as it is written: not on the oriented pin (03 R73). -/
def vconnAsked (v : Word) (q : Port) : Bool :=
  v.getLsbD 0 && decide (F.VCONN_CTL.VCONN_PIN.get v + 1 ≠ q.orient)

/-- The switch before it closes on the pin written: open, unless it stays closed on that pin. -/
def vconnReady (v : Word) (q : Port) : Port :=
  let stays := vconnAsked v q && F.VCONN_CTL.VCONN_PIN.get v == F.VCONN_CTL.VCONN_PIN.get q.cc.vctl
  let q0 := if stays then q else vconnOpen q
  { q0 with cc := { q0.cc with vctl := F.VCONN_CTL.VCONN_EN.setTo (vconnAsked v q) (vctlWritten v q) } }

/-- The switch closed or left open by a write of VCONN_CTL, before SINKTXOK follows. -/
def vconnSet (v : Word) (q : Port) : Port :=
  if vconnAsked v q then vconnClose (vconnReady v q) else vconnReady v q

theorem writeVconn_eq (v : Word) (q : Port) : writeVconn v q = syncTxOk (vconnSet v q) := by
  have hpin : F.VCONN_CTL.VCONN_PIN.get (vctlWritten v q) = F.VCONN_CTL.VCONN_PIN.get v :=
    get_masked _ _ (by decide) _ _
  have hen : F.VCONN_CTL.VCONN_EN.on (vctlWritten v q) = v.getLsbD 0 := by
    rw [Fld.on, vctlWritten, get_masked _ _ (by decide)]
    exact on_eq_getLsbD _ rfl v
  have hasked : (F.VCONN_CTL.VCONN_EN.on (vctlWritten v q) &&
      F.VCONN_CTL.VCONN_PIN.get (vctlWritten v q) + 1 != q.orient) = vconnAsked v q := by
    rw [hpin, hen, vconnAsked, bne, beq_eq_decide, decide_not]
  have hdef : writeVconn v q =
      (let en := F.VCONN_CTL.VCONN_EN.on (vctlWritten v q) &&
        F.VCONN_CTL.VCONN_PIN.get (vctlWritten v q) + 1 != q.orient
      let q0 := if en && F.VCONN_CTL.VCONN_PIN.get (vctlWritten v q) == F.VCONN_CTL.VCONN_PIN.get q.cc.vctl then q
        else vconnOpen q
      let q1 := { q0 with cc := { q0.cc with vctl := F.VCONN_CTL.VCONN_EN.setTo en (vctlWritten v q) } }
      syncTxOk (if en then vconnClose q1 else q1)) := rfl
  rw [hdef, hasked, hpin]
  rfl

section
variable (v : Word) (q : Port)

/-- A pin is one bit of VCONN_CTL. -/
theorem vconnPin_on (w : Word) : F.VCONN_CTL.VCONN_PIN.on w = (F.VCONN_CTL.VCONN_PIN.get w == 1) := by
  have hlt : F.VCONN_CTL.VCONN_PIN.get w < 2 := get_lt F.VCONN_CTL.VCONN_PIN w
  rw [Fld.on]
  interval_cases F.VCONN_CTL.VCONN_PIN.get w <;> rfl

theorem vconnReady_keeps : (vconnReady v q).core = q.core ∧ (vconnReady v q).pth = q.pth := by
  unfold vconnReady
  dsimp only
  split
  · exact ⟨rfl, rfl⟩
  · exact ⟨vconnOpen_core q, vconnOpen_pth q⟩

theorem vconnReady_vctl : (vconnReady v q).cc.vctl = F.VCONN_CTL.VCONN_EN.setTo (vconnAsked v q) (vctlWritten v q) :=
  rfl

/-- VCONN stays where it is: asked for on the pin that has it. -/
abbrev vconnStays : Prop :=
  vconnAsked v q = true ∧ F.VCONN_CTL.VCONN_PIN.get v = F.VCONN_CTL.VCONN_PIN.get q.cc.vctl

theorem vconnReady_vdis : (vconnReady v q).hw.vdis = if q.vconnOn = true ∧ ¬vconnStays v q then
    some (F.VCONN_CTL.VCONN_PIN.get q.cc.vctl == 1) else q.hw.vdis := by
  have hopen : (vconnOpen q).hw.vdis =
      if q.vconnOn = true then some (F.VCONN_CTL.VCONN_PIN.get q.cc.vctl == 1) else q.hw.vdis := by
    rw [vconnOpen_eq, vconnPin_on]
  by_cases h : vconnStays v q
  · simp [vconnReady, h]
  · have hno : (vconnAsked v q && F.VCONN_CTL.VCONN_PIN.get v == F.VCONN_CTL.VCONN_PIN.get q.cc.vctl) = false := by
      rwa [Bool.eq_false_iff, ne_eq, Bool.and_eq_true, beq_iff_eq]
    simp [vconnReady, hno, h, hopen]

/-- A field of VCONN_CTL beside VCONN_EN, as it is written. -/
theorem vconnReady_field (f : Fld) (hf : f.within 0xFF03) (ha : f.apart F.VCONN_CTL.VCONN_EN = true) :
    f.get (vconnReady v q).cc.vctl = f.get v := by
  rw [vconnReady_vctl, Fld.setTo]
  split
  · rw [get_set_apart _ _ ha]
    exact get_masked _ _ hf _ _
  · rw [get_clr_apart _ _ ha]
    exact get_masked _ _ hf _ _

theorem vconnSet_keeps : (vconnSet v q).core = q.core ∧ (vconnSet v q).pth = q.pth := by
  unfold vconnSet
  split <;> exact vconnReady_keeps v q

theorem vconnSet_vconnEn : F.VCONN_CTL.VCONN_EN.on (vconnSet v q).cc.vctl = vconnAsked v q := by
  unfold vconnSet
  split
  · next h => exact (on_set _ (by decide) (by decide) _).trans h.symm
  · rw [vconnReady_vctl]
    exact on_setTo _ (by decide) (by decide) _ _

theorem vconnSet_vconnOn : (vconnSet v q).vconnOn = vconnAsked v q := by
  unfold vconnSet
  split
  · next h => exact (on_set _ (by decide) (by decide) _).trans h.symm
  · next h =>
    rw [Bool.not_eq_true] at h
    have hready : (vconnReady v q).vconnOn = (vconnOpen q).vconnOn := by
      simp only [vconnReady, h, Bool.false_and, Bool.false_eq_true, if_false]
      rfl
    rw [hready, vconnOpen_vconnOn, h]

theorem vconnSet_field (f : Fld) (hf : f.within 0xFF03) (ha : f.apart F.VCONN_CTL.VCONN_EN = true) :
    f.get (vconnSet v q).cc.vctl = f.get v := by
  unfold vconnSet
  split
  · exact (get_set_apart _ _ ha _).trans (vconnReady_field v q f hf ha)
  · exact vconnReady_field v q f hf ha

/-- The pin that lost VCONN is discharged; a discharge of the pin that takes VCONN ends (03 R73). -/
theorem vconnSet_vdis : (vconnSet v q).hw.vdis =
    if q.vconnOn = true ∧ ¬vconnStays v q then some (F.VCONN_CTL.VCONN_PIN.get q.cc.vctl == 1)
    else if vconnAsked v q = true ∧ q.hw.vdis = some (F.VCONN_CTL.VCONN_PIN.get v == 1) then none
    else q.hw.vdis := by
  by_cases ha : vconnAsked v q = true
  · have hclose : (vconnSet v q).hw.vdis =
        if (vconnReady v q).hw.vdis = some (F.VCONN_CTL.VCONN_PIN.get v == 1) then none
        else (vconnReady v q).hw.vdis := by
      rw [vconnSet, if_pos ha, ← vconnReady_field v q F.VCONN_CTL.VCONN_PIN (by decide) (by decide), ← vconnPin_on]
      rfl
    rw [hclose, vconnReady_vdis]
    by_cases hmoves : q.vconnOn = true ∧ ¬vconnStays v q
    · have hother : (F.VCONN_CTL.VCONN_PIN.get q.cc.vctl == 1) ≠ (F.VCONN_CTL.VCONN_PIN.get v == 1) := by
        have hne : F.VCONN_CTL.VCONN_PIN.get v ≠ F.VCONN_CTL.VCONN_PIN.get q.cc.vctl := fun h => hmoves.2 ⟨ha, h⟩
        have hv : F.VCONN_CTL.VCONN_PIN.get v < 2 := get_lt F.VCONN_CTL.VCONN_PIN v
        have hq : F.VCONN_CTL.VCONN_PIN.get q.cc.vctl < 2 := get_lt F.VCONN_CTL.VCONN_PIN q.cc.vctl
        intro h
        rw [Bool.eq_iff_iff, beq_iff_eq, beq_iff_eq] at h
        omega
      rw [if_pos hmoves, if_pos hmoves, if_neg fun h => hother (Option.some.inj h)]
    · rw [if_neg hmoves, if_neg hmoves]
      simp only [ha, true_and]
  · have hopen : vconnSet v q = vconnReady v q := if_neg ha
    rw [hopen, vconnReady_vdis]
    simp only [ha, Bool.false_eq_true, false_and, if_false]

end

theorem vconnCtlWrite_writes (h : frontDrives s p = true) (v : Word) :
    MovesPort (.vconnCtlWrite p v) s p fun t =>
      F.VCONN_CTL.VCONN_EN.on t.cc.vctl = vconnAsked v s.ports[p] ∧ t.vconnOn = vconnAsked v s.ports[p] ∧
      F.VCONN_CTL.VCONN_PIN.get t.cc.vctl = F.VCONN_CTL.VCONN_PIN.get v ∧
      F.VCONN_CTL.VCONN_RES.get t.cc.vctl = F.VCONN_CTL.VCONN_RES.get v ∧
      t.hw.vdis = (if s.ports[p].vconnOn = true ∧ ¬vconnStays v s.ports[p] then
          some (F.VCONN_CTL.VCONN_PIN.get s.ports[p].cc.vctl == 1)
        else if vconnAsked v s.ports[p] = true ∧ s.ports[p].hw.vdis = some (F.VCONN_CTL.VCONN_PIN.get v == 1) then none
        else s.ports[p].hw.vdis) ∧
      F.PD_PHYSTAT.SINKTXOK.on t.pd.phystat = txOkNow t ∧ t.core = s.ports[p].core ∧ t.pth = s.ports[p].pth := by
  have hx : exec (.vconnCtlWrite p v) s = .next (modPort p (writeVconn v) s) := congrArg Host.Outcome.next (if_pos h)
  refine movesPort_of_modPort hx ?_
  rw [writeVconn_eq]
  obtain ⟨hcore, hcc, hpth, hhw, -⟩ := eq_of_beyondPhy (syncTxOk_beyondPhy (vconnSet v s.ports[p]))
  obtain ⟨kcore, kpth⟩ := vconnSet_keeps v s.ports[p]
  have hon : (syncTxOk (vconnSet v s.ports[p])).vconnOn = (vconnSet v s.ports[p]).vconnOn := by
    simp only [Port.vconnOn, hcc]
  refine ⟨?_, hon.trans (vconnSet_vconnOn v _), ?_, ?_, by rw [hhw, vconnSet_vdis], syncTxOk_shows _, hcore.trans kcore,
    hpth.trans kpth⟩ <;> rw [hcc]
  · exact vconnSet_vconnEn v _
  · exact vconnSet_field v _ _ (by decide) (by decide)
  · exact vconnSet_field v _ _ (by decide) (by decide)

end

/-! ## The obligation -/

/-- Settles O20: the hardware detach by what holds it back, a VCONN fault by its flag, and the two writes. -/
theorem detachAndVconnAct : Obligations.DetachAndVconnAct := by
  unfold Obligations.DetachAndVconnAct
  refine ⟨fun p s => ?_, fun p v s => ⟨fun hoff => ?_, fun hon => ?_⟩⟩
  · intro q acts pin opens
    have fault : ∀ (i : Instr) (f : Fld), IsVconnFlag f → exec i s = .next (loseVconn p f i s) → opens i f := by
      intro i f hf hx
      refine ⟨fun hclosed hn => ?_, fun hclosed ha => ?_, fun hopen => by rw [hx, loseVconn_open hopen]⟩
      · refine (vconnFault_waits hf hx hclosed hn).imp fun t ⟨hlost, hkeeps, hpd⟩ => ?_
        obtain ⟨on, en, reason, flag, vdis, pth⟩ := hlost
        exact ⟨⟨on, en, reason, flag, vdis, pth⟩, hkeeps, hpd⟩
      · obtain ⟨t, ht, hrest, hothers, hlost, h1, h2⟩ := vconnFault_acts hf hx hclosed ha
        obtain ⟨on, en, reason, flag, vdis, pth⟩ := hlost
        exact ⟨t, ht, hrest, hothers, ⟨on, en, reason, flag, vdis, pth⟩, h1, h2⟩
    refine ⟨hardwareDetach_none, hardwareDetach_ride, fun ho hatt hrd hswap hride => ?_, fault _ _ (by decide) rfl,
      fault _ _ (by decide) rfl, fault _ _ (by decide) rfl, vconnDischargeDone_ends p s⟩
    have hdet : s.ports[p].detaches := ⟨ho, hatt, hrd, hswap, hride⟩
    refine ⟨fun hn => ?_, fun ha _ => ?_⟩
    · refine (hardwareDetach_waits hdet hn).imp fun t ⟨hd, hkeeps⟩ => ?_
      obtain ⟨down, st, detach, hwState, detAt⟩ := hd
      exact ⟨⟨down, st, detach, hwState, detAt⟩, hkeeps⟩
    · obtain ⟨t, ht, hd, hothers⟩ := hardwareDetach_acts hdet ha
      obtain ⟨down, st, detach, hwState, detAt⟩ := hd
      exact ⟨t, ht, ⟨down, st, detach, hwState, detAt⟩, fun r hr => by rw [hothers r hr]⟩
  · exact ⟨ccCtlWrite_discarded hoff v, vconnCtlWrite_discarded hoff v⟩
  · exact ⟨ccCtlWrite_writes hon v, vconnCtlWrite_writes hon v⟩

end Sys2Proof.Machine

/-! SUPPORT. The protocol hardware of one port, one rule per operation (04 R86 to R101, R122): bits of a timer register,
message contexts, timer slots, and what each operation that branches leaves of the port. -/

namespace Sys2Proof

/-! ## Single bits -/

theorem bitOf_setBit {n : Nat} (hn : n < 32) (w : Word) (k : Nat) :
    bitOf (setBit n w) k = (bitOf w k || decide (k = n)) := by
  unfold bitOf setBit
  rw [BitVec.getLsbD_or, BitVec.getLsbD_ofNat, Nat.testBit_two_pow]
  by_cases hk : k = n
  · subst hk
    simp [hn]
  · simp [hk, Ne.symm hk]

theorem bitOf_clrBit (n : Nat) (w : Word) (k : Nat) : bitOf (clrBit n w) k = (bitOf w k && !decide (k = n)) := by
  unfold bitOf clrBit
  rw [BitVec.getLsbD_and, BitVec.getLsbD_not, BitVec.getLsbD_ofNat, Nat.testBit_two_pow]
  by_cases hk : k < 32
  · by_cases hkn : k = n
    · simp [hkn]
    · simp [hk, hkn, Ne.symm hkn]
  · simp [BitVec.getLsbD_of_ge w k (by omega)]

/-- A write of 0 to a field that is 0 changes nothing. -/
theorem clr_of_off {f : Fld} {w : Word} (h : f.on w = false) : f.clr w = w := by
  have hget : f.get w = 0 := by simpa [Fld.on] using h
  apply BitVec.eq_of_getLsbD_eq
  intro i _
  rw [getLsbD_clr]
  by_cases hi : f.lo ≤ i ∧ i < f.lo + f.width
  · have hbit := testBit_get f w (i - f.lo)
    rw [hget, Nat.zero_testBit, show f.lo + (i - f.lo) = i by omega] at hbit
    have hin : i - f.lo < f.width := by omega
    simp only [hin, decide_true, Bool.true_and] at hbit
    simp [← hbit]
  · have hout : (decide (f.lo ≤ i) && decide (i < f.lo + f.width)) = false := by
      simpa using hi
    rw [hout, Bool.not_false, Bool.and_true]

end Sys2Proof

namespace Sys2Proof.Machine
open Sys2Proof

/-! ## One entry of a vector, by a number below its length -/

section
variable {α : Type} {n : Nat} (v : Vector α n) (x : α)

@[simp] theorem vset_self (i : Fin n) : (v.set i x)[i] = x := by simp

theorem vset_ne {i j : Fin n} (h : j ≠ i) : (v.set i x)[j] = v[j] := by
  have hne : i.val ≠ j.val := fun e => h (Fin.ext e.symm)
  simp [hne]

end

section
variable {p : PortId} {s : State}

theorem modPort_port (p : PortId) (f : Port → Port) (s : State) : (modPort p f s).ports[p] = f s.ports[p] :=
  modPort_self p f s

theorem modPort_congr {f g : Port → Port} (h : f s.ports[p] = g s.ports[p]) : modPort p f s = modPort p g s := by
  unfold modPort
  rw [h]

/-- A command without an effect. -/
theorem exec_same_of_modPort {i : Instr} {f : Port → Port} (h : exec i s = .next (modPort p f s))
    (hf : f s.ports[p] = s.ports[p]) : exec i s = .next s := h.trans (congrArg _ (modPort_eq_self hf))

end

/-! ## Message contexts (04 R86, R90) -/

section
variable (q : Port) {c d : Fin 3} (f : CtxRegs → CtxRegs)

@[simp] theorem modCtx_self : (q.modCtx c f).ctx[c] = f q.ctx[c] := vset_self _ _ c

theorem modCtx_ne (h : d ≠ c) : (q.modCtx c f).ctx[d] = q.ctx[d] := vset_ne _ _ h

/-- A field of the contexts that a change of one context leaves. -/
theorem modCtx_field {α : Type} (g : CtxRegs → α) (hg : g (f q.ctx[c]) = g q.ctx[c]) :
    g (q.modCtx c f).ctx[d] = g q.ctx[d] := by
  by_cases h : d = c
  · subst h
    rw [modCtx_self, hg]
  · rw [modCtx_ne q f h]

end

section
variable {q t : Port} {c : Fin 3}

/-- What a context sends under: roles, revision and chunking. -/
structure SameVoice (c : Fin 3) (q t : Port) : Prop where
  phycfg : t.pd.phycfg = q.pd.phycfg
  ctl : t.ctx[c].ctl = q.ctx[c].ctl

theorem SameVoice.headerOf (h : SameVoice c q t) : headerOf t c = Machine.headerOf q c := by
  funext ext nobj type
  unfold Machine.headerOf Port.isDfp Port.isSource revCode
  rw [h.phycfg, h.ctl]

theorem SameVoice.goodCrcFor (h : SameVoice c q t) (id : Nat) : goodCrcFor t c id = Machine.goodCrcFor q c id := by
  simp only [Machine.goodCrcFor, h.headerOf]

theorem SameVoice.ctrlMsg (h : SameVoice c q t) (type : Nat) : ctrlMsg t c type = Machine.ctrlMsg q c type := by
  simp only [Machine.ctrlMsg, h.headerOf]

theorem SameVoice.dataMsg (h : SameVoice c q t) (type : Nat) (objs : List Word) :
    dataMsg t c type objs = Machine.dataMsg q c type objs := by
  simp only [Machine.dataMsg, h.headerOf]

theorem SameVoice.extMsg (h : SameVoice c q t) (type : Nat) (data : List Byte) :
    extMsg t c type data = Machine.extMsg q c type data := by
  simp only [Machine.extMsg, h.headerOf, h.ctl]

theorem SameVoice.chunkRequest (h : SameVoice c q t) (type n : Nat) :
    chunkRequest t c type n = Machine.chunkRequest q c type n := by
  simp only [Machine.chunkRequest, h.headerOf]

end

/-! ## Timer slots (04 R122, R123) -/

section
variable (q : Port) (i k : Fin 26) (now : Nat)

theorem slotRuns_startSlotFor (per : Nat) :
    (startSlotFor now i per q).slotRuns k = (q.slotRuns k || decide (k = i)) :=
  (bitOf_setBit (by omega) q.pd.tmrrun k.val).trans (by simp only [Fin.ext_iff, Port.slotRuns])

theorem slotRuns_startSlot : (startSlot now i q).slotRuns k = (q.slotRuns k || decide (k = i)) :=
  slotRuns_startSlotFor q i k now _

theorem slotRuns_stopSlot : (stopSlot i q).slotRuns k = (q.slotRuns k && !decide (k = i)) :=
  (bitOf_clrBit i.val q.pd.tmrrun k.val).trans (by simp only [Fin.ext_iff, Port.slotRuns])

@[simp] theorem slotRuns_startSlot_self : (startSlot now i q).slotRuns i = true := by simp [slotRuns_startSlot]

@[simp] theorem slotRuns_stopSlot_self : (stopSlot i q).slotRuns i = false := by simp [slotRuns_stopSlot]

variable {i k}

theorem slotRuns_startSlot_ne (h : k ≠ i) : (startSlot now i q).slotRuns k = q.slotRuns k := by
  simp [slotRuns_startSlot, h]

theorem slotRuns_stopSlot_ne (h : k ≠ i) : (stopSlot i q).slotRuns k = q.slotRuns k := by
  simp [slotRuns_stopSlot, h]

end

end Sys2Proof.Machine

/-! SUPPORT. Reception by the protocol hardware (04 R88, R93, R94): what a frame that arrives, an aborted transmission,
a stored message and a released buffer change of the port. -/

namespace Sys2Proof.Machine
open Sys2Proof

/-! ## tSourceEPRKeepAlive (04 R111) -/

/-- In EPR mode a message on SOP restarts slot 20. -/
def eprHeard (now : Nat) (c : Fin 3) (q : Port) : Port :=
  if c = 0 && F.PD_PHYCFG.EPR.on q.pd.phycfg then startSlot now 20 q else q

section
variable (now : Nat) (c : Fin 3) (q : Port)

theorem arrives_eq : arrives now c q = eprHeard now c (busyLine now q) := rfl

/-- Only timer slots change. -/
theorem eprHeard_eq : ∃ run st per, eprHeard now c q =
    { q with pd.tmrrun := run, phw.tmrStart := st, phw.tmrPer := per } := by
  unfold eprHeard
  split <;> exact ⟨_, _, _, rfl⟩

variable {c q}

theorem eprHeard_restarts (hc : c = 0) (he : F.PD_PHYCFG.EPR.on q.pd.phycfg = true) :
    eprHeard now c q = startSlot now 20 q := if_pos (by simp [hc, he])

theorem eprHeard_off (h : F.PD_PHYCFG.EPR.on q.pd.phycfg = false) : eprHeard now c q = q := if_neg (by simp [h])

theorem eprHeard_slot20 (hc : c = 0) (he : F.PD_PHYCFG.EPR.on q.pd.phycfg = true) :
    (eprHeard now c q).slotRuns 20 = true := by
  rw [eprHeard_restarts now hc he, slotRuns_startSlot_self]

end

/-! ## The end of a transmission (04 R91, R93) -/

/-- The context of a transmission that has ended. -/
def endedCtx (result : Nat) (adv : Bool) (r : CtxRegs) : CtxRegs :=
  { r with
    txstat := F.CTX_TXSTAT.DONE.set (F.CTX_TXSTAT.RESULT.put result r.txstat)
    id := if adv then F.CTX_ID.TX_ID.put ((F.CTX_ID.TX_ID.get r.id + 1) % 8) r.id else r.id
    xfer := F.CTX_XFER.TX_ACT.clr r.xfer }

section
variable (c : Fin 3) (result : Nat) (adv : Bool) (q : Port)

theorem finishTx_eq : ∃ run, finishTx c result adv q = { q with
    ctx := q.ctx.set c (endedCtx result adv q.ctx[c])
    pd.tmrrun := run, pd.evt := setBit (1 + c.val) q.pd.evt
    phw.onWire := q.phw.onWire.set c false, phw.txReady := q.phw.txReady.set c false } := by
  unfold finishTx
  split <;> exact ⟨_, rfl⟩

theorem finishTx_slots : (finishTx c result adv q).slotRuns 0 = false ∧ (finishTx c result adv q).slotRuns 2 = false := by
  refine ⟨slotRuns_stopSlot_self _ 0, (slotRuns_stopSlot_ne _ (by decide)).trans (slotRuns_stopSlot_self _ 2)⟩

/-- Of the other slots the end of a transmission stops at most the one that it waited for. -/
theorem finishTx_slotRuns {k : Fin 26} (h : k ≠ 0 ∧ k ≠ 1 ∧ k ≠ 2 ∧ k ≠ 6) :
    (finishTx c result adv q).slotRuns k = q.slotRuns k := by
  obtain ⟨h0, h1, h2, h6⟩ := h
  have hwaits : (if q.result c == 1 then stopSlot (if q.isSource then 1 else 6) q else q).slotRuns k =
      q.slotRuns k := by
    split
    · split
      · exact slotRuns_stopSlot_ne q h1
      · exact slotRuns_stopSlot_ne q h6
    · rfl
  exact ((slotRuns_stopSlot_ne _ h0).trans (slotRuns_stopSlot_ne _ h2)).trans hwaits

theorem endedCtx_result (hr : result < 16) (r : CtxRegs) :
    F.CTX_TXSTAT.RESULT.get (endedCtx result adv r).txstat = result :=
  (get_set_apart _ _ (by decide) _).trans ((get_put _ (by decide) _ _).trans (Nat.mod_eq_of_lt hr))

theorem finishTx_ended (hr : result < 16) : (finishTx c result adv q).ended c result := by
  obtain ⟨run, h⟩ := finishTx_eq c result adv q
  rw [h]
  refine ⟨?_, ?_, ?_, vset_self _ _ c⟩
  · exact (congrArg (fun r : CtxRegs => F.CTX_TXSTAT.RESULT.get r.txstat) (vset_self _ _ c)).trans
      (endedCtx_result _ _ hr _)
  · exact (congrArg (fun r : CtxRegs => F.CTX_TXSTAT.DONE.on r.txstat) (vset_self _ _ c)).trans
      (on_set _ (by decide) (by decide) _)
  · exact (bitOf_setBit (by omega) _ _).trans (by simp)

theorem finishTx_txId (hadv : adv = true) : F.CTX_ID.TX_ID.get (finishTx c result adv q).ctx[c].id =
    (F.CTX_ID.TX_ID.get q.ctx[c].id + 1) % 8 := by
  obtain ⟨run, h⟩ := finishTx_eq c result adv q
  rw [h, hadv]
  exact (congrArg (fun r : CtxRegs => F.CTX_ID.TX_ID.get r.id) (vset_self _ _ c)).trans
    ((get_put _ (by decide) _ _).trans (Nat.mod_mod _ _))

/-- A context whose transmission has ended holds the PHY no more. -/
theorem holdsPhy_of_ended {t : Port} (h : t.ended c result) (hr : 2 < result) : t.holdsPhy c = false := by
  obtain ⟨hres, -⟩ := h
  have h1 : result ≠ 1 := by omega
  have h2 : result ≠ 2 := by omega
  simp [Port.holdsPhy, hres, h1, h2]

end

end Sys2Proof.Machine

/-! SUPPORT. A step of a port's PD policy (01 R20, 04 R90): kept while the engine does not act; done, and followed by
nothing more, where no host command waits and nothing is to be sent; and the sending of one message by a port with a
quiet line. -/

namespace Sys2Proof.Machine
open Sys2Proof

section
variable {p : PortId} {s : State}

/-! ## Waiting host commands -/

theorem findWait_none_of_noWaits (h : noWaits s p) {f : Wait → Bool} (hf : ∀ w, f w = true → w.port = p.val) :
    findWait s f = none := by
  unfold findWait
  rw [List.find?_eq_none]
  exact fun w hw hfw => h w hw (hf w hfw)

theorem portWait_none (h : noWaits s p) (f : WaitKind → Bool) : portWait s p f = none :=
  findWait_none_of_noWaits h fun w hw => by
    simp only [Bool.and_eq_true, beq_iff_eq] at hw
    exact hw.1

theorem endWait_none (h : noWaits s p) (f : WaitKind → Bool) (st : Status) (r : List Byte) :
    endWait p f st r s = s := by
  rw [endWait, portWait_none h]

theorem completeAll_none (h : noWaits s p) {f : Wait → Bool} (hf : ∀ w, f w = true → w.port = p.val) (st : Status) :
    completeAll f st s = s := by
  have hnone : s.host.waits.filter f = [] := List.filter_eq_nil_iff.mpr fun w hw hfw => h w hw (hf w hfw)
  rw [completeAll, hnone]
  rfl

theorem noWaits_modPort (f : Port → Port) (h : noWaits s p) : noWaits (modPort p f s) p := h

/-! ## After a step -/

theorem swapStart_eq_self (h : noWaits s p) : swapStart p s = s := by
  unfold swapStart
  rw [portWait_none h]
  exact ite_self _

theorem sendDeferred_eq_self (h : s.ports[p].pol.discDue = false) : sendDeferred p s = s := by
  simp [-Fin.getElem_fin, sendDeferred, h]

/-- With nothing to send, or the PHY held, the engine sends nothing. -/
theorem pumpTx_eq_self {q : Port} (h : q.pol.txq = [] ∨ q.phyHeld = true) (n now : Nat) : pumpTx n now q = q := by
  cases n with
  | zero => rfl
  | succ n =>
    rw [pumpTx]
    rcases h with h | h
    · rw [h]
      split <;> rfl
    · rw [if_pos h]

/-- Nothing follows a step of the policy by itself. -/
abbrev Port.settled (q : Port) : Prop := q.pol.discDue = false ∧ (q.pol.txq = [] ∨ q.phyHeld = true)

theorem policyNext_eq_self (hw : noWaits s p) (h : s.ports[p].settled) : policyNext p s = s := by
  obtain ⟨hdisc, htxq⟩ := h
  rw [policyNext, sendDeferred_eq_self hdisc, swapStart_eq_self hw]
  exact modPort_eq_self (pumpTx_eq_self htxq 8 s.time)

theorem settled_of_idle {q : Port} (h : q.idle) : q.settled := ⟨h.2.2.2.2, .inl h.1⟩

/-! ## The step itself -/

theorem atPd_waits (h : ¬Acts s p) (i : Instr) (f : State → State) : atPd p i f s = modPort p (Port.waiting i) s :=
  atPolicy_of_not_acts h i _

/-- The hardware's part of a command whose engine's part waits. -/
theorem atPd_modPort_waits {f : Port → Port} (hf : (f s.ports[p]).pol = s.ports[p].pol) (h : ¬Acts s p) (i : Instr)
    (g : State → State) : atPd p i g (modPort p f s) = modPort p (fun q => (f q).waiting i) s :=
  atPolicy_modPort_waits hf h i _

theorem atPd_acts (h : Acts s p) (i : Instr) (f : State → State) : atPd p i f s = policyNext p (f s) :=
  atPolicy_of_acts h i _

theorem atPd_modPort_acts {f : Port → Port} (hf : (f s.ports[p]).pol = s.ports[p].pol) (h : Acts s p) (i : Instr)
    (g : State → State) : atPd p i g (modPort p f s) = policyNext p (g (modPort p f s)) :=
  atPolicy_modPort_acts hf h i _

theorem keeps_waiting {q t : Port} (i : Instr) (h : t.pol = q.pol) : Port.keeps i q (t.waiting i) :=
  congrArg (fun l : Policy => l.pend ++ [i]) h

/-- A command of which the engine's part waits, after what the hardware did. -/
theorem movesPort_waits {i j : Instr} {f : Port → Port} {g : State → State} {R : Port → Prop}
    (hx : exec i s = .next (atPd p j g (modPort p f s))) (hf : (f s.ports[p]).pol = s.ports[p].pol) (h : ¬Acts s p)
    (hR : R ((f s.ports[p]).waiting j)) : MovesPort i s p R := by
  rw [atPd_modPort_waits hf h] at hx
  exact movesPort_of_modPort hx hR

/-- A command of which the engine's part changes the port as `g` says, after what the hardware did. -/
theorem movesPort_acts {i j : Instr} {f g : Port → Port} {pol : State → State} {R : Port → Prop}
    (hx : exec i s = .next (atPd p j pol (modPort p f s))) (hf : (f s.ports[p]).pol = s.ports[p].pol) (h : Acts s p)
    (hw : noWaits s p) (hpol : pol (modPort p f s) = modPort p g (modPort p f s))
    (hset : (g (f s.ports[p])).settled) (hR : R (g (f s.ports[p]))) : MovesPort i s p R := by
  rw [atPd_modPort_acts hf h, hpol, modPort_modPort, policyNext_eq_self (noWaits_modPort _ hw)
    (by rwa [modPort_port])] at hx
  exact movesPort_of_modPort hx hR

/-! ## One message sent (04 R90) -/

/-- The engine can send on a context at once: the line is free, nothing waits before, and the context is on. -/
abbrev Port.clear (c : Fin 3) (q : Port) : Prop :=
  q.phyHeld = false ∧ q.pol.txq = [] ∧ q.ctxOn c = true ∧ q.orient ≠ 0

theorem clear_of_quiet {c : Fin 3} {q : Port} (h : q.quiet c) : q.clear c := by
  obtain ⟨hphy, htxq, -, -, -, -, hon, hor⟩ := h
  exact ⟨hphy, htxq, hon, hor⟩

/-- The context of a transmission that waits for an idle line. -/
def sendingCtx (r : CtxRegs) : CtxRegs :=
  { r with
    txstat := F.CTX_TXSTAT.RESULT.put 2 (F.CTX_TXSTAT.TRIES.put 0 r.txstat)
    xfer := F.CTX_XFER.TX_ACT.clr (F.CTX_XFER.TX_CHUNK.clr r.xfer) }

/-- A SEND that nothing holds back waits for an idle line (04 R90). -/
def lineWaits (c : Fin 3) (buf : Fin 2) (q : Port) : Port :=
  { q with
    ctx := q.ctx.set c (sendingCtx q.ctx[c])
    phw.txSel := q.phw.txSel.set c buf, phw.txAms := q.phw.txAms.set c false
    phw.onWire := q.phw.onWire.set c false, phw.txReady := q.phw.txReady.set c true }

theorem sendCmd_plain {q : Port} {c : Fin 3} (hphy : q.phyHeld = false) (hon : q.ctxOn c = true) (hor : q.orient ≠ 0)
    (now : Nat) (buf : Fin 2) : sendCmd now c buf false q = lineWaits c buf q := by
  have hfree : (q.phyHeld || !q.ctxOn c || q.orient == 0) = false := by simp [hphy, hon, hor]
  rw [sendCmd, if_neg (by rw [hfree]; exact Bool.false_ne_true)]
  rfl

/-- A message of the engine in transmit buffer 0, waiting for an idle line. -/
def sent (c : Fin 3) (m : List Byte) (w : TxPurpose) (q : Port) : Port :=
  lineWaits c 0 { q with
    phw.txbuf := q.phw.txbuf.set 0 (overlay m q.phw.txbuf[0])
    pd.txdesc := q.pd.txdesc.set 0 (F.PD_TXDESC.LEN.put m.length 0)
    pol.txNow := q.pol.txNow.set c (some w) }

section
variable {c : Fin 3} {q : Port} (m : List Byte) (w : TxPurpose)

theorem sent_result : (sent c m w q).result c = 2 := by
  have h : (sent c m w q).ctx[c] = sendingCtx q.ctx[c] := vset_self _ _ c
  rw [Port.result, h]
  exact get_put _ (by decide) _ _

theorem sent_holdsPhy : (sent c m w q).holdsPhy c = true := by simp [Port.holdsPhy, sent_result]

theorem sent_phyHeld : (sent c m w q).phyHeld = true := by
  have h := sent_holdsPhy m w (c := c) (q := q)
  revert h
  unfold Port.phyHeld
  fin_cases c <;> simp +contextual

theorem take_overlay (m b : List Byte) : (overlay m b).take m.length = m := by simp [overlay]

theorem sent_sends : Port.sends c m w (sent c m w q) :=
  ⟨(congrArg (List.take m.length) (vset_self _ _ 0)).trans (take_overlay m _), vset_self _ _ c, .inr (sent_result m w)⟩

theorem sent_id (d : Fin 3) : (sent c m w q).ctx[d].id = q.ctx[d].id :=
  modCtx_field q sendingCtx CtxRegs.id rfl

theorem sent_ctl (d : Fin 3) : (sent c m w q).ctx[d].ctl = q.ctx[d].ctl :=
  modCtx_field q sendingCtx CtxRegs.ctl rfl

theorem sent_settled (h : q.pol.discDue = false) : (sent c m w q).settled := ⟨h, .inr (sent_phyHeld m w)⟩

end

/-- A message that begins no exchange goes at once. -/
theorem mayGo_of_not_begins {q : Port} {r : TxReq} (h : r.purpose.begins = false) : mayGo q r = true := by
  simp [mayGo, h]

theorem pumpTx_sends {q : Port} {r : TxReq} (hphy : q.phyHeld = false) (htxq : q.pol.txq = [])
    (hb : r.purpose.begins = false) (hon : q.ctxOn r.ctx = true) (hor : q.orient ≠ 0) (hams : r.ams = false)
    (n now : Nat) : pumpTx (n + 1) now { q with pol.txq := q.pol.txq ++ [r] } = sent r.ctx r.msg r.purpose q := by
  have hq : ({ q with pol.txq := q.pol.txq ++ [r] } : Port) = { q with pol.txq := [r] } := by rw [htxq]; rfl
  have hself : q = { q with pol.txq := [] } := by rw [← htxq]
  have hphy' : ({ q with pol.txq := [r] } : Port).phyHeld = false := hphy
  have hgo : [r].filter (mayGo { q with pol.txq := [r] }) = [r] := by simp [mayGo_of_not_begins hb]
  have hnext : nextTx [r] = some r := by
    unfold nextTx
    by_cases h0 : r.ctx = 0 <;> simp [h0]
  have hon' : (!q.ctxOn r.ctx || q.orient == 0) = false := by simp [hon, hor]
  rw [hq, pumpTx, hphy']
  simp only [Bool.false_eq_true, if_false, hgo, hnext, List.erase_cons_head]
  have hcond : (!({ q with pol.txq := [] } : Port).ctxOn r.ctx || ({ q with pol.txq := [] } : Port).orient == 0) =
      false := hon'
  rw [if_neg (by rw [hcond]; exact Bool.false_ne_true), hams, sendCmd_plain (by exact hphy) (by exact hon) (by exact hor)]
  conv_rhs => rw [hself]
  rfl

/-- The engine sends a message on a context with a quiet line. -/
theorem engineSend_eq {c : Fin 3} {w : TxPurpose} (hc : s.ports[p].clear c) (hb : w.begins = false) {ams : Bool}
    (hams : (ams && amsNeeded s.ports[p]) = false) (m : Port → List Byte) :
    engineSend p c m ams w s = modPort p (fun q => sent c (m q) w q) s := by
  obtain ⟨hphy, htxq, hon, hor⟩ := hc
  unfold engineSend
  refine modPort_congr ?_
  dsimp only
  exact pumpTx_sends (r := ⟨c, m s.ports[p], ams && amsNeeded s.ports[p], w⟩) hphy htxq hb hon hor hams 7 s.time

end

end Sys2Proof.Machine

/-! SUPPORT. Messages received (04 R84, R93, R94, Table PDE-2): what the hardware does with a frame, path by path, and what
it leaves of the port. -/

namespace Sys2Proof

theorem bitOf_set (f : Fld) {w : Word} {n : Nat} (h : bitOf w n = true) : bitOf (f.set w) n = true :=
  (getLsbD_set f w n).trans (by rw [show w.getLsbD n = true from h, Bool.true_or])

theorem bitOf_twoPow {n : Nat} (hn : n < 32) (k : Nat) : bitOf (BitVec.ofNat 32 (2 ^ n)) k = decide (k = n) := by
  have h := bitOf_setBit hn 0 k
  have h0 : setBit n 0 = BitVec.ofNat 32 (2 ^ n) := by simp [setBit]
  rw [h0] at h
  rw [h]
  simp [bitOf]

end Sys2Proof

namespace Sys2Proof.Machine
open Sys2Proof

/-! ## A transmission given up (04 R93) -/

/-- The port as it was, or with the transmission of a context ended unsent. -/
def TxAborted (c : Fin 3) (q t : Port) : Prop := t = q ∨ ∃ r, t = finishTx c r false q

section
variable {c : Fin 3} {q t : Port}

theorem txAborted_discardTx (c : Fin 3) (q : Port) : TxAborted c q (discardTx c q) := by
  unfold discardTx
  split
  · exact .inr ⟨5, rfl⟩
  · exact .inl rfl

theorem txAborted_softEnds (c : Fin 3) (q : Port) : TxAborted c q (softEnds c q) := by
  unfold softEnds
  split
  · exact .inr ⟨6, rfl⟩
  · exact txAborted_discardTx c q

theorem TxAborted.eq (h : TxAborted c q t) : ∃ ctx run evt ow tr, t =
    { q with ctx := ctx, pd.tmrrun := run, pd.evt := evt, phw.onWire := ow, phw.txReady := tr } := by
  rcases h with rfl | ⟨r, rfl⟩
  · exact ⟨_, _, _, _, _, rfl⟩
  · obtain ⟨run, h⟩ := finishTx_eq c r false q
    exact ⟨_, _, _, _, _, h⟩

/-- Of a context the end of a transmission keeps what it does not speak of. -/
theorem TxAborted.ctx_field {α : Type} (h : TxAborted c q t) (g : CtxRegs → α)
    (hg : ∀ r x y, g { r with txstat := x, xfer := y } = g r) (d : Fin 3) : g t.ctx[d] = g q.ctx[d] := by
  rcases h with rfl | ⟨r, rfl⟩
  · rfl
  · obtain ⟨run, h⟩ := finishTx_eq c r false q
    rw [h]
    exact modCtx_field q (endedCtx r false) g (hg _ _ _)

theorem TxAborted.slotRuns (h : TxAborted c q t) {k : Fin 26} (hk : k ≠ 0 ∧ k ≠ 1 ∧ k ≠ 2 ∧ k ≠ 6) :
    t.slotRuns k = q.slotRuns k := by
  rcases h with rfl | ⟨r, rfl⟩
  · rfl
  · exact finishTx_slotRuns c r false q hk

theorem discardTx_of_free (h : q.holdsPhy c = false) : discardTx c q = q := if_neg (by simp [h])

theorem discardTx_of_waits (h : q.holdsPhy c = true) (hw : q.phw.onWire[c] = false)
    (ha : F.CTX_XFER.TX_ACT.on q.ctx[c].xfer = false) : discardTx c q = finishTx c 5 false q :=
  if_pos (by rw [h, hw, ha]; rfl)

theorem softEnds_of_free (h : q.holdsPhy c = false) : softEnds c q = q := by
  rw [softEnds, if_neg (by simp [h]), discardTx_of_free h]

/-- A received Soft_Reset ends a transmission with RESULT 6 once it has reached the wire, else with 5 (04 R93). -/
theorem softEnds_of_held (h : q.holdsPhy c = true) : softEnds c q =
    finishTx c (if q.phw.onWire[c] || F.CTX_XFER.TX_ACT.on q.ctx[c].xfer then 6 else 5) false q := by
  unfold softEnds
  by_cases hw : (q.phw.onWire[c] || F.CTX_XFER.TX_ACT.on q.ctx[c].xfer) = true
  · rw [if_pos (by rw [h, hw]; rfl), if_pos hw]
  · have hoff := hw
    rw [Bool.not_eq_true, Bool.or_eq_false_iff] at hoff
    rw [if_neg (by rw [h, Bool.true_and]; exact hw), if_neg hw, discardTx_of_waits h hoff.1 hoff.2]

theorem dropReasm_of_none (h : q.phw.reasm = none) : dropReasm q = q := by rw [dropReasm, h]

end

/-! ## Receive buffers (04 R88) -/

section
variable {q : Port}

theorem freeBuf_of_room (h : q.rxRoom) : ∃ k : Fin 4, freeBuf q = some k ∧ F.PD_RXDESC.VALID.on q.pd.rxdesc[k] = false := by
  obtain ⟨hnone, k, hk⟩ := h
  have hfind : freeBuf q = (List.finRange 4).find? fun k => !F.PD_RXDESC.VALID.on q.pd.rxdesc[k] := by
    unfold freeBuf
    rw [hnone]
    exact congrArg (fun f => List.find? f (List.finRange 4)) (funext fun _ => Bool.and_true _)
  cases hf : freeBuf q with
  | none =>
    rw [hfind, List.find?_eq_none] at hf
    exact absurd (hf k (List.mem_finRange k)) (by rw [hk]; simp)
  | some j =>
    refine ⟨j, rfl, ?_⟩
    have hj := List.find?_some (hfind ▸ hf)
    simpa using hj

theorem freeBuf_of_full (h : q.rxFull) : freeBuf q = none := by
  unfold freeBuf
  rw [List.find?_eq_none]
  intro k _
  rw [h k]
  simp

end

/-! ## Receive buffers released (04 R88) -/

section
variable {q : Port}

/-- An entry after the entries of a list that `P` selects are set. -/
theorem foldl_vset_get {α : Type} {n : Nat} (P : Fin n → Bool) (x : α) (l : List (Fin n)) (v : Vector α n)
    (j : Fin n) : (l.foldl (fun d k => if P k then d.set k x else d) v)[j] = if P j ∧ j ∈ l then x else v[j] := by
  induction l generalizing v with
  | nil => simp
  | cons k l ih =>
    have hv : (if P k then v.set k x else v)[j] = if P j ∧ j = k then x else v[j] := by
      by_cases hj : j = k
      · subst hj
        cases P j <;> simp
      · cases P k <;> simp [hj, vset_ne v x hj, -Fin.getElem_fin]
    rw [List.foldl_cons, ih, hv]
    by_cases hj : j = k
    · subst hj
      cases hP : P j <;> simp
    · simp [hj]

theorem releaseRx_rxdesc (v : Word) (q : Port) (k : Fin 4) :
    (releaseRx v q).pd.rxdesc[k] = if bitOf v k.val then 0 else q.pd.rxdesc[k] := by
  have h : (releaseRx v q).pd.rxdesc = (List.finRange 4).foldl
      (fun d (k : Fin 4) => if bitOf v k.val then d.set k 0 else d) q.pd.rxdesc := rfl
  rw [h, foldl_vset_get]
  simp

theorem releaseRx_pend (v : Word) (q : Port) : F.PD_RXHEAD.PEND.get (releaseRx v q).pd.rxhead =
    ((List.finRange 4).filter fun k => F.PD_RXDESC.VALID.on (releaseRx v q).pd.rxdesc[k]).length :=
  (get_put _ (by decide) _ _).trans (Nat.mod_eq_of_lt
    (Nat.lt_of_le_of_lt (List.length_filter_le _ _) (by simp [F.PD_RXHEAD.PEND])))

/-- With one message stored, PD_RXHEAD names its buffer. -/
theorem rxhead_of_one {k : Fin 4} (hsync : q.pd.rxhead = (syncRxHead q).pd.rxhead)
    (hvalid : ∀ i : Fin 4, F.PD_RXDESC.VALID.on q.pd.rxdesc[i] = decide (i = k)) :
    F.PD_RXHEAD.PEND.get q.pd.rxhead = 1 ∧ F.PD_RXHEAD.HEAD.get q.pd.rxhead = k.val := by
  have hused : ((List.finRange 4).filter fun i => F.PD_RXDESC.VALID.on q.pd.rxdesc[i]) = [k] := by
    simp only [hvalid]
    clear hvalid
    revert k
    decide
  have hhead : q.pd.rxhead = F.PD_RXHEAD.PEND.put 1 (F.PD_RXHEAD.HEAD.put k.val 0) := by
    rw [hsync, syncRxHead]
    dsimp only
    rw [hused]
    simp
  rw [hhead, get_put _ (by decide), get_put_apart F.PD_RXHEAD.HEAD F.PD_RXHEAD.PEND (by decide), get_put _ (by decide)]
  exact ⟨rfl, Nat.mod_eq_of_lt k.isLt⟩

end

/-- A message in a receive buffer, with its GoodCRC on the way (04 R88, R94). -/
def stored (now : Nat) (c : Fin 3) (k : Fin 4) (m : List Byte) (q : Port) : Port :=
  sendGoodCrc now c m (storeRx c k m q)

section
variable (now : Nat) (c : Fin 3) (k : Fin 4) (m : List Byte) {q : Port}

/-- The descriptor of a message stored (04 R88). -/
def rxDesc (c : Fin 3) (seq len : Nat) : Word :=
  F.PD_RXDESC.LEN.put len (F.PD_RXDESC.SEQ.put seq (F.PD_RXDESC.SOP.put c.val (F.PD_RXDESC.VALID.set 0)))

theorem rxDesc_valid (c : Fin 3) (seq len : Nat) : F.PD_RXDESC.VALID.on (rxDesc c seq len) = true := by
  unfold rxDesc
  rw [on_put_apart _ _ (by decide), on_put_apart _ _ (by decide), on_put_apart _ _ (by decide)]
  decide

theorem rxDesc_sop (c : Fin 3) (seq len : Nat) : F.PD_RXDESC.SOP.get (rxDesc c seq len) = c.val := by
  unfold rxDesc
  rw [get_put_apart _ _ (by decide), get_put_apart _ _ (by decide), get_put _ (by decide)]
  exact Nat.mod_eq_of_lt (by have := c.isLt; simp only [F.PD_RXDESC.SOP]; omega)

theorem rxDesc_seq (c : Fin 3) (seq len : Nat) : F.PD_RXDESC.SEQ.get (rxDesc c seq len) = seq % 256 := by
  unfold rxDesc
  rw [get_put_apart _ _ (by decide)]
  exact get_put _ (by decide) _ _

theorem rxDesc_len (c : Fin 3) (seq len : Nat) : F.PD_RXDESC.LEN.get (rxDesc c seq len) = len % 512 :=
  get_put _ (by decide) _ _

theorem storeRx_rxdesc_self : (storeRx c k m q).pd.rxdesc[k] = rxDesc c q.phw.rxSeq m.length := vset_self _ _ k

theorem storeRx_rxdesc_ne {j : Fin 4} (h : j ≠ k) : (storeRx c k m q).pd.rxdesc[j] = q.pd.rxdesc[j] := vset_ne _ _ h

theorem storeRx_rxbuf : (storeRx c k m q).phw.rxbuf[k].take m.length = m :=
  (congrArg (List.take m.length) (vset_self _ _ k)).trans (take_overlay m _)

theorem stored_stores (hk : F.PD_RXDESC.VALID.on q.pd.rxdesc[k] = false) : Port.stores c m q (stored now c k m q) := by
  have hd : (stored now c k m q).pd.rxdesc[k] = rxDesc c q.phw.rxSeq m.length := storeRx_rxdesc_self c k m
  refine ⟨k, hk, ?_, ?_, ?_, ?_, storeRx_rxbuf c k m, fun j hj => storeRx_rxdesc_ne c k m hj,
    on_set _ (by decide) (by decide) _⟩ <;> rw [hd]
  · exact rxDesc_valid ..
  · exact rxDesc_sop ..
  · exact rxDesc_len ..
  · exact rxDesc_seq ..

theorem stored_ended {d : Fin 3} {r : Nat} (h : q.ended d r) : (stored now c k m q).ended d r := by
  obtain ⟨hres, hdone, hevt, hwire⟩ := h
  exact ⟨hres, hdone, bitOf_set _ hevt, hwire⟩

/-- The receive buffer of the only message stored is released. -/
theorem releaseOldest_stored (h : ∀ j : Fin 4, q.pd.rxdesc[j] = 0) (j : Fin 4) :
    (releaseOldest (stored now c k m q)).pd.rxdesc[j] = 0 := by
  have hne : ∀ i : Fin 4, i ≠ k → (stored now c k m q).pd.rxdesc[i] = 0 := fun i hi =>
    (storeRx_rxdesc_ne c k m hi).trans (h i)
  have hvalid : ∀ i : Fin 4, F.PD_RXDESC.VALID.on (stored now c k m q).pd.rxdesc[i] = decide (i = k) := by
    intro i
    by_cases hi : i = k
    · subst hi
      rw [show (stored now c i m q).pd.rxdesc[i] = rxDesc c q.phw.rxSeq m.length from storeRx_rxdesc_self c i m,
        rxDesc_valid, decide_eq_true rfl]
    · rw [hne i hi, decide_eq_false hi]
      decide
  obtain ⟨hpend, hhead⟩ := rxhead_of_one (q := stored now c k m q) rfl hvalid
  rw [releaseOldest, if_neg (by omega), hhead, releaseRx_rxdesc, bitOf_twoPow (by omega)]
  by_cases hj : j = k
  · simp [hj]
  · rw [hne j hj, ite_self]

end

end Sys2Proof.Machine

/-! SUPPORT. Frames received (04 R84, R93, R94, R98, Table PDE-2): what reception leaves of the port, and what the hardware
does with a message on each row of the table. -/

namespace Sys2Proof.Machine
open Sys2Proof

/-! ## What the first steps of reception leave -/

/-- A context without what a transmission changes of it. -/
def CtxRegs.unsent (r : CtxRegs) : CtxRegs := { r with txstat := 0, xfer := 0 }

/-- The port with the transmit side of its contexts, timer slots, events and the wire blanked: what is equal here stays
while the hardware takes up a message or gives up a transmission. -/
def Port.resting (q : Port) : Port := { q with
  ctx := q.ctx.map CtxRegs.unsent
  pd.tmrrun := 0, pd.evt := 0, hw.bmcQuiet := 0
  phw.tmrStart := Vector.replicate 26 0, phw.tmrPer := Vector.replicate 26 0
  phw.onWire := Vector.replicate 3 false, phw.txReady := Vector.replicate 3 false }

section
variable {q t : Port} {c : Fin 3}

theorem field_of_resting {α : Type} (g : Port → α) (hg : ∀ u : Port, g u.resting = g u)
    (h : t.resting = q.resting) : g t = g q := (hg t).symm.trans ((congrArg g h).trans (hg q))

theorem ctxField_of_resting {α : Type} (g : CtxRegs → α) (hg : ∀ r : CtxRegs, g r.unsent = g r)
    (h : t.resting = q.resting) (d : Fin 3) : g t.ctx[d] = g q.ctx[d] :=
  field_of_resting (fun u => g u.ctx[d]) (fun u => by simp [Port.resting, hg]) h

theorem ctx_of_resting (h : t.resting = q.resting) (d : Fin 3) :
    t.ctx[d].id = q.ctx[d].id ∧ t.ctx[d].ctl = q.ctx[d].ctl ∧ t.ctx[d].rxcnt = q.ctx[d].rxcnt :=
  ⟨ctxField_of_resting (·.id) (fun _ => rfl) h d, ctxField_of_resting (·.ctl) (fun _ => rfl) h d,
    ctxField_of_resting (·.rxcnt) (fun _ => rfl) h d⟩

theorem voice_of_resting (h : t.resting = q.resting) (c : Fin 3) : SameVoice c q t :=
  ⟨field_of_resting (fun u => u.pd.phycfg) (fun _ => rfl) h, (ctx_of_resting h c).2.1⟩

theorem heardId_of_resting (h : t.resting = q.resting) (n : Nat) : t.heardId c n ↔ q.heardId c n := by
  rw [Port.heardId, (ctx_of_resting h c).1]

theorem rxdesc_of_resting (h : t.resting = q.resting) : t.pd.rxdesc = q.pd.rxdesc :=
  field_of_resting (fun u => u.pd.rxdesc) (fun _ => rfl) h

theorem reasm_of_resting (h : t.resting = q.resting) : t.phw.reasm = q.phw.reasm :=
  field_of_resting (fun u => u.phw.reasm) (fun _ => rfl) h

theorem power_of_resting (h : t.resting = q.resting) :
    t.core = q.core ∧ t.pth = q.pth ∧ t.cc = q.cc ∧ t.cur = q.cur ∧ t.pol = q.pol :=
  ⟨field_of_resting Port.core (fun _ => rfl) h, field_of_resting Port.pth (fun _ => rfl) h, field_of_resting Port.cc (fun _ => rfl) h, field_of_resting Port.cur (fun _ => rfl) h, field_of_resting Port.pol (fun _ => rfl) h⟩

theorem rxRoom_of_resting (h : t.resting = q.resting) : t.rxRoom ↔ q.rxRoom := by
  rw [Port.rxRoom, reasm_of_resting h, rxdesc_of_resting h]

theorem stores_of_resting {m : List Byte} {u : Port} (h : t.resting = q.resting) (hs : Port.stores c m t u) :
    Port.stores c m q u := by
  have hseq : t.phw.rxSeq = q.phw.rxSeq := field_of_resting (fun u => u.phw.rxSeq) (fun _ => rfl) h
  rwa [Port.stores, rxdesc_of_resting h, hseq] at hs

@[simp] theorem arrives_resting (now : Nat) (c : Fin 3) (q : Port) : (arrives now c q).resting = q.resting := by
  obtain ⟨run, st, per, h⟩ := eprHeard_eq now c (busyLine now q)
  rw [arrives_eq, h]
  rfl

theorem unsent_set {f : CtxRegs → CtxRegs} (hf : ∀ r, (f r).unsent = r.unsent) (v : Vector CtxRegs 3) (c : Fin 3) :
    (v.set c (f v[c])).map CtxRegs.unsent = v.map CtxRegs.unsent := by
  apply Vector.ext
  intro i hi
  by_cases hc : c.val = i
  · subst hc
    simp [hf]
  · simp [hc]

theorem TxAborted.resting (h : TxAborted c q t) : t.resting = q.resting := by
  rcases h with rfl | ⟨r, rfl⟩
  · rfl
  · obtain ⟨run, h⟩ := finishTx_eq c r false q
    have hctx := unsent_set (f := endedCtx r false) (fun _ => rfl) q.ctx c
    rw [h, Port.resting, Port.resting]
    dsimp only
    rw [hctx]

/-- In EPR mode slot 20 runs once a message on SOP has arrived, whatever transmission it ends. -/
theorem slot20_runs {now : Nat} (h : TxAborted c (arrives now c q) t) (hc : c = 0)
    (he : F.PD_PHYCFG.EPR.on q.pd.phycfg = true) : t.slotRuns 20 = true :=
  (h.slotRuns (by decide)).trans (eprHeard_slot20 now hc he)

theorem holdsPhy_of_ctx {d : Fin 3} (h : t.ctx[d].txstat = q.ctx[d].txstat) : t.holdsPhy d = q.holdsPhy d := by
  simp only [Port.holdsPhy, Port.result, h]

theorem arrives_ctx (now : Nat) (c : Fin 3) (q : Port) : (arrives now c q).ctx = q.ctx := by
  obtain ⟨run, st, per, h⟩ := eprHeard_eq now c (busyLine now q)
  rw [arrives_eq, h]
  rfl

theorem arrives_phw (now : Nat) (c : Fin 3) (q : Port) : (arrives now c q).phw.onWire = q.phw.onWire := by
  obtain ⟨run, st, per, h⟩ := eprHeard_eq now c (busyLine now q)
  rw [arrives_eq, h]
  rfl

end

/-! ## Table PDE-2, row by row -/

/-- A message on SOP in BIST Test Data mode (04 R121). -/
abbrev Port.bistOn (c : Fin 3) (q : Port) : Prop := c = 0 ∧ q.phw.bistData = true

/-- What a message in BIST Test Data mode leaves. -/
def bistTaken (now : Nat) (c : Fin 3) (m : List Byte) (q : Port) : Port :=
  sendGoodCrc now c m { arrives now c q with pd.bistcnt := (arrives now c q).pd.bistcnt + 1 }

section
variable {now : Nat} {c : Fin 3} {m : List Byte} {q : Port}

theorem bistTakes_some (h : q.bistOn c) : bistTakes now c m (arrives now c q) = some (bistTaken now c m q) := by
  have hb : (arrives now c q).phw.bistData = true :=
    (field_of_resting (fun u => u.phw.bistData) (fun _ => rfl) (arrives_resting now c q)).trans h.2
  exact if_pos (by rw [hb, Bool.and_true]; exact decide_eq_true h.1)

theorem bistTakes_none (h : ¬q.bistOn c) : bistTakes now c m (arrives now c q) = none := by
  have hb : (arrives now c q).phw.bistData = q.phw.bistData :=
    field_of_resting (fun u => u.phw.bistData) (fun _ => rfl) (arrives_resting now c q)
  exact if_neg (by rwa [hb, Bool.and_eq_true, decide_eq_true_eq])

theorem isDup_iff (q : Port) (c : Fin 3) (n : Nat) : isDup q c n = true ↔ q.heardId c n := by
  rw [isDup, Bool.and_eq_true, beq_iff_eq]

theorem receive_bist (h : q.bistOn c) : receive now c m q = (bistTaken now c m q, false) := by
  simp only [receive, bistTakes_some h]

theorem receive_dup (hb : ¬q.bistOn c) (hd : q.heardId c (msgId m)) :
    receive now c m q = (countDup now c m (arrives now c q), false) := by
  have hdup : isDup (arrives now c q) c (msgId m) = true :=
    (isDup_iff _ _ _).mpr ((heardId_of_resting (arrives_resting now c q) _).mpr hd)
  simp only [receive, bistTakes_none hb, hdup, if_true]

/-- A new message, in the buffer found free, or with RX_FULL. -/
theorem receive_new (hb : ¬q.bistOn c) (hd : ¬q.heardId c (msgId m)) : receive now c m q =
    match freeBuf (dropReasm (discardTx c (arrives now c q))) with
    | some k => (stored now c k m (takeId c (msgId m) (dropReasm (discardTx c (arrives now c q)))), true)
    | none =>
      let t := dropReasm (discardTx c (arrives now c q))
      ({ t with pd.evt := F.PD_EVT.RX_FULL.set t.pd.evt }, false) := by
  have hdup : isDup (arrives now c q) c (msgId m) = false := by
    rw [← Bool.not_eq_true, isDup_iff, heardId_of_resting (arrives_resting now c q)]
    exact hd
  simp only [receive, bistTakes_none hb, hdup, Bool.false_eq_true, if_false]
  rfl

/-- The port after the hardware has taken up a new message. -/
abbrev takenUp (now : Nat) (c : Fin 3) (q : Port) : Port := discardTx c (arrives now c q)

theorem takenUp_aborted (now : Nat) (c : Fin 3) (q : Port) : TxAborted c (arrives now c q) (takenUp now c q) :=
  txAborted_discardTx c _

theorem takenUp_resting (now : Nat) (c : Fin 3) (q : Port) : (takenUp now c q).resting = q.resting :=
  (takenUp_aborted now c q).resting.trans (arrives_resting now c q)

theorem receive_stored (hb : ¬q.bistOn c) (hd : ¬q.heardId c (msgId m)) (hroom : q.rxRoom) :
    ∃ k : Fin 4, F.PD_RXDESC.VALID.on q.pd.rxdesc[k] = false ∧
      receive now c m q = (stored now c k m (takeId c (msgId m) (takenUp now c q)), true) := by
  have hrest := takenUp_resting now c q
  obtain ⟨k, hk, hfree⟩ := freeBuf_of_room ((rxRoom_of_resting hrest).mpr hroom)
  refine ⟨k, by rwa [rxdesc_of_resting hrest] at hfree, ?_⟩
  have hdrop : dropReasm (takenUp now c q) = takenUp now c q :=
    dropReasm_of_none ((reasm_of_resting hrest).trans hroom.1)
  rw [receive_new hb hd, hdrop, hk]

theorem dropReasm_eq (q : Port) : ∃ ctx run, dropReasm q =
    { q with ctx := ctx, pd.tmrrun := run, phw.reasm := none } := by
  unfold dropReasm
  split
  · exact ⟨_, _, rfl⟩
  · next h => exact ⟨_, _, by rw [← h]⟩

/-- Of a context a discarded reassembly changes RX_ACT alone. -/
theorem dropReasm_ctxField {α : Type} (g : CtxRegs → α) (hg : ∀ r x, g { r with xfer := x } = g r) (q : Port)
    (d : Fin 3) : g (dropReasm q).ctx[d] = g q.ctx[d] := by
  unfold dropReasm
  split
  · exact modCtx_field q (fun r => { r with xfer := F.CTX_XFER.RX_ACT.clr r.xfer }) g (hg _ _)
  · rfl

theorem receive_full (hb : ¬q.bistOn c) (hd : ¬q.heardId c (msgId m)) (hfull : q.rxFull) :
    receive now c m q = ({ dropReasm (takenUp now c q) with
      pd.evt := F.PD_EVT.RX_FULL.set (dropReasm (takenUp now c q)).pd.evt }, false) := by
  have hfree : freeBuf (dropReasm (takenUp now c q)) = none := by
    refine freeBuf_of_full fun k => ?_
    obtain ⟨ctx, run, h⟩ := dropReasm_eq (takenUp now c q)
    rw [h]
    exact (congrArg (fun v : Vector Word 4 => F.PD_RXDESC.VALID.on v[k])
      (rxdesc_of_resting (takenUp_resting now c q))).trans (hfull k)
  rw [receive_new hb hd, hfree]

/-! ## RX_ID -/

theorem takeId_ctx (n : Nat) (q : Port) : (takeId c n q).ctx[c] =
    { q.ctx[c] with id := F.CTX_ID.RX_ID.put n (F.CTX_ID.RX_VALID.set q.ctx[c].id) } := modCtx_self q _

theorem takeId_heardId (n : Nat) (q : Port) : (takeId c n q).heardId c (n % 8) := by
  rw [Port.heardId, takeId_ctx]
  exact ⟨(on_put_apart _ _ (by decide) _ _).trans (on_set _ (by decide) (by decide) _), get_put _ (by decide) _ _⟩

theorem takeId_txId (n : Nat) (q : Port) :
    F.CTX_ID.TX_ID.get (takeId c n q).ctx[c].id = F.CTX_ID.TX_ID.get q.ctx[c].id := by
  rw [takeId_ctx]
  exact (get_put_apart _ _ (by decide) _ _).trans (get_set_apart _ _ (by decide) _)

theorem takeId_voice (n : Nat) (q : Port) : SameVoice c q (takeId c n q) :=
  ⟨rfl, by rw [takeId_ctx]⟩

/-! ## Counts (04 Table PDE-2) -/

theorem satInc_get {f : Fld} (hf : f.fits = true) (hw : f.width = 16) (w : Word) :
    f.get (satInc f w) = min 65535 (f.get w + 1) := by
  rw [satInc, get_put _ hf, hw]
  exact Nat.mod_eq_of_lt (by omega)

/-- A frame with a bad CRC is counted. -/
def countCrc (now : Nat) (c : Fin 3) (q : Port) : Port :=
  (busyLine now q).modCtx c fun r => { r with rxcnt := satInc F.CTX_RXCNT.CRC_ERR r.rxcnt }

theorem countCrc_ctx (now : Nat) (c : Fin 3) (q : Port) : (countCrc now c q).ctx[c] =
    { q.ctx[c] with rxcnt := satInc F.CTX_RXCNT.CRC_ERR q.ctx[c].rxcnt } := 
  modCtx_self (busyLine now q) fun r => { r with rxcnt := satInc F.CTX_RXCNT.CRC_ERR r.rxcnt }

theorem countDup_ctx : (countDup now c m (arrives now c q)).ctx[c] =
    { q.ctx[c] with rxcnt := satInc F.CTX_RXCNT.DUP q.ctx[c].rxcnt } := by
  have h : (countDup now c m (arrives now c q)).ctx[c] =
      { (arrives now c q).ctx[c] with rxcnt := satInc F.CTX_RXCNT.DUP (arrives now c q).ctx[c].rxcnt } :=
    modCtx_self (arrives now c q) fun r => { r with rxcnt := satInc F.CTX_RXCNT.DUP r.rxcnt }
  rw [h, arrives_ctx]

end

/-! ## The commands of reception -/

section
variable {p : PortId} {s : State} {c : Fin 3} {m : List Byte}

theorem afterTx_eq_self {i : Instr} {q : Port} (h : q.holdsPhy c = true → s.ports[p].holdsPhy c = true) :
    afterTx p c i q s = s := by
  refine if_neg fun hc => ?_
  rw [Bool.and_eq_true, Bool.not_eq_true'] at hc
  exact Bool.noConfusion ((h hc.1).symm.trans hc.2)

/-- A Soft_Reset (04 Table PDE-2). -/
abbrev isSoftReset (m : List Byte) : Prop := msgExt m = false ∧ msgNobj m = 0 ∧ msgType m = 13

/-- A frame with a good CRC on a context that accepts it. -/
abbrev Port.accepts (c : Fin 3) (q : Port) : Prop := q.ctxOn c = true ∧ q.orient ≠ 0

theorem rxEnabled_of_ctxOn {q : Port} (h : q.ctxOn c = true) : q.rxEnabled c = true := (Bool.and_eq_true_iff.mp h).2

theorem messageReceived_dropped (ok : Bool) (h : s.ports[p].orient = 0 ∨ s.ports[p].rxEnabled c = false) :
    messageReceived p c m ok s = s := by
  refine if_pos ?_
  rcases h with h | h <;> rw [h] <;> simp

theorem messageReceived_badCrc (hor : s.ports[p].orient ≠ 0) (hrx : s.ports[p].rxEnabled c = true) :
    messageReceived p c m false s = modPort p (countCrc s.time c) s := by
  rw [messageReceived, if_neg (by simp [hor, hrx, -Fin.getElem_fin])]
  rfl

theorem messageReceived_off (hor : s.ports[p].orient ≠ 0) (hoff : s.ports[p].ctxOn c = false) :
    messageReceived p c m true s = s := by
  by_cases hrx : s.ports[p].rxEnabled c = true
  · rw [messageReceived, if_neg (by simp [hor, hrx, -Fin.getElem_fin]), if_neg (by simp), if_pos (by rw [hoff]; rfl)]
  · exact messageReceived_dropped true (.inr (by simpa using hrx))

theorem messageReceived_on (hon : s.ports[p].accepts c) : messageReceived p c m true s =
    if !msgExt m && msgNobj m = 0 && msgType m = 13 then softResetReceived p c m s
    else if c = 0 && isKeepalive m && autoAnswers s p && !s.ports[p].phw.bistData &&
        !isDup s.ports[p] c (msgId m) then
      modPort p (fun q => autoAck (sendGoodCrc s.time c m (takeId c (msgId m) (arrives s.time c q)))) s
    else
      let (q', stored) := receive s.time c m s.ports[p]
      let t := modPort p (fun _ => q') s
      if stored then atPd p (.pdMessageReceived p c m true) (polStored p c m) t
      else afterTx p c (.crcReceiveTimerExpiry p c) s.ports[p] t := by
  obtain ⟨hctx, hor⟩ := hon
  rw [messageReceived, if_neg (by simp [hor, rxEnabled_of_ctxOn hctx, -Fin.getElem_fin]), if_neg (by simp),
    if_neg (by simp [hctx, -Fin.getElem_fin])]

theorem messageReceived_soft (hon : s.ports[p].accepts c) (hm : isSoftReset m) :
    messageReceived p c m true s = softResetReceived p c m s := by
  obtain ⟨hext, hnobj, htype⟩ := hm
  rw [messageReceived_on hon, if_pos (by simp [hext, hnobj, htype])]

/-- EPR_KeepAlive that the hardware answers (04 R111). -/
abbrev ownAnswer (s : State) (p : PortId) (c : Fin 3) (m : List Byte) : Prop :=
  c = 0 ∧ isKeepalive m = true ∧ autoAnswers s p = true

theorem messageReceived_own (hon : s.ports[p].accepts c) (hm : ¬isSoftReset m) (hown : ownAnswer s p c m)
    (hb : ¬s.ports[p].bistOn c) (hd : ¬s.ports[p].heardId c (msgId m)) : messageReceived p c m true s =
      modPort p (fun q => autoAck (sendGoodCrc s.time c m (takeId c (msgId m) (arrives s.time c q)))) s := by
  obtain ⟨hc, hka, hauto⟩ := hown
  have hbist : s.ports[p].phw.bistData = false := by
    by_contra h
    exact hb ⟨hc, by simpa using h⟩
  have hdup : isDup s.ports[p] c (msgId m) = false := by rwa [← Bool.not_eq_true, isDup_iff]
  rw [messageReceived_on hon, if_neg (by simpa [isSoftReset] using hm),
    if_pos (by simp [hc ▸ hdup, hc, hka, hauto, hbist, -Fin.getElem_fin])]

theorem messageReceived_else (hon : s.ports[p].accepts c) (hm : ¬isSoftReset m)
    (hown : s.ports[p].bistOn c ∨ s.ports[p].heardId c (msgId m) ∨ ¬ownAnswer s p c m) :
    messageReceived p c m true s =
      if (receive s.time c m s.ports[p]).2 then
        atPd p (.pdMessageReceived p c m true) (polStored p c m)
          (modPort p (fun _ => (receive s.time c m s.ports[p]).1) s)
      else afterTx p c (.crcReceiveTimerExpiry p c) s.ports[p]
        (modPort p (fun _ => (receive s.time c m s.ports[p]).1) s) := by
  have hcond : ¬(c = 0 && isKeepalive m && autoAnswers s p && !s.ports[p].phw.bistData &&
      !isDup s.ports[p] c (msgId m)) = true := by
    intro h
    simp only [Bool.and_eq_true, decide_eq_true_eq, Bool.not_eq_true', and_assoc] at h
    obtain ⟨hc, hka, hauto, hbist, hdup⟩ := h
    rcases hown with hb | hd | ho
    · rw [hb.2] at hbist
      exact Bool.noConfusion hbist
    · rw [(isDup_iff _ _ _).mpr hd] at hdup
      exact Bool.noConfusion hdup
    · exact ho ⟨hc, hka, hauto⟩
  rw [messageReceived_on hon, if_neg (by simpa [isSoftReset] using hm), if_neg hcond]

/-- A message of which nothing reaches the policy. -/
theorem messageReceived_passed {t : Port} (hon : s.ports[p].accepts c) (hm : ¬isSoftReset m)
    (hown : s.ports[p].bistOn c ∨ s.ports[p].heardId c (msgId m) ∨ ¬ownAnswer s p c m)
    (hr : receive s.time c m s.ports[p] = (t, false))
    (hfree : s.ports[p].holdsPhy c = true → t.holdsPhy c = true) :
    messageReceived p c m true s = modPort p (fun _ => t) s := by
  rw [messageReceived_else hon hm hown, hr]
  exact afterTx_eq_self (by rwa [modPort_port])

theorem messageReceived_stored {t : Port} (hon : s.ports[p].accepts c) (hm : ¬isSoftReset m)
    (hown : ¬ownAnswer s p c m) (hr : receive s.time c m s.ports[p] = (t, true)) :
    messageReceived p c m true s =
      atPd p (.pdMessageReceived p c m true) (polStored p c m) (modPort p (fun _ => t) s) := by
  rw [messageReceived_else hon hm (.inr (.inr hown)), hr]
  rfl

/-! ## Soft_Reset received (04 R98) -/

theorem softResetReceived_off (h : ¬s.ports[p].accepts c) : softResetReceived p c m s = s :=
  if_pos (by
    rw [Bool.not_eq_true', ← Bool.not_eq_true, Bool.and_eq_true, bne_iff_ne]
    exact h)

theorem softResetReceived_bist (hon : s.ports[p].accepts c) (hb : s.ports[p].bistOn c) :
    softResetReceived p c m s = modPort p (bistTaken s.time c m) s := by
  rw [softResetReceived, if_neg (by simp [hon.1, hon.2, -Fin.getElem_fin]), bistTakes_some hb]
  exact modPort_congr rfl

theorem softResetReceived_else (hon : s.ports[p].accepts c) (hb : ¬s.ports[p].bistOn c) :
    softResetReceived p c m s = atPd p (.softResetReceived p c)
      (fun s => polSoftReset p c (modPort p releaseOldest s)) (modPort p (softResetHw s.time c m) s) := by
  rw [softResetReceived, if_neg (by simp [hon.1, hon.2, -Fin.getElem_fin]), bistTakes_none hb]

/-- The port after the hardware has reset the context of a Soft_Reset. -/
def softTaken (now : Nat) (c : Fin 3) (q : Port) : Port := resetIds c (softEnds c (arrives now c q))

theorem softTaken_id (now : Nat) (q : Port) : (softTaken now c q).ctx[c].id = 0 :=
  congrArg CtxRegs.id (modCtx_self _ fun r : CtxRegs => { r with id := 0 })

theorem softResetHw_stored (now : Nat) (m : List Byte) {q : Port} (hroom : q.rxRoom) :
    ∃ k : Fin 4, F.PD_RXDESC.VALID.on q.pd.rxdesc[k] = false ∧
      softResetHw now c m q = stored now c k m (softTaken now c q) := by
  have hrest := ((txAborted_softEnds c (arrives now c q)).resting).trans (arrives_resting now c q)
  have hdrop : dropReasm (arrives now c q) = arrives now c q :=
    dropReasm_of_none ((reasm_of_resting (arrives_resting now c q)).trans hroom.1)
  obtain ⟨k, hk, hfree⟩ := freeBuf_of_room (q := softTaken now c q) ((rxRoom_of_resting hrest).mpr hroom)
  refine ⟨k, ?_, ?_⟩
  · rw [← rxdesc_of_resting hrest]
    exact hfree
  · rw [softResetHw, hdrop]
    dsimp only
    rw [show resetIds c (softEnds c (arrives now c q)) = softTaken now c q from rfl, hk]
    rfl

end

end Sys2Proof.Machine

/-! SUPPORT. What the policy does first with a message of the partner (04 R88, R93, R107): the buffer released, the partner
heard, and the exchange under way given up at a Soft_Reset. -/

namespace Sys2Proof.Machine
open Sys2Proof

section
variable {p : PortId} {s : State} {c : Fin 3}

theorem releaseOldest_eq (q : Port) : ∃ head desc, releaseOldest q = { q with pd.rxhead := head, pd.rxdesc := desc } := by
  unfold releaseOldest
  split <;> exact ⟨_, _, rfl⟩

theorem polTxEnd_none (h : s.ports[p].pol.txNow[c] = none) : polTxEnd p c s = s := by
  rw [polTxEnd, h]

/-! ## The partner speaks (03 R67, 04 R107) -/

/-- The partner has spoken: NOPD clears and slot 24 stops. -/
def spoke (q : Port) : Port :=
  stopSlot 24 { q with core.state := F.PRT_STATE.NOPD.clr q.core.state, pol.spoke := true }

/-- A message of the partner on a port that does not begin to offer again. -/
theorem heard_eq {offer : Bool} (h : F.PRT_STATE.NOPD.on s.ports[p].core.state = false ∨ offer = false) :
    heard p offer s = modPort p spoke s := by
  refine if_neg ?_
  rcases h with h | h <;> rw [h] <;> simp

theorem spoke_core {q : Port} (h : F.PRT_STATE.NOPD.on q.core.state = false) : (spoke q).core = q.core := by
  show { q.core with state := F.PRT_STATE.NOPD.clr q.core.state } = q.core
  rw [clr_of_off h]

theorem spoke_slot24 (q : Port) : (spoke q).slotRuns 24 = false := slotRuns_stopSlot_self _ 24

theorem spoke_slotRuns {k : Fin 26} (h : k ≠ 24) (q : Port) : (spoke q).slotRuns k = q.slotRuns k :=
  slotRuns_stopSlot_ne _ h

theorem spoke_st (q : Port) : (spoke q).st = q.st := congrArg PortSt.ofCode (get_clr_apart _ _ (by decide) _)

theorem spoke_pol (q : Port) : (spoke q).pol = { q.pol with spoke := true } := rfl

theorem spoke_isSource (q : Port) : (spoke q).isSource = q.isSource := rfl

theorem spoke_orient (q : Port) : (spoke q).orient = q.orient := get_clr_apart _ _ (by decide) _

/-! ## A stored message -/

/-- A stored message that begins nothing: its buffer is released and the partner is heard. -/
theorem polStored_ping {m : List Byte} (htx : s.ports[p].pol.txNow[0] = none)
    (hnopd : F.PRT_STATE.NOPD.on s.ports[p].core.state = false) (hsrc : s.ports[p].isSource = false)
    (hext : msgExt m = false) (hnobj : msgNobj m = 0) (htype : msgType m = 5) :
    polStored p 0 m s = modPort p (fun q => spoke (releaseOldest q)) s := by
  have hown : ownRow m = false := by simp [ownRow, hext, hnobj, htype]
  obtain ⟨head, desc, hrel⟩ := releaseOldest_eq s.ports[p]
  have hport : (modPort p releaseOldest s).ports[p] = { s.ports[p] with pd.rxhead := head, pd.rxdesc := desc } :=
    (modPort_port p _ s).trans hrel
  have hend : polTxEnd p 0 (modPort p releaseOldest s) = modPort p releaseOldest s :=
    polTxEnd_none (by rw [hport]; exact htx)
  have hheard : ∀ offer, heard p offer (modPort p releaseOldest s) = modPort p (fun q => spoke (releaseOldest q)) s := by
    intro offer
    rw [heard_eq (.inl (by rw [hport]; exact hnopd)), modPort_modPort]
  have hsrc' : (modPort p (fun q => spoke (releaseOldest q)) s).ports[p].isSource = false := by
    rw [modPort_port, hrel]
    exact hsrc
  rw [polStored, hend, polMessage]
  simp only [if_true, hheard, hown, Bool.false_eq_true, if_false, hext, hnobj, polControl, htype, hsrc']

/-! ## The AMS (04 R92) -/

/-- A source waits for no SinkTxOk. -/
theorem releaseWaiting_source {q : Port} (h : q.isSource = true) : releaseWaiting q = q := if_pos h

/-- What a change of the terminations leaves of a source: CC registers and SINKTXOK alone. -/
theorem writeCcCtl_source {q : Port} (h : q.isSource = true) (v : Word) : ∃ cfg stat, writeCcCtl v q =
    { q with cc.ctl := v &&& 0xFF, cc.cfg := cfg, pd.phystat := stat } := by
  have hsync : ∀ t : Port, t.isSource = true → ∃ stat, syncTxOk t = { t with pd.phystat := stat } := by
    intro t ht
    unfold syncTxOk
    dsimp only
    split
    · exact ⟨_, releaseWaiting_source ht⟩
    · exact ⟨_, rfl⟩
  have hload : ∀ (lo hi : Fin 8) (t : Option (Nat × Nat)) (u : Port), ∃ cfg, loadPin lo hi t u = { u with cc.cfg := cfg } := by
    intro lo hi t u
    cases t <;> exact ⟨_, rfl⟩
  unfold writeCcCtl
  dsimp only
  split
  · obtain ⟨cfg, h1⟩ := hload 0 1 (termThr (F.CC_CTL.CC1_TERM.get (v &&& 0xFF)) (F.CC_CTL.RP_LVL.get (v &&& 0xFF)))
      { q with cc.ctl := v &&& 0xFF }
    rw [h1]
    obtain ⟨cfg', h2⟩ := hload 2 3 (termThr (F.CC_CTL.CC2_TERM.get (v &&& 0xFF)) (F.CC_CTL.RP_LVL.get (v &&& 0xFF)))
      { q with cc.ctl := v &&& 0xFF, cc.cfg := cfg }
    rw [h2]
    obtain ⟨stat, h3⟩ := hsync { q with cc.ctl := v &&& 0xFF, cc.cfg := cfg' } h
    exact ⟨_, _, h3⟩
  · obtain ⟨stat, h3⟩ := hsync { q with cc.ctl := v &&& 0xFF } h
    exact ⟨_, _, h3⟩

theorem amsEnd_eq (q : Port) : ∃ ctl cfg stat, amsEnd q =
    { q with cc.ctl := ctl, cc.cfg := cfg, pd.phystat := stat, phw.ams := false } := by
  unfold amsEnd
  dsimp only
  split
  · next h =>
    obtain ⟨cfg, stat, e⟩ := writeCcCtl_source (q := { q with phw.ams := false }) h
      (F.CC_CTL.RP_LVL.put 2 q.cc.ctl)
    exact ⟨_, _, _, e⟩
  · exact ⟨_, _, _, rfl⟩

theorem amsRestore_eq (q : Port) : ∃ ctl cfg stat, amsRestore q =
    { q with cc.ctl := ctl, cc.cfg := cfg, pd.phystat := stat, phw.ams := false } := by
  unfold amsRestore
  split
  · exact amsEnd_eq q
  · next h =>
    rw [Bool.not_eq_true] at h
    exact ⟨_, _, _, by rw [← h]⟩

theorem amsRestore_off {q : Port} (h : q.phw.ams = false) : amsRestore q = q := if_neg (by simp [h])

theorem endAms_eq (p : PortId) (s : State) : endAms p s = modPort p amsRestore s := by
  unfold endAms
  split
  · next h => exact modPort_congr (if_pos h).symm
  · next h => exact (modPort_eq_self (if_neg h)).symm

/-! ## The exchange given up (04 R98, R101) -/

/-- The policy of a port whose SOP exchange ends at a Soft_Reset. -/
def exchangeDropped (q : Port) : Port :=
  { q with pol := { q.pol with
      next := none, accepted := false, reqWait := false, txq := q.pol.txq.filter (fun r => r.ctx != 0)
      txNow := q.pol.txNow.set 0 none, await := none, swap := none } }

/-- The exchange given up, and the AMS over. -/
def exchangeLeft (q : Port) : Port :=
  exchangeDropped (amsRestore { q with pol.next := none, pol.accepted := false, pol.reqWait := false })

theorem exchangeLeft_eq (q : Port) : ∃ ctl cfg stat, exchangeLeft q = exchangeDropped { q with
    cc.ctl := ctl, cc.cfg := cfg, pd.phystat := stat, phw.ams := false } := by
  obtain ⟨ctl, cfg, stat, e⟩ := amsRestore_eq { q with pol.next := none, pol.accepted := false, pol.reqWait := false }
  rw [exchangeLeft, e]
  exact ⟨_, _, _, rfl⟩

theorem dropExchange_left (hw : noWaits s p) (hnext : s.ports[p].pol.next = none) :
    dropExchange p 0 s = modPort p exchangeLeft s := by
  have hall : completeAll (fun w => w.port == p.val && onCtx 0 w.kind) .cancelled s = s :=
    completeAll_none hw (fun w h => by simp only [Bool.and_eq_true, beq_iff_eq] at h; exact h.1) _
  have hdrop : dropNext p s = modPol p (fun l => { l with next := none, accepted := false, reqWait := false }) s := by
    rw [dropNext, hnext]
    rfl
  rw [dropExchange, hall]
  simp only [if_true]
  rw [hdrop, endAms_eq]
  unfold modPol
  rw [modPort_modPort, modPort_modPort]
  refine modPort_congr ?_
  obtain ⟨ctl, cfg, stat, e⟩ := amsRestore_eq { s.ports[p] with
    pol.next := none, pol.accepted := false, pol.reqWait := false }
  rw [exchangeLeft, e]
  rfl

theorem exchangeLeft_off {q : Port} (h : q.phw.ams = false) : exchangeLeft q = exchangeDropped q :=
  calc exchangeLeft q
    _ = exchangeDropped { q with pol.next := none, pol.accepted := false, pol.reqWait := false } :=
      congrArg exchangeDropped (amsRestore_off h)
    _ = exchangeDropped q := rfl

theorem dropExchange_eq (hw : noWaits s p) (hams : s.ports[p].phw.ams = false) (hnext : s.ports[p].pol.next = none) :
    dropExchange p 0 s = modPort p exchangeDropped s :=
  (dropExchange_left hw hnext).trans (modPort_congr (exchangeLeft_off hams))

/-! ## The answer to a Soft_Reset -/

/-- Accept of a Soft_Reset, after the exchange has been given up. -/
def softAnswered (q : Port) : Port :=
  sent 0 (ctrlMsg (exchangeDropped (spoke q)) 0 3) .reply (exchangeDropped (spoke q))

theorem clear_dropped {q : Port} (h : q.clear 0) : (exchangeDropped (spoke q)).clear 0 := by
  obtain ⟨hphy, htxq, hon, hor⟩ := h
  refine ⟨hphy, ?_, hon, by rwa [← spoke_orient q] at hor⟩
  exact (congrArg (List.filter _) htxq).trans List.filter_nil

/-- What a sink with nothing under way does with a Soft_Reset on SOP. -/
theorem polSoftReset_sink (hw : noWaits s p)
    (hacc : s.ports[p].pol.accepted = false) (hsrc : s.ports[p].isSource = false) (hams : s.ports[p].phw.ams = false)
    (hnext : s.ports[p].pol.next = none) (hclear : s.ports[p].clear 0) :
    polSoftReset p 0 s = modPort p softAnswered s := by
  have hheard : heard p false s = modPort p spoke s := heard_eq (.inr rfl)
  have hspoke : (modPort p spoke s).ports[p] = spoke s.ports[p] := modPort_port p _ s
  have hdrop : dropExchange p 0 (modPort p spoke s) = modPort p (fun q => exchangeDropped (spoke q)) s := by
    rw [dropExchange_eq (noWaits_modPort _ hw) (by rw [hspoke]; exact hams) (by rw [hspoke]; exact hnext),
      modPort_modPort]
  have hsend : sendCtrl p 3 false .reply (modPort p (fun q => exchangeDropped (spoke q)) s) =
      modPort p softAnswered s := by
    rw [sendCtrl, engineSend_eq (by rw [modPort_port]; exact clear_dropped hclear) rfl rfl, modPort_modPort]
    rfl
  have hacc' : (modPort p spoke s).ports[p].pol.accepted = false := by rw [hspoke]; exact hacc
  have hsrc' : (modPort p softAnswered s).ports[p].isSource = false := by rw [modPort_port]; exact hsrc
  rw [polSoftReset, if_neg (by simp)]
  simp only [hheard, hdrop, hacc', Bool.false_eq_true, if_false, hsend, hsrc']

end

/-! ## The contexts at a Hard Reset (04 R92, R99, Table PDE-3) -/

section
variable {c : Fin 3}

theorem txAborted_abortTx (c : Fin 3) (q : Port) : TxAborted c q (abortTx c q) := by
  unfold abortTx
  split
  · exact .inr ⟨6, rfl⟩
  · exact .inl rfl

theorem resetCtx_eq (c : Fin 3) (q : Port) : ∃ ctx run evt ow tr, resetCtx c q =
    { q with ctx := ctx, pd.tmrrun := run, pd.evt := evt, phw.onWire := ow, phw.txReady := tr } := by
  obtain ⟨ctx, run, evt, ow, tr, h⟩ := (txAborted_abortTx c q).eq
  rw [resetCtx, h]
  exact ⟨_, _, _, _, _, rfl⟩

theorem resetCtx_id (c d : Fin 3) (q : Port) : (resetCtx c q).ctx[d].id = if d = c then 0 else q.ctx[d].id := by
  unfold resetCtx resetIds
  split
  · next h =>
    subst h
    rw [modCtx_self]
  · next h =>
    rw [modCtx_ne _ _ h]
    exact (txAborted_abortTx c q).ctx_field (·.id) (fun _ _ _ => rfl) d

/-- The port after the resets of its three contexts. -/
def ctxsReset (q : Port) : Port := dropReasm (resetCtx 2 (resetCtx 1 (resetCtx 0 q)))

theorem ctxsReset_eq (q : Port) : ∃ ctx run evt ow tr, ctxsReset q =
    { q with ctx := ctx, pd.tmrrun := run, pd.evt := evt, phw.onWire := ow, phw.txReady := tr, phw.reasm := none } := by
  unfold ctxsReset
  obtain ⟨ctx, run, evt, ow, tr, h0⟩ := resetCtx_eq 0 q
  rw [h0]
  obtain ⟨ctx, run, evt, ow, tr, h1⟩ := resetCtx_eq 1 { q with
    ctx := ctx, pd.tmrrun := run, pd.evt := evt, phw.onWire := ow, phw.txReady := tr }
  rw [h1]
  obtain ⟨ctx, run, evt, ow, tr, h2⟩ := resetCtx_eq 2 { q with
    ctx := ctx, pd.tmrrun := run, pd.evt := evt, phw.onWire := ow, phw.txReady := tr }
  rw [h2]
  obtain ⟨ctx, run, h3⟩ := dropReasm_eq { q with
    ctx := ctx, pd.tmrrun := run, pd.evt := evt, phw.onWire := ow, phw.txReady := tr }
  exact ⟨_, _, _, _, _, h3⟩

theorem ctxsReset_id (q : Port) (d : Fin 3) : (ctxsReset q).ctx[d].id = 0 := by
  rw [ctxsReset, dropReasm_ctxField (·.id) (fun _ _ => rfl)]
  simp only [resetCtx_id]
  fin_cases d <;> rfl

/-- What the reset of all contexts with the receive buffers leaves, and what it keeps. -/
structure CtxsCleared (q t : Port) : Prop where
  id (d : Fin 3) : t.ctx[d].id = 0
  rxdesc (k : Fin 4) : t.pd.rxdesc[k] = 0
  reasm : t.phw.reasm = none
  hwq : t.phw.hwq = []
  bistData : t.phw.bistData = false
  ams : t.phw.ams = false
  core : t.core = q.core
  pth : t.pth = q.pth
  cur : t.cur = q.cur
  pol : t.pol = q.pol
  phycfg : t.pd.phycfg = q.pd.phycfg
  sigstat : t.pd.sigstat = q.pd.sigstat
  hrWait : t.phw.hrWait = q.phw.hrWait
  crWait : t.phw.crWait = q.phw.crWait
  bistCarrier : t.phw.bistCarrier = q.phw.bistCarrier
  vstat : t.cc.vstat = q.cc.vstat
  vctl : t.cc.vctl = q.cc.vctl
  cc : q.phw.ams = false → t.cc = q.cc
  evt (n : Nat) : bitOf q.pd.evt n = true → bitOf t.pd.evt n = true

theorem TxAborted.evt {q t : Port} (h : TxAborted c q t) (n : Nat) (hn : bitOf q.pd.evt n = true) :
    bitOf t.pd.evt n = true := by
  rcases h with rfl | ⟨r, rfl⟩
  · exact hn
  · obtain ⟨run, h⟩ := finishTx_eq c r false q
    rw [h]
    exact (bitOf_setBit (by omega) _ _).trans (by rw [hn, Bool.true_or])

theorem ctxsReset_evt (q : Port) (n : Nat) (hn : bitOf q.pd.evt n = true) : bitOf (ctxsReset q).pd.evt n = true := by
  have hreset : ∀ (c : Fin 3) (t : Port), bitOf t.pd.evt n = true → bitOf (resetCtx c t).pd.evt n = true :=
    fun c t => (txAborted_abortTx c t).evt n
  obtain ⟨ctx, run, h⟩ := dropReasm_eq (resetCtx 2 (resetCtx 1 (resetCtx 0 q)))
  rw [ctxsReset, h]
  exact hreset 2 _ (hreset 1 _ (hreset 0 _ hn))

theorem hardResetCtxs_cleared (q : Port) : CtxsCleared q (hardResetCtxs q) := by
  have hid := ctxsReset_id q
  have hevt := ctxsReset_evt q
  have hcc : q.phw.ams = false → (amsRestore (ctxsReset q)).cc = q.cc := by
    obtain ⟨ctx, run, evt, ow, tr, h⟩ := ctxsReset_eq q
    intro hq
    rw [amsRestore_off (by rw [h]; exact hq), h]
  have hform : hardResetCtxs q = releaseRx 0xF { amsRestore (ctxsReset q) with phw.hwq := [], phw.bistData := false } := rfl
  obtain ⟨ctl, cfg, stat, ha⟩ := amsRestore_eq (ctxsReset q)
  obtain ⟨ctx, run, evt, ow, tr, h⟩ := ctxsReset_eq q
  have hrx : ∀ (t : Port) (k : Fin 4), (releaseRx 0xF t).pd.rxdesc[k] = 0 := by
    intro t k
    rw [releaseRx_rxdesc, if_pos]
    revert k
    decide
  rw [ha, h] at hcc
  rw [h] at hid hevt
  rw [hform, ha, h]
  exact ⟨hid, hrx _, rfl, rfl, rfl, rfl, rfl, rfl, rfl, rfl, rfl, rfl, rfl, rfl, rfl, rfl, rfl,
    hcc, hevt⟩

/-! ## A Hard Reset received (04 R99) -/

/-- What the hardware does at a received Hard Reset. -/
def hardReceived (now : Nat) (q : Port) : Port :=
  { stopSlot 4 (hardResetCtxs (busyLine now q)) with
    phw.hrWait := false, phw.bistCarrier := false
    pd.sigstat := F.PD_SIGSTAT.HR_RCVD.set (hardResetCtxs (busyLine now q)).pd.sigstat
    pd.evt := F.PD_EVT.HR_RCVD.set (hardResetCtxs (busyLine now q)).pd.evt }

/-- The hardware has taken a Hard Reset. -/
structure HardTaken (t : Port) : Prop where
  sigstat : F.PD_SIGSTAT.HR_RCVD.on t.pd.sigstat = true
  evt : F.PD_EVT.HR_RCVD.on t.pd.evt = true
  ids (c : Fin 3) : t.idsReset c
  rxdesc (k : Fin 4) : t.pd.rxdesc[k] = 0
  hrWait : t.phw.hrWait = false
  reasm : t.phw.reasm = none
  slot4 : t.slotRuns 4 = false
  hwq : t.phw.hwq = []
  bistData : t.phw.bistData = false
  bistCarrier : t.phw.bistCarrier = false
  ams : t.phw.ams = false

theorem idsReset_of_id {t : Port} (h : t.ctx[c].id = 0) : t.idsReset c := by
  rw [Port.idsReset, h]
  decide

theorem hardReceived_taken (now : Nat) (q : Port) : HardTaken (hardReceived now q) := by
  have h := hardResetCtxs_cleared (busyLine now q)
  exact ⟨on_set _ (by decide) (by decide) _, on_set _ (by decide) (by decide) _, fun c => idsReset_of_id (h.id c),
    h.rxdesc, rfl, h.reasm, slotRuns_stopSlot_self _ 4, h.hwq, h.bistData, rfl, h.ams⟩

theorem hardReceived_keeps (now : Nat) (q : Port) : (hardReceived now q).core = q.core ∧
    (hardReceived now q).pth = q.pth ∧ (hardReceived now q).cur = q.cur ∧ (hardReceived now q).pol = q.pol ∧
    (hardReceived now q).pd.phycfg = q.pd.phycfg ∧ (q.phw.ams = false → (hardReceived now q).cc = q.cc) := by
  have h := hardResetCtxs_cleared (busyLine now q)
  exact ⟨h.core, h.pth, h.cur, h.pol, h.phycfg, h.cc⟩

/-- A source port after a Hard Reset (04 R99). -/
structure SourceReset (q t : Port) : Prop where
  sigstat : t.pd.sigstat = q.pd.sigstat
  evt (n : Nat) : bitOf q.pd.evt n = true → bitOf t.pd.evt n = true
  ids (c : Fin 3) : t.idsReset c
  rxdesc (k : Fin 4) : t.pd.rxdesc[k] = 0
  hrWait : t.phw.hrWait = q.phw.hrWait
  reasm : t.phw.reasm = none
  slot4 : t.slotRuns 4 = false
  hwq : t.phw.hwq = []
  bistData : t.phw.bistData = false
  bistCarrier : t.phw.bistCarrier = q.phw.bistCarrier
  ams : t.phw.ams = false
  st : t.st = .castingOn
  hr : t.pol.hr = .psHardReset
  slot9 : t.slotRuns 9 = true
  txq : t.pol.txq = []
  disc : t.pol.discDue = false
  epr : F.PD_PHYCFG.EPR.on t.pd.phycfg = false

theorem SourceReset.taken {q t : Port} (h : SourceReset q t) (hq : HardTaken q) : HardTaken t where
  sigstat := (congrArg F.PD_SIGSTAT.HR_RCVD.on h.sigstat).trans hq.sigstat
  evt := (on_eq_getLsbD F.PD_EVT.HR_RCVD rfl _).trans
    (h.evt 4 ((on_eq_getLsbD F.PD_EVT.HR_RCVD rfl _).symm.trans hq.evt))
  ids := h.ids
  rxdesc := h.rxdesc
  hrWait := h.hrWait.trans hq.hrWait
  reasm := h.reasm
  slot4 := h.slot4
  hwq := h.hwq
  bistData := h.bistData
  bistCarrier := h.bistCarrier.trans hq.bistCarrier
  ams := h.ams

theorem hardTmr_slot4 (w : Word) : bitOf (w &&& 0x1000000) 4 = false := by
  unfold bitOf
  rw [BitVec.getLsbD_and]
  simp

/-- The policy of a port after a Hard Reset. -/
def resetPolicy (l : Policy) : Policy :=
  { l with txq := [], txNow := Vector.replicate 3 none, await := none, reqWait := false, swap := none, capsTries := 0,
           doneHeld := false, discDue := false, hostVdm := Vector.replicate 3 none }

/-- Roles, flags and policy of a port after a Hard Reset. -/
def flagsBack (q : Port) : Port :=
  { q with pd.phycfg := F.PD_PHYCFG.EPR.clr (F.PD_PHYCFG.SWAP.clr q.pd.phycfg), pol := resetPolicy q.pol }

/-- Every slot but 24 stopped. -/
def onlySlot24 (q : Port) : Port := { q with pd.tmrrun := q.pd.tmrrun &&& 0x1000000 }

/-- The state and the timers of an attached port after a Hard Reset. -/
def castingBack (q : Port) : Port := onlySlot24 (q.setSt .castingOn)

/-- A source waits tPSHardReset with Rp and the rating of its reservation. -/
def sourceWaits (now : Nat) (q : Port) : Port :=
  startSlot now 9 { setRp q.pol.level (setRating (levelCurr q.pol.level) q) with pol.hr := .psHardReset }

theorem sourceWaits_eq (now : Nat) {q : Port} (h : q.isSource = true) : ∃ ctl cfg stat rating, sourceWaits now q =
    startSlot now 9 { q with cc.ctl := ctl, cc.cfg := cfg, pd.phystat := stat, pth.rating := rating,
                             pol.hr := .psHardReset } := by
  obtain ⟨cfg, stat, e⟩ := writeCcCtl_source (q := setRating (levelCurr q.pol.level) q) h
    (F.CC_CTL.RP_LVL.put q.pol.level q.cc.ctl)
  have hform : sourceWaits now q = startSlot now 9 { writeCcCtl (F.CC_CTL.RP_LVL.put q.pol.level q.cc.ctl)
      (setRating (levelCurr q.pol.level) q) with pol.hr := .psHardReset } := rfl
  rw [hform, e]
  exact ⟨_, _, _, _, rfl⟩

/-- The port with the roles of a source set after its contexts have been cleared. -/
def sourceBack (q : Port) : Port :=
  flagsBack { q with pd.phycfg := F.PD_PHYCFG.PWR_ROLE.set q.pd.phycfg }

theorem restoreRole_source {q : Port} (h : q.pol.swap = none) :
    restoreRole true q = { q with pd.phycfg := F.PD_PHYCFG.PWR_ROLE.set q.pd.phycfg } := by
  rw [restoreRole]
  dsimp only
  rw [h]
  rfl

theorem hardResetPort_eq (now : Nat) {q : Port} (hatt : q.attached = true) (hswap : q.pol.swap = none) :
    hardResetPort now true q = sourceWaits now (castingBack (sourceBack (hardResetCtxs q))) := by
  have h := hardResetCtxs_cleared q
  have hrole : restoreRole true (hardResetCtxs q) = _ := restoreRole_source (by rw [h.pol, hswap])
  have hst : (sourceBack (hardResetCtxs q)).st = q.st := st_of_core h.core
  have hform : hardResetPort now true q = sourceWaits now (onlySlot24
      (if (flagsBack (restoreRole true (hardResetCtxs q))).attached then
        (flagsBack (restoreRole true (hardResetCtxs q))).setSt .castingOn
      else flagsBack (restoreRole true (hardResetCtxs q)))) := rfl
  have hatt' : (sourceBack (hardResetCtxs q)).attached = true := by
    rw [Port.attached, hst]
    exact hatt
  rw [hform, hrole]
  exact congrArg (fun t => sourceWaits now (onlySlot24 t)) (if_pos hatt')

theorem castingBack_st {q : Port} (h : q.attached = true) : (castingBack q).st = .castingOn := by
  refine setSt_st (fun hf => ?_) .castingOn
  rw [Port.attached, hf] at h
  exact Bool.noConfusion h

theorem castingBack_eq (q : Port) : ∃ st, castingBack q =
    { q with core.state := st, pd.tmrrun := q.pd.tmrrun &&& 0x1000000 } := by
  unfold castingBack Port.setSt
  split <;> exact ⟨_, rfl⟩

theorem hardResetPort_source (now : Nat) {q : Port} (hatt : q.attached = true) (hswap : q.pol.swap = none) :
    SourceReset q (hardResetPort now true q) ∧ (hardResetPort now true q).pol.contract = q.pol.contract := by
  have h := hardResetCtxs_cleared q
  have hst : (castingBack (sourceBack (hardResetCtxs q))).st = .castingOn := by
    refine castingBack_st ?_
    rw [Port.attached, show (sourceBack (hardResetCtxs q)).st = q.st from st_of_core h.core]
    exact hatt
  obtain ⟨st, hcast⟩ := castingBack_eq (sourceBack (hardResetCtxs q))
  have hsrc : (castingBack (sourceBack (hardResetCtxs q))).isSource = true := by
    rw [hcast]
    exact (on_clr_apart _ _ (by decide) _).trans ((on_clr_apart _ _ (by decide) _).trans
      (on_set _ (by decide) (by decide) _))
  obtain ⟨ctl, cfg, stat, rating, e⟩ := sourceWaits_eq now hsrc
  rw [hcast] at e hst
  have hcontract : (hardResetCtxs q).pol.contract = q.pol.contract := by rw [h.pol]
  rw [hardResetPort_eq now hatt hswap, hcast, e]
  exact ⟨⟨h.sigstat, h.evt, fun c => idsReset_of_id (h.id c), h.rxdesc, h.hrWait, h.reasm,
    (slotRuns_startSlot_ne _ now (by decide)).trans (hardTmr_slot4 _), h.hwq, h.bistData, h.bistCarrier, h.ams, hst, rfl,
    slotRuns_startSlot_self _ 9 now, rfl, rfl, on_clr _ _⟩, hcontract⟩

end

/-! ## The policy at a Hard Reset received (04 R99) -/

section
variable {p : PortId} {s : State}

/-- An event of the port at a time of its own changes its event queue alone. -/
theorem postPortAt_eq (time : Nat) (p : PortId) (ev : PortEvt) (d : Word) (s : State) : ∃ queue held seq,
    postPortAt time p ev d s = modPort p (fun q => { q with pol.queue := queue, pol.held := held, pol.seq := seq }) s := by
  unfold postPortAt modPol
  dsimp only
  split
  · by_cases h : (decide (s.ports[p].pol.queue.length < 32) && s.ports[p].pol.held.isEmpty) = true
    · exact ⟨_, _, _, modPort_congr ((congrArg (fun l => { s.ports[p] with pol := l }) (if_pos h)).trans rfl)⟩
    · exact ⟨_, _, _, modPort_congr ((congrArg (fun l => { s.ports[p] with pol := l }) (if_neg h)).trans rfl)⟩
  · exact ⟨_, _, _, (modPort_eq_self rfl).symm⟩

theorem postPort_eq (p : PortId) (ev : PortEvt) (d : Word) (s : State) : ∃ queue held seq,
    postPort p ev d s = modPort p (fun q => { q with pol.queue := queue, pol.held := held, pol.seq := seq }) s :=
  postPortAt_eq s.time p ev d s

/-- A port without its contract, and with the events of its end. -/
def lostContract (queue held : List EvtEntry) (seq : Nat) (q : Port) : Port :=
  { q with pol.contract := none, pol.next := none, pol.accepted := false
           pol.queue := queue, pol.held := held, pol.seq := seq }

theorem lostContract_self {q : Port} (h : q.pol.contract = none) :
    { q with pol.next := none, pol.accepted := false } = lostContract q.pol.queue q.pol.held q.pol.seq q := by
  rw [lostContract, ← h]

/-- An explicit contract ends in the ledger and in the policy. -/
theorem loseContract_eq (p : PortId) (cause trip : Nat) (s : State) : ∃ queue held seq, loseContract p cause trip s =
    modPort p (lostContract queue held seq) (modCad p (fun c => { c with contract := none }) s) := by
  unfold loseContract
  dsimp only
  split
  · obtain ⟨queue, held, seq, h⟩ := postPort_eq p .contractLost (BitVec.ofNat 32 (cause + 16 * trip))
      (modPol p (fun l => { l with contract := none, next := none, accepted := false })
        (modCad p (fun c => { c with contract := none }) s))
    refine ⟨queue, held, seq, ?_⟩
    rw [h]
    unfold modPol
    rw [modPort_modPort]
    rfl
  · next h =>
    have hnone : (modCad p (fun c => { c with contract := none }) s).ports[p].pol.contract = none := by
      simpa [-Fin.getElem_fin] using h
    exact ⟨_, _, _, modPort_congr (lostContract_self hnone)⟩

theorem loseContract_ports (p : PortId) (cause trip : Nat) (s : State) : ∃ queue held seq,
    (loseContract p cause trip s).ports = (modPort p (lostContract queue held seq) s).ports := by
  obtain ⟨queue, held, seq, e⟩ := loseContract_eq p cause trip s
  exact ⟨queue, held, seq, by rw [e]; rfl⟩

theorem loseContract_waits (p : PortId) (cause trip : Nat) (s : State) :
    (loseContract p cause trip s).host.waits = s.host.waits := by
  obtain ⟨queue, held, seq, e⟩ := loseContract_eq p cause trip s
  rw [e]
  rfl

/-- The contract, and with it the grant, given up at a Hard Reset. -/
def hardLost (p : PortId) (cause : Nat) (s : State) : State :=
  let t := loseContract p cause 0 s
  if s.ports[p].pol.contract.isSome then submitWithdraw p t else t

theorem hardLost_ports (p : PortId) (cause : Nat) (s : State) :
    (hardLost p cause s).ports = (loseContract p cause 0 s).ports := by
  unfold hardLost
  dsimp only
  split <;> rfl

theorem hardLost_host (p : PortId) (cause : Nat) (s : State) :
    (hardLost p cause s).host = (loseContract p cause 0 s).host := by
  unfold hardLost
  dsimp only
  split <;> rfl

theorem afterHardReset_source (cause : Nat) (hw : noWaits s p) (hsrc : s.ports[p].isSource = true)
    (hswap : s.ports[p].pol.swap = none) :
    afterHardReset p cause s = modPort p (hardResetPort (hardLost p cause s).time true) (hardLost p cause s) := by
  have hcancel : cancelPort p s = s :=
    completeAll_none hw (fun w h => by simp only [Bool.and_eq_true, beq_iff_eq, and_assoc] at h; exact h.1) _
  rw [afterHardReset, hcancel, hswap, hsrc]
  simp only [Option.map_none, Option.getD_none, Bool.false_eq_true, if_false, Bool.and_true]
  rfl

/-- What a Hard Reset leaves of a source port that has no swap under way. -/
theorem afterHardReset_port (cause : Nat) (hw : noWaits s p) (hatt : s.ports[p].attached = true)
    (hsrc : s.ports[p].isSource = true) (hswap : s.ports[p].pol.swap = none) :
    SourceReset s.ports[p] (afterHardReset p cause s).ports[p] ∧ (afterHardReset p cause s).ports[p].pol.contract = none ∧
      (∀ r : PortId, r ≠ p → (afterHardReset p cause s).ports[r] = s.ports[r]) ∧
      noWaits (afterHardReset p cause s) p := by
  obtain ⟨queue, held, seq, h⟩ := loseContract_ports p cause 0 s
  have hports := (hardLost_ports p cause s).trans h
  have hport : (hardLost p cause s).ports[p] = lostContract queue held seq s.ports[p] := by
    rw [hports, modPort_port]
  have hwaits : (hardLost p cause s).host.waits = s.host.waits :=
    (congrArg (fun h => h.waits) (hardLost_host p cause s)).trans (loseContract_waits p cause 0 s)
  rw [afterHardReset_source cause hw hsrc hswap]
  obtain ⟨hres, hnone⟩ := hardResetPort_source (hardLost p cause s).time
    (q := lostContract queue held seq s.ports[p]) hatt hswap
  rw [modPort_port, hport]
  refine ⟨⟨hres.sigstat, hres.evt, hres.ids, hres.rxdesc, hres.hrWait, hres.reasm, hres.slot4, hres.hwq, hres.bistData,
    hres.bistCarrier, hres.ams, hres.st, hres.hr, hres.slot9, hres.txq, hres.disc, hres.epr⟩, hnone, fun r hr => ?_,
    fun w hmem => ?_⟩
  · rw [modPort_other _ _ _ r hr, hports, modPort_other _ _ _ r hr]
  · exact hw w (hwaits ▸ hmem)

end

end Sys2Proof.Machine

/-! SUPPORT. O50, reception (04 R84 to R99, R121): what each row of Table PDE-2 leaves of the port. -/

namespace Sys2Proof.Machine
open Sys2Proof

/-- The power side of a port: its state, path, terminations and breaker curve. -/
abbrev SamePower (q t : Port) : Prop := t.core = q.core ∧ t.pth = q.pth ∧ t.cc = q.cc ∧ t.cur = q.cur

/-- A message of a context was acknowledged. -/
abbrev Acked (c : Fin 3) (m : List Byte) (q t : Port) : Prop := t.phw.goodCrc = some (c, goodCrcFor q c (msgId m))

section
variable (now : Nat) (c : Fin 3) (m : List Byte) {q t : Port}

theorem samePower_of_resting (h : t.resting = q.resting) : SamePower q t ∧ t.pol = q.pol := by
  obtain ⟨hcore, hpth, hcc, hcur, hpol⟩ := power_of_resting h
  exact ⟨⟨hcore, hpth, hcc, hcur⟩, hpol⟩

theorem sendGoodCrc_acked (h : SameVoice c q t) : Acked c m q (sendGoodCrc now c m t) := by
  show some (c, goodCrcFor t c (msgId m)) = _
  rw [h.goodCrcFor]

theorem SameVoice.trans {u : Port} (h : SameVoice c q t) (g : SameVoice c t u) : SameVoice c q u :=
  ⟨g.phycfg.trans h.phycfg, g.ctl.trans h.ctl⟩

theorem arrives_holdsPhy (d : Fin 3) (q : Port) : (arrives now c q).holdsPhy d = q.holdsPhy d :=
  holdsPhy_of_ctx (by rw [arrives_ctx])

/-- In BIST Test Data mode a message is acknowledged and counted. -/
theorem bistTaken_counted (q : Port) : SamePower q (bistTaken now c m q) ∧
    (bistTaken now c m q).pd.bistcnt = q.pd.bistcnt + 1 ∧ (bistTaken now c m q).pd.rxdesc = q.pd.rxdesc ∧
    (bistTaken now c m q).ctx = q.ctx ∧ (bistTaken now c m q).pol = q.pol ∧ Acked c m q (bistTaken now c m q) ∧
    (bistTaken now c m q).phw.reasm = q.phw.reasm := by
  have hrest := arrives_resting now c q
  obtain ⟨hpower, hpol⟩ := samePower_of_resting hrest
  have hdesc := rxdesc_of_resting hrest
  have hreasm := reasm_of_resting hrest
  have hcnt : (arrives now c q).pd.bistcnt = q.pd.bistcnt := field_of_resting (fun u => u.pd.bistcnt) (fun _ => rfl) hrest
  have hvoice := voice_of_resting hrest c
  exact ⟨hpower, congrArg (· + 1) hcnt, hdesc, arrives_ctx now c q, hpol,
    sendGoodCrc_acked now c m ⟨hvoice.phycfg, hvoice.ctl⟩, hreasm⟩

/-- A duplicate is acknowledged and counted. -/
theorem countDup_counted (q : Port) : let t := countDup now c m (arrives now c q)
    SamePower q t ∧ t.pd.rxdesc = q.pd.rxdesc ∧ Acked c m q t ∧
      F.CTX_RXCNT.DUP.get t.ctx[c].rxcnt = min 65535 (F.CTX_RXCNT.DUP.get q.ctx[c].rxcnt + 1) ∧
      t.ctx[c].id = q.ctx[c].id ∧ t.ctx[c].txstat = q.ctx[c].txstat ∧ t.pol = q.pol ∧ t.phw.reasm = q.phw.reasm ∧
      t.phw.hwq = q.phw.hwq := by
  have hrest := arrives_resting now c q
  obtain ⟨hpower, hpol⟩ := samePower_of_resting hrest
  have hdesc := rxdesc_of_resting hrest
  have hreasm := reasm_of_resting hrest
  have hhwq := field_of_resting (fun u => u.phw.hwq) (fun _ => rfl) hrest
  have hctx := countDup_ctx (now := now) (c := c) (m := m) (q := q)
  have hvoice : SameVoice c q ((arrives now c q).modCtx c fun r => { r with rxcnt := satInc F.CTX_RXCNT.DUP r.rxcnt }) :=
    ⟨(voice_of_resting hrest c).phycfg, by rw [modCtx_self, arrives_ctx]⟩
  refine ⟨hpower, hdesc, sendGoodCrc_acked now c m hvoice, ?_, ?_, ?_, hpol, hreasm, hhwq⟩ <;> rw [hctx]
  exact satInc_get (by decide) rfl _

/-- A new message in a free buffer: the port after it. -/
abbrev newStored (k : Fin 4) (q : Port) : Port := stored now c k m (takeId c (msgId m) (takenUp now c q))

theorem newStored_keeps (k : Fin 4) (q : Port) :
    SamePower q (newStored now c m k q) ∧ (newStored now c m k q).pol = q.pol := by
  obtain ⟨hpower, hpol⟩ := samePower_of_resting (takenUp_resting now c q)
  exact ⟨hpower, hpol⟩

theorem takenUp_voice (n : Nat) (q : Port) : SameVoice c q (takeId c n (takenUp now c q)) :=
  (voice_of_resting (takenUp_resting now c q) c).trans c (takeId_voice n _)

theorem newStored_phycfg (k : Fin 4) (q : Port) : (newStored now c m k q).pd.phycfg = q.pd.phycfg := by
  have h := (voice_of_resting (takenUp_resting now c q) c).phycfg
  exact h

theorem newStored_acked (k : Fin 4) (q : Port) : Acked c m q (newStored now c m k q) := by
  have h := takenUp_voice now c (msgId m) q
  exact sendGoodCrc_acked now c m ⟨h.phycfg, h.ctl⟩

theorem newStored_txId (k : Fin 4) (q : Port) :
    F.CTX_ID.TX_ID.get (newStored now c m k q).ctx[c].id = F.CTX_ID.TX_ID.get q.ctx[c].id :=
  (takeId_txId _ _).trans (congrArg _ (ctx_of_resting (takenUp_resting now c q) c).1)

theorem newStored_stores {k : Fin 4} (hk : F.PD_RXDESC.VALID.on q.pd.rxdesc[k] = false) :
    Port.stores c m q (newStored now c m k q) := by
  have hrest := takenUp_resting now c q
  have hdesc := rxdesc_of_resting hrest
  have hs := stored_stores now c k m (q := takeId c (msgId m) (takenUp now c q))
    ((congrArg (fun v : Vector Word 4 => F.PD_RXDESC.VALID.on v[k]) hdesc).trans hk)
  exact stores_of_resting hrest hs

theorem takeId_ended {d : Fin 3} {r n : Nat} (h : q.ended d r) : (takeId c n q).ended d r := by
  obtain ⟨hres, hdone, hevt, hwire⟩ := h
  have htx : (takeId c n q).ctx[d].txstat = q.ctx[d].txstat := modCtx_field q _ (·.txstat) rfl
  exact ⟨by rw [Port.result, htx]; exact hres, by rw [htx]; exact hdone, hevt, hwire⟩

/-- The transmission that a new message discards ends with RESULT 5. -/
theorem newStored_ended (k : Fin 4) (hphy : q.holdsPhy c = true) (hwire : q.phw.onWire[c] = false)
    (hact : F.CTX_XFER.TX_ACT.on q.ctx[c].xfer = false) : (newStored now c m k q).ended c 5 := by
  have hctx := arrives_ctx now c q
  have hdisc : takenUp now c q = finishTx c 5 false (arrives now c q) :=
    discardTx_of_waits ((arrives_holdsPhy now c c q).trans hphy) (by rw [arrives_phw]; exact hwire)
      (by rw [hctx]; exact hact)
  refine stored_ended now c k m (takeId_ended c ?_)
  rw [hdisc]
  exact finishTx_ended c 5 false _ (by decide)

theorem newStored_slot20 (k : Fin 4) (hc : c = 0) (he : F.PD_PHYCFG.EPR.on q.pd.phycfg = true) :
    (newStored now c m k q).slotRuns 20 = true := by
  have h := slot20_runs (takenUp_aborted now c q) hc he
  exact h

/-- A new message that finds no free buffer. -/
theorem rxFull_keeps (q : Port) :
    let t : Port := { dropReasm (takenUp now c q) with
      pd.evt := F.PD_EVT.RX_FULL.set (dropReasm (takenUp now c q)).pd.evt }
    SamePower q t ∧ t.pd.rxdesc = q.pd.rxdesc ∧ F.PD_EVT.RX_FULL.on t.pd.evt = true ∧ t.phw.goodCrc = q.phw.goodCrc ∧
      F.CTX_ID.RX_ID.get t.ctx[c].id = F.CTX_ID.RX_ID.get q.ctx[c].id ∧ t.pol = q.pol := by
  have hrest := takenUp_resting now c q
  obtain ⟨hpower, hpol⟩ := samePower_of_resting hrest
  have hdesc := rxdesc_of_resting hrest
  have hreasm := reasm_of_resting hrest
  have hcrc := field_of_resting (fun u => u.phw.goodCrc) (fun _ => rfl) hrest
  have hid : (dropReasm (takenUp now c q)).ctx[c].id = q.ctx[c].id :=
    (dropReasm_ctxField (·.id) (fun _ _ => rfl) _ c).trans (ctx_of_resting hrest c).1
  obtain ⟨ctx, run, h⟩ := dropReasm_eq (takenUp now c q)
  rw [h] at hid ⊢
  exact ⟨hpower, hdesc, on_set _ (by decide) (by decide) _, hcrc, congrArg F.CTX_ID.RX_ID.get hid, hpol⟩

/-! ## EPR_KeepAlive that the hardware answers (04 R111) -/

/-- The port after its own EPR_KeepAlive_Ack has been queued. -/
def ownAnswered (now : Nat) (c : Fin 3) (m : List Byte) (q : Port) : Port :=
  autoAck (sendGoodCrc now c m (takeId c (msgId m) (arrives now c q)))

theorem ownAnswered_answers (hc : c = 0) (he : F.PD_PHYCFG.EPR.on q.pd.phycfg = true) :
    let t := ownAnswered now c m q
    SamePower q t ∧ t.pd.rxdesc = q.pd.rxdesc ∧ Acked c m q t ∧ t.heardId c (msgId m % 8) ∧
      F.PD_EVT.KA_AUTO.on t.pd.evt = true ∧ t.slotRuns 20 = true ∧ t.pol = q.pol ∧
      t.phw.hwq = q.phw.hwq ++ [{ ctx := 0, msg := keepaliveAck q, tries := 0, wire := false }] := by
  have hrest := arrives_resting now c q
  obtain ⟨hpower, hpol⟩ := samePower_of_resting hrest
  have hdesc := rxdesc_of_resting hrest
  have hreasm := reasm_of_resting hrest
  have hvoice : SameVoice c q (takeId c (msgId m) (arrives now c q)) :=
    (voice_of_resting hrest c).trans c (takeId_voice _ _)
  have hhwq : (arrives now c q).phw.hwq = q.phw.hwq := field_of_resting (fun u => u.phw.hwq) (fun _ => rfl) hrest
  have hack : keepaliveAck (sendGoodCrc now c m (takeId c (msgId m) (arrives now c q))) = keepaliveAck q := by
    subst hc
    exact SameVoice.extMsg (q := q) ⟨hvoice.phycfg, hvoice.ctl⟩ 16 [4, 0]
  refine ⟨hpower, hdesc, sendGoodCrc_acked now c m hvoice, takeId_heardId (msgId m) (arrives now c q),
    on_set _ (by decide) (by decide) _, eprHeard_slot20 now (q := busyLine now q) hc he, hpol, ?_⟩
  show (arrives now c q).phw.hwq ++ [_] = _
  rw [hhwq, hack]

/-! ## Soft_Reset -/

/-- A Soft_Reset in a free buffer: the port after it. -/
abbrev softStored (k : Fin 4) (q : Port) : Port := stored now c k m (softTaken now c q)

theorem softTaken_resting (q : Port) : (softEnds c (arrives now c q)).resting = q.resting :=
  ((txAborted_softEnds c _).resting).trans (arrives_resting now c q)

theorem softStored_keeps (k : Fin 4) (q : Port) :
    SamePower q (softStored now c m k q) ∧ (softStored now c m k q).pol = q.pol := by
  obtain ⟨hpower, hpol⟩ := samePower_of_resting (softTaken_resting now c q)
  exact ⟨hpower, hpol⟩

theorem softTaken_voice (q : Port) : SameVoice c q (softTaken now c q) := by
  have h := voice_of_resting (softTaken_resting now c q) c
  exact ⟨h.phycfg, (modCtx_field _ (fun r : CtxRegs => { r with id := 0 }) (·.ctl) rfl).trans h.ctl⟩

theorem softStored_acked (k : Fin 4) (q : Port) : Acked c m q (softStored now c m k q) := by
  have h := softTaken_voice now c q
  exact sendGoodCrc_acked now c m ⟨h.phycfg, h.ctl⟩

theorem softStored_ids (k : Fin 4) (q : Port) : (softStored now c m k q).idsReset c :=
  idsReset_of_id (softTaken_id now q)

theorem softStored_stores {k : Fin 4} (hk : F.PD_RXDESC.VALID.on q.pd.rxdesc[k] = false) :
    Port.stores c m q (softStored now c m k q) := by
  have hrest := softTaken_resting now c q
  have hdesc := rxdesc_of_resting hrest
  have hs := stored_stores now c k m (q := softTaken now c q)
    ((congrArg (fun v : Vector Word 4 => F.PD_RXDESC.VALID.on v[k]) hdesc).trans hk)
  exact stores_of_resting hrest hs

theorem resetIds_ended {d : Fin 3} {r : Nat} (h : q.ended d r) : (resetIds c q).ended d r := by
  obtain ⟨hres, hdone, hevt, hwire⟩ := h
  have htx : (resetIds c q).ctx[d].txstat = q.ctx[d].txstat := modCtx_field q _ (·.txstat) rfl
  exact ⟨by rw [Port.result, htx]; exact hres, by rw [htx]; exact hdone, hevt, hwire⟩

/-- The transmission that a Soft_Reset ends. -/
theorem softStored_ended (k : Fin 4) (hphy : q.holdsPhy c = true) : (softStored now c m k q).ended c
    (if q.phw.onWire[c] || F.CTX_XFER.TX_ACT.on q.ctx[c].xfer then 6 else 5) := by
  have hctx := arrives_ctx now c q
  have hends := softEnds_of_held (c := c) (q := arrives now c q)
    ((arrives_holdsPhy now c c q).trans hphy)
  rw [arrives_phw, hctx] at hends
  refine stored_ended now c k m (resetIds_ended c ?_)
  rw [hends]
  exact finishTx_ended c _ false _ (by split <;> decide)

theorem softStored_slot20 (k : Fin 4) (hc : c = 0) (he : F.PD_PHYCFG.EPR.on q.pd.phycfg = true) :
    (softStored now c m k q).slotRuns 20 = true := by
  have h := slot20_runs (txAborted_softEnds c (arrives now c q)) hc he
  exact h

end

end Sys2Proof.Machine

/-! O50, settled: reception, the resets received, BIST and the release of buffers (04 R84 to R99, R121). -/

namespace Sys2Proof.Machine
open Sys2Proof

/-! ## What the engine does with what was received -/

section
variable {p : PortId} {s : State} {m : List Byte}

/-- The partner heard after a buffer was released. -/
theorem spoke_released {q : Port} (h : F.PRT_STATE.NOPD.on q.core.state = false) :
    SamePower q (spoke (releaseOldest q)) ∧ (spoke (releaseOldest q)).ctx = q.ctx ∧
      (spoke (releaseOldest q)).phw = q.phw ∧ (spoke (releaseOldest q)).pol = { q.pol with spoke := true } ∧
      (spoke (releaseOldest q)).pd.rxdesc = (releaseOldest q).pd.rxdesc ∧
      (spoke (releaseOldest q)).pd.phycfg = q.pd.phycfg := by
  obtain ⟨head, desc, e⟩ := releaseOldest_eq q
  rw [e]
  exact ⟨⟨spoke_core h, rfl, rfl, rfl⟩, rfl, rfl, rfl, rfl, rfl⟩

/-- A message that begins nothing, on a sink whose engine acts. -/
theorem ping_moves (hon : s.ports[p].accepts 0) (hb : ¬s.ports[p].bistOn 0) (hd : ¬s.ports[p].heardId 0 (msgId m))
    (hrx : ∀ k : Fin 4, s.ports[p].pd.rxdesc[k] = 0) (hreasm : s.ports[p].phw.reasm = none) (ha : Acts s p)
    (hidle : s.ports[p].idle) (htx : s.ports[p].pol.txNow[(0 : Fin 3)] = none) (hw : noWaits s p)
    (hnopd : F.PRT_STATE.NOPD.on s.ports[p].core.state = false) (hsrc : s.ports[p].isSource = false)
    (hext : msgExt m = false) (hnobj : msgNobj m = 0) (htype : msgType m = 5) :
    MovesPort (.pdMessageReceived p 0 m true) s p fun t => SamePower s.ports[p] t ∧ (∀ k : Fin 4, t.pd.rxdesc[k] = 0) ∧
      t.heardId 0 (msgId m % 8) ∧ Acked 0 m s.ports[p] t ∧ t.pol = { s.ports[p].pol with spoke := true } ∧
      t.slotRuns 24 = false := by
  have hsoft : ¬isSoftReset m := by
    rintro ⟨-, -, h⟩
    omega
  have hown : ¬ownAnswer s p 0 m := by
    rintro ⟨-, h, -⟩
    simp [isKeepalive, hext] at h
  have hroom : s.ports[p].rxRoom := ⟨hreasm, 0, by rw [hrx 0]; decide⟩
  obtain ⟨k, hk, hr⟩ := receive_stored (now := s.time) hb hd hroom
  have hx : exec (.pdMessageReceived p 0 m true) s = .next (atPd p (.pdMessageReceived p 0 m true) (polStored p 0 m)
      (modPort p (fun _ => newStored s.time 0 m k s.ports[p]) s)) :=
    congrArg Host.Outcome.next (messageReceived_stored hon hsoft hown hr)
  obtain ⟨hpower, hpol⟩ := newStored_keeps s.time 0 m k s.ports[p]
  have hport : (modPort p (fun _ => newStored s.time 0 m k s.ports[p]) s).ports[p] =
      newStored s.time 0 m k s.ports[p] := modPort_port p _ s
  have hzero : ∀ j : Fin 4, (releaseOldest (newStored s.time 0 m k s.ports[p])).pd.rxdesc[j] = 0 := by
    refine releaseOldest_stored s.time 0 k m fun j => ?_
    have hdesc := rxdesc_of_resting (takenUp_resting s.time 0 s.ports[p])
    exact (congrArg (fun v : Vector Word 4 => v[j]) hdesc).trans (hrx j)
  have hheard : (newStored s.time 0 m k s.ports[p]).heardId 0 (msgId m % 8) := takeId_heardId (c := 0) (msgId m) _
  have hacked := newStored_acked s.time 0 m k s.ports[p]
  have hping : polStored p 0 m (modPort p (fun _ => newStored s.time 0 m k s.ports[p]) s) =
      modPort p (fun q => spoke (releaseOldest q)) (modPort p (fun _ => newStored s.time 0 m k s.ports[p]) s) := by
    refine polStored_ping ?_ ?_ ?_ hext hnobj htype <;> rw [hport]
    · rw [hpol]
      exact htx
    · rw [hpower.1]
      exact hnopd
    · rw [Port.isSource, newStored_phycfg]
      exact hsrc
  obtain ⟨hpower', hctx, hphw, hpol', hdesc, -⟩ := spoke_released (q := newStored s.time 0 m k s.ports[p])
    (by rw [hpower.1]; exact hnopd)
  refine movesPort_acts hx hpol ha hw hping ?_ ?_
  · have hset : (newStored s.time 0 m k s.ports[p]).pol.discDue = false ∧
        (newStored s.time 0 m k s.ports[p]).pol.txq = [] := by rw [hpol]; exact ⟨hidle.2.2.2.2, hidle.1⟩
    rw [Port.settled, hpol']
    exact ⟨hset.1, .inl hset.2⟩
  · obtain ⟨c1, c2, c3, c4⟩ := hpower'
    obtain ⟨d1, d2, d3, d4⟩ := hpower
    refine ⟨⟨c1.trans d1, c2.trans d2, c3.trans d3, c4.trans d4⟩, fun j => by rw [hdesc]; exact hzero j, ?_, ?_, ?_,
      spoke_slot24 _⟩
    · rw [Port.heardId, hctx]
      exact hheard
    · rw [Acked, hphw]
      exact hacked
    · rw [hpol', hpol]

/-! ## A Soft_Reset -/

theorem phyHeld_of_txstat {q t : Port} (h : ∀ d : Fin 3, t.ctx[d].txstat = q.ctx[d].txstat) : t.phyHeld = q.phyHeld := by
  simp only [Port.phyHeld, holdsPhy_of_ctx (h _)]

theorem SameVoice.ctxOn {c : Fin 3} {q t : Port} (h : SameVoice c q t) : t.ctxOn c = q.ctxOn c := by
  simp only [Port.ctxOn, Port.rxEnabled, h.ctl, h.phycfg]

/-- With no transmission under way a Soft_Reset leaves the transmit side as it was. -/
theorem softStored_phyHeld (now : Nat) (m : List Byte) (k : Fin 4) {q : Port} (h : q.phyHeld = false) :
    (softStored now 0 m k q).phyHeld = false := by
  have hfree : (arrives now 0 q).holdsPhy 0 = false := by
    rw [arrives_holdsPhy]
    simp only [Port.phyHeld, Bool.or_eq_false_iff, and_assoc] at h
    exact h.1
  rw [← h]
  refine phyHeld_of_txstat fun d => ?_
  show (resetIds 0 (softEnds 0 (arrives now 0 q))).ctx[d].txstat = q.ctx[d].txstat
  rw [softEnds_of_free hfree]
  exact (modCtx_field (arrives now 0 q) (fun r : CtxRegs => { r with id := 0 }) (·.txstat) rfl).trans
    (by rw [arrives_ctx])

/-- Accept of a Soft_Reset whose buffer was released. -/
theorem softAnswered_released {q : Port} (h : F.PRT_STATE.NOPD.on q.core.state = false) :
    SamePower q (softAnswered (releaseOldest q)) ∧ (softAnswered (releaseOldest q)).ctx[(0 : Fin 3)].id = q.ctx[(0 : Fin 3)].id ∧
      (softAnswered (releaseOldest q)).phw.goodCrc = q.phw.goodCrc ∧
      (softAnswered (releaseOldest q)).pd.rxdesc = (releaseOldest q).pd.rxdesc ∧
      Port.sends 0 (ctrlMsg q 0 3) .reply (softAnswered (releaseOldest q)) ∧
      (q.pol.discDue = false → (softAnswered (releaseOldest q)).settled) := by
  obtain ⟨hpower, hctx, hphw, -, hdesc, hcfg⟩ := spoke_released h
  have hvoice : SameVoice 0 q (exchangeDropped (spoke (releaseOldest q))) := ⟨hcfg, congrArg (fun v => v[0].ctl) hctx⟩
  have hmsg := hvoice.ctrlMsg 3
  obtain ⟨head, desc, e⟩ := releaseOldest_eq q
  refine ⟨hpower, ?_, congrArg (fun w => w.goodCrc) hphw, hdesc, ?_, fun hd => sent_settled _ _ ?_⟩
  · rw [softAnswered, sent_id]
    exact congrArg (fun v => v[0].id) hctx
  · rw [softAnswered, hmsg]
    exact sent_sends _ _
  · rw [e]
    exact hd

/-- A Soft_Reset on SOP, on a sink whose engine acts and has nothing under way. -/
theorem softReset_moves {i : Instr} (hx : exec i s = .next (softResetReceived p 0 m s)) (hon : s.ports[p].accepts 0)
    (hb : ¬s.ports[p].bistOn 0) (ha : Acts s p) (hq : s.ports[p].quiet 0) (hw : noWaits s p)
    (hnopd : F.PRT_STATE.NOPD.on s.ports[p].core.state = false) (hacc : s.ports[p].pol.accepted = false)
    (hsrc : s.ports[p].isSource = false) (hams : s.ports[p].phw.ams = false) (hreasm : s.ports[p].phw.reasm = none)
    (hrx : ∀ k : Fin 4, s.ports[p].pd.rxdesc[k] = 0) :
    MovesPort i s p fun t => SamePower s.ports[p] t ∧ t.idsReset 0 ∧ Acked 0 m s.ports[p] t ∧
      (∀ k : Fin 4, t.pd.rxdesc[k] = 0) ∧ Port.sends 0 (ctrlMsg s.ports[p] 0 3) .reply t := by
  have hroom : s.ports[p].rxRoom := ⟨hreasm, 0, by rw [hrx 0]; decide⟩
  obtain ⟨k, hk, hhw⟩ := softResetHw_stored (c := 0) s.time m hroom
  rw [softResetReceived_else hon hb, modPort_congr (g := fun _ => softStored s.time 0 m k s.ports[p]) hhw] at hx
  obtain ⟨hpower, hpol⟩ := softStored_keeps s.time 0 m k s.ports[p]
  have hids := softStored_ids s.time 0 m k s.ports[p]
  have hacked := softStored_acked s.time 0 m k s.ports[p]
  have hvoice : SameVoice 0 s.ports[p] (softStored s.time 0 m k s.ports[p]) := by
    have h := softTaken_voice s.time 0 s.ports[p]
    exact ⟨h.phycfg, h.ctl⟩
  have hphy := softStored_phyHeld s.time m k hq.1
  have hams' : (softStored s.time 0 m k s.ports[p]).phw.ams = false := by
    have h := field_of_resting (fun u => u.phw.ams) (fun _ => rfl) (softTaken_resting s.time 0 s.ports[p])
    exact h.trans hams
  have hzero : ∀ j : Fin 4, (releaseOldest (softStored s.time 0 m k s.ports[p])).pd.rxdesc[j] = 0 := by
    refine releaseOldest_stored s.time 0 k m fun j => ?_
    have hdesc := rxdesc_of_resting (softTaken_resting s.time 0 s.ports[p])
    exact (congrArg (fun v : Vector Word 4 => v[j]) hdesc).trans (hrx j)
  generalize softStored s.time 0 m k s.ports[p] = t at *
  obtain ⟨hpower', hid, hcrc, hdesc, hsends, hset⟩ := softAnswered_released (q := t) (by rw [hpower.1]; exact hnopd)
  have hpolicy : (fun s => polSoftReset p 0 (modPort p releaseOldest s)) (modPort p (fun _ => t) s) =
      modPort p (fun q => softAnswered (releaseOldest q)) (modPort p (fun _ => t) s) := by
    obtain ⟨head, desc, e⟩ := releaseOldest_eq t
    have hport : (modPort p releaseOldest (modPort p (fun _ => t) s)).ports[p] =
        { t with pd.rxhead := head, pd.rxdesc := desc } := by rw [modPort_port, modPort_port, e]
    show polSoftReset p 0 (modPort p releaseOldest (modPort p (fun _ => t) s)) = _
    rw [polSoftReset_sink (noWaits_modPort _ (noWaits_modPort _ hw)), modPort_modPort] <;> rw [hport]
    · show t.pol.accepted = false
      rw [hpol]
      exact hacc
    · show F.PD_PHYCFG.PWR_ROLE.on t.pd.phycfg = false
      rw [hvoice.phycfg]
      exact hsrc
    · exact hams'
    · show t.pol.next = none
      rw [hpol]
      exact hq.2.2.2.1
    · refine ⟨hphy, ?_, hvoice.ctxOn.trans hon.1, ?_⟩
      · show t.pol.txq = []
        rw [hpol]
        exact hq.2.1
      · show t.orient ≠ 0
        rw [orient_of_core hpower.1]
        exact hon.2
  refine movesPort_acts hx hpol ha hw hpolicy (hset ?_) ?_
  · rw [hpol]
    exact hq.2.2.2.2.2.1
  · obtain ⟨c1, c2, c3, c4⟩ := hpower'
    obtain ⟨d1, d2, d3, d4⟩ := hpower
    refine ⟨⟨c1.trans d1, c2.trans d2, c3.trans d3, c4.trans d4⟩, ?_, hcrc.trans hacked,
      fun j => by rw [hdesc]; exact hzero j, ?_⟩
    · rw [Port.idsReset, hid]
      exact hids
    · rw [← hvoice.ctrlMsg 3]
      exact hsends

/-! ## A Hard Reset -/

theorem hardResetReceived_on (hor : s.ports[p].orient ≠ 0) (hrx : s.ports[p].rxEnabled 0 = true) :
    hardResetReceived p s =
      atPd p (.hardResetReceived p) (polHardReceived p) (modPort p (hardReceived s.time) s) :=
  if_pos (by simp [hor, hrx, -Fin.getElem_fin])

theorem hardResetReceived_off (h : s.ports[p].orient = 0 ∨ s.ports[p].rxEnabled 0 = false) :
    hardResetReceived p s = s := by
  refine if_neg ?_
  rcases h with h | h <;> simp [h, -Fin.getElem_fin]

theorem spoke_taken {q : Port} (h : HardTaken q) : HardTaken (spoke q) := by
  obtain ⟨h1, h2, h3, h4, h5, h6, h7, h8, h9, h10, h11⟩ := h
  exact ⟨h1, h2, h3, h4, h5, h6, (spoke_slotRuns (by decide) q).trans h7, h8, h9, h10, h11⟩

/-- The state in which the engine that has heard a Hard Reset gives up the contract. -/
theorem polHardReceived_eq (hw : noWaits s p) :
    polHardReceived p s = afterHardReset p 2 (modPort p spoke s) := by
  rw [polHardReceived, heard_eq (.inr rfl), endWait_none (noWaits_modPort _ hw)]

theorem hardReset_moves (hor : s.ports[p].orient ≠ 0) (hrx : s.ports[p].rxEnabled 0 = true) (ha : Acts s p)
    (hw : noWaits s p) (hatt : s.ports[p].attached = true) (hsrc : s.ports[p].isSource = true)
    (hswap : s.ports[p].pol.swap = none) : Moves (.hardResetReceived p) s fun t => HardTaken t.ports[p] ∧
      t.ports[p].pol.contract = none ∧ t.ports[p].st = .castingOn ∧ t.ports[p].pol.hr = .psHardReset ∧
      t.ports[p].slotRuns 9 = true ∧ t.ports[p].pol.txq = [] ∧ F.PD_PHYCFG.EPR.on t.ports[p].pd.phycfg = false ∧
      ∀ r : PortId, r ≠ p → t.ports[r] = s.ports[r] := by
  obtain ⟨hcore, -, -, hpol, hcfg, -⟩ := hardReceived_keeps s.time s.ports[p]
  have hx : exec (.hardResetReceived p) s = .next (policyNext p (polHardReceived p (modPort p (hardReceived s.time) s))) := by
    rw [← atPd_modPort_acts hpol ha, ← hardResetReceived_on hor hrx]
    rfl
  have hu : noWaits (modPort p spoke (modPort p (hardReceived s.time) s)) p := hw
  have hport : (modPort p spoke (modPort p (hardReceived s.time) s)).ports[p] = spoke (hardReceived s.time s.ports[p]) := by
    rw [modPort_port, modPort_port]
  obtain ⟨hres, hnone, hother, hwaits⟩ := afterHardReset_port 2 hu
    (by rw [hport, Port.attached, spoke_st, st_of_core hcore]; exact hatt)
    (by rw [hport, spoke_isSource, Port.isSource, hcfg]; exact hsrc)
    (by rw [hport, spoke_pol, hpol]; exact hswap)
  rw [polHardReceived_eq (noWaits_modPort _ hw), policyNext_eq_self hwaits ⟨hres.disc, .inl hres.txq⟩] at hx
  refine ⟨_, hx, hres.taken ?_, hnone, hres.st, hres.hr, hres.slot9, hres.txq, hres.epr,
    fun r hr => ?_⟩
  · rw [hport]
    exact spoke_taken (hardReceived_taken _ _)
  · rw [hother r hr, modPort_other _ _ _ r hr, modPort_other _ _ _ r hr]

/-! ## BIST (04 R121) -/

theorem bist_unsafe (h : ¬(s.ports[p].atTarget = true ∧ s.ports[p].target = 250 ∧ s.ports[p].hears 0 = true)) :
    exec (.bistCarrierMode p) s = .next s ∧ exec (.bistTestData p) s = .next s := by
  have hoff : ¬(s.ports[p].hears 0 && atVsafe5 s.ports[p]) = true := by
    rw [atVsafe5, Bool.and_eq_true, Bool.and_eq_true, beq_iff_eq]
    tauto
  exact ⟨exec_same_of_modPort rfl (if_neg hoff), exec_same_of_modPort rfl (if_neg hoff)⟩

theorem bist_safe (h : s.ports[p].atTarget = true ∧ s.ports[p].target = 250 ∧ s.ports[p].hears 0 = true) :
    MovesPort (.bistCarrierMode p) s p (fun t => t.phw.bistCarrier = true ∧ t.slotRuns 5 = true ∧
      t.pol = s.ports[p].pol ∧ t.ctx = s.ports[p].ctx) ∧
    MovesPort (.bistTestData p) s p fun t => t = { s.ports[p] with phw.bistData := true } := by
  obtain ⟨hat, htgt, hears⟩ := h
  have hon : (s.ports[p].hears 0 && atVsafe5 s.ports[p]) = true := by simp [atVsafe5, hat, htgt, hears, -Fin.getElem_fin]
  have hor : s.ports[p].orient ≠ 0 := by
    simp only [Port.hears, Bool.and_eq_true, bne_iff_ne] at hears
    exact hears.1.1
  refine ⟨movesPort_of_modPort (f := bistCarrierMode s.time) rfl ?_, movesPort_of_modPort (f := bistTestData) rfl (if_pos hon)⟩
  rw [bistCarrierMode, if_pos hon, startCarrier, if_neg hor]
  exact ⟨rfl, slotRuns_startSlot_self _ 5 _, rfl, rfl⟩

/-! ## The other rows -/

section
variable {c : Fin 3}

/-- A message of which nothing reaches the policy, as a move of the port. -/
theorem passed_moves {t : Port} {R : Port → Prop} (hon : s.ports[p].accepts c) (hm : ¬isSoftReset m)
    (hown : s.ports[p].bistOn c ∨ s.ports[p].heardId c (msgId m) ∨ ¬ownAnswer s p c m)
    (hr : receive s.time c m s.ports[p] = (t, false)) (hfree : s.ports[p].holdsPhy c = true → t.holdsPhy c = true)
    (hR : R t) : MovesPort (.pdMessageReceived p c m true) s p R :=
  movesPort_of_modPort (congrArg Host.Outcome.next (messageReceived_passed hon hm hown hr hfree)) hR

theorem bistData_moves (hon : s.ports[p].accepts c) (hb : s.ports[p].bistOn c) :
    MovesPort (.pdMessageReceived p c m true) s p fun t => t = bistTaken s.time c m s.ports[p] := by
  by_cases hm : isSoftReset m
  · exact movesPort_of_modPort (congrArg Host.Outcome.next
      ((messageReceived_soft hon hm).trans (softResetReceived_bist hon hb))) rfl
  · refine passed_moves hon hm (.inl hb) (receive_bist hb) (fun h => ?_) rfl
    obtain ⟨-, -, -, hctx, -⟩ := bistTaken_counted s.time c m s.ports[p]
    exact (holdsPhy_of_ctx (by rw [hctx])).trans h

theorem badCrc_moves (hor : s.ports[p].orient ≠ 0) (hrx : s.ports[p].rxEnabled c = true) :
    MovesPort (.pdMessageReceived p c m false) s p fun t => t = countCrc s.time c s.ports[p] :=
  movesPort_of_modPort (congrArg Host.Outcome.next (messageReceived_badCrc hor hrx)) rfl

/-- A new message on a port whose engine does not act. -/
theorem stored_moves (hon : s.ports[p].accepts c) (hm : ¬isSoftReset m) (hown : ¬ownAnswer s p c m)
    (hb : ¬s.ports[p].bistOn c) (hd : ¬s.ports[p].heardId c (msgId m)) (hroom : s.ports[p].rxRoom) (ha : ¬Acts s p) :
    ∃ k : Fin 4, F.PD_RXDESC.VALID.on s.ports[p].pd.rxdesc[k] = false ∧ MovesPort (.pdMessageReceived p c m true) s p
      fun t => t = (newStored s.time c m k s.ports[p]).waiting (.pdMessageReceived p c m true) := by
  obtain ⟨k, hk, hr⟩ := receive_stored (now := s.time) hb hd hroom
  have hx : exec (.pdMessageReceived p c m true) s = .next (atPd p (.pdMessageReceived p c m true) (polStored p c m)
      (modPort p (fun _ => newStored s.time c m k s.ports[p]) s)) :=
    congrArg Host.Outcome.next (messageReceived_stored hon hm hown hr)
  obtain ⟨-, hpol⟩ := newStored_keeps s.time c m k s.ports[p]
  exact ⟨k, hk, movesPort_waits hx hpol ha rfl⟩

/-- A Soft_Reset on a port whose engine does not act. -/
theorem softWaits_moves {i : Instr} (hx : exec i s = .next (softResetReceived p c m s)) (hon : s.ports[p].accepts c)
    (hb : ¬s.ports[p].bistOn c) (hroom : s.ports[p].rxRoom) (ha : ¬Acts s p) :
    ∃ k : Fin 4, F.PD_RXDESC.VALID.on s.ports[p].pd.rxdesc[k] = false ∧ MovesPort i s p
      fun t => t = (softStored s.time c m k s.ports[p]).waiting (.softResetReceived p c) := by
  obtain ⟨k, hk, hhw⟩ := softResetHw_stored (c := c) s.time m hroom
  rw [softResetReceived_else hon hb,
    modPort_congr (g := fun _ => softStored s.time c m k s.ports[p]) hhw] at hx
  obtain ⟨-, hpol⟩ := softStored_keeps s.time c m k s.ports[p]
  exact ⟨k, hk, movesPort_waits hx hpol ha rfl⟩

end

/-- The Soft_Reset of SOFT_RESET_RECEIVED. -/
theorem isSoftReset_plain : isSoftReset (bytes2 13) := by decide

/-- The rows of a Soft_Reset, of its own command or as a message. -/
theorem softRows {c : Fin 3} {i : Instr}
    (hx : exec i s = .next (messageReceived p c m true s) ∨ exec i s = .next (softResetReceived p c m s))
    (hm : isSoftReset m) :
    (s.ports[p].ctxOn c = false ∨ s.ports[p].orient = 0 → exec i s = .next s) ∧
    (s.ports[p].ctxOn c = true → s.ports[p].orient ≠ 0 →
      (s.ports[p].bistOn c → MovesPort i s p fun t => SamePower s.ports[p] t ∧
        t.pd.bistcnt = s.ports[p].pd.bistcnt + 1 ∧ t.pd.rxdesc = s.ports[p].pd.rxdesc ∧ t.ctx = s.ports[p].ctx ∧
        t.pol = s.ports[p].pol ∧ Acked c m s.ports[p] t) ∧
      (¬s.ports[p].bistOn c → s.ports[p].rxRoom → ¬Acts s p → MovesPort i s p fun t => SamePower s.ports[p] t ∧
        Port.stores c m s.ports[p] t ∧ t.idsReset c ∧ Acked c m s.ports[p] t ∧
        Port.keeps (.softResetReceived p c) s.ports[p] t ∧
        (c = 0 → F.PD_PHYCFG.EPR.on s.ports[p].pd.phycfg = true → t.slotRuns 20 = true) ∧
        (s.ports[p].holdsPhy c = true → t.ended c
          (if s.ports[p].phw.onWire[c] || F.CTX_XFER.TX_ACT.on s.ports[p].ctx[c].xfer then 6 else 5))) ∧
      (¬s.ports[p].bistOn c → Acts s p → c = 0 → s.ports[p].quiet 0 → noWaits s p →
        F.PRT_STATE.NOPD.on s.ports[p].core.state = false → s.ports[p].pol.accepted = false →
        s.ports[p].isSource = false → s.ports[p].phw.ams = false → s.ports[p].phw.reasm = none →
        (∀ k : Fin 4, s.ports[p].pd.rxdesc[k] = 0) →
        MovesPort i s p fun t => SamePower s.ports[p] t ∧ t.idsReset 0 ∧ Acked c m s.ports[p] t ∧
          (∀ k : Fin 4, t.pd.rxdesc[k] = 0) ∧ Port.sends 0 (ctrlMsg s.ports[p] 0 3) .reply t)) := by
  have hsoft : exec i s = .next (softResetReceived p c m s) := by
    rcases hx with hx | hx
    · by_cases hon : s.ports[p].accepts c
      · rw [hx, messageReceived_soft hon hm]
      · rw [hx, softResetReceived_off hon]
        congr 1
        by_cases hor : s.ports[p].orient = 0
        · exact messageReceived_dropped true (.inl hor)
        · exact messageReceived_off hor (by simpa [hor, -Fin.getElem_fin] using hon)
    · exact hx
  refine ⟨fun hoff => ?_, fun hon hor => ⟨fun hb => ?_, fun hb hroom ha => ?_,
    fun hb ha hc hq hw hnopd hacc hsrc hams hreasm hrx => ?_⟩⟩
  · rw [hsoft, softResetReceived_off]
    rintro ⟨hon, hor⟩
    rcases hoff with h | h
    · rw [h] at hon
      exact Bool.noConfusion hon
    · exact hor h
  · refine movesPort_of_modPort (hsoft.trans (congrArg Host.Outcome.next (softResetReceived_bist ⟨hon, hor⟩ hb))) ?_
    obtain ⟨hpower, hcnt, hdesc, hctx, hpol, hack, -⟩ := bistTaken_counted s.time c m s.ports[p]
    exact ⟨hpower, hcnt, hdesc, hctx, hpol, hack⟩
  · obtain ⟨k, hk, hmove⟩ := softWaits_moves hsoft ⟨hon, hor⟩ hb hroom ha
    refine hmove.imp ?_
    rintro _ rfl
    obtain ⟨hpower, hpol⟩ := softStored_keeps s.time c m k s.ports[p]
    have hstores := softStored_stores s.time c m hk
    have hids := softStored_ids s.time c m k s.ports[p]
    have hack := softStored_acked s.time c m k s.ports[p]
    have hslot := softStored_slot20 s.time c m k (q := s.ports[p])
    have hended := softStored_ended s.time c m k (q := s.ports[p])
    generalize softStored s.time c m k s.ports[p] = t at *
    exact ⟨hpower, hstores, hids, hack, keeps_waiting _ hpol, hslot, hended⟩
  · subst hc
    exact softReset_moves hsoft ⟨hon, hor⟩ hb ha hq hw hnopd hacc hsrc hams hreasm hrx

/-! ## The obligation -/

/-- Settles O50, row by row of Table PDE-2: each row's lemma says what the hardware leaves of the port, and the policy's
step either waits or does the little that is left to it. -/
theorem receptionStoresMessages : Obligations.ReceptionStoresMessages := by
  intro p s q power acked bist epr counted
  refine ⟨rfl, fun c m => ?_, fun c m hext hnobj htype x hmem => ?_, fun h => ?_, fun hor hrx => ?_,
    ⟨bist_unsafe, bist_safe⟩, fun v => ⟨fun h => ?_, fun h => ?_⟩⟩
  · intro i on soft own
    refine ⟨fun ok h => congrArg Host.Outcome.next (messageReceived_dropped ok h), fun hor hrx => ?_,
      fun hor hoff => congrArg Host.Outcome.next (messageReceived_off hor hoff), fun hon hb => ?_,
      fun hon hm hb => ⟨fun hd => ?_, fun hd hown => ?_, fun hd hown hfull hphy => ?_, fun hd hown hroom ha => ?_,
        fun hd hrx hreasm ha hidle htx hw hnopd hc hsrc hext hnobj htype => ?_⟩⟩
    · refine (badCrc_moves hor hrx).imp ?_
      rintro _ rfl
      have hctx := countCrc_ctx s.time c q
      refine ⟨⟨rfl, rfl, rfl, rfl⟩, rfl, rfl, rfl, ?_, ?_, ?_⟩ <;> rw [hctx]
      · exact satInc_get (by decide) rfl _
      · exact get_put_apart _ _ (by decide) _ _
    · refine (bistData_moves hon hb).imp ?_
      rintro _ rfl
      obtain ⟨hpower, hcnt, hdesc, hctx, hpol, hack, -⟩ := bistTaken_counted s.time c m q
      exact ⟨hpower, hcnt, hdesc, hctx, hpol, hack⟩
    · obtain ⟨hpower, hdesc, hack, hcnt, hid, htx, hpol, -⟩ := countDup_counted s.time c m q
      refine passed_moves hon hm (.inr (.inl hd)) (receive_dup hb hd) (fun h => ?_)
        ⟨hpower, hdesc, hack, hcnt, hid, htx, hpol⟩
      rwa [holdsPhy_of_ctx htx]
    · obtain ⟨hc, hka, hauto⟩ := hown
      have he : F.PD_PHYCFG.EPR.on q.pd.phycfg = true := by
        simp only [autoAnswers, Bool.and_eq_true, and_assoc] at hauto
        exact hauto.1
      exact movesPort_of_modPort (congrArg Host.Outcome.next (messageReceived_own hon hm ⟨hc, hka, hauto⟩ hb hd))
        (ownAnswered_answers s.time c m hc he)
    · exact passed_moves hon hm (.inr (.inr hown)) (receive_full hb hd hfull)
        (fun h => absurd (h.symm.trans hphy) (by decide)) (rxFull_keeps s.time c q)
    · obtain ⟨k, hk, hmove⟩ := stored_moves hon hm hown hb hd hroom ha
      refine hmove.imp ?_
      rintro _ rfl
      obtain ⟨hpower, hpol⟩ := newStored_keeps s.time c m k q
      have hstores := newStored_stores s.time c m hk
      have hheard : (newStored s.time c m k q).heardId c (msgId m % 8) := takeId_heardId (c := c) (msgId m) _
      have hack := newStored_acked s.time c m k q
      have htx := newStored_txId s.time c m k q
      have hended := newStored_ended s.time c m k (q := q)
      have hslot := newStored_slot20 s.time c m k (q := q)
      generalize newStored s.time c m k q = t at *
      exact ⟨hpower, hstores, hheard, hack, keeps_waiting i hpol, htx, hended, hslot⟩
    · subst hc
      exact ping_moves hon hb hd hrx hreasm ha hidle htx hw hnopd hsrc hext hnobj htype
  · simp only [List.mem_cons, List.not_mem_nil, or_false] at hmem
    rcases hmem with rfl | rfl
    · exact softRows (.inr rfl) isSoftReset_plain
    · exact softRows (.inl rfl) ⟨hext, hnobj, htype⟩
  · exact congrArg Host.Outcome.next (hardResetReceived_off h)
  · intro hardware
    refine ⟨fun ha => ?_, fun ha hw hatt hsrc hswap => ?_⟩
    · have ht := hardReceived_taken s.time q
      obtain ⟨hcore, hpth, hcur, hpol, -, hcc⟩ := hardReceived_keeps s.time q
      refine movesPort_waits (congrArg Host.Outcome.next (hardResetReceived_on hor hrx)) hpol ha
        ⟨hcore, hpth, hcur, hcc, ⟨ht.1, ht.2, ht.3, ht.4, ht.5, ht.6, ht.7, ht.8, ht.9, ht.10, ht.11⟩, ?_⟩
      exact keeps_waiting _ hpol
    · obtain ⟨t, hx, ht, hrest⟩ := hardReset_moves hor hrx ha hw hatt hsrc hswap
      exact ⟨t, hx, ⟨ht.1, ht.2, ht.3, ht.4, ht.5, ht.6, ht.7, ht.8, ht.9, ht.10, ht.11⟩, hrest⟩
  · exact congrArg Host.Outcome.next (if_neg (by rw [h]; exact Bool.false_ne_true))
  · refine movesPort_of_modPort (congrArg Host.Outcome.next (if_pos h)) ?_
    exact ⟨⟨rfl, rfl, rfl, rfl⟩, rfl, rfl, releaseRx_rxdesc v q, releaseRx_pend v q⟩

end

end Sys2Proof.Machine

/-! SUPPORT. Chunks of long messages (04 R95 to R97): what each chunk, the wait for the next one and a partner's request
leave of the port; and the end of a transmission that the engine sees. -/

namespace Sys2Proof.Machine
open Sys2Proof

theorem storeRx_stores (c : Fin 3) (k : Fin 4) (m : List Byte) {q : Port}
    (hk : F.PD_RXDESC.VALID.on q.pd.rxdesc[k] = false) : Port.stores c m q (storeRx c k m q) := by
  have h := stored_stores 0 c k m hk
  exact h

/-! ## The end of a transmission (04 R90) -/

section
variable {p : PortId} {s : State} {c : Fin 3} {i j : Instr} {f : Port → Port} {result : Nat} {R : Port → Prop}

theorem afterTx_over {q : Port} (hq : q.holdsPhy c = true) (h : s.ports[p].holdsPhy c = false) :
    afterTx p c i q s = atPd p i (polTxEnd p c) s := if_pos (by rw [hq, h]; rfl)

/-- A transmission ends, and the engine's step waits. -/
theorem endsTx_waits (hx : exec i s = .next (afterTx p c j s.ports[p] (modPort p f s)))
    (hpol : (f s.ports[p]).pol = s.ports[p].pol) (hheld : s.ports[p].holdsPhy c = true)
    (hend : (f s.ports[p]).holdsPhy c = false) (ha : ¬Acts s p) (hR : R ((f s.ports[p]).waiting j)) :
    MovesPort i s p R := by
  rw [afterTx_over hheld (by rwa [modPort_port])] at hx
  exact movesPort_waits hx hpol ha hR

/-- A transmission that was not the engine's ends. -/
theorem endsTx_unseen (hx : exec i s = .next (afterTx p c j s.ports[p] (modPort p f s)))
    (hpol : (f s.ports[p]).pol = s.ports[p].pol) (hheld : s.ports[p].holdsPhy c = true)
    (hend : (f s.ports[p]).holdsPhy c = false) (ha : Acts s p) (htx : s.ports[p].pol.txNow[c] = none)
    (hidle : s.ports[p].idle) (hw : noWaits s p) (hR : R (f s.ports[p])) : MovesPort i s p R := by
  rw [afterTx_over hheld (by rwa [modPort_port])] at hx
  have hset : (f s.ports[p]).settled := by
    rw [Port.settled, hpol]
    exact ⟨hidle.2.2.2.2, .inl hidle.1⟩
  refine movesPort_acts (g := id) hx hpol ha hw ?_ hset hR
  rw [polTxEnd_none (by rw [modPort_port, hpol]; exact htx)]
  exact (modPort_eq_self rfl).symm

/-- A command that ends no transmission. -/
theorem endsTx_none (hx : exec i s = .next (afterTx p c j s.ports[p] (modPort p f s)))
    (hkeep : s.ports[p].holdsPhy c = true → (f s.ports[p]).holdsPhy c = true) : exec i s = .next (modPort p f s) := by
  rwa [afterTx_eq_self (by rwa [modPort_port])] at hx

end

/-! ## The chunks of a message received -/

section
variable (now : Nat) (c : Fin 3) (m : List Byte) {q : Port}

/-- A context that accepts messages now. -/
theorem hears_iff (q : Port) : q.hears c = true ↔ q.accepts c ∧ ¬q.bistOn c := by
  rw [Port.hears, Bool.and_eq_true, Bool.and_eq_true, bne_iff_ne, Bool.not_eq_true', ← Bool.not_eq_true,
    Bool.and_eq_true, beq_iff_eq]
  tauto

/-- A chunk acknowledged, with its MessageID taken. -/
def chunkTaken (q : Port) : Port := sendGoodCrc now c m (takeId c (msgId m) q)

variable {u : Port}

theorem chunkTaken_keeps (h : u.resting = q.resting) : (chunkTaken now c m u).pol = q.pol ∧
    (chunkTaken now c m u).pd.rxdesc = q.pd.rxdesc ∧ (chunkTaken now c m u).phw.reasm = q.phw.reasm ∧
    (chunkTaken now c m u).phw.hwq = q.phw.hwq ∧ (chunkTaken now c m u).phw.rxSeq = q.phw.rxSeq ∧
    (chunkTaken now c m u).phw.rxbuf = q.phw.rxbuf := by
  have hpol := field_of_resting Port.pol (fun _ => rfl) h
  have hdesc := rxdesc_of_resting h
  have hreasm := reasm_of_resting h
  have hhwq := field_of_resting (fun u => u.phw.hwq) (fun _ => rfl) h
  have hseq := field_of_resting (fun u => u.phw.rxSeq) (fun _ => rfl) h
  have hbuf := field_of_resting (fun u => u.phw.rxbuf) (fun _ => rfl) h
  exact ⟨hpol, hdesc, hreasm, hhwq, hseq, hbuf⟩

theorem chunkTaken_voice (h : u.resting = q.resting) : SameVoice c q (chunkTaken now c m u) := by
  have h := (voice_of_resting h c).trans c (takeId_voice (msgId m) u)
  exact ⟨h.phycfg, h.ctl⟩

theorem chunkTaken_acked (h : u.resting = q.resting) : Acked c m q (chunkTaken now c m u) :=
  sendGoodCrc_acked now c m ((voice_of_resting h c).trans c (takeId_voice (msgId m) u))

theorem chunkTaken_heardId (u : Port) : (chunkTaken now c m u).heardId c (msgId m % 8) :=
  takeId_heardId (c := c) (msgId m) u

/-! ### Chunk 0 -/

/-- A message in reassembly: its chunk in a buffer. -/
def reasmOpened (k : Fin 4) (msg : List Byte) (r : Reasm) (q : Port) : Port :=
  { q with phw.rxbuf := q.phw.rxbuf.set k (overlay msg q.phw.rxbuf[k]), phw.reasm := some r }

/-- Chunk 0 of a long message: the reassembly open, the next chunk asked for. -/
def chunkOpened (k : Fin 4) (q : Port) : Port :=
  startSlot now 3 (askChunk c (msgType m) 1 ((reasmOpened k (m.take 30) { ctx := c, buf := k, size := extSize m, next := 1 }
    (chunkTaken now c m q)).modCtx c fun r => { r with
      xfer := F.CTX_XFER.RX_ACT.set (F.CTX_XFER.RX_CHUNK.put 0 r.xfer) }))

/-- What the receipt of a chunk that is neither discarded in BIST nor a duplicate does. -/
theorem receiveChunk_new (hb : ¬q.bistOn c) (hd : ¬q.heardId c (msgId m)) : receiveChunk now c m q =
    if extChunk m = 0 then firstChunk now c m (arrives now c q) else laterChunk now c m (arrives now c q) := by
  have hdup : isDup (arrives now c q) c (msgId m) = false := by
    rw [← Bool.not_eq_true, isDup_iff, heardId_of_resting (arrives_resting now c q)]
    exact hd
  simp only [receiveChunk, bistTakes_none hb, hdup, Bool.false_eq_true, if_false]

theorem receiveChunk_bist (hb : q.bistOn c) : receiveChunk now c m q = (bistTaken now c m q, none) := by
  simp only [receiveChunk, bistTakes_some hb]

theorem receiveChunk_dup (hb : ¬q.bistOn c) (hd : q.heardId c (msgId m)) :
    receiveChunk now c m q = (countDup now c m (arrives now c q), none) := by
  have hdup : isDup (arrives now c q) c (msgId m) = true :=
    (isDup_iff _ _ _).mpr ((heardId_of_resting (arrives_resting now c q) _).mpr hd)
  simp only [receiveChunk, bistTakes_none hb, hdup, if_true]

theorem firstChunk_drop (hroom : q.rxRoom) : dropReasm (takenUp now c q) = takenUp now c q :=
  dropReasm_of_none ((reasm_of_resting (takenUp_resting now c q)).trans hroom.1)

theorem firstChunk_tooLong (hroom : q.rxRoom) (hs : 260 < extSize m) :
    firstChunk now c m (arrives now c q) = (chunkTaken now c m (takenUp now c q), none) := by
  have hdrop := firstChunk_drop now c hroom
  unfold firstChunk
  dsimp only
  rw [hdrop, if_pos hs]
  rfl

theorem firstChunk_fits (hroom : q.rxRoom) (hs : extSize m ≤ 260) : ∃ k : Fin 4,
    F.PD_RXDESC.VALID.on q.pd.rxdesc[k] = false ∧ firstChunk now c m (arrives now c q) =
      if extSize m ≤ 26 then (storeRx c k (m.take (4 + extSize m)) (chunkTaken now c m (takenUp now c q)),
        some (m.take (4 + extSize m)))
      else (chunkOpened now c m k (takenUp now c q), none) := by
  have hdrop := firstChunk_drop now c hroom
  have hrest := takenUp_resting now c q
  obtain ⟨k, hk, hfree⟩ := freeBuf_of_room ((rxRoom_of_resting hrest).mpr hroom)
  refine ⟨k, by rwa [rxdesc_of_resting hrest] at hfree, ?_⟩
  unfold firstChunk
  dsimp only
  rw [hdrop, if_neg (by omega), hk]
  dsimp only
  by_cases h26 : extSize m ≤ 26
  · rw [if_pos h26, if_pos h26, Nat.min_eq_right h26]
    rfl
  · rw [if_neg h26, if_neg h26, Nat.min_eq_left (by omega)]
    rfl

/-- Chunk 0 of a long message: what it leaves. -/
theorem chunkOpened_opens (k : Fin 4) (h : u.resting = q.resting) : let t := chunkOpened now c m k u
    t.slotRuns 3 = true ∧ F.CTX_XFER.RX_ACT.on t.ctx[c].xfer = true ∧ F.CTX_XFER.RX_CHUNK.get t.ctx[c].xfer = 0 ∧
      t.heardId c (msgId m % 8) ∧ Acked c m q t ∧
      t.phw.hwq = q.phw.hwq ++ [{ ctx := c, msg := chunkRequest q c (msgType m) 1, tries := 0, wire := false }] ∧
      t.pd.rxdesc = q.pd.rxdesc ∧ t.pol = q.pol ∧
      t.phw.reasm = some { ctx := c, buf := k, size := extSize m, next := 1 } ∧
      t.phw.rxbuf[k].take (m.take 30).length = m.take 30 := by
  obtain ⟨hpol, hdesc, -, hhwq, -, -⟩ := chunkTaken_keeps now c m h
  have hacked := chunkTaken_acked now c m h
  have hvoice := chunkTaken_voice now c m h
  have hheard := chunkTaken_heardId now c m u
  unfold chunkOpened
  generalize chunkTaken now c m u = w at *
  have hctx : ((reasmOpened k (m.take 30) { ctx := c, buf := k, size := extSize m, next := 1 } w).modCtx c fun r =>
      { r with xfer := F.CTX_XFER.RX_ACT.set (F.CTX_XFER.RX_CHUNK.put 0 r.xfer) }).ctx[c] =
      { w.ctx[c] with xfer := F.CTX_XFER.RX_ACT.set (F.CTX_XFER.RX_CHUNK.put 0 w.ctx[c].xfer) } := vset_self _ _ c
  have hctl := congrArg CtxRegs.ctl hctx
  have hxfer := congrArg CtxRegs.xfer hctx
  have hid := congrArg CtxRegs.id hctx
  have hreq := SameVoice.chunkRequest (q := q) (c := c) (t := (reasmOpened k (m.take 30)
    { ctx := c, buf := k, size := extSize m, next := 1 } w).modCtx c fun r =>
      { r with xfer := F.CTX_XFER.RX_ACT.set (F.CTX_XFER.RX_CHUNK.put 0 r.xfer) })
    ⟨hvoice.phycfg, hctl.trans hvoice.ctl⟩ (msgType m) 1
  refine ⟨slotRuns_startSlot_self _ 3 now, ?_, ?_, ?_, hacked, ?_, hdesc, hpol, rfl, ?_⟩
  · exact (congrArg F.CTX_XFER.RX_ACT.on hxfer).trans (on_set _ (by decide) (by decide) _)
  · exact (congrArg F.CTX_XFER.RX_CHUNK.get hxfer).trans ((get_set_apart _ _ (by decide) _).trans (get_put _ (by decide) _ _))
  · exact ⟨(congrArg F.CTX_ID.RX_VALID.on hid).trans hheard.1, (congrArg F.CTX_ID.RX_ID.get hid).trans hheard.2⟩
  · rw [← hreq, ← hhwq]
    rfl
  · exact (congrArg (List.take _) (vset_self _ _ k)).trans (take_overlay _ _)

/-! ### Later chunks -/

theorem dropReasm_some {r : Reasm} (h : q.phw.reasm = some r) : dropReasm q = stopSlot 3
    { q.modCtx r.ctx fun x => { x with xfer := F.CTX_XFER.RX_ACT.clr x.xfer } with phw.reasm := none } := by
  rw [dropReasm, h]

/-- The message so far with the chunk that was expected next. -/
def grown (m : List Byte) (r : Reasm) (q : Port) : List Byte :=
  q.phw.rxbuf[r.buf].take (4 + 26 * r.next) ++ (m.drop 4).take (min 26 (r.size - 26 * r.next))

/-- The chunk expected next is acknowledged and shown in RX_CHUNK. -/
def chunkShown (n : Nat) (q : Port) : Port :=
  (chunkTaken now c m q).modCtx c fun x => { x with xfer := F.CTX_XFER.RX_CHUNK.put n x.xfer }

/-- The message extended, the chunk after asked for. -/
def chunkExtended (r : Reasm) (q : Port) : Port :=
  startSlot now 3 (askChunk c (msgType (grown m r q)) (r.next + 1)
    (reasmOpened r.buf (grown m r q) { r with next := r.next + 1 } (chunkShown now c m r.next q)))

theorem laterChunk_expected {r : Reasm} (hr : u.phw.reasm = some r) (hc : r.ctx = c) (hn : r.next = extChunk m) :
    laterChunk now c m u =
      if r.size - 26 * r.next ≤ 26 then
        (storeRx c r.buf (grown m r u) (dropReasm (chunkShown now c m r.next u)), some (grown m r u))
      else (chunkExtended now c m r u, none) := by
  have hreasm : (sendGoodCrc now c m (takeId c (msgId m) u)).phw.reasm = some r := hr
  unfold laterChunk
  dsimp only
  rw [hreasm]
  dsimp only
  rw [if_pos (by rw [hc, hn]; simp), ← hn]
  rfl

theorem chunkShown_ctx (n : Nat) (q : Port) : (chunkShown now c m n q).ctx[c] =
    { (chunkTaken now c m q).ctx[c] with xfer := F.CTX_XFER.RX_CHUNK.put n (chunkTaken now c m q).ctx[c].xfer } :=
  modCtx_self _ fun x : CtxRegs => { x with xfer := F.CTX_XFER.RX_CHUNK.put n x.xfer }

theorem chunkShown_voice (n : Nat) (h : u.resting = q.resting) : SameVoice c q (chunkShown now c m n u) := by
  have hv := chunkTaken_voice now c m h
  exact ⟨hv.phycfg, (congrArg CtxRegs.ctl (chunkShown_ctx now c m n u)).trans hv.ctl⟩

theorem chunkShown_heardId (n : Nat) (u : Port) : (chunkShown now c m n u).heardId c (msgId m % 8) := by
  have hid := congrArg CtxRegs.id (chunkShown_ctx now c m n u)
  have hheard := chunkTaken_heardId now c m u
  exact ⟨(congrArg F.CTX_ID.RX_VALID.on hid).trans hheard.1, (congrArg F.CTX_ID.RX_ID.get hid).trans hheard.2⟩

theorem grown_eq (r : Reasm) (h : u.resting = q.resting) : grown m r u = grown m r q := by
  have hbuf := field_of_resting (fun u => u.phw.rxbuf) (fun _ => rfl) h
  simp only [grown, hbuf]

/-- What extends the message ends no transmission. -/
theorem chunkExtended_holdsPhy (r : Reasm) (u : Port) : (chunkExtended now c m r u).holdsPhy c = u.holdsPhy c := by
  refine holdsPhy_of_ctx ((congrArg CtxRegs.txstat (chunkShown_ctx now c m r.next u)).trans ?_)
  have h := congrArg CtxRegs.txstat (takeId_ctx (c := c) (msgId m) u)
  exact h

/-- A chunk that extends the message: what it leaves. -/
theorem chunkExtended_extends (r : Reasm) (h : u.resting = q.resting) : let t := chunkExtended now c m r u
    t.phw.reasm = some { r with next := r.next + 1 } ∧
      t.phw.rxbuf[r.buf].take (grown m r q).length = grown m r q ∧ t.slotRuns 3 = true ∧ t.heardId c (msgId m % 8) ∧
      Acked c m q t ∧ t.phw.hwq = q.phw.hwq ++
        [{ ctx := c, msg := chunkRequest q c (msgType (grown m r q)) (r.next + 1), tries := 0, wire := false }] ∧
      t.pd.rxdesc = q.pd.rxdesc ∧ t.pol = q.pol := by
  obtain ⟨hpol, hdesc, -, hhwq, -, -⟩ := chunkTaken_keeps now c m h
  have hacked := chunkTaken_acked now c m h
  have hvoice := chunkShown_voice now c m r.next h
  have hheard := chunkShown_heardId now c m r.next u
  have hreq := SameVoice.chunkRequest (q := q) (c := c) (t := reasmOpened r.buf (grown m r q)
    { r with next := r.next + 1 } (chunkShown now c m r.next u)) ⟨hvoice.phycfg, hvoice.ctl⟩
    (msgType (grown m r q)) (r.next + 1)
  unfold chunkExtended
  rw [grown_eq m r h]
  refine ⟨rfl, (congrArg (List.take _) (vset_self _ _ r.buf)).trans (take_overlay _ _), slotRuns_startSlot_self _ 3 now,
    hheard, hacked, ?_, hdesc, hpol⟩
  rw [← hreq, ← hhwq]
  rfl

/-- The last chunk: what it leaves. -/
theorem chunkLast_stores {r : Reasm} (h : u.resting = q.resting) (hr : q.phw.reasm = some r) (hc : r.ctx = c) :
    let t := storeRx c r.buf (grown m r q) (dropReasm (chunkShown now c m r.next u))
    t.phw.reasm = none ∧ t.slotRuns 3 = false ∧ F.PD_RXDESC.VALID.on t.pd.rxdesc[r.buf] = true ∧
      F.PD_RXDESC.LEN.get t.pd.rxdesc[r.buf] = (grown m r q).length % 512 ∧
      t.phw.rxbuf[r.buf].take (grown m r q).length = grown m r q ∧ F.CTX_XFER.RX_ACT.on t.ctx[c].xfer = false ∧
      Acked c m q t ∧ F.PD_EVT.RX.on t.pd.evt = true ∧ t.pol = q.pol := by
  subst hc
  obtain ⟨hpol, -, hreasm, -, -, -⟩ := chunkTaken_keeps now r.ctx m h
  have hacked := chunkTaken_acked now r.ctx m h
  have hdrop := dropReasm_some (q := chunkShown now r.ctx m r.next u) (hreasm.trans hr)
  rw [hdrop]
  have hd := storeRx_rxdesc_self r.ctx r.buf (grown m r q) (q := stopSlot 3 { (chunkShown now r.ctx m r.next u).modCtx r.ctx
      (fun x => { x with xfer := F.CTX_XFER.RX_ACT.clr x.xfer }) with phw.reasm := none })
  have hact : F.CTX_XFER.RX_ACT.on ((chunkShown now r.ctx m r.next u).modCtx r.ctx
      (fun x => { x with xfer := F.CTX_XFER.RX_ACT.clr x.xfer })).ctx[r.ctx].xfer = false := by
    rw [modCtx_self]
    exact on_clr _ _
  refine ⟨rfl, slotRuns_stopSlot_self _ 3, ?_, ?_, storeRx_rxbuf r.ctx r.buf (grown m r q), hact, hacked,
    on_set _ (by decide) (by decide) _, hpol⟩ <;> rw [hd]
  · exact rxDesc_valid ..
  · exact rxDesc_len ..

end

end Sys2Proof.Machine

/-! O51, settled: chunks received and chunks asked for (04 R95 to R97). -/

namespace Sys2Proof.Machine
open Sys2Proof

section
variable {p : PortId} {s : State} {c : Fin 3} {m : List Byte}

theorem chunkReceived_off (h : ¬s.ports[p].accepts c) : exec (.chunkReceived p c m) s = .next s :=
  congrArg Host.Outcome.next (if_neg (by rwa [Bool.and_eq_true, decide_eq_true_eq]))

theorem chunkReceived_on (hon : s.ports[p].accepts c) : exec (.chunkReceived p c m) s = .next
    (match (receiveChunk s.time c m s.ports[p]).2 with
      | some msg => atPd p (.pdMessageReceived p c msg true) (polStored p c msg)
          (modPort p (fun _ => (receiveChunk s.time c m s.ports[p]).1) s)
      | none => afterTx p c (.crcReceiveTimerExpiry p c) s.ports[p]
          (modPort p (fun _ => (receiveChunk s.time c m s.ports[p]).1) s)) :=
  congrArg Host.Outcome.next (if_pos (by rwa [Bool.and_eq_true, decide_eq_true_eq]))

/-- A chunk of which nothing reaches the policy. -/
theorem chunk_passed {t : Port} {R : Port → Prop} (hon : s.ports[p].accepts c)
    (hr : receiveChunk s.time c m s.ports[p] = (t, none)) (hfree : s.ports[p].holdsPhy c = true → t.holdsPhy c = true)
    (hR : R t) : MovesPort (.chunkReceived p c m) s p R := by
  have hx := chunkReceived_on (m := m) hon
  rw [hr] at hx
  exact movesPort_of_modPort (endsTx_none hx hfree) hR

/-- A chunk that completes a message, on a port whose engine does not act. -/
theorem chunk_stored {t : Port} {msg : List Byte} {R : Port → Prop} (hon : s.ports[p].accepts c)
    (hr : receiveChunk s.time c m s.ports[p] = (t, some msg)) (hpol : t.pol = s.ports[p].pol) (ha : ¬Acts s p)
    (hR : R (t.waiting (.pdMessageReceived p c msg true))) : MovesPort (.chunkReceived p c m) s p R := by
  have hx := chunkReceived_on (m := m) hon
  rw [hr] at hx
  exact movesPort_waits hx hpol ha hR

end

/-- A transmission whose next chunk was asked for. -/
def chunkReadied (now : Nat) (c : Fin 3) (n : Nat) (q : Port) : Port :=
  stopSlot 2 { (arrives now c q).modCtx c fun r => { r with
    xfer := F.CTX_XFER.TX_CHUNK.put n r.xfer, txstat := F.CTX_TXSTAT.TRIES.put 0 r.txstat } with
      phw.txReady := (arrives now c q).phw.txReady.set c true }

theorem chunkReadied_readies (now : Nat) (c : Fin 3) {n : Nat} (hn : n < 16) (q : Port) :
    let t := chunkReadied now c n q
    t.phw.txReady[c] = true ∧ F.CTX_XFER.TX_CHUNK.get t.ctx[c].xfer = n ∧ F.CTX_TXSTAT.TRIES.get t.ctx[c].txstat = 0 ∧
      t.slotRuns 2 = false ∧ t.result c = q.result c ∧ t.pol = q.pol := by
  have hctx : (chunkReadied now c n q).ctx[c] = { (arrives now c q).ctx[c] with
      xfer := F.CTX_XFER.TX_CHUNK.put n (arrives now c q).ctx[c].xfer
      txstat := F.CTX_TXSTAT.TRIES.put 0 (arrives now c q).ctx[c].txstat } :=
    modCtx_self (arrives now c q) fun r => { r with
      xfer := F.CTX_XFER.TX_CHUNK.put n r.xfer, txstat := F.CTX_TXSTAT.TRIES.put 0 r.txstat }
  have hpol := field_of_resting Port.pol (fun _ => rfl) (arrives_resting now c q)
  refine ⟨vset_self _ _ c, ?_, ?_, slotRuns_stopSlot_self _ 2, ?_, hpol⟩
  · rw [hctx]
    exact (get_put _ (by decide) _ _).trans (Nat.mod_eq_of_lt hn)
  · rw [hctx]
    exact get_put _ (by decide) _ _
  · rw [Port.result, hctx, arrives_ctx]
    exact get_put_apart _ _ (by decide) _ _

/-- Settles O51: each chunk's row, from what the chunk leaves of the port. -/
theorem chunksAreReassembled : Obligations.ChunksAreReassembled := by
  intro p c s q off on asks
  refine ⟨fun m => ?_, fun r hslot hr => ?_, fun hslot => ?_, fun n => ?_, ?_⟩
  · intro i acked
    refine ⟨fun hoff => chunkReceived_off ?_, fun hoff hon => ?_, fun hon hd => ?_, fun hon hd h0 hroom => ⟨?_, ?_, ?_⟩,
      fun r hon hd hn hr hc hnext => ?_⟩
    · rintro ⟨hctx, hor⟩
      rcases hoff with h | h
      · rw [h] at hctx
        exact Bool.noConfusion hctx
      · exact hor h
    · have hacc : q.accepts c := by
        rw [not_or, Bool.not_eq_false] at hoff
        exact hoff
      have hb : q.bistOn c := by
        by_contra hb
        exact hon ((hears_iff c q).mpr ⟨hacc, hb⟩)
      obtain ⟨-, hcnt, hdesc, hctx, hpol, hack, hreasm⟩ := bistTaken_counted s.time c m q
      exact chunk_passed hacc (receiveChunk_bist s.time c m hb) (fun h => (holdsPhy_of_ctx (by rw [hctx])).trans h)
        ⟨hack, hcnt, hdesc, hreasm, hctx, hpol⟩
    · obtain ⟨hacc, hb⟩ := (hears_iff c q).mp hon
      obtain ⟨-, hdesc, hack, hcnt, -, htx, -, hreasm, hhwq⟩ := countDup_counted s.time c m q
      exact chunk_passed hacc (receiveChunk_dup s.time c m hb hd) (fun h => (holdsPhy_of_ctx htx).trans h)
        ⟨hdesc, hreasm, hack, hhwq, hcnt⟩
    · intro hlong hfits hphy
      obtain ⟨hacc, hb⟩ := (hears_iff c q).mp hon
      obtain ⟨k, hk, hfirst⟩ := firstChunk_fits s.time c m hroom hfits
      have hr : receiveChunk s.time c m q = (chunkOpened s.time c m k (takenUp s.time c q), none) := by
        rw [receiveChunk_new s.time c m hb hd, if_pos h0, hfirst, if_neg (by omega)]
      obtain ⟨h1, h2, h3, h4, h5, h6, h7, h8, h9, h10⟩ :=
        chunkOpened_opens s.time c m k (takenUp_resting s.time c q)
      exact chunk_passed hacc hr (fun h => absurd (h.symm.trans hphy) (by decide))
        ⟨h1, h2, h3, h4, h5, h6, h7, h8, k, hk, h9, h10⟩
    · intro hshort ha
      obtain ⟨hacc, hb⟩ := (hears_iff c q).mp hon
      obtain ⟨k, hk, hfirst⟩ := firstChunk_fits s.time c m hroom (by omega)
      have hr : receiveChunk s.time c m q = (storeRx c k (m.take (4 + extSize m))
          (chunkTaken s.time c m (takenUp s.time c q)), some (m.take (4 + extSize m))) := by
        rw [receiveChunk_new s.time c m hb hd, if_pos h0, hfirst, if_pos hshort]
      have hrest := takenUp_resting s.time c q
      obtain ⟨hpol, hdesc, hreasm, -, hseq, -⟩ := chunkTaken_keeps s.time c m hrest
      have hack := chunkTaken_acked s.time c m hrest
      have hheard := chunkTaken_heardId s.time c m (takenUp s.time c q)
      refine chunk_stored hacc hr hpol ha ?_
      generalize chunkTaken s.time c m (takenUp s.time c q) = u at *
      have hstores := storeRx_stores c k (m.take (4 + extSize m)) (q := u) (by rw [hdesc]; exact hk)
      rw [Port.stores, hdesc, hseq] at hstores
      exact ⟨hstores, hreasm.trans hroom.1, hheard, hack, keeps_waiting _ hpol⟩
    · intro hlong hphy
      obtain ⟨hacc, hb⟩ := (hears_iff c q).mp hon
      have hr : receiveChunk s.time c m q = (chunkTaken s.time c m (takenUp s.time c q), none) := by
        rw [receiveChunk_new s.time c m hb hd, if_pos h0, firstChunk_tooLong s.time c m hroom hlong]
      have hrest := takenUp_resting s.time c q
      obtain ⟨hpol, hdesc, hreasm, hhwq, -, -⟩ := chunkTaken_keeps s.time c m hrest
      exact chunk_passed hacc hr (fun h => absurd (h.symm.trans hphy) (by decide))
        ⟨hreasm.trans hroom.1, chunkTaken_acked s.time c m hrest, hdesc, hhwq, hpol⟩
    · intro left all
      obtain ⟨hacc, hb⟩ := (hears_iff c q).mp hon
      have hrest := arrives_resting s.time c q
      have hlater := laterChunk_expected s.time c m ((reasm_of_resting hrest).trans hr) hc hnext
      rw [grown_eq m r hrest] at hlater
      refine ⟨fun hleft => ?_, fun hleft ha => ?_⟩
      · have hx : receiveChunk s.time c m q = (chunkExtended s.time c m r (arrives s.time c q), none) := by
          rw [receiveChunk_new s.time c m hb hd, if_neg (by omega), hlater, if_neg (by omega)]
        obtain ⟨h1, h2, h3, h4, h5, h6, h7, h8⟩ := chunkExtended_extends s.time c m r hrest
        refine chunk_passed hacc hx (fun h => ?_) ⟨h1, h2, h3, h4, h5, h6, h7, h8⟩
        exact (chunkExtended_holdsPhy s.time c m r _).trans ((arrives_holdsPhy s.time c c q).trans h)
      · have hx : receiveChunk s.time c m q = (storeRx c r.buf (grown m r q)
            (dropReasm (chunkShown s.time c m r.next (arrives s.time c q))), some (grown m r q)) := by
          rw [receiveChunk_new s.time c m hb hd, if_neg (by omega), hlater, if_pos hleft]
        obtain ⟨h1, h2, h3, h4, h5, h6, h7, h8, hpol⟩ := chunkLast_stores s.time c m hrest hr hc
        refine chunk_stored hacc hx hpol ha ?_
        generalize storeRx c r.buf (grown m r q) (dropReasm (chunkShown s.time c m r.next (arrives s.time c q))) = t at *
        exact ⟨h1, h2, h3, h4, h5, h6, h7, h8, keeps_waiting _ hpol⟩
  · refine movesPort_of_modPort (f := fun q => if q.slotRuns 3 then stopSlot 3 (dropReasm q) else q) rfl ?_
    rw [if_pos hslot, dropReasm_some hr]
    have hact : F.CTX_XFER.RX_ACT.on (q.modCtx r.ctx fun x =>
        { x with xfer := F.CTX_XFER.RX_ACT.clr x.xfer }).ctx[r.ctx].xfer = false := by
      rw [modCtx_self]
      exact on_clr _ _
    exact ⟨rfl, slotRuns_stopSlot_self _ 3, hact, rfl, rfl⟩
  · exact exec_same_of_modPort rfl (if_neg (by rw [hslot]; exact Bool.false_ne_true))
  · intro asked
    have hcond : asked ↔ (q.holdsPhy c && F.CTX_XFER.TX_ACT.on q.ctx[c].xfer && !q.phw.onWire[c] &&
        n == F.CTX_XFER.TX_CHUNK.get q.ctx[c].xfer + 1) = true := by
      simp only [asked, Bool.and_eq_true, Bool.not_eq_true', beq_iff_eq, and_assoc]
    refine ⟨fun ha hn => ?_, fun ha => exec_same_of_modPort (f := nextChunk s.time c n) rfl (if_neg (mt hcond.mpr ha))⟩
    refine movesPort_of_modPort (f := nextChunk s.time c n) rfl ?_
    rw [nextChunk, if_pos (hcond.mp ha)]
    exact chunkReadied_readies s.time c hn q
  · intro i
    have hx : exec i s = .next (afterTx p c i s.ports[p] (modPort p (chunkRequestMissing c) s)) := rfl
    refine ⟨fun hoff => ?_, fun hslot hphy => ?_⟩
    · have hsame : chunkRequestMissing c s.ports[p] = s.ports[p] := by
        refine if_neg ?_
        rw [Bool.and_eq_true]
        rintro ⟨hslot, hphy⟩
        rcases hoff with h | h
        · exact absurd (h.symm.trans hslot) (by decide)
        · exact absurd (h.symm.trans hphy) (by decide)
      rw [endsTx_none hx (by rw [hsame]; exact id), modPort_eq_self hsame]
    · have hend : chunkRequestMissing c s.ports[p] = finishTx c 7 false s.ports[p] := if_pos (by rw [hslot, hphy]; rfl)
      have hended : (chunkRequestMissing c s.ports[p]).ended c 7 := by
        rw [hend]
        exact finishTx_ended c 7 false _ (by decide)
      have hslot2 : (chunkRequestMissing c s.ports[p]).slotRuns 2 = false := by
        rw [hend]
        exact (finishTx_slots c 7 false _).2
      have hpol : (chunkRequestMissing c s.ports[p]).pol = s.ports[p].pol := by
        obtain ⟨run, e⟩ := finishTx_eq c 7 false s.ports[p]
        rw [hend, e]
      have hfree := holdsPhy_of_ended c 7 hended (by decide)
      refine ⟨fun ha => ?_, fun ha htx hidle hw => ?_⟩
      · refine endsTx_waits hx hpol hphy hfree ha ?_
        generalize chunkRequestMissing c s.ports[p] = t at *
        exact ⟨hended, hslot2, keeps_waiting _ hpol⟩
      · exact endsTx_unseen hx hpol hphy hfree ha htx hidle hw ⟨hended, hslot2, hpol⟩

end Sys2Proof.Machine

/-! SUPPORT. Transmission (04 R85, R90 to R93, R97 to R100, R121): what SEND, an idle line, a GoodCRC, the timers of the
PHY and the writes of signals and slots leave of the port. -/

namespace Sys2Proof.Machine
open Sys2Proof

section
variable (now : Nat) (c : Fin 3) {q t : Port}

/-- State, path and breaker of a port: what no transmission touches. -/
abbrev SameCore (q t : Port) : Prop := t.core = q.core ∧ t.pth = q.pth ∧ t.cur = q.cur

/-! ## SEND (04 R90, R92) -/

/-- SEND is refused. -/
abbrev Port.refuses (c : Fin 3) (q : Port) : Prop := q.phyHeld = true ∨ q.ctxOn c = false ∨ q.orient = 0

/-- The first message of an AMS waits. -/
abbrev Port.amsWaits (ams : Bool) (q : Port) : Bool := ams && (q.isSource || !F.PD_PHYSTAT.SINKTXOK.on q.pd.phystat)

/-- A context with a transmission begun. -/
def begunCtx (waits : Bool) (r : CtxRegs) : CtxRegs :=
  { r with
    txstat := F.CTX_TXSTAT.RESULT.put (if waits then 1 else 2) (F.CTX_TXSTAT.TRIES.put 0 r.txstat)
    xfer := F.CTX_XFER.TX_ACT.clr (F.CTX_XFER.TX_CHUNK.clr r.xfer) }

/-- A transmission begun on a context. -/
def begun (c : Fin 3) (buf : Fin 2) (ams waits : Bool) (q : Port) : Port :=
  { q with
    ctx := q.ctx.set c (begunCtx waits q.ctx[c])
    phw.txSel := q.phw.txSel.set c buf, phw.txAms := q.phw.txAms.set c ams, phw.onWire := q.phw.onWire.set c false
    phw.txReady := q.phw.txReady.set c (!waits) }

/-- What a transmission begun leaves of its context. -/
structure Begun (c : Fin 3) (buf : Fin 2) (waits : Bool) (q t : Port) : Prop where
  core : SameCore q t
  pol : t.pol = q.pol
  txSel : t.phw.txSel[c] = buf
  onWire : t.phw.onWire[c] = false
  tries : F.CTX_TXSTAT.TRIES.get t.ctx[c].txstat = 0
  txId : F.CTX_ID.TX_ID.get t.ctx[c].id = F.CTX_ID.TX_ID.get q.ctx[c].id
  result : t.result c = if waits then 1 else 2
  txReady : t.phw.txReady[c] = !waits

theorem begun_begun (buf : Fin 2) (ams waits : Bool) (q : Port) : Begun c buf waits q (begun c buf ams waits q) := by
  have hctx : (begun c buf ams waits q).ctx[c] = begunCtx waits q.ctx[c] := vset_self _ _ c
  refine ⟨⟨rfl, rfl, rfl⟩, rfl, vset_self _ _ c, vset_self _ _ c, ?_, ?_, ?_, vset_self _ _ c⟩
  · rw [hctx]
    exact (get_put_apart _ _ (by decide) _ _).trans (get_put _ (by decide) _ _)
  · rw [hctx]
    rfl
  · rw [Port.result, hctx]
    exact (get_put _ (by decide) _ _).trans (by cases waits <;> rfl)

theorem sendCmd_refused (buf : Fin 2) (ams : Bool) (h : q.refuses c) : sendCmd now c buf ams q =
    q.modCtx c fun r => { r with txstat := F.CTX_TXSTAT.OVR.set r.txstat } := by
  refine if_pos ?_
  rcases h with h | h | h <;> rw [h] <;> simp

theorem sendCmd_begins (buf : Fin 2) (ams : Bool) (h : ¬q.refuses c) : sendCmd now c buf ams q =
    if !q.amsWaits ams then begun c buf ams (q.amsWaits ams) q
    else if q.isSource then startSlot now 1 (setRp 1 { begun c buf ams (q.amsWaits ams) q with phw.ams := true })
    else startSlot now 6 (begun c buf ams (q.amsWaits ams) q) := by
  refine if_neg ?_
  rw [Bool.or_eq_true, Bool.or_eq_true, beq_iff_eq, Bool.not_eq_true', or_assoc]
  exact h

theorem writeCcCtl_rp (lvl : Nat) (q : Port) : F.CC_CTL.RP_LVL.get (setRp lvl q).cc.ctl = lvl % 4 := by
  unfold setRp
  rw [writeCcCtl_ctl, get_and _ _ (by decide)]
  exact get_put _ (by decide) _ _

theorem setRp_source (lvl : Nat) (h : q.isSource = true) : ∃ cfg stat, setRp lvl q =
    { q with cc.ctl := F.CC_CTL.RP_LVL.put lvl q.cc.ctl &&& 0xFF, cc.cfg := cfg, pd.phystat := stat } :=
  writeCcCtl_source h _

/-! ## The line idle (04 R90, R100) -/

theorem resetCtx_ctx_ne {c d : Fin 3} (h : d ≠ c) (q : Port) : (resetCtx c q).ctx[d] = q.ctx[d] := by
  unfold resetCtx resetIds
  rw [modCtx_ne _ _ h]
  rcases txAborted_abortTx c q with e | ⟨r, e⟩
  · rw [e]
  · obtain ⟨run, e'⟩ := finishTx_eq c r false q
    rw [e, e']
    exact vset_ne _ _ h

theorem hardSentHw_sent (q : Port) : let t := hardSentHw now q
    SameCore q t ∧ t.phw.hrWait = false ∧ F.PD_SIGSTAT.HR_SENT.on t.pd.sigstat = true ∧
      F.PD_EVT.HR_SENT.on t.pd.evt = true ∧ (∀ c : Fin 3, t.idsReset c) ∧ t.slotRuns 4 = false ∧ t.pol = q.pol := by
  have h := hardResetCtxs_cleared (busyLine now q)
  exact ⟨⟨h.core, h.pth, h.cur⟩, rfl, on_set _ (by decide) (by decide) _, on_set _ (by decide) (by decide) _,
    fun c => idsReset_of_id (h.id c), slotRuns_stopSlot_self _ 4, h.pol⟩

theorem cableSentHw_sent (q : Port) : let t := cableSentHw now q
    SameCore q t ∧ t.phw.crWait = false ∧ F.PD_SIGSTAT.CR_SENT.on t.pd.sigstat = true ∧
      F.PD_EVT.CR_SENT.on t.pd.evt = true ∧ t.idsReset 1 ∧ t.idsReset 2 ∧ t.ctx[(0 : Fin 3)] = q.ctx[(0 : Fin 3)] ∧
      t.pol = q.pol := by
  have hid1 : (resetCtx 2 (resetCtx 1 (busyLine now q))).ctx[(1 : Fin 3)].id = 0 := by
    rw [resetCtx_id, if_neg (by decide), resetCtx_id, if_pos rfl]
  have hid2 : (resetCtx 2 (resetCtx 1 (busyLine now q))).ctx[(2 : Fin 3)].id = 0 := by
    rw [resetCtx_id, if_pos rfl]
  have hctx : (resetCtx 2 (resetCtx 1 (busyLine now q))).ctx[(0 : Fin 3)] = q.ctx[(0 : Fin 3)] := by
    rw [resetCtx_ctx_ne (by decide), resetCtx_ctx_ne (by decide)]
    rfl
  have hform : cableSentHw now q = { amsRestore (resetCtx 2 (resetCtx 1 (busyLine now q))) with
    phw.crWait := false
    pd.sigstat := F.PD_SIGSTAT.CR_SENT.set (amsRestore (resetCtx 2 (resetCtx 1 (busyLine now q)))).pd.sigstat
    pd.evt := F.PD_EVT.CR_SENT.set (amsRestore (resetCtx 2 (resetCtx 1 (busyLine now q)))).pd.evt } := rfl
  obtain ⟨ctx, run, evt, ow, tr, h1⟩ := resetCtx_eq 1 (busyLine now q)
  rw [hform]
  obtain ⟨ctx, run, evt, ow, tr, h2⟩ := resetCtx_eq 2 (resetCtx 1 (busyLine now q))
  obtain ⟨ctl, cfg, stat, h3⟩ := amsRestore_eq (resetCtx 2 (resetCtx 1 (busyLine now q)))
  rw [h3]
  rw [h2, h1] at hid1 hid2 hctx ⊢
  exact ⟨⟨rfl, rfl, rfl⟩, rfl, on_set _ (by decide) (by decide) _, on_set _ (by decide) (by decide) _,
    idsReset_of_id hid1, idsReset_of_id hid2, hctx, rfl⟩

/-- The hardware's own message on the wire. -/
theorem sendHw_sends (m : HwMsg) (q : Port) : let t := sendHw now m q
    SameCore q t ∧ t.pol = q.pol ∧ t.ctx = q.ctx ∧ t.phw.hwq = { m with wire := true } :: q.phw.hwq.drop 1 ∧
      t.slotRuns 0 = true ∧ t.phw.tmrStart[(0 : Fin 26)] = now + frameTime m.msg.length :=
  ⟨⟨rfl, rfl, rfl⟩, rfl, rfl, rfl, slotRuns_startSlot_self _ 0 _, vset_self _ _ (0 : Fin 26)⟩

/-- A frame on the wire. -/
theorem putOnWire_sends (q : Port) : let t := putOnWire now c q
    SameCore q t ∧ t.pol = q.pol ∧ t.phw.onWire[c] = true ∧ t.phw.txReady[c] = false ∧ t.result c = 2 ∧
      t.slotRuns 0 = true ∧ t.phw.tmrStart[(0 : Fin 26)] = now + frameTime (frameLen q c) ∧
      F.CTX_XFER.TX_ACT.on t.ctx[c].xfer = txChunked q c ∧
      F.CTX_ID.TX_ID.get t.ctx[c].id = F.CTX_ID.TX_ID.get q.ctx[c].id := by
  have hctx : (putOnWire now c q).ctx[c] = { q.ctx[c] with
      txstat := F.CTX_TXSTAT.RESULT.put 2 q.ctx[c].txstat
      xfer := F.CTX_XFER.TX_ACT.setTo (txChunked q c) q.ctx[c].xfer } := vset_self _ _ c
  refine ⟨⟨rfl, rfl, rfl⟩, rfl, vset_self _ _ c, vset_self _ _ c, ?_, slotRuns_startSlot_self _ 0 _,
    vset_self _ _ (0 : Fin 26), ?_, ?_⟩
  · rw [Port.result, hctx]
    exact get_put _ (by decide) _ _
  · rw [hctx]
    exact on_setTo _ (by decide) (by decide) _ _
  · rw [hctx]

/-- The one context that holds the PHY with a frame ready. -/
theorem readyCtx_eq (hphy : q.holdsPhy c = true) (hready : q.phw.txReady[c] = true)
    (hother : ∀ d : Fin 3, d ≠ c → q.holdsPhy d = false) : readyCtx q = some c := by
  have hcond : (fun d : Fin 3 => q.holdsPhy d && q.phw.txReady[d]) = fun d => d == c := by
    funext d
    by_cases hd : d = c
    · rw [hd, hphy, hready]
      simp
    · rw [hother d hd]
      simp [hd]
  rw [readyCtx, hcond]
  clear hcond hother hready hphy
  revert c
  decide

theorem readyCtx_none (h : ∀ c : Fin 3, q.holdsPhy c = false ∨ q.phw.txReady[c] = false) : readyCtx q = none := by
  rw [readyCtx, List.find?_eq_none]
  intro c _
  rcases h c with h | h <;> rw [h] <;> simp

/-! ## TX_ID, GoodCRC and CRCReceiveTimer (04 R91) -/

theorem advanceId_ctx (q : Port) : (advanceId c q).ctx[c] = { q.ctx[c] with
    id := F.CTX_ID.TX_ID.put ((F.CTX_ID.TX_ID.get q.ctx[c].id + 1) % 8) q.ctx[c].id } := modCtx_self q _

theorem advanceId_txId (q : Port) : F.CTX_ID.TX_ID.get (advanceId c q).ctx[c].id =
    (F.CTX_ID.TX_ID.get q.ctx[c].id + 1) % 8 := by
  rw [advanceId_ctx]
  exact (get_put _ (by decide) _ _).trans (Nat.mod_mod _ _)

theorem advanceId_result (q : Port) : (advanceId c q).result c = q.result c := by
  rw [Port.result, advanceId_ctx]
  rfl

/-- The hardware's own message acknowledged, or given up. -/
def ownEnded (c : Fin 3) (q : Port) : Port := stopSlot 0 (advanceId c { q with phw.hwq := q.phw.hwq.drop 1 })

theorem ownEnded_ends (q : Port) : let t := ownEnded c q
    SameCore q t ∧ t.pol = q.pol ∧ t.phw.hwq = q.phw.hwq.drop 1 ∧
      F.CTX_ID.TX_ID.get t.ctx[c].id = (F.CTX_ID.TX_ID.get q.ctx[c].id + 1) % 8 ∧ t.slotRuns 0 = false ∧
      t.result c = q.result c :=
  ⟨⟨rfl, rfl, rfl⟩, rfl, rfl, advanceId_txId c { q with phw.hwq := q.phw.hwq.drop 1 }, slotRuns_stopSlot_self _ 0,
    advanceId_result c { q with phw.hwq := q.phw.hwq.drop 1 }⟩

/-- A chunk acknowledged that others follow: the Chunk Request is awaited. -/
def chunkSent (now : Nat) (c : Fin 3) (q : Port) : Port :=
  startSlot now 2 (stopSlot 0 (advanceId c { q with
    phw.onWire := q.phw.onWire.set c false, phw.txReady := q.phw.txReady.set c false }))

theorem chunkSent_sent (q : Port) : let t := chunkSent now c q
    SameCore q t ∧ t.result c = q.result c ∧ t.phw.onWire[c] = false ∧
      F.CTX_ID.TX_ID.get t.ctx[c].id = (F.CTX_ID.TX_ID.get q.ctx[c].id + 1) % 8 ∧ t.slotRuns 0 = false ∧
      t.slotRuns 2 = true ∧ t.pol = q.pol := by
  have hres := advanceId_result c { q with
    phw.onWire := q.phw.onWire.set c false, phw.txReady := q.phw.txReady.set c false }
  have hid := advanceId_txId c { q with
    phw.onWire := q.phw.onWire.set c false, phw.txReady := q.phw.txReady.set c false }
  exact ⟨⟨rfl, rfl, rfl⟩, hres, vset_self _ _ c, hid, (slotRuns_startSlot_ne _ now (by decide)).trans
    (slotRuns_stopSlot_self _ 0), slotRuns_startSlot_self _ 2 now, rfl⟩

/-- A transmission that has ended with TX_ID advanced: its result, and what it leaves. -/
theorem finishTx_advances {result : Nat} (hr : result < 16) (q : Port) : let t := finishTx c result true q
    SameCore q t ∧ t.ended c result ∧ F.CTX_ID.TX_ID.get t.ctx[c].id = (F.CTX_ID.TX_ID.get q.ctx[c].id + 1) % 8 ∧
      t.slotRuns 0 = false ∧ t.pol = q.pol := by
  have hend := finishTx_ended c result true q hr
  have hid := finishTx_txId c result true q rfl
  have hslot := (finishTx_slots c result true q).1
  obtain ⟨run, e⟩ := finishTx_eq c result true q
  refine ⟨?_, hend, hid, hslot, ?_⟩ <;> rw [e]
  exact ⟨rfl, rfl, rfl⟩

theorem goodCrc_other {n : Nat} (h : F.CTX_ID.TX_ID.get q.ctx[c].id ≠ n ∨
    (¬(hwOnWire c q).isSome = true ∧ q.phw.onWire[c] = false)) : goodCrc now c n q = q := by
  unfold goodCrc
  by_cases hid : F.CTX_ID.TX_ID.get q.ctx[c].id = n
  · obtain ⟨hown, hwire⟩ := h.resolve_left (not_not_intro hid)
    rw [if_neg (by simp [hid, -Fin.getElem_fin]), if_neg hown, if_neg (by rw [hwire]; exact Bool.false_ne_true)]
  · exact if_pos (by simp [hid, -Fin.getElem_fin])

theorem goodCrc_own {n : Nat} (hid : F.CTX_ID.TX_ID.get q.ctx[c].id = n) (hown : (hwOnWire c q).isSome = true) :
    goodCrc now c n q = ownEnded c (busyLine now q) := by
  rw [goodCrc, if_neg (by simp [hid, -Fin.getElem_fin]), if_pos hown]
  rfl

theorem goodCrc_frame {n : Nat} (hid : F.CTX_ID.TX_ID.get q.ctx[c].id = n) (hown : ¬(hwOnWire c q).isSome = true)
    (hwire : q.phw.onWire[c] = true) : goodCrc now c n q =
      if moreChunks q c then chunkSent now c (busyLine now q) else finishTx c 3 true (busyLine now q) := by
  rw [goodCrc, if_neg (by simp [hid, -Fin.getElem_fin]), if_neg hown, if_pos hwire]
  rfl

theorem maxRetries_eq (q : Port) (c : Fin 3) :
    maxRetries q c = if F.CTX_CTL.REV.get q.ctx[c].ctl = 1 then 3 else 2 := by
  unfold maxRetries revCode
  split <;> rfl

theorem crcExpiry_none (h : q.slotRuns 0 = false ∨ (¬(hwOnWire c q).isSome = true ∧ q.phw.onWire[c] = false)) :
    crcExpiry c q = q := by
  unfold crcExpiry
  by_cases hslot : q.slotRuns 0 = true
  · obtain ⟨hown, hwire⟩ := h.resolve_left (by rw [hslot]; decide)
    rw [if_neg (by rw [hslot]; decide), Option.not_isSome_iff_eq_none.mp hown]
    dsimp only
    rw [if_neg (by rw [hwire]; exact Bool.false_ne_true)]
  · exact if_pos (by simpa using hslot)

/-- The hardware's own message waits for an idle line again. -/
def ownAgain (m : HwMsg) (q : Port) : Port :=
  stopSlot 0 { q with phw.hwq := { m with tries := m.tries + 1, wire := false } :: q.phw.hwq.drop 1 }

theorem crcExpiry_own {m : HwMsg} (hslot : q.slotRuns 0 = true) (hown : (hwOnWire c q).isSome = true)
    (hm : q.phw.hwq.head? = some m) : crcExpiry c q =
      if m.tries < maxRetries q c then ownAgain m q else ownEnded c q := by
  have hsome : hwOnWire c q = some m := by
    obtain ⟨w, hw⟩ := Option.isSome_iff_exists.mp hown
    rw [hwOnWire, hm] at hw
    obtain ⟨hmw, -⟩ := Option.filter_eq_some_iff.mp hw
    rw [hwOnWire, hm, hw, hmw]
  rw [crcExpiry, if_neg (by rw [hslot]; decide), hsome]
  rfl

/-- A frame waits for an idle line again. -/
def frameAgain (c : Fin 3) (q : Port) : Port :=
  stopSlot 0 ({ q with phw.txReady := q.phw.txReady.set c true }.modCtx c fun r => { r with
    txstat := F.CTX_TXSTAT.TRIES.put (F.CTX_TXSTAT.TRIES.get q.ctx[c].txstat + 1) r.txstat })

theorem crcExpiry_frame (hslot : q.slotRuns 0 = true) (hown : ¬(hwOnWire c q).isSome = true)
    (hwire : q.phw.onWire[c] = true) : crcExpiry c q =
      if F.CTX_TXSTAT.TRIES.get q.ctx[c].txstat < maxRetries q c then frameAgain c q else finishTx c 4 true q := by
  rw [crcExpiry, if_neg (by rw [hslot]; decide), Option.not_isSome_iff_eq_none.mp hown]
  dsimp only
  rw [if_pos hwire]
  rfl

theorem frameAgain_waits (q : Port) (hwire : q.phw.onWire[c] = true)
    (htries : F.CTX_TXSTAT.TRIES.get q.ctx[c].txstat < 3) : let t := frameAgain c q
    SameCore q t ∧ F.CTX_TXSTAT.TRIES.get t.ctx[c].txstat = F.CTX_TXSTAT.TRIES.get q.ctx[c].txstat + 1 ∧
      t.result c = q.result c ∧ t.phw.onWire[c] = true ∧ t.phw.txReady[c] = true ∧ t.slotRuns 0 = false ∧
      F.CTX_ID.TX_ID.get t.ctx[c].id = F.CTX_ID.TX_ID.get q.ctx[c].id ∧ t.pol = q.pol := by
  have hctx : (frameAgain c q).ctx[c] = { q.ctx[c] with
      txstat := F.CTX_TXSTAT.TRIES.put (F.CTX_TXSTAT.TRIES.get q.ctx[c].txstat + 1) q.ctx[c].txstat } := vset_self _ _ c
  refine ⟨⟨rfl, rfl, rfl⟩, ?_, ?_, hwire, vset_self _ _ c, slotRuns_stopSlot_self _ 0, ?_, rfl⟩
  · rw [hctx]
    refine (get_put _ (by decide) _ _).trans (Nat.mod_eq_of_lt ?_)
    simp only [F.CTX_TXSTAT.TRIES] at htries ⊢
    omega
  · rw [Port.result, hctx]
    exact get_put_apart _ _ (by decide) _ _
  · rw [hctx]

/-! ## tSinkTx (04 R92) -/

/-- The first message of the AMS of one context may go. -/
def mayGoNow (c : Fin 3) (q : Port) : Port :=
  if q.result c == 1 then
    { q.modCtx c (fun r => { r with txstat := F.CTX_TXSTAT.RESULT.put 2 r.txstat }) with
      phw.txReady := q.phw.txReady.set c true }
  else q

theorem sinkTxPassed_eq (h : q.slotRuns 1 = true) :
    sinkTxPassed q = mayGoNow 2 (mayGoNow 1 (mayGoNow 0 (stopSlot 1 q))) := if_pos h

theorem mayGoNow_eq (c : Fin 3) (q : Port) :
    ∃ ctx ready, mayGoNow c q = { q with ctx := ctx, phw.txReady := ready } := by
  unfold mayGoNow
  split
  · exact ⟨_, _, rfl⟩
  · exact ⟨_, _, rfl⟩

/-- Whether a context waited for tSinkTx, and what the end of the wait leaves of it. -/
def WentOn (c : Fin 3) (q t : Port) : Prop :=
  if q.result c = 1 then t.result c = 2 ∧ t.phw.txReady[c] = true
  else t.ctx[c] = q.ctx[c] ∧ t.phw.txReady[c] = q.phw.txReady[c]

theorem mayGoNow_self (q : Port) : WentOn c q (mayGoNow c q) := by
  unfold WentOn mayGoNow
  by_cases h : q.result c = 1
  · rw [if_pos h, if_pos (by rw [h]; rfl)]
    refine ⟨?_, vset_self _ _ c⟩
    have hctx := modCtx_self q (c := c) fun r => { r with txstat := F.CTX_TXSTAT.RESULT.put 2 r.txstat }
    exact (congrArg (fun r : CtxRegs => F.CTX_TXSTAT.RESULT.get r.txstat) hctx).trans (get_put _ (by decide) _ _)
  · rw [if_neg h, if_neg (by simpa using h)]
    exact ⟨rfl, rfl⟩

theorem mayGoNow_ne {c d : Fin 3} (h : d ≠ c) (q : Port) :
    (mayGoNow c q).ctx[d] = q.ctx[d] ∧ (mayGoNow c q).phw.txReady[d] = q.phw.txReady[d] := by
  unfold mayGoNow
  split
  · exact ⟨modCtx_ne q (fun r => { r with txstat := F.CTX_TXSTAT.RESULT.put 2 r.txstat }) h, vset_ne _ _ h⟩
  · exact ⟨rfl, rfl⟩

theorem WentOn.congr {q' t' : Port} (h : WentOn c q t) (hq : q'.ctx[c] = q.ctx[c] ∧ q'.phw.txReady[c] = q.phw.txReady[c])
    (ht : t'.ctx[c] = t.ctx[c] ∧ t'.phw.txReady[c] = t.phw.txReady[c]) : WentOn c q' t' := by
  unfold WentOn Port.result at *
  rw [hq.1, hq.2, ht.1, ht.2]
  exact h

theorem sinkTxPassed_wentOn (h : q.slotRuns 1 = true) (c : Fin 3) : WentOn c q (sinkTxPassed q) := by
  rw [sinkTxPassed_eq h]
  have hkeep : ∀ {d : Fin 3} (t : Port), c ≠ d → (mayGoNow d t).ctx[c] = t.ctx[c] ∧
      (mayGoNow d t).phw.txReady[c] = t.phw.txReady[c] := fun t hd => mayGoNow_ne hd t
  have hthen : ∀ {d : Fin 3} {t u : Port}, c ≠ d → WentOn c t u → WentOn c t (mayGoNow d u) :=
    fun hd hw => hw.congr c ⟨rfl, rfl⟩ (hkeep _ hd)
  have hfirst : ∀ {d : Fin 3} {t u : Port}, c ≠ d → WentOn c (mayGoNow d t) u → WentOn c t u :=
    fun hd hw => hw.congr c ⟨(hkeep _ hd).1.symm, (hkeep _ hd).2.symm⟩ ⟨rfl, rfl⟩
  have hstop : ∀ {u : Port}, WentOn c (stopSlot 1 q) u → WentOn c q u := fun hw => hw
  refine hstop ?_
  fin_cases c
  · exact hthen (by decide) (hthen (by decide) (mayGoNow_self 0 _))
  · exact hthen (by decide) (hfirst (by decide) (mayGoNow_self 1 _))
  · exact hfirst (by decide) (hfirst (by decide) (mayGoNow_self 2 _))

theorem sinkTxPassed_keeps (h : q.slotRuns 1 = true) :
    SameCore q (sinkTxPassed q) ∧ (sinkTxPassed q).slotRuns 1 = false ∧ (sinkTxPassed q).pol = q.pol := by
  obtain ⟨ctx, ready, h0⟩ := mayGoNow_eq 0 (stopSlot 1 q)
  obtain ⟨ctx1, ready1, h1⟩ := mayGoNow_eq 1 (mayGoNow 0 (stopSlot 1 q))
  obtain ⟨ctx2, ready2, h2⟩ := mayGoNow_eq 2 (mayGoNow 1 (mayGoNow 0 (stopSlot 1 q)))
  rw [sinkTxPassed_eq h, h2, h1, h0]
  exact ⟨⟨rfl, rfl, rfl⟩, slotRuns_stopSlot_self q 1, rfl⟩

/-! ## Writes of PD_TMRSTART and PD_TMRSTOP (04 R122) -/

theorem startSlots_runs (l : List (Fin 26)) (q : Port) (k : Fin 26) :
    let t := l.foldl (fun q i => startSlot now i q) q
    (t.slotRuns k = (q.slotRuns k || decide (k ∈ l))) ∧
      t.phw.tmrStart[k] = if k ∈ l then now else q.phw.tmrStart[k] := by
  induction l generalizing q with
  | nil => simp
  | cons i l ih =>
    obtain ⟨hrun, hstart⟩ := ih (startSlot now i q)
    rw [slotRuns_startSlot] at hrun
    have hset : (startSlot now i q).phw.tmrStart[k] = if k = i then now else q.phw.tmrStart[k] := by
      split
      · next h =>
        subst h
        exact vset_self _ _ k
      · next h => exact vset_ne _ _ h
    rw [hset] at hstart
    refine ⟨hrun.trans ?_, hstart.trans ?_⟩
    · simp [Bool.or_assoc]
    · by_cases hl : k ∈ l <;> by_cases hi : k = i <;> simp [hl, hi]

theorem startSlots_keeps (l : List (Fin 26)) (q : Port) : let t := l.foldl (fun q i => startSlot now i q) q
    SameCore q t ∧ t.pol = q.pol ∧ t.ctx = q.ctx := by
  induction l generalizing q with
  | nil => exact ⟨⟨rfl, rfl, rfl⟩, rfl, rfl⟩
  | cons i l ih => exact ih (startSlot now i q)

theorem stopSlots_runs (l : List (Fin 26)) (q : Port) : let t := l.foldl (fun q i => stopSlot i q) q
    SameCore q t ∧ t.pol = q.pol ∧ t.ctx = q.ctx ∧ t.phw = q.phw ∧
      ∀ k : Fin 26, t.slotRuns k = (q.slotRuns k && !decide (k ∈ l)) := by
  induction l generalizing q with
  | nil => exact ⟨⟨rfl, rfl, rfl⟩, rfl, rfl, rfl, by simp⟩
  | cons i l ih =>
    obtain ⟨hcore, hpol, hctx, hphw, hrun⟩ := ih (stopSlot i q)
    refine ⟨hcore, hpol, hctx, hphw, fun k => (hrun k).trans ?_⟩
    rw [slotRuns_stopSlot]
    simp [Bool.and_assoc]

theorem mem_slotBits (v : Word) (k : Fin 26) : k ∈ slotBits v ↔ 6 ≤ k.val ∧ bitOf v k.val = true := by
  simp [slotBits]

end

end Sys2Proof.Machine

/-! SUPPORT. Rows of the policy that begin with a message of the partner (04 R85, R86, R111, R121): a context that is off
takes no message, in EPR mode one on SOP restarts slot 20, and the step waits or is done. -/

namespace Sys2Proof.Machine
open Sys2Proof

section
variable {p : PortId} {s : State} {c : Fin 3} {i : Instr} {f : State → State}

theorem atMsg_deaf (h : s.ports[p].hears c = false) : atMsg p c i f s = s :=
  if_neg (by rw [h]; exact Bool.false_ne_true)

theorem atMsg_hears (h : s.ports[p].hears c = true) :
    atMsg p c i f s = atPd p i f (modPort p (eprHeard s.time c) s) := by
  refine (if_pos h).trans ?_
  dsimp only
  congr 1
  unfold eprHeard
  by_cases he : (c = 0 && F.PD_PHYCFG.EPR.on s.ports[p].pd.phycfg) = true
  · rw [if_pos he]
    exact modPort_congr (if_pos he).symm
  · rw [if_neg he]
    exact (modPort_eq_self (if_neg he)).symm

theorem eprHeard_pol (now : Nat) (c : Fin 3) (q : Port) : (eprHeard now c q).pol = q.pol := by
  obtain ⟨run, st, per, h⟩ := eprHeard_eq now c q
  rw [h]

theorem eprHeard_tmrStart (now : Nat) {c : Fin 3} {q : Port} (hc : c = 0) (he : F.PD_PHYCFG.EPR.on q.pd.phycfg = true) :
    (eprHeard now c q).phw.tmrStart[(20 : Fin 26)] = now := by
  rw [eprHeard_restarts now hc he]
  exact vset_self _ _ (20 : Fin 26)

/-- What a port keeps when it has heard a message. -/
theorem eprHeard_keeps (now : Nat) (c : Fin 3) (q : Port) : SamePower q (eprHeard now c q) ∧
    (eprHeard now c q).pol = q.pol ∧ (eprHeard now c q).ctx = q.ctx ∧
    (eprHeard now c q).pd.phycfg = q.pd.phycfg ∧ (eprHeard now c q).pd.evt = q.pd.evt ∧
    (eprHeard now c q).phw.ams = q.phw.ams := by
  obtain ⟨run, st, per, h⟩ := eprHeard_eq now c q
  rw [h]
  exact ⟨⟨rfl, rfl, rfl, rfl⟩, rfl, rfl, rfl, rfl, rfl⟩

/-- A message that the policy's step waits with. -/
theorem msgWaits_moves {R : Port → Prop} (hx : exec i s = .next (atMsg p c i f s)) (h : s.ports[p].hears c = true)
    (ha : ¬Acts s p) (hR : R ((eprHeard s.time c s.ports[p]).waiting i)) : MovesPort i s p R := by
  rw [atMsg_hears h] at hx
  exact movesPort_waits hx (eprHeard_pol _ _ _) ha hR

/-- A message that the policy acts on, changing the port as `g` says. -/
theorem msgActs_moves {g : Port → Port} {R : Port → Prop} (hx : exec i s = .next (atMsg p c i f s))
    (h : s.ports[p].hears c = true) (ha : Acts s p) (hw : noWaits s p)
    (hf : f (modPort p (eprHeard s.time c) s) = modPort p g (modPort p (eprHeard s.time c) s))
    (hset : (g (eprHeard s.time c s.ports[p])).settled) (hR : R (g (eprHeard s.time c s.ports[p]))) :
    MovesPort i s p R := by
  rw [atMsg_hears h] at hx
  exact movesPort_acts hx (eprHeard_pol _ _ _) ha hw hf hset hR

end

/-! ## EPR_KeepAlive (04 R111) -/

section
variable {p : PortId} {s : State}

/-- The engine's answer to EPR_KeepAlive. -/
def kaAnswered (q : Port) : Port := sent 0 (keepaliveAck (spoke q)) .reply (spoke q)

theorem clear_spoke {c : Fin 3} {q : Port} (h : q.clear c) : (spoke q).clear c := by
  obtain ⟨hphy, htxq, hon, hor⟩ := h
  exact ⟨hphy, htxq, hon, by rwa [spoke_orient]⟩

theorem clear_eprHeard {c d : Fin 3} {q : Port} (now : Nat) (h : q.clear c) : (eprHeard now d q).clear c := by
  obtain ⟨run, st, per, e⟩ := eprHeard_eq now d q
  rw [e]
  exact h

theorem polKeepalive_eq (h : s.ports[p].clear 0) : polKeepalive p s = modPort p kaAnswered s := by
  rw [polKeepalive, heard_eq (.inr rfl),
    engineSend_eq (by rw [modPort_port]; exact clear_spoke h) rfl rfl, modPort_modPort]
  rfl

theorem keepalive_auto (ha : autoAnswers s p = true) (hh : s.ports[p].hears 0 = true) :
    exec (.eprKeepalive p) s = .next (modPort p (fun q => autoAck (startSlot s.time 20 q)) s) :=
  congrArg Host.Outcome.next (if_pos (by rw [ha, hh]; rfl))

theorem keepalive_policy (h : autoAnswers s p = false ∨ s.ports[p].hears 0 = false) :
    exec (.eprKeepalive p) s = .next (atMsg p 0 (.eprKeepalive p) (polKeepalive p) s) := by
  refine congrArg Host.Outcome.next (if_neg ?_)
  rcases h with h | h <;> rw [h] <;> simp

theorem kaAnswered_keeps {q : Port} (hnopd : F.PRT_STATE.NOPD.on q.core.state = false) :
    SamePower q (kaAnswered q) ∧ Port.sends 0 (keepaliveAck q) .reply (kaAnswered q) ∧
      (kaAnswered q).phw.tmrStart = q.phw.tmrStart ∧ (kaAnswered q).slotRuns 20 = q.slotRuns 20 := by
  have hmsg : keepaliveAck (spoke q) = keepaliveAck q := SameVoice.extMsg (q := q) (t := spoke q) ⟨rfl, rfl⟩ 16 [4, 0]
  refine ⟨⟨spoke_core hnopd, rfl, rfl, rfl⟩, ?_, rfl, spoke_slotRuns (by decide) q⟩
  unfold kaAnswered
  rw [hmsg]
  exact sent_sends _ _

end

end Sys2Proof.Machine

/-! O52, settled: transmissions, the line idle, the signals and the slots written (04 R85 to R100, R111, R121). -/

namespace Sys2Proof.Machine
open Sys2Proof

section
variable {p : PortId} {s : State} {c : Fin 3}

/-! ## SEND -/

theorem ctxTxcmdSend_eq (hup : hwUp s = true) (buf : Fin 2) (ams : Bool) :
    exec (.ctxTxcmdSend p c buf ams) s = .next (modPort p (sendCmd s.time c buf ams) s) :=
  congrArg Host.Outcome.next (if_pos hup)

theorem send_refused (hup : hwUp s = true) (buf : Fin 2) (ams : Bool) (h : s.ports[p].refuses c) :
    MovesPort (.ctxTxcmdSend p c buf ams) s p fun t => SameCore s.ports[p] t ∧ t.pd = s.ports[p].pd ∧
      t.phw = s.ports[p].phw ∧ t.pol = s.ports[p].pol ∧ F.CTX_TXSTAT.OVR.on t.ctx[c].txstat = true ∧
      t.result c = s.ports[p].result c := by
  refine movesPort_of_modPort (ctxTxcmdSend_eq hup buf ams) ?_
  rw [sendCmd_refused _ _ _ _ h]
  have hctx := modCtx_self s.ports[p] (c := c) fun r => { r with txstat := F.CTX_TXSTAT.OVR.set r.txstat }
  refine ⟨⟨rfl, rfl, rfl⟩, rfl, rfl, rfl, ?_, ?_⟩
  · rw [hctx]
    exact on_set _ (by decide) (by decide) _
  · rw [Port.result, hctx]
    exact get_set_apart _ _ (by decide) _

theorem send_begins (hup : hwUp s = true) (buf : Fin 2) (ams : Bool) (h : ¬s.ports[p].refuses c) :
    let waits := s.ports[p].amsWaits ams
    MovesPort (.ctxTxcmdSend p c buf ams) s p fun t => Begun c buf waits s.ports[p] t ∧
      (waits = false → t.pd = s.ports[p].pd ∧ t.cc = s.ports[p].cc ∧ t.phw.ams = s.ports[p].phw.ams) ∧
      (ams = true → s.ports[p].isSource = true →
        t.slotRuns 1 = true ∧ t.phw.ams = true ∧ F.CC_CTL.RP_LVL.get t.cc.ctl = 1) ∧
      (waits = true → s.ports[p].isSource = false → t.slotRuns 6 = true ∧ t.cc = s.ports[p].cc) := by
  intro waits
  refine movesPort_of_modPort (ctxTxcmdSend_eq hup buf ams) ?_
  rw [sendCmd_begins _ _ _ _ h]
  have hb := begun_begun c buf ams waits s.ports[p]
  by_cases hwaits : waits = true
  · rw [if_neg (by rw [show s.ports[p].amsWaits ams = true from hwaits]; decide)]
    by_cases hsrc : s.ports[p].isSource = true
    · rw [if_pos hsrc]
      have hrp := writeCcCtl_rp 1 { begun c buf ams waits s.ports[p] with phw.ams := true }
      obtain ⟨cfg, stat, e⟩ := setRp_source (q := { begun c buf ams waits s.ports[p] with phw.ams := true }) 1 hsrc
      rw [e] at hrp ⊢
      exact ⟨⟨hb.core, hb.pol, hb.txSel, hb.onWire, hb.tries, hb.txId, hb.result, hb.txReady⟩,
        fun h => absurd (h.symm.trans hwaits) (by decide), fun _ _ => ⟨slotRuns_startSlot_self _ 1 _, rfl, hrp⟩,
        fun _ h => absurd (h.symm.trans hsrc) (by decide)⟩
    · rw [if_neg hsrc]
      exact ⟨⟨hb.core, hb.pol, hb.txSel, hb.onWire, hb.tries, hb.txId, hb.result, hb.txReady⟩,
        fun h => absurd (h.symm.trans hwaits) (by decide), fun _ h => absurd h hsrc,
        fun _ _ => ⟨slotRuns_startSlot_self _ 6 _, rfl⟩⟩
  · have hoff : s.ports[p].amsWaits ams = false := (Bool.not_eq_true _).mp hwaits
    rw [if_pos (by rw [hoff]; decide)]
    refine ⟨hb, fun _ => ⟨rfl, rfl, rfl⟩, fun hams hsrc => ?_, fun h => absurd h hwaits⟩
    rw [Port.amsWaits, hams, hsrc, Bool.true_and, Bool.true_or] at hoff
    exact Bool.noConfusion hoff

/-! ## The line idle -/

theorem lineIdle_off (h : s.ports[p].orient = 0 ∨ s.ports[p].phw.bistCarrier = true) :
    exec (.lineIdleTransmit p) s = .next s := by
  refine congrArg Host.Outcome.next (if_pos ?_)
  rcases h with h | h <;> rw [h] <;> simp

theorem lineIdle_on (hor : s.ports[p].orient ≠ 0) (hcar : s.ports[p].phw.bistCarrier = false) :
    exec (.lineIdleTransmit p) s = .next
      (if s.ports[p].phw.hrWait then
        atPd p (.pdSignalHardReset p) (polHardSent p true) (modPort p (hardSentHw s.time) s)
      else if s.ports[p].phw.crWait then
        atPd p (.pdSignalCableReset p) (polCableSent p) (modPort p (cableSentHw s.time) s)
      else if s.ports[p].slotRuns 0 then s
      else match s.ports[p].phw.hwq.head? with
        | some m => modPort p (sendHw s.time m) s
        | none => match readyCtx s.ports[p] with
          | some c => modPort p (putOnWire s.time c) s
          | none => s) :=
  congrArg Host.Outcome.next (if_neg (by simp [hor, hcar, -Fin.getElem_fin]))

/-- With no ordered set waiting and no CRCReceiveTimer running, what waits goes out. -/
theorem lineIdle_frames (hor : s.ports[p].orient ≠ 0) (hcar : s.ports[p].phw.bistCarrier = false)
    (hsets : ¬(s.ports[p].phw.hrWait = true ∨ s.ports[p].phw.crWait = true)) :
    exec (.lineIdleTransmit p) s = .next
      (if s.ports[p].slotRuns 0 then s
      else match s.ports[p].phw.hwq.head? with
        | some m => modPort p (sendHw s.time m) s
        | none => match readyCtx s.ports[p] with
          | some c => modPort p (putOnWire s.time c) s
          | none => s) := by
  obtain ⟨hhr, hcr⟩ := not_or.mp hsets
  rw [lineIdle_on hor hcar, if_neg hhr, if_neg hcr]

/-! ## GoodCRC -/

/-- A transmission that ends with TX_ID advanced, as the engine's step waits or sees nothing of its own. -/
theorem ends_keptOr {i j : Instr} {f : Port → Port} {result : Nat}
    (hx : exec i s = .next (afterTx p c j s.ports[p] (modPort p f s))) (hij : j = i)
    (hf : ∃ q : Port, f s.ports[p] = finishTx c result true q ∧ SameCore s.ports[p] q ∧ q.pol = s.ports[p].pol ∧
      q.ctx = s.ports[p].ctx) (hr : 2 < result) (hr' : result < 16) (hphy : s.ports[p].holdsPhy c = true) :
    let R (t : Port) : Prop := t.ended c result ∧
      F.CTX_ID.TX_ID.get t.ctx[c].id = (F.CTX_ID.TX_ID.get s.ports[p].ctx[c].id + 1) % 8 ∧ t.slotRuns 0 = false
    (¬Acts s p → MovesPort i s p fun t => SameCore s.ports[p] t ∧ R t ∧ Port.keeps i s.ports[p] t) ∧
    (Acts s p ∧ s.ports[p].pol.txNow[c] = none ∧ s.ports[p].idle ∧ noWaits s p →
      MovesPort i s p fun t => SameCore s.ports[p] t ∧ R t ∧ t.pol = s.ports[p].pol) := by
  intro R
  subst hij
  obtain ⟨q, hfq, hqcore, hqpol, hqctx⟩ := hf
  obtain ⟨hcore, hend, hid, hslot, hpol⟩ := finishTx_advances c hr' q
  rw [hqctx] at hid
  have hall : SameCore s.ports[p] (f s.ports[p]) ∧ R (f s.ports[p]) ∧ (f s.ports[p]).pol = s.ports[p].pol := by
    rw [hfq]
    exact ⟨⟨hcore.1.trans hqcore.1, hcore.2.1.trans hqcore.2.1, hcore.2.2.trans hqcore.2.2⟩, ⟨hend, hid, hslot⟩,
      hpol.trans hqpol⟩
  have hfree : (f s.ports[p]).holdsPhy c = false := holdsPhy_of_ended c result hall.2.1.1 hr
  refine ⟨fun ha => ?_, fun ⟨ha, htx, hidle, hw⟩ => ?_⟩
  · refine endsTx_waits hx hall.2.2 hphy hfree ha ?_
    generalize f s.ports[p] = t at hall
    exact ⟨hall.1, hall.2.1, keeps_waiting _ hall.2.2⟩
  · exact endsTx_unseen hx hall.2.2 hphy hfree ha htx hidle hw hall

/-! ## The signals, the AMS and the slots written (04 R92, R98 to R100, R121, R122) -/

theorem signalHard_moves (hup : hwUp s = true) : MovesPort (.pdSignalHardReset p) s p fun t => SameCore s.ports[p] t ∧
    t.phw.hrWait = true ∧ t.slotRuns 4 = true ∧ t.pol = s.ports[p].pol ∧ t.ctx = s.ports[p].ctx := by
  refine movesPort_of_modPort (f := fun q => startSlot s.time 4 { q with phw.hrWait := true })
    (congrArg Host.Outcome.next (if_pos hup)) ⟨⟨rfl, rfl, rfl⟩, rfl, ?_, rfl, rfl⟩
  exact slotRuns_startSlot_self _ 4 _

theorem signalCable_moves (hup : hwUp s = true) (hv : s.ports[p].vconnOn = true) (hd : s.ports[p].isDfp = true) :
    MovesPort (.pdSignalCableReset p) s p fun t => t = { s.ports[p] with phw.crWait := true } :=
  movesPort_of_modPort (f := signalCableReset) (congrArg Host.Outcome.next (if_pos hup))
    (if_pos (by rw [hv, hd]; rfl))

theorem signalCable_refused (hup : hwUp s = true) (h : s.ports[p].vconnOn = false ∨ s.ports[p].isDfp = false) :
    exec (.pdSignalCableReset p) s = .next s := by
  refine exec_same_of_modPort (f := signalCableReset) (congrArg Host.Outcome.next (if_pos hup)) (if_neg ?_)
  rcases h with h | h <;> rw [h] <;> simp

/-- The BIST carrier a user asks for. -/
def carrierAsked (now : Nat) (q : Port) : Port := if q.pol.testUse then startCarrier now q else q

theorem signalCarrier_moves (hup : hwUp s = true) (ht : s.ports[p].pol.testUse = true) (hor : s.ports[p].orient ≠ 0) :
    MovesPort (.pdSignalBistCm p) s p fun t => SameCore s.ports[p] t ∧ t.phw.bistCarrier = true ∧
      t.slotRuns 5 = true ∧ t.pol = s.ports[p].pol := by
  refine movesPort_of_modPort (f := carrierAsked s.time) (congrArg Host.Outcome.next (if_pos hup)) ?_
  rw [carrierAsked, if_pos ht, startCarrier, if_neg hor]
  exact ⟨⟨rfl, rfl, rfl⟩, rfl, slotRuns_startSlot_self _ 5 _, rfl⟩

theorem signalCarrier_refused (hup : hwUp s = true) (h : s.ports[p].pol.testUse = false ∨ s.ports[p].orient = 0) :
    exec (.pdSignalBistCm p) s = .next s := by
  refine exec_same_of_modPort (f := carrierAsked s.time) (congrArg Host.Outcome.next (if_pos hup)) ?_
  unfold carrierAsked
  rcases h with h | h
  · rw [h]
    rfl
  · rw [startCarrier, if_pos h, ite_self]

theorem amsEnd_source (hup : hwUp s = true) (h : s.ports[p].isSource = true) :
    MovesPort (.amsEnd p) s p fun t => SameCore s.ports[p] t ∧ F.CC_CTL.RP_LVL.get t.cc.ctl = 2 ∧
      t.phw.ams = false ∧ t.pol = s.ports[p].pol ∧ t.ctx = s.ports[p].ctx := by
  refine movesPort_of_modPort (f := amsEnd) (congrArg Host.Outcome.next (if_pos hup)) ?_
  have hrp := writeCcCtl_rp 2 { s.ports[p] with phw.ams := false }
  obtain ⟨cfg, stat, e⟩ := setRp_source (q := { s.ports[p] with phw.ams := false }) 2 h
  have hend : amsEnd s.ports[p] = setRp 2 { s.ports[p] with phw.ams := false } := if_pos h
  rw [hend]
  rw [e] at hrp ⊢
  exact ⟨⟨rfl, rfl, rfl⟩, hrp, rfl, rfl, rfl⟩

theorem amsEnd_sink (hup : hwUp s = true) (h : s.ports[p].isSource = false) :
    MovesPort (.amsEnd p) s p fun t => t = { s.ports[p] with phw.ams := false } :=
  movesPort_of_modPort (f := amsEnd) (congrArg Host.Outcome.next (if_pos hup))
    (if_neg (by rw [show Port.isSource { s.ports[p] with phw.ams := false } = s.ports[p].isSource from rfl, h]; decide))

theorem decide_mem_slotBits (v : Word) (k : Fin 26) :
    decide (k ∈ slotBits v) = (decide (6 ≤ k.val) && bitOf v k.val) := by
  rw [Bool.eq_iff_iff, decide_eq_true_iff, mem_slotBits, Bool.and_eq_true, decide_eq_true_iff]

theorem tmrstart_moves (hup : hwUp s = true) (v : Word) : MovesPort (.pdTmrstartWrite p v) s p fun t =>
    SameCore s.ports[p] t ∧ t.pol = s.ports[p].pol ∧ t.ctx = s.ports[p].ctx ∧ ∀ k : Fin 26,
      t.slotRuns k = (s.ports[p].slotRuns k || (decide (6 ≤ k.val) && bitOf v k.val)) ∧
      t.phw.tmrStart[k] = if 6 ≤ k.val ∧ bitOf v k.val = true then s.time else s.ports[p].phw.tmrStart[k] := by
  refine movesPort_of_modPort (f := fun q => (slotBits v).foldl (fun q i => startSlot s.time i q) q)
    (congrArg Host.Outcome.next (if_pos hup)) ?_
  obtain ⟨hcore, hpol, hctx⟩ := startSlots_keeps (now := s.time) (slotBits v) s.ports[p]
  refine ⟨hcore, hpol, hctx, fun k => ?_⟩
  obtain ⟨hrun, hstart⟩ := startSlots_runs (now := s.time) (slotBits v) s.ports[p] k
  rw [decide_mem_slotBits] at hrun
  refine ⟨hrun, hstart.trans ?_⟩
  simp only [mem_slotBits]

theorem tmrstop_moves (hup : hwUp s = true) (v : Word) : MovesPort (.pdTmrstopWrite p v) s p fun t =>
    SameCore s.ports[p] t ∧ t.pol = s.ports[p].pol ∧ t.ctx = s.ports[p].ctx ∧ t.phw = s.ports[p].phw ∧ ∀ k : Fin 26,
      t.slotRuns k = (s.ports[p].slotRuns k && !(decide (6 ≤ k.val) && bitOf v k.val)) := by
  refine movesPort_of_modPort (f := fun q => (slotBits v).foldl (fun q i => stopSlot i q) q)
    (congrArg Host.Outcome.next (if_pos hup)) ?_
  obtain ⟨hcore, hpol, hctx, hphw, hrun⟩ := stopSlots_runs (slotBits v) s.ports[p]
  refine ⟨hcore, hpol, hctx, hphw, fun k => (hrun k).trans ?_⟩
  rw [decide_mem_slotBits]

/-! ## tHardResetComplete (04 R100) -/

/-- The Hard Reset that waited for the line, given up. -/
def hardGivenUp (q : Port) : Port :=
  stopSlot 4 { q with phw.hrWait := false, pd.sigstat := F.PD_SIGSTAT.HR_FAIL.set q.pd.sigstat }

/-- What a port shows of the Hard Reset that was given up. -/
abbrev Port.givenUp (t : Port) : Prop :=
  t.phw.hrWait = false ∧ F.PD_SIGSTAT.HR_FAIL.on t.pd.sigstat = true ∧ t.slotRuns 4 = false

theorem hardGivenUp_givenUp (q : Port) : (hardGivenUp q).givenUp :=
  ⟨rfl, on_set _ (by decide) (by decide) _, slotRuns_stopSlot_self _ 4⟩

theorem hardComplete_expires (hwait : s.ports[p].phw.hrWait = true) (hslot : s.ports[p].slotRuns 4 = true) :
    exec (.thardResetCompleteExpiry p) s = .next (atPd p (.thardResetCompleteExpiry p) (polHardSent p false)
      (modPort p hardGivenUp s)) :=
  congrArg Host.Outcome.next (if_pos (by rw [hwait, hslot]; rfl))

theorem hardComplete_waits (hwait : s.ports[p].phw.hrWait = true) (hslot : s.ports[p].slotRuns 4 = true)
    (ha : ¬Acts s p) : MovesPort (.thardResetCompleteExpiry p) s p fun t => SameCore s.ports[p] t ∧ t.givenUp ∧
      t.ctx = s.ports[p].ctx ∧ Port.keeps (.thardResetCompleteExpiry p) s.ports[p] t := by
  refine movesPort_waits (hardComplete_expires hwait hslot) rfl ha ?_
  have h := hardGivenUp_givenUp s.ports[p]
  have hkeep : SameCore s.ports[p] (hardGivenUp s.ports[p]) ∧ (hardGivenUp s.ports[p]).ctx = s.ports[p].ctx ∧
      (hardGivenUp s.ports[p]).pol = s.ports[p].pol := ⟨⟨rfl, rfl, rfl⟩, rfl, rfl⟩
  generalize hardGivenUp s.ports[p] = t at *
  obtain ⟨hcore, hctx, hpol⟩ := hkeep
  exact ⟨hcore, h, hctx, keeps_waiting _ hpol⟩

/-- The engine's Hard Reset counted toward its limit. -/
def hardCounted (q : Port) : Port := { q with pol.hrCount := q.pol.hrCount + 1 }

theorem hardComplete_acts (hwait : s.ports[p].phw.hrWait = true) (hslot : s.ports[p].slotRuns 4 = true)
    (ha : Acts s p) (hw : noWaits s p) (hatt : s.ports[p].attached = true) (hsrc : s.ports[p].isSource = true)
    (hswap : s.ports[p].pol.swap = none) : Moves (.thardResetCompleteExpiry p) s fun t => t.ports[p].givenUp ∧
      t.ports[p].pol.hr = .psHardReset ∧ t.ports[p].slotRuns 9 = true ∧ t.ports[p].slotRuns 24 = true ∧
      t.ports[p].pol.contract = none ∧ ∀ r : PortId, r ≠ p → t.ports[r] = s.ports[r] := by
  have hx := hardComplete_expires hwait hslot
  rw [atPd_modPort_acts rfl ha] at hx
  let u := modPort p hardCounted (modPort p hardGivenUp s)
  have hport : u.ports[p] = hardCounted (hardGivenUp s.ports[p]) := by
    simp only [u, modPort_port]
  obtain ⟨hres, hnone, hother, hwaits⟩ := afterHardReset_port (s := u) (p := p) 2 hw
    (by rw [hport]; exact hatt) (by rw [hport]; exact hsrc) (by rw [hport]; exact hswap)
  have hsent : polHardSent p false (modPort p hardGivenUp s) =
      modPort p (startSlot (afterHardReset p 2 u).time 24) (afterHardReset p 2 u) :=
    endWait_none (noWaits_modPort _ hwaits) _ _ _
  rw [hsent] at hx
  obtain ⟨hfail0, hslot0⟩ := (hardGivenUp_givenUp s.ports[p]).2
  have hsig := hres.sigstat
  have hhr := hres.hrWait
  rw [hport] at hsig hhr
  have hnext : policyNext p (modPort p (startSlot (afterHardReset p 2 u).time 24) (afterHardReset p 2 u)) =
      modPort p (startSlot (afterHardReset p 2 u).time 24) (afterHardReset p 2 u) := by
    refine policyNext_eq_self (noWaits_modPort _ hwaits) ?_
    rw [modPort_port]
    exact ⟨hres.disc, .inl hres.txq⟩
  rw [hnext] at hx
  refine ⟨_, hx, ?_, ?_, ?_, ?_, ?_, fun r hr => ?_⟩
  · rw [modPort_port]
    exact ⟨hhr, (congrArg F.PD_SIGSTAT.HR_FAIL.on hsig).trans hfail0,
      (slotRuns_startSlot_ne _ _ (by decide)).trans hres.slot4⟩
  · rw [modPort_port]
    exact hres.hr
  · rw [modPort_port]
    exact (slotRuns_startSlot_ne _ _ (by decide)).trans hres.slot9
  · rw [modPort_port, slotRuns_startSlot_self]
  · rw [modPort_port]
    exact hnone
  · rw [modPort_other _ _ _ r hr, hother r hr, modPort_other _ _ _ r hr, modPort_other _ _ _ r hr]

/-! ## EPR_KeepAlive (04 R111) -/

/-- EPR_KeepAlive is for the hardware to answer. -/
abbrev KaAuto (s : State) (p : PortId) : Prop := F.PD_PHYCFG.EPR.on s.ports[p].pd.phycfg = true ∧
  F.CTX_CTL.KA_ACK.on s.ports[p].ctx[0].ctl = true ∧ portServed s p = false

theorem autoAnswers_iff : autoAnswers s p = true ↔ KaAuto s p := by
  simp [autoAnswers, KaAuto, and_assoc, -Fin.getElem_fin]

theorem keepalive_autoMoves (hh : s.ports[p].hears 0 = true) (h : KaAuto s p) :
    MovesPort (.eprKeepalive p) s p fun t => SameCore s.ports[p] t ∧ F.PD_EVT.KA_AUTO.on t.pd.evt = true ∧
      (t.slotRuns 20 = true ∧ t.phw.tmrStart[(20 : Fin 26)] = s.time) ∧ t.phw.hwq = s.ports[p].phw.hwq ++
        [{ ctx := 0, msg := extMsg s.ports[p] 0 16 [4, 0], tries := 0, wire := false }] ∧ t.pol = s.ports[p].pol := by
  refine movesPort_of_modPort (keepalive_auto (autoAnswers_iff.mpr h) hh) ⟨⟨rfl, rfl, rfl⟩, ?_, ⟨?_, ?_⟩, rfl, rfl⟩
  · exact on_set _ (by decide) (by decide) _
  · exact slotRuns_startSlot_self _ 20 s.time
  · exact vset_self _ _ (20 : Fin 26)

theorem keepalive_hears (h : ¬KaAuto s p) :
    exec (.eprKeepalive p) s = .next (atMsg p 0 (.eprKeepalive p) (polKeepalive p) s) :=
  keepalive_policy (.inl ((Bool.not_eq_true _).mp fun ha => h (autoAnswers_iff.mp ha)))

theorem eprHeard_restarted (h : F.PD_PHYCFG.EPR.on s.ports[p].pd.phycfg = true) :
    (eprHeard s.time 0 s.ports[p]).slotRuns 20 = true ∧
      (eprHeard s.time 0 s.ports[p]).phw.tmrStart[(20 : Fin 26)] = s.time :=
  ⟨eprHeard_slot20 _ rfl h, eprHeard_tmrStart _ rfl h⟩

theorem keepalive_waits (hh : s.ports[p].hears 0 = true) (hka : ¬KaAuto s p) (ha : ¬Acts s p) :
    MovesPort (.eprKeepalive p) s p fun t => SameCore s.ports[p] t ∧ t.pd.evt = s.ports[p].pd.evt ∧
      Port.keeps (.eprKeepalive p) s.ports[p] t ∧ (F.PD_PHYCFG.EPR.on s.ports[p].pd.phycfg = true →
        t.slotRuns 20 = true ∧ t.phw.tmrStart[(20 : Fin 26)] = s.time) := by
  refine msgWaits_moves (keepalive_hears hka) hh ha ?_
  obtain ⟨hpower, hpol, -, -, hevt, -⟩ := eprHeard_keeps s.time 0 s.ports[p]
  have hepr : _ → _ := eprHeard_restarted (s := s) (p := p)
  generalize eprHeard s.time 0 s.ports[p] = t at *
  obtain ⟨hcore, hpth, -, hcur⟩ := hpower
  exact ⟨⟨hcore, hpth, hcur⟩, hevt, keeps_waiting _ hpol, hepr⟩

theorem keepalive_acts (hh : s.ports[p].hears 0 = true) (ha : Acts s p) (hq : s.ports[p].quiet 0)
    (hnopd : F.PRT_STATE.NOPD.on s.ports[p].core.state = false) (hw : noWaits s p) :
    MovesPort (.eprKeepalive p) s p fun t => SameCore s.ports[p] t ∧ (F.PD_PHYCFG.EPR.on s.ports[p].pd.phycfg = true →
        t.slotRuns 20 = true ∧ t.phw.tmrStart[(20 : Fin 26)] = s.time) ∧
      Port.sends 0 (extMsg s.ports[p] 0 16 [4, 0]) .reply t := by
  have hserved : portServed s p = true := ha.1
  have hka : ¬KaAuto s p := fun h => Bool.noConfusion (h.2.2.symm.trans hserved)
  obtain ⟨hpower, hpol, hctx, hcfg, -, -⟩ := eprHeard_keeps s.time 0 s.ports[p]
  have hclear : (eprHeard s.time 0 s.ports[p]).clear 0 := clear_eprHeard _ (clear_of_quiet hq)
  have hepr : _ → _ := eprHeard_restarted (s := s) (p := p)
  have hmsg : keepaliveAck (eprHeard s.time 0 s.ports[p]) = keepaliveAck s.ports[p] :=
    SameVoice.extMsg (q := s.ports[p]) (t := eprHeard s.time 0 s.ports[p]) ⟨hcfg, by rw [hctx]⟩ 16 [4, 0]
  refine msgActs_moves (keepalive_hears hka) hh ha hw (polKeepalive_eq (by rw [modPort_port]; exact hclear)) ?_ ?_
  · exact sent_settled _ _ (by rw [spoke_pol, hpol]; exact hq.2.2.2.2.2.1)
  · obtain ⟨⟨hcore, hpth, -, hcur⟩, hsends, hstart, hslot⟩ :=
      kaAnswered_keeps (q := eprHeard s.time 0 s.ports[p]) (by rw [hpower.1]; exact hnopd)
    rw [hmsg] at hsends
    refine ⟨⟨hcore.trans hpower.1, hpth.trans hpower.2.1, hcur.trans hpower.2.2.2⟩, fun he => ?_, hsends⟩
    rw [hslot, hstart]
    exact hepr he

end

/-! ## The obligation -/

/-- Settles O52, event by event: SEND, the line idle, GoodCRC, CRCReceiveTimer, tSinkTx, the writes of signals and slots,
tHardResetComplete, tBISTContMode and EPR_KeepAlive. -/
theorem transmissionEndsWithAResult : Obligations.TransmissionEndsWithAResult := by
  intro p s q unseen power txId tries own keptOr
  refine ⟨fun c buf ams => ?_, lineIdle_off, fun hor hcar => ?_, fun c n => ?_, fun c => ?_, fun h => ?_, fun h => ?_,
    fun hup => ?_, fun hup => ?_, fun h => ?_, fun hwait hslot => ?_, fun h => ?_, fun h => ?_, ?_⟩
  · intro i refused waits
    refine ⟨fun hup => congrArg Host.Outcome.next (if_neg (by rw [hup]; decide)), fun hup h => send_refused hup buf ams h,
      fun hup h => (send_begins hup buf ams h).imp ?_⟩
    rintro t ⟨hb, h1, h2, h3⟩
    exact ⟨hb.core, hb.pol, hb.txSel, hb.onWire, hb.tries, hb.txId, hb.result, hb.txReady, h1, h2, h3⟩
  · intro sets
    refine ⟨fun hhr ha => ?_, fun hhr hcr ha => ?_, fun m hs hslot hm => ?_, fun c hs hslot hq hphy hready hother => ?_,
      fun hs h => ?_⟩
    · have hx := lineIdle_on hor hcar
      rw [if_pos hhr] at hx
      obtain ⟨hcore, h1, h2, h3, h4, h5, hpol⟩ := hardSentHw_sent s.time q
      refine movesPort_waits hx hpol ha ?_
      generalize hardSentHw s.time s.ports[p] = t at *
      exact ⟨hcore, h1, h2, h3, h4, h5, keeps_waiting _ hpol⟩
    · have hx := lineIdle_on hor hcar
      rw [if_neg (by rw [hhr]; decide), if_pos hcr] at hx
      obtain ⟨hcore, h1, h2, h3, h4, h5, h6, hpol⟩ := cableSentHw_sent s.time q
      refine movesPort_waits hx hpol ha ?_
      generalize cableSentHw s.time s.ports[p] = t at *
      exact ⟨hcore, h1, h2, h3, h4, h5, h6, keeps_waiting _ hpol⟩
    · have hx := lineIdle_frames hor hcar hs
      rw [if_neg (by rw [hslot]; decide), hm] at hx
      exact movesPort_of_modPort hx (sendHw_sends s.time m q)
    · have hx := lineIdle_frames hor hcar hs
      rw [if_neg (by rw [hslot]; decide), hq, List.head?_nil, readyCtx_eq c hphy hready hother] at hx
      exact movesPort_of_modPort hx (putOnWire_sends s.time c q)
    · rw [lineIdle_frames hor hcar hs]
      by_cases hslot : s.ports[p].slotRuns 0 = true
      · rw [if_pos hslot]
      · obtain ⟨hq, hnone⟩ := h.resolve_left hslot
        rw [if_neg hslot, hq, List.head?_nil, readyCtx_none hnone]
  · intro answered
    have hx : exec (.goodcrcReceived p c n) s = .next (afterTx p c (.goodcrcReceived p c n) s.ports[p]
      (modPort p (goodCrc s.time c n) s)) := rfl
    refine ⟨fun h => ?_, fun hown hid => ?_, fun ha hphy hmore => ?_, fun ha hphy hmore => ?_⟩
    · have hsame : goodCrc s.time c n s.ports[p] = s.ports[p] := goodCrc_other s.time c h
      rw [endsTx_none hx (by rw [hsame]; exact id), modPort_eq_self hsame]
    · have hend := ownEnded_ends c (busyLine s.time q)
      rw [← goodCrc_own s.time c hid hown] at hend
      obtain ⟨hcore, hpol, hhwq, htx, hslot, hres⟩ := hend
      refine movesPort_of_modPort (endsTx_none hx fun h => ?_) ⟨hcore, hpol, hhwq, htx, hslot, hres⟩
      rw [Port.holdsPhy, hres]
      exact h
    · obtain ⟨hwire, hid, hown⟩ := ha
      refine ends_keptOr hx rfl ⟨busyLine s.time q, ?_, ⟨rfl, rfl, rfl⟩, rfl, rfl⟩ (by decide) (by decide) hphy
      rw [goodCrc_frame s.time c hid hown hwire, if_neg (by rw [hmore]; decide)]
    · obtain ⟨hwire, hid, hown⟩ := ha
      have hend := chunkSent_sent s.time c (busyLine s.time q)
      have hform : goodCrc s.time c n q = chunkSent s.time c (busyLine s.time q) := by
        rw [goodCrc_frame s.time c hid hown hwire, if_pos hmore]
      rw [← hform] at hend
      refine movesPort_of_modPort (endsTx_none hx fun h => ?_) hend
      rw [Port.holdsPhy, hend.2.1]
      exact h
  · intro i most
    have hx : exec i s = .next (afterTx p c i s.ports[p] (modPort p (crcExpiry c) s)) := rfl
    have hmost : maxRetries q c = most := maxRetries_eq q c
    refine ⟨fun h => ?_, fun m hslot hown hm => ?_, fun hslot hown hwire hphy => ⟨fun hless => ?_, fun hlast => ?_⟩⟩
    · have hsame : crcExpiry c s.ports[p] = s.ports[p] := crcExpiry_none c h
      rw [endsTx_none hx (by rw [hsame]; exact id), modPort_eq_self hsame]
    · have hform := crcExpiry_own c hslot hown hm
      rw [hmost] at hform
      by_cases hless : m.tries < most
      · rw [if_pos hless] at hform
        refine movesPort_of_modPort (endsTx_none hx (by rw [hform]; exact id)) ?_
        rw [hform]
        exact ⟨⟨rfl, rfl, rfl⟩, rfl, slotRuns_stopSlot_self _ 0, rfl, fun _ => ⟨rfl, rfl⟩, fun h => by omega⟩
      · rw [if_neg hless] at hform
        obtain ⟨hcore, hpol, hhwq, htx, hslot0, hres⟩ := ownEnded_ends c s.ports[p]
        rw [← hform] at hcore hpol hhwq htx hslot0 hres
        refine movesPort_of_modPort (endsTx_none hx fun h => ?_)
          ⟨hcore, hpol, hslot0, hres, fun h => absurd h hless, fun _ => ⟨hhwq, htx⟩⟩
        rw [Port.holdsPhy, hres]
        exact h
    · have hform := crcExpiry_frame c hslot hown hwire
      rw [hmost, if_pos hless] at hform
      have h3 : tries q c < 3 := Nat.lt_of_lt_of_le hless (by simp only [most]; split <;> omega)
      have hend := frameAgain_waits c q hwire h3
      rw [← hform] at hend
      refine movesPort_of_modPort (endsTx_none hx fun h => ?_) hend
      rw [Port.holdsPhy, hend.2.2.1]
      exact h
    · have hform := crcExpiry_frame c hslot hown hwire
      rw [hmost, if_neg (Nat.not_lt.mpr hlast)] at hform
      obtain ⟨hwaits, hunseen⟩ := ends_keptOr hx rfl ⟨q, hform, ⟨rfl, rfl, rfl⟩, rfl, rfl⟩ (by decide) (by decide) hphy
      exact ⟨fun ha => (hwaits ha).imp fun t ⟨h1, h2, h3⟩ => ⟨h1, ⟨h2.1, h2.2.1⟩, h3⟩,
        fun hu => (hunseen hu).imp fun t ⟨h1, h2, h3⟩ => ⟨h1, ⟨h2.1, h2.2.1⟩, h3⟩⟩
  · exact exec_same_of_modPort (f := sinkTxPassed) rfl (if_neg (by rw [h]; decide))
  · obtain ⟨hcore, hslot, hpol⟩ := sinkTxPassed_keeps h
    exact movesPort_of_modPort (f := sinkTxPassed) rfl ⟨hcore, hslot, hpol, sinkTxPassed_wentOn h⟩
  · have hoff : ∀ t : State, (if hwUp s then t else s) = s := fun t => if_neg (by rw [hup]; decide)
    exact ⟨congrArg Host.Outcome.next (hoff _), congrArg Host.Outcome.next (hoff _), congrArg Host.Outcome.next (hoff _),
      congrArg Host.Outcome.next (hoff _), fun v => ⟨congrArg Host.Outcome.next (hoff _), congrArg Host.Outcome.next (hoff _)⟩⟩
  · exact ⟨signalHard_moves hup, signalCable_moves hup, signalCable_refused hup, signalCarrier_moves hup,
      signalCarrier_refused hup, amsEnd_source hup, amsEnd_sink hup, fun v => ⟨tmrstart_moves hup v, tmrstop_moves hup v⟩⟩
  · refine congrArg Host.Outcome.next (if_neg ?_)
    rw [Bool.and_eq_true]
    rintro ⟨h1, h2⟩
    rcases h with h | h
    · exact absurd (h.symm.trans h1) (by decide)
    · exact absurd (h.symm.trans h2) (by decide)
  · exact ⟨hardComplete_waits hwait hslot, hardComplete_acts hwait hslot⟩
  · exact exec_same_of_modPort (f := carrierEnds s.time) rfl (if_neg (by rw [h]; decide))
  · refine movesPort_of_modPort (f := carrierEnds s.time) rfl ?_
    rw [carrierEnds, if_pos h]
    exact ⟨⟨rfl, rfl, rfl⟩, rfl, on_set _ (by decide) (by decide) _, on_set _ (by decide) (by decide) _,
      slotRuns_stopSlot_self _ 5, rfl⟩
  · intro epr ka restarted
    refine ⟨fun h => ?_, fun hh => ⟨keepalive_autoMoves hh, keepalive_waits hh, keepalive_acts hh⟩⟩
    rw [keepalive_policy (.inr h), atMsg_deaf h]

end Sys2Proof.Machine

/-! O56, settled: the time-out of SWAP, the time-out of a Request's outcome and the millisecond step of a PPS contract
(04 R105, R108, R116, 05 R131). -/

namespace Sys2Proof.Machine
open Sys2Proof

/-! ## A step of the policy alone -/

section
variable {p : PortId} {s : State} {i : Instr} {f : State → State}

theorem step_waits (hx : exec i s = .next (atPd p i f s)) (ha : ¬Acts s p) :
    MovesPort i s p fun t => t = s.ports[p].waiting i := by
  rw [atPd_waits ha] at hx
  exact movesPort_of_modPort hx rfl

theorem step_same (hx : exec i s = .next (atPd p i f s)) (ha : Acts s p) (hw : noWaits s p) (hset : s.ports[p].settled)
    (hf : f s = s) : exec i s = .next s := by
  rw [hx, atPd_acts ha, hf, policyNext_eq_self hw hset]

theorem step_moves {g : Port → Port} {R : Port → Prop} (hx : exec i s = .next (atPd p i f s)) (ha : Acts s p)
    (hw : noWaits s p) (hf : f s = modPort p g s) (hset : (g s.ports[p]).settled) (hR : R (g s.ports[p])) :
    MovesPort i s p R := by
  rw [atPd_acts ha, hf, policyNext_eq_self (noWaits_modPort _ hw) (by rwa [modPort_port])] at hx
  exact movesPort_of_modPort hx hR

/-! ## The outcome of a Request (04 R105) -/

/-- A Request without an outcome, answered. -/
def outcomeMissed (q : Port) : Port :=
  let q := { q with pol.reqWait := false, pol.next := none }
  sent 0 (ctrlMsg q 0 (if revCode q.ctx[0] = 1 then 4 else 12)) .waitMsg q

theorem polOutcomeTimeout_none (h : s.ports[p].pol.reqWait = false) : polOutcomeTimeout p s = s :=
  if_neg (by rw [h]; decide)

theorem polOutcomeTimeout_waiting (h : s.ports[p].pol.reqWait = true) (hc : s.ports[p].clear 0) :
    polOutcomeTimeout p s = modPort p outcomeMissed s := by
  have hc' : (modPort p (fun q => { q with pol.reqWait := false, pol.next := none }) s).ports[p].clear 0 := by
    rw [modPort_port]
    exact hc
  rw [polOutcomeTimeout, if_pos h, sendCtrl]
  refine (engineSend_eq hc' rfl rfl _).trans ?_
  rw [modPort_modPort]
  rfl

/-! ## The PPS target (04 R108, 05 R131) -/

/-- An integer within a signed field's range is read back as it was written. -/
theorem getInt_putInt_code (v : Int) (hlo : -4096 ≤ v) (hhi : v ≤ 4095) (w : Word) :
    F.PTH_FBS.CODE.getInt (F.PTH_FBS.CODE.putInt v w) = v := by
  unfold Fld.getInt Fld.putInt
  rw [get_put _ (by decide)]
  simp only [F.PTH_FBS.CODE]
  norm_num
  split <;> omega

/-- The target of a millisecond's step, as 04 R108 says it. -/
theorem ppsTarget_eq (k : Contract) (curr t : Nat) : ppsTarget k curr t =
    if 10 * k.curr + 150 < curr then (if 165 < t then t - 1 else t)
    else if curr < 10 * k.curr + 150 ∧ t < k.volt then t + 1 else t := by
  unfold ppsTarget
  simp only [gt_iff_lt, Bool.and_eq_true, decide_eq_true_eq]

theorem fbsCode_eq (q : Port) (mv : Nat) : fbsCode q mv = min 4095 (max (-4096)
    (F.PTH_FBCAL.FB_OFS.getInt q.pth.fbcal + F.PTH_FBCAL.FB_GAIN.getInt q.pth.fbcal * mv / 16000)) := by
  unfold fbsCode clampInt
  omega

/-- The FBS target moved by the step. -/
def ppsMoved (t : Nat) (q : Port) : Port :=
  { (setFbs (20 * t) q) with
    pth.steep := F.PTH_STEEP.TARGET.put t q.pth.steep
    pth.ref := F.PTH_REF.REF.put t q.pth.ref }

theorem ppsMoved_moved (t : Nat) (q : Port) : (ppsMoved t q).target = t % 4096 ∧
    F.PTH_REF.REF.get (ppsMoved t q).pth.ref = t % 4096 ∧ (ppsMoved t q).pol = q.pol ∧ (ppsMoved t q).core = q.core ∧
    (ppsMoved t q).pth.stat = q.pth.stat ∧
    F.PTH_FBS.CODE.getInt (ppsMoved t q).pth.fbs = min 4095 (max (-4096) (F.PTH_FBCAL.FB_OFS.getInt q.pth.fbcal +
      F.PTH_FBCAL.FB_GAIN.getInt q.pth.fbcal * (20 * t : Nat) / 16000)) := by
  refine ⟨get_put _ (by decide) _ _, get_put _ (by decide) _ _, rfl, rfl, rfl, ?_⟩
  have hcode := fbsCode_eq q (20 * t)
  refine (getInt_putInt_code (fbsCode q (20 * t)) ?_ ?_ 0).trans hcode <;> unfold fbsCode clampInt <;> omega

/-- A refused target, with its event. -/
theorem refuseTarget_eq (p : PortId) (t : Nat) (s : State) : ∃ queue held seq, refuseTarget p t s =
    modPort p (fun q => { q with
      pth.evt := F.PTH_EVT.CEIL_REF.set q.pth.evt, pol.queue := queue, pol.held := held, pol.seq := seq }) s := by
  obtain ⟨queue, held, seq, h⟩ := postPort_eq p .gateFault (BitVec.ofNat 32 (1 + 65536 * (t % 4096)))
    (modPort p (fun q => { q with pth.evt := F.PTH_EVT.CEIL_REF.set q.pth.evt }) s)
  refine ⟨queue, held, seq, h.trans ?_⟩
  rw [modPort_modPort]

theorem polPpsStep_other {n : Nat} (h : ∀ k : Contract, s.ports[p].pol.contract = some k →
    k.kind ≠ 1 ∨ s.ports[p].isSource = false) : polPpsStep p n s = s := by
  unfold polPpsStep
  split
  · next k hk =>
    refine if_neg ?_
    rcases h k hk with h | h <;> simp [h, -Fin.getElem_fin]
  · rfl

variable {k : Contract}

theorem polPpsStep_of {n want : Nat} (hk : s.ports[p].pol.contract = some k) (hkind : k.kind = 1)
    (hsrc : s.ports[p].isSource = true) (hnext : s.ports[p].pol.next = none)
    (hwant : ppsTarget k n s.ports[p].target = want) : polPpsStep p n s =
      if s.ports[p].target < want ∧ F.PTH_CEIL.CEIL.get s.ports[p].pth.ceil * 100 < 20 * want then refuseTarget p want s
      else modPort p (ppsMoved want) s := by
  subst hwant
  unfold polPpsStep
  rw [hk]
  refine (if_pos (by simp [hkind, hsrc, hnext, -Fin.getElem_fin])).trans ?_
  simp only [targetRefused, Bool.and_eq_true, decide_eq_true_eq, gt_iff_lt, Nat.mul_comm _ 20]
  rfl

end

/-- Settles O56, time-out by time-out; a millisecond of a PPS contract moves the target, or posts a refusal. -/
theorem ppsTargetAndOutcomeTimeouts : Obligations.PpsTargetAndOutcomeTimeouts := by
  intro p s q calm
  have houtcome : exec (.requestOutcomeTimeout p) s =
    .next (atPd p (.requestOutcomeTimeout p) (polOutcomeTimeout p) s) := rfl
  refine ⟨?_, step_waits houtcome, fun ⟨ha, hw, hidle⟩ h => ?_, fun ha hw htxq hdisc hphy hon hor h => ?_,
    fun n => ?_⟩
  · refine movesPort_of_modPort (f := fun q => { q with pd.phycfg := F.PD_PHYCFG.SWAP.clr q.pd.phycfg }) rfl
      ⟨on_clr _ _, fun f hf => on_clr_apart _ _ ?_ _, rfl⟩
    fin_cases hf <;> rfl
  · exact step_same houtcome ha hw (settled_of_idle hidle) (polOutcomeTimeout_none h)
  · refine step_moves houtcome ha hw (polOutcomeTimeout_waiting h ⟨hphy, htxq, hon, hor⟩)
      (sent_settled _ _ hdisc) ⟨rfl, rfl, rfl, rfl, ?_⟩
    exact sent_sends _ _
  · intro i
    have hstep : exec i s = .next (atPd p i (polPpsStep p n) s) := rfl
    refine ⟨step_waits hstep, fun ⟨ha, hw, hidle⟩ h =>
      step_same hstep ha hw (settled_of_idle hidle) (polPpsStep_other h), ?_⟩
    rintro k ⟨ha, hw, hidle⟩ hk hkind hsrc - level want refused
    have hwant : ppsTarget k n q.target = want := ppsTarget_eq k n q.target
    have hf := polPpsStep_of hk hkind hsrc hidle.2.2.1 hwant
    refine ⟨fun hr => ?_, fun hr => ?_⟩
    · obtain ⟨queue, held, seq, h⟩ := refuseTarget_eq p want s
      exact step_moves hstep ha hw (hf.trans ((if_pos hr).trans h)) (settled_of_idle hidle)
        ⟨rfl, rfl, rfl, on_set _ (by decide) (by decide) _⟩
    · exact step_moves hstep ha hw (hf.trans (if_neg hr)) (settled_of_idle hidle) (ppsMoved_moved want q)

end Sys2Proof.Machine

/-! SUPPORT. A port that a message of the partner reaches while its engine acts (04 R107, R111): slot 20 restarts in EPR
mode, and on SOP the partner is heard. -/

namespace Sys2Proof.Machine
open Sys2Proof

/-- The partner is heard on SOP. -/
def spokeOn (c : Fin 3) (q : Port) : Port := if c = 0 then spoke q else q

/-- The message is heard. -/
def talked (now : Nat) (c : Fin 3) (q : Port) : Port := spokeOn c (eprHeard now c q)

section
variable {p : PortId} {s : State} {c : Fin 3} {q : Port} {i : Instr} {f g : State → State}

/-- Timer slots and the flag of the partner alone change. -/
theorem talked_eq (now : Nat) (c : Fin 3) (h : F.PRT_STATE.NOPD.on q.core.state = false) : ∃ run st per spk,
    talked now c q = { q with pd.tmrrun := run, phw.tmrStart := st, phw.tmrPer := per, pol.spoke := spk } := by
  obtain ⟨run, st, per, e⟩ := eprHeard_eq now c q
  rw [talked, e, spokeOn]
  split
  · refine ⟨clrBit 24 run, st, per, true, ?_⟩
    rw [spoke]
    dsimp only
    rw [clr_of_off h]
    rfl
  · exact ⟨run, st, per, q.pol.spoke, rfl⟩

/-- A message that the engine acts on. -/
theorem exec_talked (hx : exec i s = .next (atMsg p c i f s)) (h : s.ports[p].hears c = true) (ha : Acts s p)
    (hf : f (modPort p (eprHeard s.time c) s) = g (modPort p (talked s.time c) s)) :
    exec i s = .next (policyNext p (g (modPort p (talked s.time c) s))) := by
  rw [hx, atMsg_hears h, atPd_modPort_acts (eprHeard_pol _ _ _) ha, hf]

/-- A message that the engine acts on by changing the port alone. -/
theorem talked_moves {u : Port → Port} {R : Port → Prop}
    (hx : exec i s = .next (policyNext p (g (modPort p (talked s.time c) s)))) (hw : noWaits s p)
    (hg : g (modPort p (talked s.time c) s) = modPort p u (modPort p (talked s.time c) s))
    (hset : (u (talked s.time c s.ports[p])).settled) (hR : R (u (talked s.time c s.ports[p]))) : MovesPort i s p R := by
  rw [hg, modPort_modPort, policyNext_eq_self (noWaits_modPort _ hw) (by rwa [modPort_port])] at hx
  exact movesPort_of_modPort hx hR

/-- What is heard on SOP. -/
theorem heard_talked (offer : Bool) (now : Nat) (hnopd : F.PRT_STATE.NOPD.on s.ports[p].core.state = false ∨ offer = false) :
    heard p offer (modPort p (eprHeard now 0) s) = modPort p (talked now 0) s := by
  rw [heard_eq, modPort_modPort]
  · rfl
  · obtain ⟨run, st, per, e⟩ := eprHeard_eq now 0 s.ports[p]
    rw [modPort_port, e]
    exact hnopd

/-! ## Events of the port (08 R231, R236) -/

/-- An event changes the event queue alone, at whose end it stands when there is room. -/
theorem postPort_queue (p : PortId) (ev : PortEvt) (d : Word) (s : State) : ∃ queue held seq,
    postPort p ev d s = modPort p (fun q => { q with pol.queue := queue, pol.held := held, pol.seq := seq }) s ∧
      (srcEnabled s (12 * p.val + ev.num) = true → s.ports[p].pol.held = [] → s.ports[p].pol.queue.length < 32 →
        queue = s.ports[p].pol.queue ++ [⟨s.time, 12 * p.val + ev.num, s.ports[p].pol.seq, d⟩]) := by
  by_cases h : srcEnabled s (12 * p.val + ev.num) = true ∧ s.ports[p].pol.held = [] ∧ s.ports[p].pol.queue.length < 32
  · obtain ⟨hen, hheld, hroom⟩ := h
    refine ⟨_, s.ports[p].pol.held, (s.ports[p].pol.seq + 1) % 256, (if_pos hen).trans (modPort_congr ?_), fun _ _ _ => rfl⟩
    refine congrArg (fun l => { s.ports[p] with pol := l }) ((if_pos ?_).trans rfl)
    simp [hheld, hroom, -Fin.getElem_fin]
  · obtain ⟨queue, held, seq, e⟩ := postPort_eq p ev d s
    exact ⟨queue, held, seq, e, fun hen hheld hroom => absurd ⟨hen, hheld, hroom⟩ h⟩

end

/-! # Vendor-defined messages (04 R118, Table PDE-8) -/

section
variable {p : PortId} {s : State} {c : Fin 3} {o : Word} {l objs : List Word} {q : Port}

/-! ## The header -/

theorem vdmSvid_eq (o : Word) : vdmSvid o = o.toNat / 65536 :=
  Nat.mod_eq_of_lt (Nat.div_lt_of_lt_mul (by have := o.isLt; omega))

theorem vdmCmd_eq (o : Word) : vdmCmd o = o.toNat % 32 := by
  unfold vdmCmd bitsAt
  rw [pow_zero, Nat.div_one]
  rfl

theorem vdmCmdType_eq (o : Word) : vdmCmdType o = o.toNat / 64 % 4 := rfl

/-! ## The steps -/

/-- A VDM answered by the engine. -/
def vdmAnswered (c : Fin 3) (objs : List Word) (q : Port) : Port := sent c (dataMsg q c 15 objs) .reply q

theorem answerVdm_eq (h : s.ports[p].clear c) : answerVdm p c objs s = modPort p (vdmAnswered c objs) s :=
  engineSend_eq h rfl rfl _

/-- A VDM of the host's awaits an answer. -/
def vdmWaits (o : Word) : Bool := vdmStructured o && vdmCmd o ≠ 6

theorem vdmWaits_iff : vdmWaits o = true ↔ vdmStructured o = true ∧ vdmCmd o ≠ 6 := by
  rw [vdmWaits, Bool.and_eq_true, decide_eq_true_iff]

/-- A VDM numbered and kept; one that waits occupies its SOP*. -/
def vdmKept (c : Fin 3) (objs : List Word) (q : Port) : Port :=
  { q with
    pol.vdmNum := (q.pol.vdmNum + 1) % 256
    pol.vdms := ({ num := q.pol.vdmNum, ctx := c, objs := objs } :: q.pol.vdms).take 8
    pol.hostVdm := if vdmWaits (objs.headD 0) then q.pol.hostVdm.set c (some q.pol.vdmNum) else q.pol.hostVdm }

/-- A VDM routed to the host, but for its event. -/
def vdmRouted (now : Nat) (c : Fin 3) (objs : List Word) (q : Port) : Port :=
  if vdmWaits (objs.headD 0) then startSlot now 16 (vdmKept c objs q) else vdmKept c objs q

/-- DATA of VDM_RX (09 Table CMD-11). -/
def vdmData (c : Fin 3) (objs : List Word) (n : Nat) : Word :=
  let o := objs.headD 0
  BitVec.ofNat 32 (c.val + 4 * ((objs.length - 1) % 8) + (if vdmStructured o then 32 else 0) +
    (if vdmWaits o then 64 else 0) + 256 * n + 65536 * vdmSvid o)

theorem routeVdm_eq : routeVdm p c objs s =
    postPort p .vdmRx (vdmData c objs s.ports[p].pol.vdmNum) (modPort p (vdmRouted s.time c objs) s) := by
  have hroute : modPort p (vdmRouted s.time c objs) s =
      if vdmWaits (objs.headD 0) then slotOn p 16 (modPort p (vdmKept c objs) s) else modPort p (vdmKept c objs) s := by
    by_cases h : vdmWaits (objs.headD 0) = true
    · rw [if_pos h]
      rw [slotOn, modPort_modPort]
      exact modPort_congr (if_pos h)
    · rw [if_neg h]
      exact modPort_congr (if_neg h)
  rw [hroute]
  rfl

/-- What the routing of a VDM changes of the policy. -/
theorem vdmRouted_keeps (now : Nat) (c : Fin 3) (objs : List Word) (q : Port) :
    (vdmRouted now c objs q).ctx = q.ctx ∧ (vdmRouted now c objs q).pol = (vdmKept c objs q).pol := by
  unfold vdmRouted
  split <;> exact ⟨rfl, rfl⟩

/-- A VDM was routed to the host. -/
structure VdmRouted (p : PortId) (c : Fin 3) (objs : List Word) (s : State) (t : Port) : Prop where
  ctx : t.ctx = s.ports[p].ctx
  txq : t.pol.txq = s.ports[p].pol.txq
  disc : t.pol.discDue = s.ports[p].pol.discDue
  num : t.pol.vdmNum = (s.ports[p].pol.vdmNum + 1) % 256
  vdms : t.pol.vdms = ({ num := s.ports[p].pol.vdmNum, ctx := c, objs := objs } :: s.ports[p].pol.vdms).take 8
  host : t.pol.hostVdm = if vdmWaits (objs.headD 0) then s.ports[p].pol.hostVdm.set c (some s.ports[p].pol.vdmNum)
    else s.ports[p].pol.hostVdm
  slot : vdmWaits (objs.headD 0) = true → t.slotRuns 16 = true
  queue : srcEnabled s (12 * p.val + 5) = true → s.ports[p].pol.held = [] → s.ports[p].pol.queue.length < 32 →
    t.pol.queue = s.ports[p].pol.queue ++
      [EvtEntry.mk s.time (12 * p.val + 5) s.ports[p].pol.seq (vdmData c objs s.ports[p].pol.vdmNum)]

theorem routeVdm_routes (p : PortId) (c : Fin 3) (objs : List Word) (s : State) :
    ∃ u : Port → Port, routeVdm p c objs s = modPort p u s ∧ VdmRouted p c objs s (u s.ports[p]) := by
  obtain ⟨queue, held, seq, hpost, hroom⟩ := postPort_queue p .vdmRx (vdmData c objs s.ports[p].pol.vdmNum)
    (modPort p (vdmRouted s.time c objs) s)
  rw [modPort_modPort] at hpost
  refine ⟨_, routeVdm_eq.trans hpost, ?_⟩
  obtain ⟨hctx, hpol⟩ := vdmRouted_keeps s.time c objs s.ports[p]
  have hslot : vdmWaits (objs.headD 0) = true → (vdmRouted s.time c objs s.ports[p]).slotRuns 16 = true := fun h => by
    rw [vdmRouted, if_pos h]
    exact slotRuns_startSlot_self _ 16 _
  rw [modPort_port, hpol] at hroom
  generalize vdmRouted s.time c objs s.ports[p] = t at *
  dsimp only
  rw [hpol]
  exact ⟨hctx, rfl, rfl, rfl, rfl, rfl, hslot, hroom⟩

/-! ## The rows of Table PDE-8 -/

theorem vdmCommand_route (h : vdmStructured o = false ∨ vdmCmd o = 6) :
    vdmCommand p c (o :: l) s = routeVdm p c (o :: l) s := by
  refine if_pos ?_
  rw [List.headD_cons]
  rcases h with h | h <;> simp [h]

theorem vdmCommand_structured (hst : vdmStructured o = true) (hcmd : vdmCmd o ≠ 6) : vdmCommand p c (o :: l) s =
    if vdmSvid o = 0xFF00 then
      let l := if vdmCmd o = 1 then s.kept.identity else if vdmCmd o = 2 then s.kept.svids else []
      if l.isEmpty then answerVdm p c [vdmAnswerHdr o 2] s
      else answerVdm p c (vdmAnswerHdr o 1 :: l) s
    else if s.ports[p].pol.hostVdm[c].isSome then answerVdm p c [vdmAnswerHdr o 3] s
    else routeVdm p c (o :: l) s := by
  refine if_neg ?_
  rw [List.headD_cons, hst]
  simpa using hcmd

/-! ## The commands heard -/

/-- A VDM that commands, of which the engine acts. -/
abbrev VdmCalm (p : PortId) (c : Fin 3) (s : State) (o : Word) : Prop :=
  (Acts s p ∧ noWaits s p ∧ s.ports[p].quiet c ∧ s.ports[p].hears c = true ∧
    F.PRT_STATE.NOPD.on s.ports[p].core.state = false) ∧ o.toNat / 64 % 4 = 0

theorem exec_vdm (h : VdmCalm p c s o) : exec (.vendorDefinedReceived p c (o :: l)) s =
    .next (policyNext p (vdmCommand p c (o :: l) (modPort p (talked s.time c) s))) := by
  obtain ⟨⟨ha, -, -, hh, hnopd⟩, htype⟩ := h
  refine exec_talked (f := polVdm p c (o :: l)) rfl hh ha ?_
  have hcommand : ∀ t : State, (if vdmStructured ((o :: l).headD 0) && vdmCmdType ((o :: l).headD 0) ≠ 0 then
      vdmResponse p c (o :: l) t else vdmCommand p c (o :: l) t) = vdmCommand p c (o :: l) t := fun t =>
    if_neg (by simp [vdmCmdType_eq, htype])
  refine (hcommand _).trans (congrArg _ ?_)
  by_cases hc : c = 0
  · subst hc
    exact heard_talked true _ (.inl hnopd)
  · rw [if_neg hc]
    refine modPort_congr ?_
    rw [talked, spokeOn, if_neg hc]

/-- A VDM that the engine answers. -/
theorem vdm_answers (h : VdmCalm p c s o)
    (hrow : vdmCommand p c (o :: l) (modPort p (talked s.time c) s) = answerVdm p c objs (modPort p (talked s.time c) s)) :
    MovesPort (.vendorDefinedReceived p c (o :: l)) s p fun t =>
      Port.sends c (dataMsg s.ports[p] c 15 objs) .reply t ∧ t.pol.vdmNum = s.ports[p].pol.vdmNum ∧
        t.pol.hostVdm = s.ports[p].pol.hostVdm := by
  have hx := exec_vdm (l := l) h
  obtain ⟨⟨-, hw, hq, -, hnopd⟩, -⟩ := h
  obtain ⟨run, st, per, spk, e⟩ := talked_eq s.time c hnopd
  have hclear : (modPort p (talked s.time c) s).ports[p].clear c := by
    rw [modPort_port, e]
    exact clear_of_quiet hq
  refine talked_moves hx hw (hrow.trans (answerVdm_eq hclear)) ?_ ?_ <;> rw [e]
  · exact sent_settled _ _ hq.2.2.2.2.2.1
  · have hmsg : dataMsg { s.ports[p] with pd.tmrrun := run, phw.tmrStart := st, phw.tmrPer := per, pol.spoke := spk }
        c 15 objs = dataMsg s.ports[p] c 15 objs := SameVoice.dataMsg (q := s.ports[p]) ⟨rfl, rfl⟩ 15 objs
    refine ⟨?_, rfl, rfl⟩
    rw [vdmAnswered, hmsg]
    exact sent_sends _ _

/-- A VDM that goes to the host. -/
theorem vdm_routes (h : VdmCalm p c s o) (hrow : vdmCommand p c (o :: l) (modPort p (talked s.time c) s) =
      routeVdm p c (o :: l) (modPort p (talked s.time c) s)) :
    MovesPort (.vendorDefinedReceived p c (o :: l)) s p fun t => VdmRouted p c (o :: l) s t := by
  have hx := exec_vdm (l := l) h
  obtain ⟨⟨-, hw, hq, -, hnopd⟩, -⟩ := h
  obtain ⟨u, hroute, hr⟩ := routeVdm_routes p c (o :: l) (modPort p (talked s.time c) s)
  obtain ⟨run, st, per, spk, e⟩ := talked_eq s.time c hnopd
  obtain ⟨hctx, htxq, hdisc, hnum, hvdms, hhost, hslot, hqueue⟩ := hr
  rw [modPort_port, e] at hctx htxq hdisc hnum hvdms hhost hslot hqueue
  refine talked_moves hx hw (hrow.trans hroute) ?_ ?_ <;> rw [e]
  · exact ⟨hdisc.trans hq.2.2.2.2.2.1, .inl (htxq.trans hq.2.1)⟩
  · exact ⟨hctx, htxq, hdisc, hnum, hvdms, hhost, hslot, hqueue⟩

/-! ## DATA of VDM_RX -/

theorem vdmData_toNat (c : Fin 3) {n : Nat} (hn : n < 256) (o : Word) (l : List Word) :
    (vdmData c (o :: l) n).toNat = c.val + 4 * (l.length % 8) + (if vdmStructured o then 32 else 0) +
      (if vdmWaits o then 64 else 0) + 256 * n + 65536 * (o.toNat / 65536) := by
  have ha : (if vdmStructured o then 32 else 0) ≤ 32 := by split <;> decide
  have hb : (if vdmWaits o then 64 else 0) ≤ 64 := by split <;> decide
  have ho : o.toNat / 65536 < 65536 := Nat.div_lt_of_lt_mul o.isLt
  have hc := c.isLt
  unfold vdmData
  rw [BitVec.toNat_ofNat, List.headD_cons, vdmSvid_eq, List.length_cons, Nat.add_sub_cancel]
  generalize (if vdmStructured o then 32 else 0) = a at *
  generalize (if vdmWaits o then 64 else 0) = b at *
  generalize o.toNat / 65536 = v at *
  exact Nat.mod_eq_of_lt (by omega)

theorem vdmData_fields (c : Fin 3) {n : Nat} (hn : n < 256) (o : Word) (l : List Word) :
    (vdmData c (o :: l) n).toNat % 4 = c.val ∧ (vdmData c (o :: l) n).toNat / 256 % 256 = n ∧
      (vdmData c (o :: l) n).toNat / 65536 = o.toNat / 65536 := by
  rw [vdmData_toNat c hn]
  have hc := c.isLt
  refine ⟨?_, ?_, ?_⟩ <;> split <;> split <;> omega

end

/-- Settles O54, row by row of Table PDE-8. -/
theorem vendorMessagesAreRouted : Obligations.VendorMessagesAreRouted := by
  intro p c s o l q i structured command svid calm answer hcalm htype
  have h : VdmCalm p c s o := ⟨hcalm, htype⟩
  have hsvid : vdmSvid o = svid := vdmSvid_eq o
  have hcmd : vdmCmd o = command := vdmCmd_eq o
  have hphy : ∀ t : Port, t.ctx = q.ctx → t.phyHeld = false := fun t ht => by
    have hq : q.phyHeld = false := hcalm.2.2.1.1
    unfold Port.phyHeld Port.holdsPhy Port.result at *
    rwa [ht]
  refine ⟨fun hst hpd hc6 => ?_, fun hst hpd hc6 => ?_, fun hhost => ?_⟩
  · have hrow := vdmCommand_structured (p := p) (c := c) (l := l) (s := modPort p (talked s.time c) s) hst
      (by rwa [hcmd])
    rw [if_pos (hsvid.trans hpd), hcmd] at hrow
    intro objs
    refine ⟨fun hobjs => ?_, fun hobjs => ?_⟩
    · refine (vdm_answers h (hrow.trans (if_neg fun he => hobjs (List.isEmpty_iff.mp he)))).imp ?_
      exact fun t ⟨hs, hn, _⟩ => ⟨hs, hn⟩
    · refine (vdm_answers h (hrow.trans (if_pos (List.isEmpty_iff.mpr hobjs)))).imp ?_
      exact fun t ⟨hs, hn, _⟩ => ⟨hs, hn⟩
  · have hrow := vdmCommand_structured (p := p) (c := c) (l := l) (s := modPort p (talked s.time c) s) hst
      (by rwa [hcmd])
    have hwaits : vdmWaits o = true := vdmWaits_iff.mpr ⟨hst, by rwa [hcmd]⟩
    have hbusy : (modPort p (talked s.time c) s).ports[p].pol.hostVdm = q.pol.hostVdm := by
      obtain ⟨run, st, per, spk, e⟩ := talked_eq s.time c hcalm.2.2.2.2
      rw [modPort_port, e]
    rw [if_neg (by rwa [hsvid]), hbusy] at hrow
    refine ⟨fun hocc => ?_, fun hfree => ?_⟩
    · refine (vdm_answers h (hrow.trans (if_pos (Option.isSome_iff_ne_none.mpr hocc)))).imp ?_
      exact fun t ⟨hs, _, hv⟩ => ⟨hs, hv⟩
    · refine (vdm_routes h (hrow.trans (if_neg (by simp [hfree])))).imp ?_
      intro t hv
      refine ⟨?_, hv.slot hwaits, hv.num, hphy _ hv.ctx, ?_⟩
      · exact hv.host.trans (if_pos hwaits)
      · rw [hv.vdms]
        rfl
  · have hnot : vdmWaits o = false := (Bool.not_eq_true _).mp fun hw => by
      obtain ⟨hst, hc6⟩ := vdmWaits_iff.mp hw
      exact hhost.elim (fun h => h hst) (fun h => hc6 (hcmd.trans h))
    refine (vdm_routes h (vdmCommand_route ?_)).imp ?_
    · exact hhost.imp (fun hst => (Bool.not_eq_true _).mp hst) (fun hc6 => hcmd.trans hc6)
    · intro t hv
      exact ⟨hv.host.trans (if_neg (by rw [List.headD_cons, hnot]; decide)), hv.num, hphy _ hv.ctx, hv.vdms,
        fun hen hheld hroom hn => ⟨_, hv.queue hen hheld hroom, vdmData_fields c hn o l⟩⟩

end Sys2Proof.Machine

/-! SUPPORT. What a port that answers a message of the partner rests on: the roles in a header, the offer, the AMS, the
Soft_Reset of the engine (04 R92, R98, R104). -/

namespace Sys2Proof.Machine
open Sys2Proof

/-! ## Headers -/

section
variable {q t : Port} {c : Fin 3}

/-- A header rests on the roles and the revision. -/
theorem headerOf_of_roles (hd : t.isDfp = q.isDfp) (hs : t.isSource = q.isSource)
    (hr : revCode t.ctx[c] = revCode q.ctx[c]) : headerOf t c = headerOf q c := by
  funext ext nobj type
  simp only [headerOf, hd, hs, hr]

theorem headerOf_ctrl (q : Port) (c : Fin 3) (type : Nat) : ∃ k < 16, headerOf q c false 0 type = type + 32 * k := by
  refine ⟨(if c = 0 && q.isDfp then 1 else 0) + 2 * revCode q.ctx[c] + (if c = 0 && q.isSource then 8 else 0), ?_, ?_⟩
  · unfold revCode
    split_ifs <;> decide
  · rw [headerOf, if_neg Bool.false_ne_true]
    split_ifs <;> omega

theorem ctrlMsg_fields (q : Port) {type : Nat} (h : type < 32) :
    msgType (ctrlMsg q c type) = type ∧ msgNobj (ctrlMsg q c type) = 0 ∧ msgExt (ctrlMsg q c type) = false := by
  obtain ⟨k, hk, e⟩ := headerOf_ctrl q c type
  have hhead : msgHeader (ctrlMsg q c type) = type + 32 * k := by
    rw [ctrlMsg, e]
    simp only [msgHeader, bytes2, List.take, leNat, BitVec.toNat_ofNat]
    omega
  rw [msgType, msgNobj, msgExt, hhead, beq_eq_false_iff_ne]
  refine ⟨?_, ?_, ?_⟩ <;> omega

end

/-! ## The offer (04 R104, R110) -/

/-- What an offer rests on. -/
structure OffersAs (q t : Port) : Prop where
  core : t.core = q.core
  rev : t.pd.rev = q.pd.rev
  ctl : revCode t.ctx[0] = revCode q.ctx[0]
  caps : t.pol.caps = q.pol.caps
  only5 : t.pol.only5 = q.pol.only5
  prearmed : t.pol.prearmed = q.pol.prearmed
  contract : t.pol.contract = q.pol.contract
  cable : t.pol.cable = q.pol.cable
  capLimit : t.pol.capLimit = q.pol.capLimit
  advUnchunk : t.pol.advUnchunk = q.pol.advUnchunk
  level : t.pol.level = q.pol.level

section
variable {p : PortId} {s : State} {f : Port → Port}

theorem prearmOn_modPort (h : (f s.ports[p]).core = s.ports[p].core) : prearmOn (modPort p f s) p = prearmOn s p := by
  have hcaptive : captive (modPort p f s) p = captive s p := by
    simp only [captive, roleOf, modPort_port, h]
    rfl
  simp only [prearmOn, hcaptive, modPort_port, h, idrecValid]

theorem offerPower_modPort (h : OffersAs s.ports[p] (f s.ports[p])) (epr : Bool) (o : Word) :
    offerPower (modPort p f s) p epr o = offerPower s p epr o := by
  simp only [offerPower, remembered, prearmOn_modPort h.core, modPort_port, h.capLimit, h.prearmed, h.core, h.contract,
    idrecEpr]
  rfl

theorem cableOf_modPort (hcore : (f s.ports[p]).core = s.ports[p].core)
    (hcable : (f s.ports[p]).pol.cable = s.ports[p].pol.cable) : cableOf (modPort p f s) p = cableOf s p := by
  simp only [cableOf, modPort_port, hcore, hcable]

theorem offerObject_modPort (h : OffersAs s.ports[p] (f s.ports[p])) (epr : Bool) :
    offerObject (modPort p f s) p epr = offerObject s p epr := by
  funext o
  simp only [offerObject, cableOf_modPort h.core h.cable, offerPower_modPort h, modPort_port, h.rev, h.ctl]

theorem firstObject_modPort (h : OffersAs s.ports[p] (f s.ports[p])) :
    firstObject (modPort p f s) p = firstObject s p := by
  have hrec : idrecEpr (f s.ports[p]) = idrecEpr s.ports[p] := by rw [idrecEpr, h.core, ← idrecEpr]
  simp only [firstObject, offerPower_modPort h, prearmOn_modPort h.core, modPort_port, hrec, h.caps, h.advUnchunk, h.level]

theorem sprOffers_modPort (h : OffersAs s.ports[p] (f s.ports[p])) : sprOffers (modPort p f s) p = sprOffers s p := by
  simp only [sprOffers, firstObject_modPort h, offerObject_modPort h, modPort_port, h.only5, h.caps]

theorem sendCaps_spr (he : F.PD_PHYCFG.EPR.on s.ports[p].pd.phycfg = false) (hc : s.ports[p].clear 0) :
    sendCaps p false s = modPort p (fun q => sent 0 (dataMsg q 0 1 ((sprOffers s p).take 7)) .srcCaps
      { q with pol.sent := numbered 1 ((sprOffers s p).take 7) }) s := by
  refine (if_neg (by rw [he]; decide)).trans ?_
  refine (engineSend_eq (s := modPol p _ s) ?_ rfl rfl _).trans ?_
  · unfold modPol
    rw [modPort_port]
    exact hc
  · unfold modPol
    rw [modPort_modPort]
    rfl

/-! ## A Hard Reset of the engine (04 R99, R100) -/

/-- The Hard Reset waits for the line. -/
def hardAsked (now : Nat) (q : Port) : Port := startSlot now 4 { q with phw.hrWait := true }

theorem engineHardReset_asks (h : s.ports[p].pol.hrCount < 2) :
    engineHardReset p s = modPort p (hardAsked s.time) s := if_pos h

/-! ## A Soft_Reset of the engine (04 R98, Table PDE-3) -/

theorem resetCtx_free {c : Fin 3} {q : Port} (h : q.holdsPhy c = false) : resetCtx c q = resetIds c q := by
  rw [resetCtx, abortTx, if_neg (by rw [h]; decide)]

theorem resetIds_result (c d : Fin 3) (q : Port) : (resetIds c q).result d = q.result d := by
  rw [Port.result, Port.result, resetIds, modCtx_field q (fun r => { r with id := 0 }) CtxRegs.txstat rfl]

/-- SOP reset after the exchange given up. -/
def softLeft (q : Port) : Port := resetIds 0 (exchangeLeft q)

/-- Soft_Reset after the exchange given up. -/
def softAsked (q : Port) : Port := sent 0 (ctrlMsg (softLeft q) 0 13) .softReset (softLeft q)

theorem softLeft_eq (q : Port) : ∃ ctl cfg stat, softLeft q = resetIds 0 (exchangeDropped { q with
    cc.ctl := ctl, cc.cfg := cfg, pd.phystat := stat, phw.ams := false }) := by
  obtain ⟨ctl, cfg, stat, e⟩ := exchangeLeft_eq q
  exact ⟨ctl, cfg, stat, congrArg (resetIds 0) e⟩

theorem resetIds_ctl (c d : Fin 3) (q : Port) : (resetIds c q).ctx[d].ctl = q.ctx[d].ctl :=
  modCtx_field q (fun r => { r with id := 0 }) CtxRegs.ctl rfl

theorem softLeft_clear {q : Port} (h : q.clear 0) : (softLeft q).clear 0 := by
  obtain ⟨hphy, htxq, hon, hor⟩ := h
  obtain ⟨ctl, cfg, stat, e⟩ := softLeft_eq q
  rw [e]
  refine ⟨?_, (congrArg (List.filter _) htxq).trans List.filter_nil, ?_, hor⟩
  · simp only [Port.phyHeld, Port.holdsPhy, resetIds_result] at hphy ⊢
    exact hphy
  · rw [Port.ctxOn, resetIds_ctl]
    exact hon

theorem softLeft_voice (q : Port) : SameVoice 0 q (softLeft q) := by
  obtain ⟨ctl, cfg, stat, e⟩ := softLeft_eq q
  rw [e]
  exact ⟨rfl, resetIds_ctl 0 0 _⟩

theorem softReset_asked (hw : noWaits s p) (hnext : s.ports[p].pol.next = none) (hc : s.ports[p].clear 0) :
    softReset p 0 s = modPort p softAsked s := by
  have hfree : (exchangeLeft s.ports[p]).holdsPhy 0 = false := by
    obtain ⟨ctl, cfg, stat, e⟩ := exchangeLeft_eq s.ports[p]
    have h := hc.1
    simp only [Port.phyHeld, Bool.or_eq_false_iff] at h
    rw [e]
    exact h.1.1
  have hreset : modPort p (resetCtx 0) (dropExchange p 0 s) = modPort p softLeft s := by
    rw [dropExchange_left hw hnext, modPort_modPort]
    exact modPort_congr (resetCtx_free hfree)
  unfold softReset
  dsimp only
  rw [hreset, if_pos rfl, engineSend_eq (by rw [modPort_port]; exact softLeft_clear hc) rfl rfl, modPort_modPort]
  rfl

theorem softAsked_idsReset (q : Port) : (softAsked q).idsReset 0 := by
  refine idsReset_of_id ?_
  rw [softAsked, sent_id, softLeft, resetIds, modCtx_self (exchangeLeft q) fun r => { r with id := 0 }]

theorem softAsked_sends (q : Port) : Port.sends 0 (ctrlMsg q 0 13) .softReset (softAsked q) := by
  rw [softAsked, (softLeft_voice q).ctrlMsg]
  exact sent_sends _ _

end

end Sys2Proof.Machine

/-! SUPPORT. Requests of the partner (04 R102, R105, R108, R109, R112), and the messages that a port which is no attached
source leaves alone. -/

namespace Sys2Proof.Machine
open Sys2Proof

/-! ## A message heard on SOP -/

/-- A port whose partner was heard on SOP: timer slots and the flag of the partner alone changed. -/
structure Talks (q t : Port) : Prop where
  rest : ∃ run st per, t = { q with pd.tmrrun := run, phw.tmrStart := st, phw.tmrPer := per, pol.spoke := true }
  slot24 : t.slotRuns 24 = false
  slot20 : F.PD_PHYCFG.EPR.on q.pd.phycfg = true → t.slotRuns 20 = true

/-- The partner has spoken. -/
abbrev Spoken (q t : Port) : Prop :=
  t.pol.spoke = true ∧ t.slotRuns 24 = false ∧ (F.PD_PHYCFG.EPR.on q.pd.phycfg = true → t.slotRuns 20 = true)

/-- Path, contract and state stay. -/
abbrev PathKept (q t : Port) : Prop := t.pth = q.pth ∧ t.pol.contract = q.pol.contract ∧ t.st = q.st

/-- A message on SOP reaches an engine that acts, on a port that has not given up on PD. -/
abbrev Served (p : PortId) (s : State) : Prop :=
  Acts s p ∧ noWaits s p ∧ F.PRT_STATE.NOPD.on s.ports[p].core.state = false ∧ s.ports[p].hears 0 = true

section
variable {q t : Port}

theorem talked_talks (now : Nat) (h : F.PRT_STATE.NOPD.on q.core.state = false) : Talks q (talked now 0 q) := by
  refine ⟨?_, spoke_slot24 _, fun he => ?_⟩
  · obtain ⟨run, st, per, spk, e⟩ := talked_eq now 0 h
    have hspk : (talked now 0 q).pol.spoke = true := rfl
    rw [e] at hspk ⊢
    exact ⟨run, st, per, by rw [show spk = true from hspk]⟩
  · exact (spoke_slotRuns (by decide) _).trans (eprHeard_slot20 now rfl he)

theorem Talks.pol (h : Talks q t) : t.pol = { q.pol with spoke := true } := by
  obtain ⟨⟨run, st, per, rfl⟩, -, -⟩ := h
  rfl

theorem Talks.clear {c : Fin 3} (h : Talks q t) (hc : q.clear c) : t.clear c := by
  obtain ⟨⟨run, st, per, rfl⟩, -, -⟩ := h
  exact hc

theorem Talks.voice {c : Fin 3} (h : Talks q t) : SameVoice c q t := by
  obtain ⟨⟨run, st, per, rfl⟩, -, -⟩ := h
  exact ⟨rfl, rfl⟩

end

section
variable {p : PortId} {s : State} {i : Instr} {f : State → State}

/-- The state in which a message on SOP has been heard. -/
abbrev heardState (p : PortId) (s : State) : State := modPort p (talked s.time 0) s

theorem heardState_talks (hs : Served p s) : Talks s.ports[p] (heardState p s).ports[p] := by
  rw [modPort_port]
  exact talked_talks _ hs.2.2.1

/-- A message on SOP that the engine acts on by changing the port alone. -/
theorem heard_moves {u : Port → Port} {R : Port → Prop} (hx : exec i s = .next (atMsg p 0 i f s)) (hs : Served p s)
    (hf : f (modPort p (eprHeard s.time 0) s) = modPort p u (heardState p s))
    (hR : ∀ t, Talks s.ports[p] t → (u t).settled ∧ R (u t)) : MovesPort i s p R := by
  obtain ⟨ha, hw, hnopd, hh⟩ := hs
  obtain ⟨hset, hmoved⟩ := hR _ (talked_talks s.time hnopd)
  exact talked_moves (g := fun t => modPort p u t) (exec_talked hx hh ha hf) hw rfl hset hmoved

theorem heard_eprHeard (offer : Bool) (hs : Served p s) : heard p offer (modPort p (eprHeard s.time 0) s) = heardState p s :=
  heard_talked offer _ (.inl hs.2.2.1)

/-! ## A message that the port leaves alone -/

theorem alive_eq (now : Nat) (c : Fin 3) (q : Port) :
    (if c = 0 ∧ F.PD_PHYCFG.EPR.on q.pd.phycfg = true then startSlot now 20 q else q) = eprHeard now c q := by
  unfold eprHeard
  simp only [Bool.and_eq_true, decide_eq_true_eq]

theorem row_deaf {c : Fin 3} (hx : exec i s = .next (atMsg p c i f s)) (h : s.ports[p].hears c = false) :
    exec i s = .next s := by
  rw [hx, atMsg_deaf h]

theorem row_waits {c : Fin 3} (hx : exec i s = .next (atMsg p c i f s)) (h : s.ports[p].hears c = true)
    (ha : ¬Acts s p) : MovesPort i s p fun t =>
      t = { eprHeard s.time c s.ports[p] with pol := { s.ports[p].pol with pend := s.ports[p].pol.pend ++ [i] } } := by
  refine msgWaits_moves hx h ha ?_
  rw [Port.waiting, eprHeard_pol]

/-- A message on SOP without effect. -/
theorem row_idle (hx : exec i s = .next (atMsg p 0 i f s)) (hs : Served p s) (hidle : s.ports[p].idle)
    (hf : f (modPort p (eprHeard s.time 0) s) = modPort p (eprHeard s.time 0) s) :
    MovesPort i s p fun t => t = eprHeard s.time 0 s.ports[p] := by
  obtain ⟨ha, hw, -, hh⟩ := hs
  refine msgActs_moves (g := id) hx hh ha hw (hf.trans (modPort_eq_self rfl).symm) ?_ rfl
  obtain ⟨run, st, per, e⟩ := eprHeard_eq s.time 0 s.ports[p]
  rw [e]
  exact settled_of_idle hidle

/-! ## A Request (04 R102, R105) -/

/-- A Request taken: the answer to the offer has come, and the partner's revision is known. -/
def requestTaken (rdo : Word) (rev : Nat) (q : Port) : Port :=
  let q := stopSlot 6 { q with pol.await := none }
  let q := q.modCtx 0 fun c => { c with ctl := F.CTX_CTL.REV.put (if rev ≤ 1 then 1 else 2) c.ctl }
  let first := ((q.pol.sent.find? fun x => x.1 == 1).map Prod.snd).getD 0
  let q := setUnchunk (bitOf first 24) (bitOf rdo 23) q
  if rev ≤ 1 then { q with pd.rev := F.PD_REV.PARTNER.put 0x20 q.pd.rev } else q

theorem modCtx_modCtx (c : Fin 3) (f g : CtxRegs → CtxRegs) (q : Port) :
    (q.modCtx c f).modCtx c g = q.modCtx c fun r => g (f r) := by
  unfold Port.modCtx
  simp [-Fin.getElem_fin]

theorem setUnchunk_eq (own partner : Bool) (q : Port) : ∃ b, setUnchunk own partner q =
    q.modCtx 0 fun c => { c with ctl := F.CTX_CTL.UNCHUNK.setTo b c.ctl } :=
  ⟨own && partner && F.CTX_CTL.REV.get q.ctx[(0 : Fin 3)].ctl == 2, rfl⟩

/-- CTX_CTL of SOP with the partner's revision and chunking. -/
def requestCtl (rev : Nat) (b : Bool) (w : Word) : Word :=
  F.CTX_CTL.UNCHUNK.setTo b (F.CTX_CTL.REV.put (if rev ≤ 1 then 1 else 2) w)

theorem get_requestCtl (rev : Nat) (b : Bool) (w : Word) {f : Fld} (hf : f.apart F.CTX_CTL.UNCHUNK = true) :
    f.get (requestCtl rev b w) = f.get (F.CTX_CTL.REV.put (if rev ≤ 1 then 1 else 2) w) := by
  cases b
  · exact get_clr_apart _ _ hf _
  · exact get_set_apart _ _ hf _

theorem requestCtl_rev (rev : Nat) (b : Bool) (w : Word) :
    F.CTX_CTL.REV.get (requestCtl rev b w) = if rev ≤ 1 then 1 else 2 := by
  rw [get_requestCtl _ _ _ (by decide), get_put _ (by decide)]
  split <;> rfl

theorem requestCtl_en (rev : Nat) (b : Bool) (w : Word) :
    F.CTX_CTL.EN.on (requestCtl rev b w) = F.CTX_CTL.EN.on w := by
  rw [Fld.on, get_requestCtl _ _ _ (by decide), get_put_apart _ _ (by decide)]
  rfl

theorem requestTaken_eq (rdo : Word) (rev : Nat) (q : Port) : ∃ b pr,
    requestTaken rdo rev q = { (stopSlot 6 q).modCtx 0 fun c => { c with ctl := requestCtl rev b c.ctl } with
      pd.rev := pr, pol.await := none } ∧
      F.PD_REV.PARTNER.get pr = if rev ≤ 1 then 0x20 else F.PD_REV.PARTNER.get q.pd.rev := by
  obtain ⟨b, e⟩ := setUnchunk_eq (bitOf (((q.pol.sent.find? fun x => x.1 == 1).map Prod.snd).getD 0) 24) (bitOf rdo 23)
    ((stopSlot 6 { q with pol.await := none }).modCtx 0 fun c =>
      { c with ctl := F.CTX_CTL.REV.put (if rev ≤ 1 then 1 else 2) c.ctl })
  have htaken : requestTaken rdo rev q =
      if rev ≤ 1 then { (stopSlot 6 q).modCtx 0 fun c => { c with ctl := requestCtl rev b c.ctl } with
        pd.rev := F.PD_REV.PARTNER.put 0x20 q.pd.rev, pol.await := none }
      else { (stopSlot 6 q).modCtx 0 fun c => { c with ctl := requestCtl rev b c.ctl } with pol.await := none } := by
    refine (congrArg (fun t : Port => if rev ≤ 1 then { t with pd.rev := F.PD_REV.PARTNER.put 0x20 t.pd.rev } else t)
      (e.trans (modCtx_modCtx _ _ _ _))).trans ?_
    rfl
  rw [htaken]
  split
  · exact ⟨b, _, rfl, get_put _ (by decide) _ _⟩
  · exact ⟨b, _, rfl, rfl⟩

/-- Every Request on a PPS contract restarts tPPSTimeout (04 R108). -/
def ppsRestart (now : Nat) (q : Port) : Port :=
  if q.pol.contract.map Contract.kind = some 1 then startSlot now 23 q else q

theorem ppsRestart_eq (now : Nat) (q : Port) : ∃ run st per,
    ppsRestart now q = { q with pd.tmrrun := run, phw.tmrStart := st, phw.tmrPer := per } := by
  unfold ppsRestart
  split <;> exact ⟨_, _, _, rfl⟩

theorem ppsRestart_slotRuns (now : Nat) {k : Fin 26} (h : k ≠ 23) (q : Port) :
    (ppsRestart now q).slotRuns k = q.slotRuns k := by
  unfold ppsRestart
  split
  · exact slotRuns_startSlot_ne q now h
  · rfl

/-- A Request rejected. -/
def rejected (q : Port) : Port :=
  sent 0 (ctrlMsg q 0 4) (.reject false) { q with pol.next := none, pol.reqWait := false }

theorem rejectRequest_eq (h : s.ports[p].clear 0) : rejectRequest p false s = modPort p rejected s := by
  unfold rejectRequest sendCtrl modPol
  rw [engineSend_eq (by rw [modPort_port]; exact h) rfl rfl, modPort_modPort]
  rfl

variable {rdo pdo : Word}

theorem ppsRestart_modPort (p : PortId) (s : State) :
    (if s.ports[p].pol.contract.map Contract.kind = some 1 then modPort p (startSlot s.time 23) s else s) =
      modPort p (ppsRestart s.time) s := by
  split
  · next h => exact modPort_congr (if_pos h).symm
  · next h => exact (modPort_eq_self (if_neg h)).symm

theorem evaluateRequest_none (h : (s.ports[p].pol.sent.find? fun x => x.1 == rdoPos rdo) = none) :
    evaluateRequest p rdo s = rejectRequest p false (modPort p (ppsRestart s.time) s) := by
  unfold evaluateRequest
  dsimp only
  rw [ppsRestart_modPort, h]
  rfl

/-- A Request that waits for the caddy. -/
def requested (now : Nat) (k : Contract) (q : Port) : Port :=
  { ppsRestart now q with pol.next := some k, pol.accepted := false, pol.reqWait := true }

theorem evaluateRequest_submits {n : Nat} (h : (s.ports[p].pol.sent.find? fun x => x.1 == rdoPos rdo) = some (n, pdo))
    (hk : withinObject (contractOf rdo pdo) = true) (hrev : revCode s.ports[p].ctx[0] = 2)
    (hnext : s.ports[p].pol.next = none) (hheld : s.ports[p].pol.doneHeld = false)
    (hpre : s.ports[p].pol.prearmed = false) : evaluateRequest p rdo s =
      submit p false (contractOf rdo pdo).v100 (contractOf rdo pdo).pout
        (modPort p (requested s.time (contractOf rdo pdo)) s) := by
  have hpol : (modPort p (ppsRestart s.time) s).ports[p].pol = s.ports[p].pol := by
    obtain ⟨run, st, per, e⟩ := ppsRestart_eq s.time s.ports[p]
    rw [modPort_port, e]
  have hmatch : ∀ f : Policy → Policy, (f s.ports[p].pol).prearmed = false →
      prearmMatch (modPol p f (modPort p (ppsRestart s.time) s)) p (contractOf rdo pdo) = false := fun f hf => by
    unfold prearmMatch modPol
    dsimp only
    rw [modPort_port, hpol, hf]
    rfl
  have hasked : modPol p (fun l => { l with reqWait := true }) (modPol p
      (fun l => { l with next := some (contractOf rdo pdo), accepted := false }) (modPort p (ppsRestart s.time) s)) =
        modPort p (requested s.time (contractOf rdo pdo)) s := by
    unfold modPol
    rw [modPort_modPort, modPort_modPort]
    rfl
  unfold evaluateRequest
  dsimp only
  rw [ppsRestart_modPort, h]
  simp only [Option.map_some, hk, hrev, hnext, hheld]
  refine (if_neg (by simp)).trans ((if_neg ?_).trans (congrArg (submit p false _ _) hasked))
  exact fun hm => Bool.noConfusion ((hmatch _ hpre).symm.trans hm)

/-! ## Requests that reach the policy (04 R102, R105, R109, R112) -/

theorem requestTaken_pol (rdo : Word) (rev : Nat) (q : Port) :
    (requestTaken rdo rev q).pol = { q.pol with await := none } := by
  obtain ⟨b, pr, e, -⟩ := requestTaken_eq rdo rev q
  rw [e]
  rfl

theorem requestTaken_slotRuns {k : Fin 26} (h : k ≠ 6) (rdo : Word) (rev : Nat) (q : Port) :
    (requestTaken rdo rev q).slotRuns k = q.slotRuns k := by
  obtain ⟨b, pr, e, -⟩ := requestTaken_eq rdo rev q
  rw [e]
  exact slotRuns_stopSlot_ne q h

theorem requestTaken_ctl (rdo : Word) (rev : Nat) (q : Port) : ∃ b,
    (requestTaken rdo rev q).ctx[(0 : Fin 3)].ctl = requestCtl rev b q.ctx[(0 : Fin 3)].ctl := by
  obtain ⟨b, pr, e, -⟩ := requestTaken_eq rdo rev q
  rw [e]
  exact ⟨b, congrArg CtxRegs.ctl (modCtx_self (stopSlot 6 q) (c := 0) fun c => { c with ctl := requestCtl rev b c.ctl })⟩

theorem requestTaken_clear {q : Port} (h : q.clear 0) (rdo : Word) (rev : Nat) : (requestTaken rdo rev q).clear 0 := by
  obtain ⟨hphy, htxq, hon, hor⟩ := h
  obtain ⟨b, hctl⟩ := requestTaken_ctl rdo rev q
  have hen : (requestTaken rdo rev q).ctxOn 0 = q.ctxOn 0 := by
    rw [Port.ctxOn, hctl, requestCtl_en]
    obtain ⟨b, pr, e, -⟩ := requestTaken_eq rdo rev q
    rw [e]
    rfl
  have hres : ∀ d : Fin 3, (requestTaken rdo rev q).result d = q.result d := fun d => by
    obtain ⟨b, pr, e, -⟩ := requestTaken_eq rdo rev q
    rw [e]
    exact congrArg F.CTX_TXSTAT.RESULT.get (modCtx_field (stopSlot 6 q) (d := d) (c := 0)
      (fun c => { c with ctl := requestCtl rev b c.ctl }) CtxRegs.txstat rfl)
  refine ⟨?_, ?_, hen.trans hon, ?_⟩
  · simp only [Port.phyHeld, Port.holdsPhy, hres] at hphy ⊢
    exact hphy
  · obtain ⟨b, pr, e, -⟩ := requestTaken_eq rdo rev q
    rw [e]
    exact htxq
  · obtain ⟨b, pr, e, -⟩ := requestTaken_eq rdo rev q
    rw [e]
    exact hor

/-- The port is an attached source. -/
abbrev Port.offers (q : Port) : Prop := q.attached = true ∧ q.isSource = true

theorem eprHeard_role (now : Nat) (c : Fin 3) (q : Port) : (eprHeard now c q).attached = q.attached ∧
    (eprHeard now c q).isSource = q.isSource ∧ (eprHeard now c q).pol = q.pol := by
  obtain ⟨run, st, per, e⟩ := eprHeard_eq now c q
  rw [e]
  exact ⟨rfl, rfl, rfl⟩

theorem polRequest_source {rev : Nat} (hs : Served p s) (ho : s.ports[p].offers) (hacc : s.ports[p].pol.accepted = false) :
    polRequest p rdo rev (modPort p (eprHeard s.time 0) s) =
      evaluateRequest p rdo (modPort p (requestTaken rdo rev) (heardState p s)) := by
  obtain ⟨hatt, hsrc, hpol⟩ := eprHeard_role s.time 0 s.ports[p]
  refine (if_neg ?_).trans ?_
  · rw [modPort_port, hatt, hsrc, ho.1, ho.2]
    decide
  rw [heard_eprHeard false hs]
  refine (if_neg ?_).trans (congrArg (evaluateRequest p rdo) ?_)
  · rw [modPort_port, hpol, hacc]
    decide
  unfold slotOff' setAwait modPol
  rw [modPort_modPort, modPort_modPort]
  rfl

/-- A Request for no object of the offer. -/
def requestDenied (now : Nat) (rdo : Word) (rev : Nat) (q : Port) : Port :=
  rejected (ppsRestart now (requestTaken rdo rev q))

theorem requestDenied_denies {q t : Port} {now rev : Nat} (ht : Talks q t) (hdisc : q.pol.discDue = false) :
    let u := requestDenied now rdo rev t
    u.settled ∧ Spoken q u ∧ PathKept q u ∧
      (∃ m, Port.sends 0 m (.reject false) u ∧ m.length = 2 ∧ msgType m = 4 ∧ msgNobj m = 0 ∧ msgExt m = false) ∧
      F.CTX_CTL.REV.get u.ctx[(0 : Fin 3)].ctl = (if rev ≤ 1 then 1 else 2) ∧
      F.PD_REV.PARTNER.get u.pd.rev = if rev ≤ 1 then 0x20 else F.PD_REV.PARTNER.get q.pd.rev := by
  intro u
  obtain ⟨⟨run, st, per, e⟩, h24, h20⟩ := ht
  have hslot : ∀ k : Fin 26, k ≠ 6 → k ≠ 23 → u.slotRuns k = t.slotRuns k := fun k h6 h23 =>
    (ppsRestart_slotRuns now h23 _).trans (requestTaken_slotRuns h6 rdo rev t)
  obtain ⟨b, hctl⟩ := requestTaken_ctl rdo rev t
  have hsends : Port.sends 0 (ctrlMsg _ 0 4) (.reject false) u := sent_sends _ _
  have hrev : F.CTX_CTL.REV.get u.ctx[(0 : Fin 3)].ctl = if rev ≤ 1 then 1 else 2 := by
    have hkeep : u.ctx[(0 : Fin 3)].ctl = (requestTaken rdo rev t).ctx[(0 : Fin 3)].ctl := by
      obtain ⟨run, st, per, e⟩ := ppsRestart_eq now (requestTaken rdo rev t)
      exact (sent_ctl _ _ 0).trans (by rw [e])
    rw [hkeep, hctl, requestCtl_rev]
  have hkeep : u.core = q.core ∧ u.pth = q.pth ∧ u.pol.spoke = true ∧ u.pol.contract = q.pol.contract ∧
      u.pol.discDue = q.pol.discDue ∧
      F.PD_REV.PARTNER.get u.pd.rev = if rev ≤ 1 then 0x20 else F.PD_REV.PARTNER.get q.pd.rev := by
    obtain ⟨b, pr, e2, hpr⟩ := requestTaken_eq rdo rev t
    obtain ⟨run, st, per, e3⟩ := ppsRestart_eq now (requestTaken rdo rev t)
    simp only [u, requestDenied]
    rw [e3, e2]
    rw [e] at hpr ⊢
    exact ⟨rfl, rfl, rfl, rfl, rfl, hpr⟩
  obtain ⟨hcore, hpth, hspoke, hcontract, hdue, hpartner⟩ := hkeep
  exact ⟨⟨hdue.trans hdisc, .inr (sent_phyHeld _ _)⟩,
    ⟨hspoke, (hslot 24 (by decide) (by decide)).trans h24, fun he => (hslot 20 (by decide) (by decide)).trans (h20 he)⟩,
    ⟨hpth, hcontract, st_of_core hcore⟩,
    ⟨_, hsends, rfl, ctrlMsg_fields _ (by decide)⟩, hrev, hpartner⟩

theorem request_denied {rev : Nat} (hs : Served p s) (ho : s.ports[p].offers) (hq : s.ports[p].quiet 0)
    (hacc : s.ports[p].pol.accepted = false) (hnone : ∀ x ∈ s.ports[p].pol.sent, x.1 ≠ rdoPos rdo) :
    MovesPort (.requestReceived p rdo rev) s p fun t => Spoken s.ports[p] t ∧ PathKept s.ports[p] t ∧
      (∃ m, Port.sends 0 m (.reject false) t ∧ m.length = 2 ∧ msgType m = 4 ∧ msgNobj m = 0 ∧ msgExt m = false) ∧
      F.CTX_CTL.REV.get t.ctx[0].ctl = (if rev ≤ 1 then 1 else 2) ∧
      F.PD_REV.PARTNER.get t.pd.rev = if rev ≤ 1 then 0x20 else F.PD_REV.PARTNER.get s.ports[p].pd.rev := by
  refine heard_moves (u := requestDenied s.time rdo rev) rfl hs ?_ fun t ht => requestDenied_denies ht hq.2.2.2.2.2.1
  have ht := heardState_talks hs
  have hsent : (requestTaken rdo rev (heardState p s).ports[p]).pol.sent = s.ports[p].pol.sent := by
    rw [requestTaken_pol, ht.pol]
  have hfind : (modPort p (requestTaken rdo rev) (heardState p s)).ports[p].pol.sent.find? (fun x => x.1 == rdoPos rdo) =
      none := by
    rw [modPort_port, hsent, List.find?_eq_none]
    exact fun x hx h => hnone x hx (beq_iff_eq.mp h)
  have hclear : (modPort p (ppsRestart s.time) (modPort p (requestTaken rdo rev) (heardState p s))).ports[p].clear 0 := by
    obtain ⟨run, st, per, e⟩ := ppsRestart_eq s.time (requestTaken rdo rev (heardState p s).ports[p])
    rw [modPort_port, modPort_port, e]
    exact requestTaken_clear (ht.clear (clear_of_quiet hq)) rdo rev
  rw [polRequest_source hs ho hacc, evaluateRequest_none hfind]
  refine (rejectRequest_eq hclear).trans ?_
  rw [modPort_modPort, modPort_modPort]
  rfl

/-- What the port keeps as it takes a Request. -/
structure Took (t u : Port) : Prop where
  core : u.core = t.core
  pth : u.pth = t.pth
  pol : u.pol = { t.pol with await := none }
  phy : u.phyHeld = t.phyHeld
  slots (k : Fin 26) : k ≠ 6 → u.slotRuns k = t.slotRuns k

theorem requestTaken_took (rdo : Word) (rev : Nat) (q : Port) : Took q (requestTaken rdo rev q) := by
  have hres : ∀ d : Fin 3, (requestTaken rdo rev q).result d = q.result d := fun d => by
    obtain ⟨b, pr, e, -⟩ := requestTaken_eq rdo rev q
    rw [e]
    exact congrArg F.CTX_TXSTAT.RESULT.get (modCtx_field (stopSlot 6 q) (d := d) (c := 0)
      (fun c => { c with ctl := requestCtl rev b c.ctl }) CtxRegs.txstat rfl)
  refine ⟨?_, ?_, requestTaken_pol _ _ _, by simp only [Port.phyHeld, Port.holdsPhy, hres],
    fun k h => requestTaken_slotRuns h _ _ _⟩
  · obtain ⟨b, pr, e, -⟩ := requestTaken_eq rdo rev q
    rw [e]
    rfl
  · obtain ⟨b, pr, e, -⟩ := requestTaken_eq rdo rev q
    rw [e]
    rfl

/-- An EPR_Request taken: the answer to the offer has come. -/
def answerTaken (q : Port) : Port := stopSlot 6 { q with pol.await := none }

theorem answerTaken_took (q : Port) : Took q (answerTaken q) :=
  ⟨rfl, rfl, rfl, rfl, fun _ h => slotRuns_stopSlot_ne q h⟩

/-- A Request stands before the caddy. -/
abbrev Submits (i : Instr) (s : State) (p : PortId) (k : Contract) : Prop :=
  Moves i s fun t => Spoken s.ports[p] t.ports[p] ∧ PathKept s.ports[p] t.ports[p] ∧
    t.ports[p].pol.next = some k ∧ t.ports[p].pol.reqWait = true ∧ t.ports[p].phyHeld = false ∧
    (s.ports[p].pol.contract.map Contract.kind = some 1 → t.ports[p].slotRuns 23 = true) ∧
    (∃ r, t.cadp[p].req = some r ∧ r.volt = k.v100 ∧ r.pout = k.pout ∧ r.prearm = false) ∧
    (∀ r : PortId, r ≠ p → t.ports[r] = s.ports[r] ∧ t.cadp[r] = s.cadp[r])

theorem requested_port {q t u : Port} {now : Nat} {k : Contract} (ht : Talks q t) (hu : Took t u) :
    let w := requested now k u
    Spoken q w ∧ PathKept q w ∧ w.pol.next = some k ∧ w.pol.reqWait = true ∧ w.phyHeld = q.phyHeld ∧
      (q.pol.contract.map Contract.kind = some 1 → w.slotRuns 23 = true) ∧ w.pol.txq = q.pol.txq ∧
      w.pol.discDue = q.pol.discDue := by
  intro w
  have hpol := hu.pol
  rw [ht.pol] at hpol
  have hslot : ∀ k : Fin 26, k ≠ 6 → k ≠ 23 → w.slotRuns k = t.slotRuns k := fun k h6 h23 =>
    (ppsRestart_slotRuns now h23 u).trans (hu.slots k h6)
  have hpps : q.pol.contract.map Contract.kind = some 1 → w.slotRuns 23 = true := fun h => by
    have hrun : (ppsRestart now u).slotRuns 23 = true := by
      rw [ppsRestart, if_pos (by rw [hpol]; exact h)]
      exact slotRuns_startSlot_self _ 23 _
    exact hrun
  have hphy : t.phyHeld = q.phyHeld := by
    obtain ⟨⟨run, st, per, rfl⟩, -, -⟩ := ht
    rfl
  have hcore : t.core = q.core ∧ t.pth = q.pth := by
    obtain ⟨⟨run, st, per, rfl⟩, -, -⟩ := ht
    exact ⟨rfl, rfl⟩
  have hkeep : w.core = u.core ∧ w.pth = u.pth ∧ w.pol.spoke = u.pol.spoke ∧ w.pol.contract = u.pol.contract ∧
      w.pol.discDue = u.pol.discDue ∧ w.pol.txq = u.pol.txq ∧ w.phyHeld = u.phyHeld := by
    obtain ⟨run, st, per, e⟩ := ppsRestart_eq now u
    simp only [w, requested]
    rw [e]
    exact ⟨rfl, rfl, rfl, rfl, rfl, rfl, rfl⟩
  obtain ⟨hwcore, hwpth, hwspoke, hwcontract, hwdisc, hwtxq, hwphy⟩ := hkeep
  rw [hpol] at hwspoke hwcontract hwdisc hwtxq
  exact ⟨⟨hwspoke, (hslot 24 (by decide) (by decide)).trans ht.slot24,
      fun he => (hslot 20 (by decide) (by decide)).trans (ht.slot20 he)⟩,
    ⟨hwpth.trans (hu.pth.trans hcore.2), hwcontract, st_of_core (hwcore.trans (hu.core.trans hcore.1))⟩, rfl, rfl,
    hwphy.trans (hu.phy.trans hphy), hpps, hwtxq, hwdisc⟩

theorem request_submits {v : Port → Port} {k : Contract} (hx : exec i s = .next (atMsg p 0 i f s)) (hs : Served p s)
    (hq : s.ports[p].quiet 0) (hv : ∀ q, Took q (v q))
    (hf : f (modPort p (eprHeard s.time 0) s) = submit p false k.v100 k.pout
      (modPort p (fun q => requested s.time k (v q)) (heardState p s))) : Submits i s p k := by
  obtain ⟨ha, hw, hnopd, hh⟩ := hs
  obtain ⟨hphy, htxq, -, -, -, hdisc, -, -⟩ := hq
  have hx' := exec_talked (g := fun t => submit p false k.v100 k.pout (modPort p (fun q => requested s.time k (v q)) t))
    hx hh ha hf
  have ht := talked_talks s.time hnopd
  obtain ⟨hspoken, hkept, hnext, hwait, hphy', hpps, htxq', hdisc'⟩ :=
    requested_port (now := s.time) (k := k) ht (hv (talked s.time 0 s.ports[p]))
  have hport : (modPort p (fun q => requested s.time k (v q)) (heardState p s)).ports[p] =
      requested s.time k (v (talked s.time 0 s.ports[p])) := by
    rw [modPort_port, modPort_port]
  have hsame : ∀ t : State, (submit p false k.v100 k.pout t).ports[p] = t.ports[p] := fun _ => rfl
  have hset : (submit p false k.v100 k.pout (modPort p (fun q => requested s.time k (v q)) (heardState p s))).ports[p].settled := by
    rw [hsame, hport]
    exact ⟨hdisc'.trans hdisc, .inl (htxq'.trans htxq)⟩
  have hw' : noWaits (submit p false k.v100 k.pout (modPort p (fun q => requested s.time k (v q)) (heardState p s))) p := hw
  rw [policyNext_eq_self hw' hset] at hx'
  refine ⟨_, hx', ?_⟩
  beta_reduce
  rw [hsame, hport]
  refine ⟨hspoken, hkept, hnext, hwait, hphy'.trans hphy, hpps, ?_, fun r hr => ⟨?_, ?_⟩⟩
  · exact ⟨_, congrArg CadPort.req (vset_self _ _ p), rfl, rfl, rfl⟩
  · have hother : (modPort p (fun q => requested s.time k (v q)) (heardState p s)).ports[r] = s.ports[r] := by
      rw [modPort_other _ _ _ r hr, modPort_other _ _ _ r hr]
    exact hother
  · exact vset_ne _ _ hr

variable {rdo pdo : Word}

/-- The offer's object that a Request names. -/
abbrev Named (q : Port) (rdo pdo : Word) : Prop :=
  (q.pol.sent.find? fun x => x.1 == rdoPos rdo) = some (rdoPos rdo, pdo)

theorem evaluate_taken {v : Port → Port} {t : State} {q : Port} (ht : Talks q t.ports[p])
    (hv : Took t.ports[p] (v t.ports[p])) (hnamed : Named q rdo pdo)
    (hk : withinObject (contractOf rdo pdo) = true) (hrev : revCode (v t.ports[p]).ctx[0] = 2)
    (hnext : q.pol.next = none) (hheld : q.pol.doneHeld = false) (hpre : q.pol.prearmed = false) :
    evaluateRequest p rdo (modPort p v t) = submit p false (contractOf rdo pdo).v100 (contractOf rdo pdo).pout
      (modPort p (fun q => requested t.time (contractOf rdo pdo) (v q)) t) := by
  have hpol := hv.pol
  rw [ht.pol] at hpol
  have hport : (modPort p v t).ports[p] = v t.ports[p] := modPort_port p v t
  rw [evaluateRequest_submits (n := rdoPos rdo) (pdo := pdo) (by rw [hport, hpol]; exact hnamed) hk (by rw [hport]; exact hrev)
    (by rw [hport, hpol]; exact hnext) (by rw [hport, hpol]; exact hheld) (by rw [hport, hpol]; exact hpre),
    modPort_modPort]
  rfl

theorem request_named {rev : Nat} (hs : Served p s) (ho : s.ports[p].offers) (hq : s.ports[p].quiet 0)
    (hacc : s.ports[p].pol.accepted = false) (hpre : s.ports[p].pol.prearmed = false)
    (hheld : s.ports[p].pol.doneHeld = false) (hnamed : Named s.ports[p] rdo pdo) (hrev : 1 < rev)
    (hk : withinObject (contractOf rdo pdo) = true) : Submits (.requestReceived p rdo rev) s p (contractOf rdo pdo) := by
  refine request_submits (v := requestTaken rdo rev) rfl hs hq (requestTaken_took rdo rev) ?_
  have hcode : revCode (requestTaken rdo rev (heardState p s).ports[p]).ctx[(0 : Fin 3)] = 2 := by
    obtain ⟨b, hctl⟩ := requestTaken_ctl rdo rev (heardState p s).ports[p]
    have hnot : ¬rev ≤ 1 := Nat.not_le.mpr hrev
    rw [revCode, hctl, requestCtl_rev, if_neg hnot]
    rfl
  exact (polRequest_source hs ho hacc).trans
    (evaluate_taken (heardState_talks hs) (requestTaken_took _ _ _) hnamed hk hcode hq.2.2.2.1 hheld hpre)

theorem polEprRequest_source (hs : Served p s) (ho : s.ports[p].offers) (hacc : s.ports[p].pol.accepted = false) :
    polEprRequest p rdo pdo (modPort p (eprHeard s.time 0) s) =
      if (s.ports[p].pol.sent.find? fun x => x.1 == rdoPos rdo).map Prod.snd == some pdo &&
          F.PD_PHYCFG.EPR.on s.ports[p].pd.phycfg then evaluateRequest p rdo (modPort p answerTaken (heardState p s))
      else rejectRequest p false (modPort p answerTaken (heardState p s)) := by
  obtain ⟨hatt, hsrc, hpol⟩ := eprHeard_role s.time 0 s.ports[p]
  obtain ⟨-, -, -, hcfg, -, -⟩ := eprHeard_keeps s.time 0 s.ports[p]
  have htaken : slotOff' p 6 (setAwait p none (heardState p s)) = modPort p answerTaken (heardState p s) := by
    unfold slotOff' setAwait modPol
    rw [modPort_modPort]
    rfl
  refine (if_neg ?_).trans ?_
  · rw [modPort_port, hatt, hsrc, ho.1, ho.2]
    decide
  rw [heard_eprHeard false hs]
  refine (if_neg ?_).trans ?_
  · rw [modPort_port, hpol, hacc]
    decide
  · rw [htaken, modPort_port, hpol, hcfg]

theorem eprRequest_named (hs : Served p s) (ho : s.ports[p].offers) (hq : s.ports[p].quiet 0)
    (hacc : s.ports[p].pol.accepted = false) (hpre : s.ports[p].pol.prearmed = false)
    (hheld : s.ports[p].pol.doneHeld = false) (hnamed : Named s.ports[p] rdo pdo) (hrev : revCode s.ports[p].ctx[0] = 2)
    (he : F.PD_PHYCFG.EPR.on s.ports[p].pd.phycfg = true)
    (hk : withinObject (contractOf rdo pdo) = true) : Submits (.eprRequestReceived p rdo pdo) s p (contractOf rdo pdo) := by
  refine request_submits (v := answerTaken) rfl hs hq answerTaken_took ?_
  have hcode : revCode (answerTaken (heardState p s).ports[p]).ctx[(0 : Fin 3)] = 2 := by
    obtain ⟨⟨run, st, per, e⟩, -, -⟩ := heardState_talks hs
    rw [e]
    exact hrev
  refine (polEprRequest_source hs ho hacc).trans ((if_pos ?_).trans
    (evaluate_taken (heardState_talks hs) (answerTaken_took _) hnamed hk hcode hq.2.2.2.1 hheld hpre))
  rw [hnamed, he, Option.map_some, beq_self_eq_true]
  rfl

/-- An EPR_Request whose copy is not the object offered. -/
theorem eprRequest_denied {other : Word} (hs : Served p s) (ho : s.ports[p].offers) (hq : s.ports[p].quiet 0)
    (hacc : s.ports[p].pol.accepted = false) (hnamed : Named s.ports[p] rdo pdo) (hne : other ≠ pdo) :
    MovesPort (.eprRequestReceived p rdo other) s p fun t => Spoken s.ports[p] t ∧ PathKept s.ports[p] t ∧
      Port.sends 0 (ctrlMsg s.ports[p] 0 4) (.reject false) t := by
  refine heard_moves (u := fun q => rejected (answerTaken q)) rfl hs ?_ fun t ht => ?_
  · have hclear : (modPort p answerTaken (heardState p s)).ports[p].clear 0 := by
      rw [modPort_port]
      exact (heardState_talks hs).clear (clear_of_quiet hq)
    refine (polEprRequest_source hs ho hacc).trans ((if_neg ?_).trans ?_)
    · rw [hnamed, Option.map_some]
      simp [hne.symm]
    · rw [rejectRequest_eq hclear, modPort_modPort]
  · have h24 : (rejected (answerTaken t)).slotRuns 24 = t.slotRuns 24 := (answerTaken_took t).slots 24 (by decide)
    have h20 : (rejected (answerTaken t)).slotRuns 20 = t.slotRuns 20 := (answerTaken_took t).slots 20 (by decide)
    have hmsg : Port.sends 0 (ctrlMsg t 0 4) (.reject false) (rejected (answerTaken t)) := sent_sends _ _
    rw [ht.voice.ctrlMsg] at hmsg
    refine ⟨⟨?_, .inr (sent_phyHeld _ _)⟩, ⟨?_, h24.trans ht.slot24, fun he => h20.trans (ht.slot20 he)⟩, ?_, hmsg⟩
    · exact (congrArg Policy.discDue ht.pol).trans hq.2.2.2.2.2.1
    · exact congrArg Policy.spoke ht.pol
    · obtain ⟨⟨run, st, per, rfl⟩, -, -⟩ := ht
      exact ⟨rfl, rfl, rfl⟩

end

end Sys2Proof.Machine

/-! SUPPORT. EPR mode, swaps and the messages that a port answers at once (04 R102, R110, R111, R113, R115, Table PDE-4). -/

namespace Sys2Proof.Machine
open Sys2Proof

section
variable {p : PortId} {s : State} {i : Instr} {f : State → State} {q t : Port}

/-! ## The steps -/

/-- What an answer on SOP leaves of a port whose partner was heard. -/
theorem sent_talks {m : List Byte} {w : TxPurpose} (ht : Talks q t) (hq : q.quiet 0) :
    (sent 0 m w t).settled ∧ Spoken q (sent 0 m w t) ∧ PathKept q (sent 0 m w t) ∧ Port.sends 0 m w (sent 0 m w t) ∧
      (sent 0 m w t).pol.swap = none := by
  have h24 := ht.slot24
  have h20 := ht.slot20
  obtain ⟨⟨run, st, per, rfl⟩, -, -⟩ := ht
  exact ⟨sent_settled _ _ hq.2.2.2.2.2.1, ⟨rfl, h24, h20⟩, ⟨rfl, rfl, rfl⟩, sent_sends _ _, hq.2.2.2.2.1⟩

/-- A control message that answers on SOP. -/
def replied (type : Nat) (q : Port) : Port := sent 0 (ctrlMsg q 0 type) .reply q

theorem sendReply_eq (type : Nat) (h : s.ports[p].clear 0) :
    sendCtrl p type false .reply s = modPort p (replied type) s := engineSend_eq h rfl rfl _

theorem row_replies {type : Nat} (hx : exec i s = .next (atMsg p 0 i f s)) (hs : Served p s) (hq : s.ports[p].quiet 0)
    (hf : f (modPort p (eprHeard s.time 0) s) = sendCtrl p type false .reply (heardState p s)) :
    MovesPort i s p fun t => Spoken s.ports[p] t ∧ PathKept s.ports[p] t ∧ t.pol.swap = none ∧
      Port.sends 0 (ctrlMsg s.ports[p] 0 type) .reply t := by
  refine heard_moves (u := replied type) hx hs
    (hf.trans (sendReply_eq type ((heardState_talks hs).clear (clear_of_quiet hq)))) fun t ht => ?_
  obtain ⟨hset, hspoken, hkept, hsends, hswap⟩ := sent_talks (m := ctrlMsg t 0 type) (w := .reply) ht hq
  rw [ht.voice.ctrlMsg] at hsends
  have hsends' : Port.sends 0 (ctrlMsg s.ports[p] 0 type) .reply (replied type t) := by
    rw [replied, ht.voice.ctrlMsg]
    exact sent_sends _ _
  exact ⟨hset, hspoken, hkept, hswap, hsends'⟩

/-- A swap of the partner. -/
def partnerSwap (kind : Nat) (src : Bool) : Swap := { kind := kind, step := .asked, byDevice := false, wasSource := src }

/-- A swap of the partner accepted. -/
def swapTaken (kind : Nat) (q : Port) : Port :=
  sent 0 (ctrlMsg q 0 3) (.swapAccept kind) { q with pol.swap := some (partnerSwap kind q.isSource) }

theorem takeSwap_eq (kind : Nat) (h : s.ports[p].clear 0) : takeSwap p kind s = modPort p (swapTaken kind) s := by
  have hset : modPol p (fun l => { l with swap := some (partnerSwap kind s.ports[p].isSource) }) s =
      modPort p (fun q => { q with pol.swap := some (partnerSwap kind q.isSource) }) s := modPort_congr rfl
  refine (congrArg (sendCtrl p 3 false (.swapAccept kind)) hset).trans ?_
  rw [sendCtrl, engineSend_eq (by rw [modPort_port]; exact h) rfl rfl, modPort_modPort]
  rfl

theorem row_takes {kind : Nat} (hx : exec i s = .next (atMsg p 0 i f s)) (hs : Served p s) (hq : s.ports[p].quiet 0)
    (hf : f (modPort p (eprHeard s.time 0) s) = takeSwap p kind (heardState p s)) :
    MovesPort i s p fun t => Spoken s.ports[p] t ∧ PathKept s.ports[p] t ∧
      t.pol.swap = some (partnerSwap kind s.ports[p].isSource) ∧
      Port.sends 0 (ctrlMsg s.ports[p] 0 3) (.swapAccept kind) t := by
  refine heard_moves (u := swapTaken kind) hx hs
    (hf.trans (takeSwap_eq kind ((heardState_talks hs).clear (clear_of_quiet hq)))) fun t ht => ?_
  have hsends : Port.sends 0 (ctrlMsg s.ports[p] 0 3) (.swapAccept kind) (swapTaken kind t) := by
    rw [swapTaken, ht.voice.ctrlMsg]
    exact sent_sends _ _
  have h24 := ht.slot24
  have h20 := ht.slot20
  obtain ⟨⟨run, st, per, rfl⟩, -, -⟩ := ht
  exact ⟨sent_settled _ _ hq.2.2.2.2.2.1, ⟨rfl, h24, h20⟩, ⟨rfl, rfl, rfl⟩, rfl, hsends⟩

/-- A Hard Reset that the engine asks for at a message. -/
theorem row_hardAsks (hx : exec i s = .next (atMsg p 0 i f s)) (hs : Served p s) (hq : s.ports[p].quiet 0)
    (hcount : s.ports[p].pol.hrCount < 2)
    (hf : f (modPort p (eprHeard s.time 0) s) = engineHardReset p (heardState p s)) :
    MovesPort i s p fun t => Spoken s.ports[p] t ∧ PathKept s.ports[p] t ∧ t.phw.hrWait = true ∧
      t.slotRuns 4 = true ∧ t.pd.phycfg = s.ports[p].pd.phycfg := by
  have hless : (heardState p s).ports[p].pol.hrCount < 2 := by
    rw [(heardState_talks hs).pol]
    exact hcount
  refine heard_moves (u := hardAsked s.time) hx hs (hf.trans (engineHardReset_asks hless)) fun t ht => ?_
  have hslot : ∀ k : Fin 26, k ≠ 4 → (hardAsked s.time t).slotRuns k = t.slotRuns k := fun k hk =>
    slotRuns_startSlot_ne _ _ hk
  have h24 := (hslot 24 (by decide)).trans ht.slot24
  have h20 := fun he => (hslot 20 (by decide)).trans (ht.slot20 he)
  have h4 : (hardAsked s.time t).slotRuns 4 = true := slotRuns_startSlot_self _ 4 _
  obtain ⟨⟨run, st, per, rfl⟩, -, -⟩ := ht
  exact ⟨⟨hq.2.2.2.2.2.1, .inl hq.2.1⟩, ⟨rfl, h24, h20⟩, ⟨rfl, rfl, rfl⟩, rfl, h4, rfl⟩

/-! ## EPR mode (04 R110, R111) -/

theorem eprVerdict_modPort {g : Port → Port} (hcore : (g s.ports[p]).core = s.ports[p].core)
    (hpol : (g s.ports[p]).pol.cable = s.ports[p].pol.cable ∧ (g s.ports[p]).pol.sent = s.ports[p].pol.sent ∧
      (g s.ports[p]).pol.contract = s.ports[p].pol.contract ∧ (g s.ports[p]).pol.eprCaps = s.ports[p].pol.eprCaps)
    (hrev : (g s.ports[p]).pd.rev = s.ports[p].pd.rev) (hcc : (g s.ports[p]).cc = s.ports[p].cc) :
    eprVerdict (modPort p g s) p = eprVerdict s p := by
  obtain ⟨hcable, hsent, hcontract, hcaps⟩ := hpol
  unfold eprVerdict Port.vconnOn
  dsimp only
  rw [cableOf_modPort hcore hcable, modPort_port, hcore, hsent, hcontract, hcaps, hrev, hcc]

/-- EPR_Mode (Enter) acknowledged. -/
def eprAcked (v : Nat) (q : Port) : Port := sent 0 (eprModeMsg 2 0 q) (.eprAck v) (stopSlot 22 q)

theorem eprEnter_moves (hs : Served p s) (ho : s.ports[p].offers) (hq : s.ports[p].quiet 0) :
    MovesPort (.eprModeEnter p) s p fun t => Spoken s.ports[p] t ∧ PathKept s.ports[p] t ∧ t.slotRuns 22 = false ∧
      Port.sends 0 (eprModeMsg 2 0 s.ports[p]) (.eprAck (eprVerdict s p)) t := by
  refine heard_moves (u := eprAcked (eprVerdict s p)) rfl hs ?_ fun t ht => ?_
  · obtain ⟨hatt, hsrc, -⟩ := eprHeard_role s.time 0 s.ports[p]
    have hverdict : eprVerdict (modPort p (stopSlot 22) (heardState p s)) p = eprVerdict s p := by
      obtain ⟨run, st, per, spk, e⟩ := talked_eq s.time 0 hs.2.2.1
      rw [modPort_modPort]
      refine eprVerdict_modPort ?_ ?_ ?_ ?_ <;> rw [e]
      · rfl
      · exact ⟨rfl, rfl, rfl, rfl⟩
      · rfl
      · rfl
    have hclear : (modPort p (stopSlot 22) (heardState p s)).ports[p].clear 0 := by
      rw [modPort_port]
      exact (heardState_talks hs).clear (clear_of_quiet hq)
    refine (if_pos ?_).trans ?_
    · rw [modPort_port, hatt, hsrc, ho.1, ho.2]
      rfl
    dsimp only
    rw [heard_eprHeard true hs, slotOff', hverdict, engineSend_eq hclear rfl rfl, modPort_modPort]
    rfl
  · have hsends : Port.sends 0 (eprModeMsg 2 0 s.ports[p]) (.eprAck (eprVerdict s p)) (eprAcked (eprVerdict s p) t) := by
      rw [eprAcked, eprModeMsg, eprModeMsg, ht.voice.dataMsg]
      exact sent_sends _ _
    have hslot : ∀ k : Fin 26, k ≠ 22 → (eprAcked (eprVerdict s p) t).slotRuns k = t.slotRuns k := fun k hk =>
      slotRuns_stopSlot_ne _ hk
    have h24 := (hslot 24 (by decide)).trans ht.slot24
    have h20 := fun he => (hslot 20 (by decide)).trans (ht.slot20 he)
    have h22 : (eprAcked (eprVerdict s p) t).slotRuns 22 = false := slotRuns_stopSlot_self t 22
    obtain ⟨⟨run, st, per, rfl⟩, -, -⟩ := ht
    exact ⟨sent_settled _ _ hq.2.2.2.2.2.1, ⟨rfl, h24, h20⟩, ⟨rfl, rfl, rfl⟩, h22, hsends⟩

theorem eprExit_off (hs : Served p s) (hidle : s.ports[p].idle) (he : F.PD_PHYCFG.EPR.on s.ports[p].pd.phycfg = false) :
    exec (.eprModeExit p) s = .next s := by
  obtain ⟨ha, hw, -, hh⟩ := hs
  have hx : exec (.eprModeExit p) s = .next (atMsg p 0 (.eprModeExit p) (polEprExit p) s) := rfl
  have hsame : modPort p (eprHeard s.time 0) s = s := modPort_eq_self (eprHeard_off _ he)
  have hoff : polEprExit p s = s := if_pos (by rw [he]; rfl)
  rw [hx, atMsg_hears hh, hsame, atPd_acts ha, hoff, policyNext_eq_self hw (settled_of_idle hidle)]

/-- EPR mode left. -/
def eprLeft (q : Port) : Port := stopSlot 20 { q with pd.phycfg := F.PD_PHYCFG.EPR.clr q.pd.phycfg }

/-- Source_Capabilities sent. -/
def capsSent (offer : List Word) (q : Port) : Port :=
  sent 0 (dataMsg q 0 1 offer) .srcCaps { q with pol.sent := numbered 1 offer }

/-- The voltage of the contract, in 20 mV. -/
abbrev Port.contractVolt (q : Port) : Nat := (q.pol.contract.map Contract.volt).getD 0

theorem polEprExit_epr (hs : Served p s) (he : F.PD_PHYCFG.EPR.on s.ports[p].pd.phycfg = true) :
    polEprExit p (modPort p (eprHeard s.time 0) s) =
      if s.ports[p].contractVolt > 1000 then engineHardReset p (heardState p s)
      else sendCaps p false (modPort p eprLeft (heardState p s)) := by
  obtain ⟨-, -, hpol⟩ := eprHeard_role s.time 0 s.ports[p]
  obtain ⟨-, -, -, hcfg, -, -⟩ := eprHeard_keeps s.time 0 s.ports[p]
  have hleft : slotOff' p 20 (modPort p (fun q => { q with pd.phycfg := F.PD_PHYCFG.EPR.clr q.pd.phycfg })
      (heardState p s)) = modPort p eprLeft (heardState p s) := by
    rw [slotOff', modPort_modPort]
    rfl
  refine (if_neg ?_).trans ?_
  · rw [modPort_port, hcfg, he]
    decide
  rw [heard_eprHeard false hs, hleft, modPort_port, hpol]

theorem eprLeft_msg (q : Port) (offer : List Word) : dataMsg (eprLeft q) 0 1 offer = dataMsg q 0 1 offer := by
  have hhead : headerOf (eprLeft q) 0 = headerOf q 0 := headerOf_of_roles (on_clr_apart _ _ (by decide) _)
    (on_clr_apart _ _ (by decide) _) rfl
  simp only [dataMsg, hhead]

theorem eprLeft_ctxOn (q : Port) : (eprLeft q).ctxOn 0 = q.ctxOn 0 := by
  have hbit : bitOf (F.PD_PHYCFG.EPR.clr q.pd.phycfg) 0 = bitOf q.pd.phycfg 0 := by
    rw [bitOf, getLsbD_clr, bitOf]
    simp [F.PD_PHYCFG.EPR]
  exact congrArg (F.CTX_CTL.EN.on q.ctx[(0 : Fin 3)].ctl && ·) hbit

theorem eprExit_moves (hs : Served p s) (hq : s.ports[p].quiet 0) (he : F.PD_PHYCFG.EPR.on s.ports[p].pd.phycfg = true)
    (hv : s.ports[p].contractVolt ≤ 1000) : MovesPort (.eprModeExit p) s p fun t => t.pol.spoke = true ∧
      PathKept s.ports[p] t ∧ F.PD_PHYCFG.EPR.on t.pd.phycfg = false ∧ t.slotRuns 20 = false ∧
      Port.sends 0 (dataMsg s.ports[p] 0 1 ((sprOffers s p).take 7)) .srcCaps t := by
  refine heard_moves (u := fun q => capsSent ((sprOffers s p).take 7) (eprLeft q)) rfl hs ?_ fun t ht => ?_
  · have hoffers : sprOffers (modPort p eprLeft (heardState p s)) p = sprOffers s p := by
      obtain ⟨run, st, per, spk, e⟩ := talked_eq s.time 0 hs.2.2.1
      rw [modPort_modPort]
      refine sprOffers_modPort ?_
      rw [e]
      exact ⟨rfl, rfl, rfl, rfl, rfl, rfl, rfl, rfl, rfl, rfl, rfl⟩
    have hclear : (modPort p eprLeft (heardState p s)).ports[p].clear 0 := by
      obtain ⟨hphy, htxq, hon, hor⟩ := (heardState_talks hs).clear (clear_of_quiet hq)
      rw [modPort_port]
      exact ⟨hphy, htxq, (eprLeft_ctxOn _).trans hon, hor⟩
    have hoff : F.PD_PHYCFG.EPR.on (modPort p eprLeft (heardState p s)).ports[p].pd.phycfg = false := by
      rw [modPort_port]
      exact on_clr _ _
    refine (polEprExit_epr hs he).trans ((if_neg (Nat.not_lt.mpr hv)).trans ?_)
    rw [sendCaps_spr hoff hclear, hoffers, modPort_modPort]
    rfl
  · have hsends : Port.sends 0 (dataMsg s.ports[p] 0 1 ((sprOffers s p).take 7)) .srcCaps
        (capsSent ((sprOffers s p).take 7) (eprLeft t)) := by
      rw [capsSent, eprLeft_msg, ht.voice.dataMsg]
      exact sent_sends _ _
    have h20 : (capsSent ((sprOffers s p).take 7) (eprLeft t)).slotRuns 20 = false := slotRuns_stopSlot_self _ 20
    have hepr : F.PD_PHYCFG.EPR.on (capsSent ((sprOffers s p).take 7) (eprLeft t)).pd.phycfg = false := on_clr _ _
    obtain ⟨⟨run, st, per, rfl⟩, -, -⟩ := ht
    exact ⟨sent_settled _ _ hq.2.2.2.2.2.1, rfl, ⟨rfl, rfl, rfl⟩, hepr, h20, hsends⟩

theorem eprExit_hard (hs : Served p s) (hq : s.ports[p].quiet 0) (he : F.PD_PHYCFG.EPR.on s.ports[p].pd.phycfg = true)
    (hv : 1000 < s.ports[p].contractVolt) (hcount : s.ports[p].pol.hrCount < 2) :
    MovesPort (.eprModeExit p) s p fun t => Spoken s.ports[p] t ∧ PathKept s.ports[p] t ∧ t.phw.hrWait = true ∧
      t.slotRuns 4 = true ∧ F.PD_PHYCFG.EPR.on t.pd.phycfg = true := by
  refine (row_hardAsks rfl hs hq hcount ((polEprExit_epr hs he).trans (if_pos hv))).imp ?_
  rintro t ⟨hspoken, hkept, hwait, hslot, hcfg⟩
  exact ⟨hspoken, hkept, hwait, hslot, by rw [hcfg]; exact he⟩

end

end Sys2Proof.Machine

/-! SUPPORT. Swaps, PS_RDY, revisions, cables and alerts of the partner (04 R93, R102, R113, R115 to R117, Table PDE-4). -/

namespace Sys2Proof.Machine
open Sys2Proof

section
variable {p : PortId} {s : State} {q t : Port} {c : Fin 3}

/-! ## Swaps asked by the partner (04 R115, Table PDE-6) -/

/-- The type that refuses a message the port does not support. -/
abbrev refusalType (q : Port) (c : Fin 3) : Nat := if revCode q.ctx[c] = 1 then 4 else 16

theorem engineSend_congr {m m' : Port → List Byte} {ams : Bool} {w : TxPurpose} (h : m s.ports[p] = m' s.ports[p]) :
    engineSend p c m ams w s = engineSend p c m' ams w s := modPort_congr (by rw [h])

theorem sendNotSupported_heard (hs : Served p s) :
    sendNotSupported p 0 (heardState p s) = sendCtrl p (refusalType s.ports[p] 0) false .reply (heardState p s) := by
  refine engineSend_congr ?_
  have hcode : revCode (heardState p s).ports[p].ctx[(0 : Fin 3)] = revCode s.ports[p].ctx[(0 : Fin 3)] := by
    obtain ⟨⟨run, st, per, e⟩, -, -⟩ := heardState_talks hs
    rw [e]
  rw [hcode]

/-- PR_Swap on a port that supports none. -/
theorem prSwap_refused (hs : Served p s) (hq : s.ports[p].quiet 0) (h : bidirectional s p = false) :
    MovesPort (.prSwap p) s p fun t => Spoken s.ports[p] t ∧ PathKept s.ports[p] t ∧ t.pol.swap = none ∧
      Port.sends 0 (ctrlMsg s.ports[p] 0 (refusalType s.ports[p] 0)) .reply t := by
  refine row_replies rfl hs hq (Eq.trans ?_ (sendNotSupported_heard hs))
  unfold polPrSwap
  rw [heard_eprHeard true hs]
  exact if_pos (congrArg (! ·) h)

theorem prSwap_forbidden (hs : Served p s) (hq : s.ports[p].quiet 0) (h : bidirectional s p = true)
    (hok : s.ports[p].pol.prSwapOk = false) : MovesPort (.prSwap p) s p fun t => Spoken s.ports[p] t ∧
      PathKept s.ports[p] t ∧ t.pol.swap = none ∧ Port.sends 0 (ctrlMsg s.ports[p] 0 4) .reply t := by
  refine row_replies rfl hs hq ?_
  have hb : bidirectional (heardState p s) p = true := h
  unfold polPrSwap
  rw [heard_eprHeard true hs]
  dsimp only
  rw [hb, (heardState_talks hs).pol, hok]
  rfl

theorem prSwap_taken (hs : Served p s) (hq : s.ports[p].quiet 0) (h : bidirectional s p = true)
    (hok : s.ports[p].pol.prSwapOk = true) (hsrc : s.ports[p].isSource = true) :
    MovesPort (.prSwap p) s p fun t => Spoken s.ports[p] t ∧ PathKept s.ports[p] t ∧
      t.pol.swap = some (partnerSwap 0 s.ports[p].isSource) ∧
      Port.sends 0 (ctrlMsg s.ports[p] 0 3) (.swapAccept 0) t := by
  refine row_takes rfl hs hq ?_
  have hb : bidirectional (heardState p s) p = true := h
  have hsrc' : (heardState p s).ports[p].isSource = true := by
    obtain ⟨⟨run, st, per, e⟩, -, -⟩ := heardState_talks hs
    rw [e]
    exact hsrc
  unfold polPrSwap
  rw [heard_eprHeard true hs]
  dsimp only
  rw [hb, (heardState_talks hs).pol, hok, hsrc']
  rfl

theorem polDrSwap_eq (hs : Served p s) : polDrSwap p (modPort p (eprHeard s.time 0) s) =
    if !s.ports[p].pol.modes.isEmpty then engineHardReset p (heardState p s)
    else if s.ports[p].pol.drSwapOk then takeSwap p 1 (heardState p s)
    else sendCtrl p 4 false .reply (heardState p s) := by
  unfold polDrSwap
  rw [heard_eprHeard true hs]
  dsimp only
  rw [(heardState_talks hs).pol]

theorem polVconnSwap_on (hs : Served p s) (h : s.ports[p].vconnOn = true) :
    polVconnSwap p (modPort p (eprHeard s.time 0) s) = takeSwap p 2 (heardState p s) := by
  have hon : (heardState p s).ports[p].vconnOn = true := by
    obtain ⟨⟨run, st, per, e⟩, -, -⟩ := heardState_talks hs
    rw [e]
    exact h
  unfold polVconnSwap
  rw [heard_eprHeard true hs]
  exact if_pos (by rw [hon]; rfl)

theorem polVconnSwap_forbidden (hs : Served p s) (h : s.ports[p].vconnOn = false)
    (hok : s.ports[p].pol.vconnSwapOk = false) :
    polVconnSwap p (modPort p (eprHeard s.time 0) s) = sendCtrl p 4 false .reply (heardState p s) := by
  have hon : (heardState p s).ports[p].vconnOn = false := by
    obtain ⟨⟨run, st, per, e⟩, -, -⟩ := heardState_talks hs
    rw [e]
    exact h
  unfold polVconnSwap
  rw [heard_eprHeard true hs]
  refine if_neg ?_
  rw [hon, (heardState_talks hs).pol, hok]
  simp

theorem polFrSwap_eq (hs : Served p s) :
    sendCtrl p 16 false .reply (heard p true (modPort p (eprHeard s.time 0) s)) =
      sendCtrl p 16 false .reply (heardState p s) := congrArg _ (heard_eprHeard true hs)

/-! ## An unexpected PS_RDY (04 R93) -/

theorem psRdy_unexpected (hs : Served p s) (hq : s.ports[p].quiet 0) (hacc : s.ports[p].pol.accepted = false) :
    MovesPort (.psRdyReceived p) s p fun t => Spoken s.ports[p] t ∧
      PathKept s.ports[p] t ∧ t.idsReset 0 ∧ Port.sends 0 (ctrlMsg s.ports[p] 0 13) .softReset t := by
  have ht := heardState_talks hs
  refine heard_moves (u := softAsked) rfl hs ?_ fun t ht => ?_
  · have hnext : (heardState p s).ports[p].pol.next = none := by
      rw [ht.pol]
      exact hq.2.2.2.1
    have hswap : (heardState p s).ports[p].pol.swap = none := by
      rw [ht.pol]
      exact hq.2.2.2.2.1
    have hacc' : (heardState p s).ports[p].pol.accepted = false := by
      rw [ht.pol]
      exact hacc
    unfold polPsRdy
    rw [heard_eprHeard true hs]
    dsimp only
    rw [hswap]
    refine (if_pos (by rw [hnext]; simp)).trans ((if_neg (by rw [hacc']; simp)).trans ?_)
    exact softReset_asked hs.2.1 hnext (ht.clear (clear_of_quiet hq))
  · have hsends := softAsked_sends t
    rw [ht.voice.ctrlMsg] at hsends
    have hids := softAsked_idsReset t
    have h24 := ht.slot24
    have h20 := ht.slot20
    obtain ⟨ctl, cfg, stat, e⟩ := softLeft_eq t
    rw [softAsked, e] at hsends hids ⊢
    obtain ⟨⟨run, st, per, rfl⟩, -, -⟩ := ht
    exact ⟨sent_settled _ _ hq.2.2.2.2.2.1, ⟨rfl, h24, h20⟩, ⟨rfl, rfl, rfl⟩, hids, hsends⟩

/-! ## Security_Request (04 Table PDE-4) -/

/-- A message that a context refuses. -/
def refusedOn (c : Fin 3) (q : Port) : Port := sent c (ctrlMsg q c (refusalType q c)) .reply q

theorem sendNotSupported_eq (h : s.ports[p].clear c) : sendNotSupported p c s = modPort p (refusedOn c) s :=
  engineSend_eq h rfl rfl _

theorem security_moves (ha : Acts s p) (hw : noWaits s p) (hh : s.ports[p].hears c = true) (hq : s.ports[p].quiet c) :
    MovesPort (.securityRequestReceived p c) s p fun t => PathKept s.ports[p] t ∧
      Port.sends c (ctrlMsg s.ports[p] c (refusalType s.ports[p] c)) .reply t := by
  obtain ⟨run, st, per, e⟩ := eprHeard_eq s.time c s.ports[p]
  refine msgActs_moves (g := refusedOn c) rfl hh ha hw
    (sendNotSupported_eq (by rw [modPort_port]; exact clear_eprHeard _ (clear_of_quiet hq))) ?_ ?_ <;> rw [e]
  · exact sent_settled _ _ hq.2.2.2.2.2.1
  · have hvoice : ∀ type, ctrlMsg { s.ports[p] with pd.tmrrun := run, phw.tmrStart := st, phw.tmrPer := per } c type =
        ctrlMsg s.ports[p] c type := fun type => SameVoice.ctrlMsg (q := s.ports[p]) ⟨rfl, rfl⟩ type
    refine ⟨⟨rfl, rfl, rfl⟩, ?_⟩
    rw [refusedOn, hvoice]
    exact sent_sends _ _

/-! ## The cable's reply (04 R102, R113) -/

/-- The cable's reply taken, and the AMS of its discovery over. -/
def cableTaken (k : Cable) (rev : Nat) (q : Port) : Port := amsRestore (setCable k rev (stopSlot 17 q))

/-- A cable context with its revision. -/
def cableRev (rev : Nat) (r : CtxRegs) : CtxRegs := { r with ctl := F.CTX_CTL.REV.put (if rev < 0x30 then 1 else 2) r.ctl }

theorem setCable_ctx (k : Cable) (rev : Nat) (q : Port) (c : Fin 3) :
    (setCable k rev q).ctx[c] = if c = 0 then q.ctx[c] else cableRev rev q.ctx[c] := by
  have hctx : (setCable k rev q).ctx[c] = ((q.modCtx 1 (cableRev rev)).modCtx 2 (cableRev rev)).ctx[c] := rfl
  rw [hctx]
  fin_cases c
  · exact (modCtx_ne _ (cableRev rev) (by decide)).trans (modCtx_ne q (cableRev rev) (by decide))
  · exact (modCtx_ne _ (cableRev rev) (by decide)).trans (modCtx_self q (c := 1) (cableRev rev))
  · exact (modCtx_self _ (c := 2) (cableRev rev)).trans
      (congrArg (cableRev rev) (modCtx_ne q (cableRev rev) (by decide)))

theorem amsRestore_ctx (q : Port) : (amsRestore q).ctx = q.ctx := by
  obtain ⟨ctl, cfg, stat, e⟩ := amsRestore_eq q
  rw [e]

theorem cableTaken_takes (k : Cable) {rev : Nat} (hrev : rev < 256) (q : Port) : let t := cableTaken k rev q
    PathKept q t ∧ t.pol = { q.pol with cable := some k } ∧ F.PD_REV.CABLE.get t.pd.rev = rev ∧
      t.slotRuns 17 = false ∧ t.ctx[0] = q.ctx[0] ∧
      ∀ c : Fin 3, c ≠ 0 → F.CTX_CTL.REV.get t.ctx[c].ctl = if rev < 0x30 then 1 else 2 := by
  intro t
  have hctx : ∀ c : Fin 3, t.ctx[c] = (setCable k rev (stopSlot 17 q)).ctx[c] := fun c => by
    simp only [t, cableTaken, amsRestore_ctx]
  have hrest : PathKept q t ∧ t.pol = { q.pol with cable := some k } ∧
      t.pd.rev = F.PD_REV.CABLE.put rev q.pd.rev ∧ t.slotRuns 17 = false := by
    obtain ⟨ctl, cfg, stat, e⟩ := amsRestore_eq (setCable k rev (stopSlot 17 q))
    simp only [t, cableTaken]
    rw [e]
    exact ⟨⟨rfl, rfl, rfl⟩, rfl, rfl, slotRuns_stopSlot_self q 17⟩
  obtain ⟨hkept, hpol, hreg, hslot⟩ := hrest
  refine ⟨hkept, hpol, ?_, hslot, (hctx 0).trans (setCable_ctx k rev (stopSlot 17 q) 0), fun c hc => ?_⟩
  · rw [hreg, get_put _ (by decide)]
    exact Nat.mod_eq_of_lt hrev
  · rw [hctx, setCable_ctx, if_neg hc, cableRev, get_put _ (by decide)]
    split <;> rfl

theorem cableReply_moves {curr volt rev : Nat} {b : Bool} (ha : Acts s p) (hw : noWaits s p)
    (hh : s.ports[p].hears 1 = true) (hidle : s.ports[p].idle) (hrev : rev < 256) :
    let k : Cable := { curr := curr, volt := volt, epr := b, discovered := true }
    MovesPort (.cableDiscoverIdentityReply p curr volt b rev) s p fun t => PathKept s.ports[p] t ∧
      t.pol = { s.ports[p].pol with cable := some k } ∧ F.PD_REV.CABLE.get t.pd.rev = rev ∧ t.slotRuns 17 = false ∧
      t.ctx[0] = s.ports[p].ctx[0] ∧
      ∀ c : Fin 3, c ≠ 0 → F.CTX_CTL.REV.get t.ctx[c].ctl = if rev < 0x30 then 1 else 2 := by
  intro k
  have hdeaf : eprHeard s.time 1 s.ports[p] = s.ports[p] := if_neg (by simp)
  have htakes := cableTaken_takes k hrev s.ports[p]
  refine msgActs_moves (g := cableTaken k rev) rfl hh ha hw ?_ ?_ ?_
  · unfold polCableReply
    rw [endAms_eq, modPort_modPort]
    rfl
  · rw [hdeaf]
    have hset : ({ s.ports[p].pol with cable := some k } : Policy).discDue = false := hidle.2.2.2.2
    exact ⟨by rw [htakes.2.1]; exact hset, .inl (by rw [htakes.2.1]; exact hidle.1)⟩
  · rw [hdeaf]
    exact htakes

/-! ## The partner's revision (04 R102) -/

/-- PD_REV shows the partner's revision. -/
def revisionShown (rev : Nat) (q : Port) : Port := { q with pd.rev := F.PD_REV.PARTNER.put rev q.pd.rev }

/-- The answer to Get_Revision taken, and its AMS over. -/
def revisionTaken (rev : Nat) (q : Port) : Port :=
  amsRestore (stopSlot 6 { revisionShown rev q with pol.await := none })

theorem polRevision_eq (hs : Served p s) (rev : Option Nat) :
    polRevision p rev (modPort p (eprHeard s.time 0) s) =
      if s.ports[p].pol.await == some .getRevision then modPort p (revisionTaken (rev.getD 0x30)) (heardState p s)
      else modPort p (revisionShown (rev.getD 0x30)) (heardState p s) := by
  have hpol : (modPort p (revisionShown (rev.getD 0x30)) (heardState p s)).ports[p].pol.await = s.ports[p].pol.await := by
    have h := congrArg Policy.await (heardState_talks hs).pol
    rw [modPort_port]
    exact h
  have htaken : endAms p (slotOff' p 6 (setAwait p none (modPort p (revisionShown (rev.getD 0x30)) (heardState p s)))) =
      modPort p (revisionTaken (rev.getD 0x30)) (heardState p s) := by
    unfold setAwait slotOff' modPol
    rw [endAms_eq, modPort_modPort, modPort_modPort, modPort_modPort]
    rfl
  rw [← htaken, ← hpol]
  unfold polRevision
  rw [heard_eprHeard true hs]
  rfl

theorem revision_shown (hs : Served p s) {rev : Option Nat} (hrev : rev.getD 0x30 < 256) (hidle : s.ports[p].idle) :
    MovesPort (.getRevisionReply p rev) s p fun t => Spoken s.ports[p] t ∧ PathKept s.ports[p] t ∧
      F.PD_REV.PARTNER.get t.pd.rev = rev.getD 0x30 ∧ t.pol.await = none := by
  obtain ⟨htxq, hawait, -, -, hdisc⟩ := hidle
  refine heard_moves (u := revisionShown (rev.getD 0x30)) rfl hs
    ((polRevision_eq hs rev).trans (if_neg (by rw [hawait]; decide))) fun t ht => ?_
  have h24 := ht.slot24
  have h20 := ht.slot20
  obtain ⟨⟨run, st, per, rfl⟩, -, -⟩ := ht
  exact ⟨⟨hdisc, .inl htxq⟩, ⟨rfl, h24, h20⟩, ⟨rfl, rfl, rfl⟩,
    (get_put _ (by decide) _ _).trans (Nat.mod_eq_of_lt hrev), hawait⟩

theorem revision_taken (hs : Served p s) {rev : Option Nat} (hrev : rev.getD 0x30 < 256)
    (hawait : s.ports[p].pol.await = some .getRevision) (htxq : s.ports[p].pol.txq = [])
    (hdisc : s.ports[p].pol.discDue = false) :
    MovesPort (.getRevisionReply p rev) s p fun t => Spoken s.ports[p] t ∧
      F.PD_REV.PARTNER.get t.pd.rev = rev.getD 0x30 ∧ t.pol.await = none ∧ t.slotRuns 6 = false := by
  refine heard_moves (u := revisionTaken (rev.getD 0x30)) rfl hs
    ((polRevision_eq hs rev).trans (if_pos (by rw [hawait]; rfl))) fun t ht => ?_
  obtain ⟨ctl, cfg, stat, e⟩ := amsRestore_eq (stopSlot 6 { revisionShown (rev.getD 0x30) t with pol.await := none })
  have hslot : ∀ k : Fin 26, (revisionTaken (rev.getD 0x30) t).slotRuns k = (stopSlot 6 t).slotRuns k := fun k => by
    rw [revisionTaken, e]
    rfl
  have h24 := (hslot 24).trans ((slotRuns_stopSlot_ne _ (by decide)).trans ht.slot24)
  have h20 := fun he => (hslot 20).trans ((slotRuns_stopSlot_ne _ (by decide)).trans (ht.slot20 he))
  have h6 := (hslot 6).trans (slotRuns_stopSlot_self _ 6)
  have hpol := ht.pol
  rw [revisionTaken, e] at h24 h20 h6 ⊢
  exact ⟨⟨(congrArg Policy.discDue hpol).trans hdisc, .inl ((congrArg Policy.txq hpol).trans htxq)⟩,
    ⟨congrArg Policy.spoke hpol, h24, h20⟩, (get_put _ (by decide) _ _).trans (Nat.mod_eq_of_lt hrev), rfl, h6⟩

/-! ## Alert (09 Table CMD-11) -/

theorem alert_posts (hs : Served p s) (hidle : s.ports[p].idle) (ado : Word) (hen : srcEnabled s (12 * p.val + 6) = true)
    (hheld : s.ports[p].pol.held = []) (hroom : s.ports[p].pol.queue.length < 32) :
    MovesPort (.alertReceived p ado) s p fun t => Spoken s.ports[p] t ∧ PathKept s.ports[p] t ∧
      t.pol.queue = s.ports[p].pol.queue ++ [EvtEntry.mk s.time (12 * p.val + 6) s.ports[p].pol.seq ado] := by
  have hpol := (heardState_talks hs).pol
  obtain ⟨queue, held, seq, hpost, hqueue⟩ := postPort_queue p .alertRx ado (heardState p s)
  rw [hpol] at hqueue
  have hq := hqueue hen hheld hroom
  refine heard_moves (u := fun q => { q with pol.queue := queue, pol.held := held, pol.seq := seq }) rfl hs ?_
    fun t ht => ?_
  · unfold polAlert
    rw [heard_eprHeard true hs, hpost]
  · have h24 := ht.slot24
    have h20 := ht.slot20
    obtain ⟨⟨run, st, per, rfl⟩, -, -⟩ := ht
    exact ⟨settled_of_idle hidle, ⟨rfl, h24, h20⟩, ⟨rfl, rfl, rfl⟩, hq⟩

end

end Sys2Proof.Machine

/-! SUPPORT. The cable contexts off, and the end of a VCONN_Swap that stops VCONN (03 R73, 04 R86, R117). -/

namespace Sys2Proof.Machine
open Sys2Proof

section
variable {p : PortId} {s : State} {q t : Port}

/-! ## The cable contexts off (04 R86) -/

theorem enableCtx_off (c : Fin 3) (q : Port) : enableCtx c false q =
    { (abortTx c q).modCtx c fun r => { r with ctl := F.CTX_CTL.EN.clr r.ctl } with
      pd.phycfg := putBit c.val false (abortTx c q).pd.phycfg } := rfl

theorem enableCtx_off_eq (c : Fin 3) (q : Port) : ∃ ctx run evt cfg ow tr, enableCtx c false q =
    { q with ctx := ctx, pd.tmrrun := run, pd.evt := evt, pd.phycfg := cfg, phw.onWire := ow, phw.txReady := tr } := by
  obtain ⟨ctx, run, evt, ow, tr, h⟩ := (txAborted_abortTx c q).eq
  rw [enableCtx_off, h]
  exact ⟨_, _, _, _, _, _, rfl⟩

theorem enableCtx_off_slotRuns {k : Fin 26} (h : k ≠ 0 ∧ k ≠ 1 ∧ k ≠ 2 ∧ k ≠ 6) (c : Fin 3) (q : Port) :
    (enableCtx c false q).slotRuns k = q.slotRuns k := (txAborted_abortTx c q).slotRuns h

/-- What the cable contexts' end leaves. -/
structure CablesGone (q t : Port) : Prop where
  rest : ∃ ctx run evt cfg ow tr, t = { q with
    ctx := ctx, pd.tmrrun := run, pd.evt := evt, pd.phycfg := cfg, phw.onWire := ow, phw.txReady := tr
    pol.txq := q.pol.txq.filter fun r => r.ctx == 0, pol.txNow := (q.pol.txNow.set 1 none).set 2 none }
  ctx1 : t.ctxOn 1 = false
  ctx2 : t.ctxOn 2 = false
  slots (k : Fin 26) : k ≠ 0 ∧ k ≠ 1 ∧ k ≠ 2 ∧ k ≠ 6 → t.slotRuns k = q.slotRuns k

theorem cablesDropped_gone (q : Port) : CablesGone q (cablesDropped q) := by
  obtain ⟨hctx1, hctx2⟩ := cablesOff_ctxOn q
  refine ⟨?_, hctx1, hctx2, fun k h => (enableCtx_off_slotRuns h 2 _).trans (enableCtx_off_slotRuns h 1 q)⟩
  obtain ⟨ctx, run, evt, cfg, ow, tr, h1⟩ := enableCtx_off_eq 1 q
  obtain ⟨ctx, run, evt, cfg, ow, tr, h2⟩ := enableCtx_off_eq 2 (enableCtx 1 false q)
  rw [cablesDropped, cablesOff, h2, h1]
  exact ⟨_, _, _, _, _, _, rfl⟩

theorem cableCtxs_gone (hw : noWaits s p) (h : s.ports[p].vconnOn = false) :
    cableCtxs p s = modPort p cablesDropped s := by
  obtain ⟨f, hf, e⟩ := cableCtxs_off h
  rw [e]
  exact completeAll_none (noWaits_modPort _ hw) hf _

/-! ## The end of a swap (04 R115 to R117) -/

/-- A swap is over, with its event. -/
def swapOver (queue held : List EvtEntry) (seq : Nat) (q : Port) : Port :=
  amsRestore { q with
    pol.swap := none, pol.await := none, pol.queue := queue, pol.held := held, pol.seq := seq }

theorem swapOver_eq (queue held : List EvtEntry) (seq : Nat) (q : Port) : ∃ ctl cfg stat, swapOver queue held seq q =
    { q with
      cc.ctl := ctl, cc.cfg := cfg, pd.phystat := stat, phw.ams := false
      pol.swap := none, pol.await := none, pol.queue := queue, pol.held := held, pol.seq := seq } := by
  obtain ⟨ctl, cfg, stat, e⟩ := amsRestore_eq { q with
    pol.swap := none, pol.await := none, pol.queue := queue, pol.held := held, pol.seq := seq }
  exact ⟨ctl, cfg, stat, e⟩

theorem startDiscovery_off (h : s.ports[p].vconnOn = false) : startDiscovery p s = s :=
  if_neg (by rw [h]; simp)

/-- A swap on a port without VCONN is over. -/
theorem swapDone_eq {w : Swap} (hw : noWaits s p) (hswap : s.ports[p].pol.swap = some w)
    (hv : s.ports[p].vconnOn = false) : ∃ queue held seq, swapDone p s = modPort p (swapOver queue held seq) s := by
  let t := modPol p (fun l => { l with swap := none, await := none }) s
  obtain ⟨queue, held, seq, hpost⟩ := postPort_eq p .swapDone (BitVec.ofNat 32 (w.kind + 4 * roleBits t.ports[p]
      + (if w.byDevice then 32 else 0))) t
  refine ⟨queue, held, seq, ?_⟩
  obtain ⟨st, r, hdone⟩ : ∃ st r, swapDone p s = startDiscovery p (endAms p (endWait p (· == .swap w.kind) st r
      (postPort p .swapDone (BitVec.ofNat 32 (w.kind + 4 * roleBits t.ports[p]
        + (if w.byDevice then 32 else 0))) t))) := by
    unfold swapDone
    rw [hswap]
    exact ⟨_, _, rfl⟩
  have hall : endAms p (modPort p (fun q => { q with pol.queue := queue, pol.held := held, pol.seq := seq }) t) =
      modPort p (swapOver queue held seq) s := by
    rw [endAms_eq]
    simp only [t, modPol]
    rw [modPort_modPort, modPort_modPort]
    rfl
  have hwt : noWaits t p := hw
  rw [hdone, hpost, endWait_none (noWaits_modPort _ hwt), hall]
  refine startDiscovery_off ?_
  obtain ⟨ctl, cfg, stat, e⟩ := swapOver_eq queue held seq s.ports[p]
  rw [modPort_port, e]
  exact hv

/-! ## VCONN stopped by a swap (04 R117) -/

/-- VCONN off at the partner's PS_RDY, the cable contexts with it. -/
def vconnStopped (q : Port) : Port := cablesDropped (stopSlot 19 (vconnOpen q))

theorem vconnStopped_eq (q : Port) : CablesGone (stopSlot 19 (vconnOpen q)) (vconnStopped q) := cablesDropped_gone _

theorem vconnStopped_keeps (q : Port) : (vconnStopped q).vconnOn = false ∧ (vconnStopped q).pol = { q.pol with
      txq := q.pol.txq.filter fun r => r.ctx == 0, txNow := (q.pol.txNow.set 1 none).set 2 none } ∧
    (vconnStopped q).slotRuns 19 = false := by
  obtain ⟨hrest, -, -, hslots⟩ := vconnStopped_eq q
  have h19 := (hslots 19 (by decide)).trans (slotRuns_stopSlot_self _ 19)
  obtain ⟨ctx, run, evt, cfg, ow, tr, e⟩ := hrest
  have hv : (vconnOpen q).vconnOn = false := vconnOpen_vconnOn q
  have hpol : (vconnOpen q).pol = q.pol := by rw [vconnOpen_eq]
  rw [e] at h19 ⊢
  refine ⟨hv, ?_, h19⟩
  dsimp only [stopSlot]
  rw [hpol]

theorem cableCtxs_stopped (hw : noWaits s p) : cableCtxs p (slotOff' p 19 (modPort p vconnOpen s)) =
    modPort p vconnStopped s := by
  have hoff : (modPort p (fun q => stopSlot 19 (vconnOpen q)) s).ports[p].vconnOn = false := by
    rw [modPort_port]
    exact vconnOpen_vconnOn _
  rw [slotOff', modPort_modPort, cableCtxs_gone (noWaits_modPort _ hw) hoff, modPort_modPort]
  rfl

theorem swapPsRdyHeard_vconnOff {w : Swap} (hw : noWaits s p) (hswap : s.ports[p].pol.swap = some w)
    (hstep : w.step = .vconnOff) : ∃ queue held seq,
      swapPsRdyHeard p w s = modPort p (fun q => swapOver queue held seq (vconnStopped q)) s := by
  obtain ⟨hv, hpol, -⟩ := vconnStopped_keeps s.ports[p]
  have hport : (modPort p vconnStopped s).ports[p] = vconnStopped s.ports[p] := modPort_port p _ s
  have hswap' : (modPort p vconnStopped s).ports[p].pol.swap = some w := by
    rw [hport]
    exact (congrArg Policy.swap hpol).trans hswap
  obtain ⟨queue, held, seq, hdone⟩ := swapDone_eq (noWaits_modPort vconnStopped hw) hswap' (by rw [hport]; exact hv)
  refine ⟨queue, held, seq, ?_⟩
  rw [swapPsRdyHeard, hstep]
  dsimp only
  rw [cableCtxs_stopped hw, hdone, modPort_modPort]

theorem swapOver_stopped {queue held : List EvtEntry} {seq : Nat} (ht : Talks q t) (htxq : q.pol.txq = [])
    (hdisc : q.pol.discDue = false) : let u := swapOver queue held seq (vconnStopped t)
      u.settled ∧ u.vconnOn = false ∧ u.pol.swap = none ∧ u.slotRuns 19 = false ∧ u.ctxOn 1 = false ∧
        u.ctxOn 2 = false := by
  intro u
  obtain ⟨hv, hpol, h19⟩ := vconnStopped_keeps t
  obtain ⟨-, hctx1, hctx2, -⟩ := vconnStopped_eq t
  have hdue : (vconnStopped t).pol.discDue = false :=
    (congrArg Policy.discDue hpol).trans ((congrArg Policy.discDue ht.pol).trans hdisc)
  have hqueue : (vconnStopped t).pol.txq = [] := by
    refine (congrArg Policy.txq hpol).trans ?_
    rw [ht.pol]
    exact (congrArg (List.filter _) htxq).trans List.filter_nil
  obtain ⟨ctl, cfg, stat, e⟩ := swapOver_eq queue held seq (vconnStopped t)
  simp only [u]
  rw [e]
  generalize vconnStopped t = v at *
  exact ⟨⟨hdue, .inl hqueue⟩, hv, rfl, h19, hctx1, hctx2⟩

theorem vconnSwap_stops {w : Swap} (hs : Served p s) (hswap : s.ports[p].pol.swap = some w) (hstep : w.step = .vconnOff)
    (htxq : s.ports[p].pol.txq = []) (hdisc : s.ports[p].pol.discDue = false) :
    MovesPort (.psRdyReceived p) s p fun t => t.vconnOn = false ∧ t.pol.swap = none ∧ t.slotRuns 19 = false ∧
      t.ctxOn 1 = false ∧ t.ctxOn 2 = false := by
  have hswap' : (heardState p s).ports[p].pol.swap = some w :=
    (congrArg Policy.swap (heardState_talks hs).pol).trans hswap
  obtain ⟨queue, held, seq, hover⟩ := swapPsRdyHeard_vconnOff (noWaits_modPort (talked s.time 0) hs.2.1) hswap' hstep
  refine heard_moves (u := fun q => swapOver queue held seq (vconnStopped q)) rfl hs ?_ fun t ht =>
    swapOver_stopped ht htxq hdisc
  unfold polPsRdy
  rw [heard_eprHeard true hs]
  dsimp only
  rw [hswap']
  exact hover

end

end Sys2Proof.Machine

/-! O53, settled: what a served port answers to its partner's messages (04 R85, R102 to R105, R108 to R117). -/

namespace Sys2Proof.Machine
open Sys2Proof

/-- Settles O53, message by message: hearing and waiting, Requests, EPR mode, swaps and PS_RDY, and the answers that a
port gives at once. -/
theorem partnerMessagesAreAnswered : Obligations.PartnerMessagesAreAnswered := by
  intro p s q served source epr alive spoken kept refusal
  have halive : ∀ c, alive c = eprHeard s.time c q := fun c => alive_eq s.time c q
  refine ⟨fun w v n c l b o x hmem => ?_, fun rdo pdo rev hs hidle hsrc => ?_,
    fun rdo rev hs ho hq hacc _ hnone => request_denied hs ho hq hacc hnone,
    fun rdo pdo rev hs ho hq hacc hpre hheld hnamed => ?_, eprEnter_moves,
    fun hs hidle he => eprExit_off hs hidle ((Bool.not_eq_true _).mp he), fun hs hq he => ?_, fun hs hq => ?_,
    fun w hs hswap hstep _ htxq _ hdisc => ?_, fun c ha hw hh hq => security_moves ha hw hh hq,
    fun curr volt rev b ha hw hh hidle hrev => cableReply_moves ha hw hh hidle hrev, fun rev hs hrev => ?_,
    fun ado hs hidle hen hheld hroom => alert_posts hs hidle ado hen hheld hroom⟩
  · obtain ⟨f, hx⟩ : ∃ f, exec x.1 s = .next (atMsg p x.2 x.1 f s) := by
      fin_cases hmem <;> exact ⟨_, rfl⟩
    rw [halive]
    exact ⟨row_deaf hx, row_waits hx⟩
  · rw [halive]
    have hoff : ∀ b c : Bool, ¬(b = true ∧ c = true) → (b && c) = false ∧ (c && b) = false := by decide
    obtain ⟨hoff1, hoff2⟩ := hoff _ _ hsrc
    obtain ⟨hatt, hrole, -⟩ := eprHeard_role s.time 0 q
    refine ⟨row_idle rfl hs hidle (if_pos ?_), row_idle rfl hs hidle (if_pos ?_), row_idle rfl hs hidle (if_neg ?_)⟩ <;>
      rw [modPort_port, hatt, hrole]
    · rw [hoff1]
      rfl
    · rw [hoff1]
      rfl
    · rw [hoff2]
      decide
  · intro k submits
    exact ⟨fun hrev hk => request_named hs ho hq hacc hpre hheld hnamed hrev hk,
      fun hrev he hk => eprRequest_named hs ho hq hacc hpre hheld hnamed hrev he hk,
      fun other hne => eprRequest_denied hs ho hq hacc hnamed hne⟩
  · exact ⟨eprExit_moves hs hq he, eprExit_hard hs hq he⟩
  · intro takes answers
    refine ⟨prSwap_refused hs hq, prSwap_forbidden hs hq, prSwap_taken hs hq, fun hmodes hok => ?_,
      fun hmodes hok => ?_, fun hmodes hcount => ?_, fun hon => row_takes rfl hs hq (polVconnSwap_on hs hon),
      fun hon hok => row_replies rfl hs hq (polVconnSwap_forbidden hs hon hok), row_replies rfl hs hq (polFrSwap_eq hs),
      fun hacc _ => psRdy_unexpected hs hq hacc⟩
    · exact row_takes rfl hs hq ((polDrSwap_eq hs).trans ((if_neg (by rw [hmodes]; decide)).trans (if_pos hok)))
    · refine row_replies rfl hs hq ((polDrSwap_eq hs).trans ((if_neg (by rw [hmodes]; decide)).trans (if_neg ?_)))
      exact (Bool.not_eq_true _).mpr hok
    · refine (row_hardAsks rfl hs hq hcount ((polDrSwap_eq hs).trans (if_pos ?_))).imp ?_
      · simpa [-Fin.getElem_fin] using hmodes
      · exact fun t ⟨hspoken, hkept, hwait, hslot, _⟩ => ⟨hspoken, hkept, hwait, hslot⟩
  · obtain ⟨t, hx, -, hother, hv, hnone, hslot, hctx1, hctx2⟩ := vconnSwap_stops hs hswap hstep htxq hdisc
    exact ⟨t, hx, hv, hnone, hslot, hctx1, hctx2, hother⟩
  · exact ⟨fun hidle => revision_shown hs hrev hidle, fun hawait htxq _ hdisc => revision_taken hs hrev hawait htxq hdisc⟩

end Sys2Proof.Machine

/-! SUPPORT. The expiry of an engine's timer slot: what it shows, what waits, and the rows that send a message, that
end what was awaited, and that ask for a Hard Reset (04 R92, R99, R107, R113, R118, R122, Table PDE-10). -/

namespace Sys2Proof.Machine
open Sys2Proof

/-! ## A slot that expires (04 R122) -/

/-- A slot has expired, and the engine has taken its bit. -/
def slotFired (k : Fin 26) (q : Port) : Port := ackSlot k (expireSlot k q)

/-- The expiry of a slot stands in the registers, with its bit taken. -/
def Fired (k : Fin 26) (q t : Port) : Prop :=
  bitOf t.pd.tmrstat k.val = false ∧ F.PD_EVT.TMR.on t.pd.evt = true ∧
    ∀ j : Fin 26, j ≠ k → bitOf t.pd.tmrstat j.val = bitOf q.pd.tmrstat j.val

/-- What the slots' expiries have shown still stands. -/
def StillShows (q t : Port) : Prop :=
  t.pd.tmrstat = q.pd.tmrstat ∧ ∀ n : Nat, bitOf q.pd.evt n = true → bitOf t.pd.evt n = true

/-- The engine of the port acts, and nothing of the port waits for it. -/
abbrev Attended (p : PortId) (s : State) : Prop :=
  Acts s p ∧ noWaits s p ∧ s.ports[p].pol.txq = [] ∧ s.ports[p].pol.discDue = false

/-- The command of an engine slot's expiry. -/
abbrev IsExpiry (i : Instr) (p : PortId) (k : Fin 26) (f : State → State) (s : State) : Prop :=
  exec i s = .next (slotExpiry p k i f s)

section
variable {p : PortId} {s : State} {i : Instr} {k : Fin 26} {f : State → State} {q t u : Port}

theorem StillShows.trans (h : StillShows q t) (g : StillShows t u) : StillShows q u :=
  ⟨g.1.trans h.1, fun n hn => g.2 n (h.2 n hn)⟩

theorem stillShows_of_pd (h : t.pd.tmrstat = q.pd.tmrstat) (he : t.pd.evt = q.pd.evt) : StillShows q t :=
  ⟨h, fun _ hn => by rwa [he]⟩

theorem expireSlot_evt (k : Fin 26) (q : Port) : F.PD_EVT.TMR.on (expireSlot k q).pd.evt = true :=
  on_set F.PD_EVT.TMR (by decide) (by decide) _

theorem bitOf_slotFired (k : Fin 26) (q : Port) (j : Fin 26) :
    bitOf (slotFired k q).pd.tmrstat j.val = (bitOf q.pd.tmrstat j.val && !decide (j = k)) := by
  have hset : bitOf (slotFired k q).pd.tmrstat j.val = (bitOf (setBit k.val q.pd.tmrstat) j.val && !decide (j.val = k.val)) :=
    bitOf_clrBit _ _ _
  rw [hset, bitOf_setBit (by omega)]
  by_cases hj : j = k
  · simp [hj]
  · simp [hj, Fin.val_ne_of_ne hj]

theorem fired_of_stillShows (h : StillShows (slotFired k q) t) : Fired k q t := by
  obtain ⟨hstat, hevt⟩ := h
  refine ⟨?_, ?_, fun j hj => ?_⟩
  · rw [hstat, bitOf_slotFired]
    simp
  · have h := expireSlot_evt k q
    rw [on_eq_getLsbD _ rfl] at h ⊢
    exact hevt _ h
  · rw [hstat, bitOf_slotFired]
    simp [hj]

theorem slotFired_slotRuns_ne {j : Fin 26} (h : j ≠ k) : (slotFired k q).slotRuns j = q.slotRuns j :=
  slotRuns_stopSlot_ne _ h

theorem slotFired_offersAs (k : Fin 26) (q : Port) : OffersAs q (slotFired k q) :=
  ⟨rfl, rfl, rfl, rfl, rfl, rfl, rfl, rfl, rfl, rfl, rfl⟩

/-! ## The command (01 R20, R21) -/

theorem expiry_off (hx : IsExpiry i p k f s) (h : s.ports[p].slotRuns k = false) : exec i s = .next s :=
  hx.trans (congrArg _ (if_neg (by rw [h]; exact Bool.false_ne_true)))

theorem slotExpiry_on (h : s.ports[p].slotRuns k = true) : slotExpiry p k i f s =
    atPd p i (fun s => f (modPort p (ackSlot k) s)) (modPort p (expireSlot k) s) := if_pos h

theorem expiry_waits (hx : IsExpiry i p k f s) (h : s.ports[p].slotRuns k = true) (ha : ¬Acts s p) :
    MovesPort i s p fun t => t.slotRuns k = false ∧ bitOf t.pd.tmrstat k.val = true ∧
      F.PD_EVT.TMR.on t.pd.evt = true ∧ Port.keeps i s.ports[p] t ∧
      (∀ j : Fin 26, j ≠ k → t.slotRuns j = s.ports[p].slotRuns j ∧
        bitOf t.pd.tmrstat j.val = bitOf s.ports[p].pd.tmrstat j.val) ∧
      t = { s.ports[p] with pd := t.pd, pol := t.pol } := by
  refine movesPort_waits (hx.trans (congrArg _ (slotExpiry_on h))) rfl ha
    ⟨slotRuns_stopSlot_self _ k, ?_, expireSlot_evt k _, keeps_waiting i rfl, fun j hj => ⟨slotRuns_stopSlot_ne _ hj, ?_⟩, rfl⟩
  · exact (bitOf_setBit (by omega) _ _).trans (by simp)
  · have hne : j.val ≠ k.val := fun e => hj (Fin.ext e)
    exact (bitOf_setBit (by omega) _ _).trans (by simp [hne])

theorem expiry_acts (hx : IsExpiry i p k f s) (h : s.ports[p].slotRuns k = true) (ha : Acts s p) :
    exec i s = .next (policyNext p (f (modPort p (slotFired k) s))) := by
  rw [hx, slotExpiry_on h, atPd_modPort_acts rfl ha, modPort_modPort]
  rfl

/-- An expiry that changes more than the port. -/
theorem expiry_reaches {t : State} {R : State → Prop} (hx : IsExpiry i p k f s) (hs : Attended p s)
    (h : s.ports[p].slotRuns k = true) (hf : f (modPort p (slotFired k) s) = t)
    (hwaits : t.host.waits = s.host.waits) (hothers : ∀ r : PortId, r ≠ p → t.ports[r] = s.ports[r])
    (hset : t.ports[p].settled) (hshow : StillShows (slotFired k s.ports[p]) t.ports[p]) (hR : R t) :
    Moves i s fun t => Fired k s.ports[p] t.ports[p] ∧ R t ∧ ∀ r : PortId, r ≠ p → t.ports[r] = s.ports[r] := by
  obtain ⟨ha, hw, -, -⟩ := hs
  have hwt : noWaits t p := by
    unfold noWaits
    rwa [hwaits]
  rw [Moves, expiry_acts hx h ha, hf, policyNext_eq_self hwt hset]
  exact ⟨t, rfl, fired_of_stillShows hshow, hR, hothers⟩

/-- An expiry that changes the port as `u` says. -/
theorem expiry_moves {u : Port → Port} {R : Port → Prop} (hx : IsExpiry i p k f s) (hs : Attended p s)
    (h : s.ports[p].slotRuns k = true)
    (hf : f (modPort p (slotFired k) s) = modPort p u (modPort p (slotFired k) s))
    (hset : (u (slotFired k s.ports[p])).settled)
    (hshow : StillShows (slotFired k s.ports[p]) (u (slotFired k s.ports[p])))
    (hR : R (u (slotFired k s.ports[p]))) : MovesPort i s p fun t => Fired k s.ports[p] t ∧ R t := by
  obtain ⟨ha, hw, -, -⟩ := hs
  have hx' := expiry_acts hx h ha
  rw [hf, modPort_modPort, policyNext_eq_self (noWaits_modPort _ hw) (by rwa [modPort_port])] at hx'
  exact movesPort_of_modPort hx' ⟨fired_of_stillShows hshow, hR⟩

theorem attended_settled (hs : Attended p s) (k : Fin 26) : (slotFired k s.ports[p]).settled :=
  ⟨hs.2.2.2, .inl hs.2.2.1⟩

/-! ## Rows that send a message -/

/-- What a message sent by the engine leaves as it was. -/
theorem sent_stillShows (c : Fin 3) (m : List Byte) (w : TxPurpose) (q : Port) : StillShows q (sent c m w q) :=
  stillShows_of_pd rfl rfl

/-- An expiry after which the port sends one message. -/
theorem expiry_sends {c : Fin 3} {m : List Byte} {w : TxPurpose} {u v : Port → Port} {R : Port → Prop}
    (hx : IsExpiry i p k f s) (hs : Attended p s) (h : s.ports[p].slotRuns k = true)
    (hf : f (modPort p (slotFired k) s) = modPort p u (modPort p (slotFired k) s))
    (hu : u (slotFired k s.ports[p]) = sent c m w (v (slotFired k s.ports[p])))
    (hdisc : (v (slotFired k s.ports[p])).pol.discDue = false)
    (hshow : StillShows (slotFired k s.ports[p]) (v (slotFired k s.ports[p])))
    (hR : R (sent c m w (v (slotFired k s.ports[p])))) : MovesPort i s p fun t => Fired k s.ports[p] t ∧ R t := by
  refine expiry_moves hx hs h hf ?_ ?_ ?_ <;> rw [hu]
  · exact sent_settled m w hdisc
  · exact hshow.trans (sent_stillShows _ _ _ _)
  · exact hR

theorem sendCaps_fired (hs : s.ports[p].clear 0) (he : F.PD_PHYCFG.EPR.on s.ports[p].pd.phycfg = false) :
    sendCaps p false (modPort p (slotFired k) s) =
      modPort p (capsSent ((sprOffers s p).take 7)) (modPort p (slotFired k) s) := by
  refine (sendCaps_spr (s := modPort p (slotFired k) s) ?_ ?_).trans ?_
  · rw [modPort_port]
    exact he
  · rw [modPort_port]
    exact hs
  · rw [sprOffers_modPort (slotFired_offersAs k _)]
    rfl

theorem expiry_sendsCaps (hx : IsExpiry i p k f s) (hs : Attended p s) (h : s.ports[p].slotRuns k = true)
    (hq : s.ports[p].quiet 0) (he : F.PD_PHYCFG.EPR.on s.ports[p].pd.phycfg = false)
    (hf : f (modPort p (slotFired k) s) = sendCaps p false (modPort p (slotFired k) s)) :
    MovesPort i s p fun t => Fired k s.ports[p] t ∧
      Port.sends 0 (dataMsg s.ports[p] 0 1 ((sprOffers s p).take 7)) .srcCaps t :=
  expiry_sends (v := fun q => { q with pol.sent := numbered 1 ((sprOffers s p).take 7) }) hx hs h
    (hf.trans (sendCaps_fired (clear_of_quiet hq) he)) rfl hs.2.2.2 (stillShows_of_pd rfl rfl) (sent_sends _ _)

/-- tTypeCSendSourceCap (04 R107). -/
theorem sendCap_moves (hs : Attended p s) (h : s.ports[p].slotRuns 7 = true) (hatt : s.ports[p].attached = true)
    (hsrc : s.ports[p].isSource = true) (hq : s.ports[p].quiet 0) (hcon : s.ports[p].pol.contract = none)
    (hhr : s.ports[p].pol.hr = .none) (hnopd : F.PRT_STATE.NOPD.on s.ports[p].core.state = false)
    (he : F.PD_PHYCFG.EPR.on s.ports[p].pd.phycfg = false) :
    MovesPort (.ttypecSendSourceCapExpiry p) s p fun t => Fired 7 s.ports[p] t ∧
      Port.sends 0 (dataMsg s.ports[p] 0 1 ((sprOffers s p).take 7)) .srcCaps t := by
  refine expiry_sendsCaps (k := 7) (f := polSendCap p) rfl hs h hq he (if_pos ?_)
  rw [modPort_port]
  have hatt' : (slotFired 7 s.ports[p]).attached = true := hatt
  have hsrc' : (slotFired 7 s.ports[p]).isSource = true := hsrc
  have hcon' : (slotFired 7 s.ports[p]).pol.contract = none := hcon
  have hhr' : (slotFired 7 s.ports[p]).pol.hr = .none := hhr
  have hnopd' : F.PRT_STATE.NOPD.on (slotFired 7 s.ports[p]).core.state = false := hnopd
  rw [hatt', hsrc', hcon', hhr', hnopd']
  rfl

/-- tSwapSourceStart (04 Table PDE-7). -/
theorem swapStart_moves (hs : Attended p s) (h : s.ports[p].slotRuns 14 = true) (hsrc : s.ports[p].isSource = true)
    (hatt : s.ports[p].attached = true) (hq : s.ports[p].quiet 0)
    (he : F.PD_PHYCFG.EPR.on s.ports[p].pd.phycfg = false) :
    MovesPort (.tswapSourceStartExpiry p) s p fun t => Fired 14 s.ports[p] t ∧
      Port.sends 0 (dataMsg s.ports[p] 0 1 ((sprOffers s p).take 7)) .srcCaps t := by
  refine expiry_sendsCaps (k := 14) (f := polSwapStart p) rfl hs h hq he (if_pos ?_)
  rw [modPort_port, Bool.and_eq_true]
  exact ⟨hsrc, hatt⟩

/-! ## Rows that end what was awaited -/

/-- Nothing is awaited any more, and the AMS is over. -/
def awaitEnded (q : Port) : Port := amsRestore { q with pol.await := none }

theorem amsRestore_stillShows (q : Port) : StillShows q (amsRestore q) := by
  obtain ⟨ctl, cfg, stat, e⟩ := amsRestore_eq q
  rw [e]
  exact stillShows_of_pd rfl rfl

theorem endAwait_eq (p : PortId) (s : State) : endAms p (setAwait p none s) = modPort p awaitEnded s := by
  rw [endAms_eq, setAwait, modPol, modPort_modPort]
  rfl

theorem expiry_endsAwait (hx : IsExpiry i p k f s) (hs : Attended p s) (h : s.ports[p].slotRuns k = true)
    (hf : f (modPort p (slotFired k) s) = endAms p (setAwait p none (modPort p (slotFired k) s))) :
    MovesPort i s p fun t => Fired k s.ports[p] t ∧ t.pol = { s.ports[p].pol with await := none } := by
  have hpol : (awaitEnded (slotFired k s.ports[p])).pol = { s.ports[p].pol with await := none } := amsRestore_pol _
  refine expiry_moves (u := awaitEnded) hx hs h (hf.trans (endAwait_eq p _)) ?_ ?_ hpol
  · refine ⟨?_, .inl ?_⟩ <;> rw [hpol]
    · exact hs.2.2.2
    · exact hs.2.2.1
  · exact (stillShows_of_pd rfl rfl).trans (amsRestore_stillShows { slotFired k s.ports[p] with pol.await := none })

/-- tSenderResponse of a Get_Revision (04 R105). -/
theorem getRevision_ends (hs : Attended p s) (h : s.ports[p].slotRuns 6 = true)
    (haw : s.ports[p].pol.await = some .getRevision) (hres : ∀ c : Fin 3, s.ports[p].result c ≠ 1) :
    MovesPort (.tsenderResponseExpiry p) s p fun t => Fired 6 s.ports[p] t ∧
      t.pol = { s.ports[p].pol with await := none } := by
  refine expiry_endsAwait (k := 6) (f := polSenderResponse p) rfl hs h ?_
  have hnone : (List.finRange 3).find? (fun c => (slotFired 6 s.ports[p]).result c == 1 &&
      !(slotFired 6 s.ports[p]).isSource) = none := by
    rw [List.find?_eq_none]
    intro c _
    have hc : (slotFired 6 s.ports[p]).result c ≠ 1 := hres c
    simp [hc, -Fin.getElem_fin]
  have haw' : (slotFired 6 s.ports[p]).pol.await = some .getRevision := haw
  unfold polSenderResponse
  dsimp only
  rw [modPort_port, hnone]
  dsimp only
  rw [haw']

/-- tVDMSenderResponse of a Discover Identity (04 R119). -/
theorem discIdentity_ends (hs : Attended p s) (h : s.ports[p].slotRuns 15 = true)
    (haw : s.ports[p].pol.await = some .discIdentity) :
    MovesPort (.tvdmSenderResponseExpiry p) s p fun t => Fired 15 s.ports[p] t ∧
      t.pol = { s.ports[p].pol with await := none } := by
  refine expiry_endsAwait (k := 15) (f := polVdmTimeout p) rfl hs h ?_
  have haw' : (slotFired 15 s.ports[p]).pol.await = some .discIdentity := haw
  unfold polVdmTimeout
  rw [modPort_port, haw']

/-! ## Rows that ask for a Hard Reset (04 R99) -/

/-- The engine of the port asks for a Hard Reset. -/
abbrev AsksReset (q t : Port) : Prop :=
  t.phw.hrWait = true ∧ t.slotRuns 4 = true ∧ t.pol = q.pol ∧ t.st = q.st

theorem hardAsked_stillShows (now : Nat) (q : Port) : StillShows q (hardAsked now q) := stillShows_of_pd rfl rfl

theorem expiry_asksReset (hx : IsExpiry i p k f s) (hs : Attended p s) (h : s.ports[p].slotRuns k = true)
    (hcount : s.ports[p].pol.hrCount < 2)
    (hf : f (modPort p (slotFired k) s) = engineHardReset p (modPort p (slotFired k) s)) :
    MovesPort i s p fun t => Fired k s.ports[p] t ∧ AsksReset s.ports[p] t := by
  have hasks : engineHardReset p (modPort p (slotFired k) s) = modPort p (hardAsked s.time) (modPort p (slotFired k) s) :=
    engineHardReset_asks (by rw [modPort_port]; exact hcount)
  exact expiry_moves hx hs h (hf.trans hasks) (attended_settled hs k) (hardAsked_stillShows _ _)
    ⟨rfl, slotRuns_startSlot_self _ 4 _, rfl, rfl⟩

/-- tVCONNSourceTimeout (04 R117). -/
theorem vconnTimeout_asks (hs : Attended p s) (h : s.ports[p].slotRuns 19 = true) (hswap : s.ports[p].pol.swap ≠ none)
    (hcount : s.ports[p].pol.hrCount < 2) :
    MovesPort (.tvconnSourceTimeoutExpiry p) s p fun t => Fired 19 s.ports[p] t ∧ AsksReset s.ports[p] t := by
  refine expiry_asksReset (k := 19) (f := polVconnTimeout p) rfl hs h hcount (if_pos ?_)
  rw [modPort_port]
  exact Option.isSome_iff_ne_none.mpr hswap

theorem sinkReset_asks (hx : IsExpiry i p k (polSinkReset p) s) (hs : Attended p s) (h : s.ports[p].slotRuns k = true)
    (hsnk : s.ports[p].isSource = false) (hcount : s.ports[p].pol.hrCount < 2) :
    MovesPort i s p fun t => Fired k s.ports[p] t ∧ AsksReset s.ports[p] t := by
  refine expiry_asksReset hx hs h hcount (if_neg ?_)
  rw [modPort_port]
  have hsnk' : (slotFired k s.ports[p]).isSource = false := hsnk
  rw [hsnk']
  exact Bool.false_ne_true

end

end Sys2Proof.Machine

/-! SUPPORT. The expiries after which the engine sends: BUSY for a VDM that the host left, Discover Identity to the cable,
PS_RDY of a transition and of a VCONN_Swap, Soft_Reset of a sink whose EPR entry stalled
(04 R98, R106, R112, R113, R117, R118, Table PDE-10). -/

namespace Sys2Proof.Machine
open Sys2Proof

section
variable {p : PortId} {s : State} {q : Port}

/-! ## The host's VDM budget (04 R118) -/

/-- The first object of the VDM that the host has left unanswered. -/
def unansweredVdm (q : Port) (c : Fin 3) (n : Nat) : Word :=
  ((q.pol.vdms.find? fun v => v.num == n && v.ctx == c).map (fun v => v.objs.headD 0)).getD 0

/-- One context at the end of the budget. -/
def budgetStep (p : PortId) (s : State) (c : Fin 3) : State :=
  match s.ports[p].pol.hostVdm[c] with
  | none => s
  | some n => answerVdm p c [vdmAnswerHdr (unansweredVdm s.ports[p] c n) 3]
      (modPol p (fun l => { l with hostVdm := l.hostVdm.set c none }) s)

theorem polBudget_eq (p : PortId) (s : State) : polBudget p s = (List.finRange 3).foldl (budgetStep p) s := rfl

theorem budgetStep_none {c : Fin 3} (h : s.ports[p].pol.hostVdm[c] = none) : budgetStep p s c = s := by
  rw [budgetStep, h]

/-- The context is free again, and BUSY goes to the partner. -/
def busySent (c : Fin 3) (o : Word) (q : Port) : Port :=
  vdmAnswered c [vdmAnswerHdr o 3] { q with pol.hostVdm := q.pol.hostVdm.set c none }

theorem budgetStep_some {c : Fin 3} {n : Nat} (h : s.ports[p].pol.hostVdm[c] = some n) (hc : s.ports[p].clear c) :
    budgetStep p s c = modPort p (busySent c (unansweredVdm s.ports[p] c n)) s := by
  have hc' : (modPol p (fun l => { l with hostVdm := l.hostVdm.set c none }) s).ports[p].clear c := by
    unfold modPol
    rw [modPort_port]
    exact hc
  rw [budgetStep, h]
  refine (answerVdm_eq hc').trans ?_
  unfold modPol
  rw [modPort_modPort]
  rfl

theorem polBudget_sop {n : Nat} (h : s.ports[p].pol.hostVdm = #v[some n, none, none]) (hc : s.ports[p].clear 0) :
    polBudget p s = modPort p (busySent 0 (unansweredVdm s.ports[p] 0 n)) s := by
  have hvdm : (busySent 0 (unansweredVdm s.ports[p] 0 n) s.ports[p]).pol.hostVdm = #v[none, none, none] := by
    rw [show (busySent 0 (unansweredVdm s.ports[p] 0 n) s.ports[p]).pol.hostVdm = s.ports[p].pol.hostVdm.set 0 none from rfl, h]
    rfl
  have hrest : ∀ c : Fin 3, (modPort p (busySent 0 (unansweredVdm s.ports[p] 0 n)) s).ports[p].pol.hostVdm[c] = none := by
    intro c
    rw [modPort_port, hvdm]
    fin_cases c <;> rfl
  have hlist : List.finRange 3 = [0, 1, 2] := rfl
  rw [polBudget_eq, hlist, List.foldl_cons, budgetStep_some (n := n) (by rw [h]; rfl) hc, List.foldl_cons,
    budgetStep_none (hrest 1), List.foldl_cons, budgetStep_none (hrest 2), List.foldl_nil]

theorem budget_answersBusy {n : Nat} (hs : Attended p s) (h : s.ports[p].slotRuns 16 = true)
    (hvdm : s.ports[p].pol.hostVdm = #v[some n, none, none]) (hq : s.ports[p].quiet 0) :
    MovesPort (.hostVdmBudgetExpiry p) s p fun t => Fired 16 s.ports[p] t ∧
      (t.pol.hostVdm = #v[none, none, none] ∧ ∃ o : Word,
        Port.sends 0 (dataMsg s.ports[p] 0 15 [vdmAnswerHdr o 3]) .reply t ∧
        ∀ v : KeptVdm, (s.ports[p].pol.vdms.find? fun v => v.num == n && v.ctx == 0) = some v → o = v.objs.headD 0) := by
  refine expiry_sends (k := 16) (f := polBudget p) (u := busySent 0 (unansweredVdm s.ports[p] 0 n))
    (v := fun q => { q with pol.hostVdm := q.pol.hostVdm.set 0 none }) rfl hs h ?_ rfl hs.2.2.2 (stillShows_of_pd rfl rfl)
    ⟨?_, unansweredVdm s.ports[p] 0 n, sent_sends _ _, ?_⟩
  · rw [polBudget_sop (n := n) (by rw [modPort_port]; exact hvdm) (by rw [modPort_port]; exact clear_of_quiet hq), modPort_port]
    rfl
  · refine (congrArg (Vector.set · 0 none) hvdm).trans ?_
    rfl
  · intro v hv
    rw [unansweredVdm, hv]
    rfl

/-! ## Discover Identity to the cable (04 R113) -/

/-- Discover Identity on SOP′, as an attempt of its number. -/
def discoverSent (tries : Nat) (q : Port) : Port :=
  sent 1 (dataMsg { q with pol.cableTries := tries } 1 15 [0xFF00A001]) .cableIdentity { q with pol.cableTries := tries }

theorem discoverCable_eq (tries : Nat) (hc : s.ports[p].clear 1) (hams : amsNeeded s.ports[p] = false) :
    discoverCable p (modPort p (fun q => { q with pol.cableTries := tries }) s) = modPort p (discoverSent tries) s := by
  refine (engineSend_eq ?_ rfl ?_ _).trans ?_
  · rw [modPort_port]
    exact hc
  · have hams' : amsNeeded { s.ports[p] with pol.cableTries := tries } = false := hams
    rw [modPort_port, hams']
    rfl
  · rw [modPort_modPort]
    rfl

/-- The cable counts as 3 A, 20 V and not EPR-capable. -/
def cableAssumed (q : Port) : Port :=
  { q with pol.cable := some { curr := 30, volt := 20, epr := false, discovered := false } }

theorem polDiscover_eq (hcable : s.ports[p].pol.cable = none) (hv : s.ports[p].vconnOn = true) :
    polDiscover p s = if s.ports[p].pol.cableTries < 20 then
        discoverCable p (modPort p (fun q => { q with pol.cableTries := s.ports[p].pol.cableTries + 1 }) (modPort p amsRestore s))
      else modPort p (fun q => cableAssumed (amsRestore q)) s := by
  have hv' : (amsRestore s.ports[p]).vconnOn = true := by
    obtain ⟨ctl, cfg, stat, e⟩ := amsRestore_eq s.ports[p]
    rw [e]
    exact hv
  unfold polDiscover
  dsimp only
  rw [endAms_eq, modPort_port, amsRestore_pol, hcable, hv']
  refine (if_neg (by decide)).trans ?_
  unfold modPol
  refine if_congr Iff.rfl (congrArg (discoverCable p) (modPort_congr ?_)) (modPort_modPort ..)
  rw [modPort_port, amsRestore_pol]

theorem discover_assumes (hs : Attended p s) (h : s.ports[p].slotRuns 17 = true) (hcable : s.ports[p].pol.cable = none)
    (hv : s.ports[p].vconnOn = true) (htries : 20 ≤ s.ports[p].pol.cableTries) :
    MovesPort (.tdiscoverIdentityExpiry p) s p fun t => Fired 17 s.ports[p] t ∧ t.pol = { s.ports[p].pol with
      cable := some { curr := 30, volt := 20, epr := false, discovered := false } } := by
  have hpol : (cableAssumed (amsRestore (slotFired 17 s.ports[p]))).pol = { s.ports[p].pol with
      cable := some { curr := 30, volt := 20, epr := false, discovered := false } } := by
    rw [cableAssumed, amsRestore_pol]
    rfl
  refine expiry_moves (k := 17) (f := polDiscover p) (u := fun q => cableAssumed (amsRestore q)) rfl hs h ?_ ?_ ?_ hpol
  · refine (polDiscover_eq (s := modPort p (slotFired 17) s) ?_ ?_).trans (if_neg ?_) <;> rw [modPort_port]
    · exact hcable
    · exact hv
    · exact Nat.not_lt.mpr htries
  · refine ⟨?_, .inl ?_⟩ <;> rw [hpol]
    · exact hs.2.2.2
    · exact hs.2.2.1
  · exact (amsRestore_stillShows _).trans (stillShows_of_pd rfl rfl)

theorem amsNeeded_amsRestore (q : Port) : amsNeeded (amsRestore q) = amsNeeded q := by
  obtain ⟨ctl, cfg, stat, e⟩ := amsRestore_eq q
  rw [e]
  rfl

theorem clear_amsRestore {c : Fin 3} (h : q.clear c) : (amsRestore q).clear c := by
  obtain ⟨ctl, cfg, stat, e⟩ := amsRestore_eq q
  rw [e]
  exact h

theorem amsRestore_voice (c : Fin 3) (q : Port) : SameVoice c q (amsRestore q) := by
  obtain ⟨ctl, cfg, stat, e⟩ := amsRestore_eq q
  rw [e]
  exact ⟨rfl, rfl⟩

theorem discover_repeats (hs : Attended p s) (h : s.ports[p].slotRuns 17 = true) (hcable : s.ports[p].pol.cable = none)
    (hv : s.ports[p].vconnOn = true) (htries : s.ports[p].pol.cableTries < 20) (hq : s.ports[p].quiet 1)
    (hams : amsNeeded s.ports[p] = false) :
    MovesPort (.tdiscoverIdentityExpiry p) s p fun t => Fired 17 s.ports[p] t ∧
      (t.pol.cableTries = s.ports[p].pol.cableTries + 1 ∧ t.pol.cable = none ∧
        Port.sends 1 (dataMsg s.ports[p] 1 15 [0xFF00A001]) .cableIdentity t) := by
  have hpol : (amsRestore (slotFired 17 s.ports[p])).pol = s.ports[p].pol := amsRestore_pol _
  refine expiry_sends (k := 17) (f := polDiscover p)
    (u := fun q => discoverSent (s.ports[p].pol.cableTries + 1) (amsRestore q))
    (v := fun q => { amsRestore q with pol.cableTries := s.ports[p].pol.cableTries + 1 }) rfl hs h ?_ rfl ?_ ?_ ⟨rfl, ?_, ?_⟩
  · refine (polDiscover_eq (s := modPort p (slotFired 17) s) ?_ ?_).trans ((if_pos ?_).trans ?_)
    · rw [modPort_port]
      exact hcable
    · rw [modPort_port]
      exact hv
    · rw [modPort_port]
      exact htries
    · rw [modPort_port]
      refine (discoverCable_eq _ ?_ ?_).trans (modPort_modPort ..)
      · rw [modPort_port, modPort_port]
        exact clear_amsRestore (clear_of_quiet hq)
      · rw [modPort_port, modPort_port, amsNeeded_amsRestore]
        exact hams
  · exact (congrArg Policy.discDue hpol).trans hs.2.2.2
  · exact (amsRestore_stillShows _).trans (stillShows_of_pd rfl rfl)
  · exact (congrArg Policy.cable hpol).trans hcable
  · have hmsg : dataMsg (amsRestore (slotFired 17 s.ports[p])) 1 15 [0xFF00A001] = dataMsg s.ports[p] 1 15 [0xFF00A001] :=
      (amsRestore_voice 1 (slotFired 17 s.ports[p])).dataMsg 15 _
    rw [← hmsg]
    exact sent_sends _ _

/-- tVCONNStable of a port that discovers its cable (04 R113). -/
theorem vconnStable_discovers (hs : Attended p s) (h : s.ports[p].slotRuns 18 = true) (hatt : s.ports[p].attached = true)
    (hv : s.ports[p].vconnOn = true) (hdfp : s.ports[p].isDfp = true) (hcable : s.ports[p].pol.cable = none)
    (hcapt : F.PRT_CAPT.CABLED.on s.ports[p].core.capt = false) (h17 : s.ports[p].slotRuns 17 = false)
    (hq : s.ports[p].quiet 1) (hams : amsNeeded s.ports[p] = false) :
    MovesPort (.tvconnStableExpiry p) s p fun t => Fired 18 s.ports[p] t ∧ (t.pol.cableTries = 1 ∧
      Port.sends 1 (dataMsg s.ports[p] 1 15 [0xFF00A001]) .cableIdentity t) := by
  refine expiry_sends (k := 18) (f := polVconnStable p) (u := discoverSent 1) (v := fun q => { q with pol.cableTries := 1 })
    rfl hs h ?_ rfl hs.2.2.2 (stillShows_of_pd rfl rfl) ⟨rfl, sent_sends _ _⟩
  have hsend : discoverCable p (modPort p (fun q => { q with pol.cableTries := 1 }) (modPort p (slotFired 18) s)) =
      modPort p (discoverSent 1) (modPort p (slotFired 18) s) :=
    discoverCable_eq 1 (by rw [modPort_port]; exact clear_of_quiet hq) (by rw [modPort_port]; exact hams)
  obtain ⟨-, -, -, -, hswap, -⟩ := hq
  have hswap' : (slotFired 18 s.ports[p]).pol.swap = none := hswap
  have hatt' : (slotFired 18 s.ports[p]).attached = true := hatt
  have hv' : (slotFired 18 s.ports[p]).vconnOn = true := hv
  have hdfp' : (slotFired 18 s.ports[p]).isDfp = true := hdfp
  have hcable' : (slotFired 18 s.ports[p]).pol.cable = none := hcable
  have hcapt' : F.PRT_CAPT.CABLED.on (slotFired 18 s.ports[p]).core.capt = false := hcapt
  have h18' : (slotFired 18 s.ports[p]).slotRuns 18 = false := slotRuns_stopSlot_self _ 18
  have h17' : (slotFired 18 s.ports[p]).slotRuns 17 = false := (slotFired_slotRuns_ne (by decide)).trans h17
  have hstart : startDiscovery p (modPort p (slotFired 18) s) =
      discoverCable p (modPol p (fun l => { l with cableTries := 1 }) (modPort p (slotFired 18) s)) := by
    refine if_pos ?_
    rw [modPort_port, hatt', hv', hdfp', hcable', h18', h17', hcapt']
    rfl
  have hstable : polVconnStable p (modPort p (slotFired 18) s) = startDiscovery p (modPort p (slotFired 18) s) := by
    unfold polVconnStable
    dsimp only
    rw [modPort_port, hswap', hatt', hv']
    rfl
  rw [hstable, hstart]
  exact hsend

/-! ## PS_RDY (04 R106, R117) -/

theorem sendPsRdy_eq {w : TxPurpose} (hc : s.ports[p].clear 0) (hb : w.begins = false) :
    sendCtrl p 6 false w s = modPort p (fun q => sent 0 (ctrlMsg q 0 6) w q) s := engineSend_eq hc hb rfl _

theorem clear_fired {c : Fin 3} (k : Fin 26) (h : s.ports[p].clear c) : (modPort p (slotFired k) s).ports[p].clear c := by
  rw [modPort_port]
  exact h

/-- tVCONNStable of a VCONN_Swap (04 R117). -/
theorem vconnStable_psRdy {w : Swap} (hs : Attended p s) (h : s.ports[p].slotRuns 18 = true)
    (hswap : s.ports[p].pol.swap = some w) (hstep : w.step = .vconnOn) (hc : s.ports[p].clear 0) :
    MovesPort (.tvconnStableExpiry p) s p fun t => Fired 18 s.ports[p] t ∧ (t.pol.swap = some w ∧
      Port.sends 0 (ctrlMsg s.ports[p] 0 6) (.swapPsRdy 2) t) := by
  refine expiry_sends (k := 18) (f := polVconnStable p) (v := id) rfl hs h
    (Eq.trans ?_ (sendPsRdy_eq (clear_fired 18 hc) rfl)) rfl hs.2.2.2 (stillShows_of_pd rfl rfl) ⟨hswap, sent_sends _ _⟩
  have hswap' : (slotFired 18 s.ports[p]).pol.swap = some w := hswap
  unfold polVconnStable
  dsimp only
  rw [modPort_port, hswap']
  exact if_pos hstep

theorem polSrcTransition_noSwap (h : s.ports[p].pol.swap = none) : polSrcTransition p s = runTransition p s := by
  rw [polSrcTransition, h]

theorem runTransition_none (h : s.ports[p].pol.next = none) : runTransition p s = s := by
  rw [runTransition, h]

/-- tSrcTransition of a transition that leaves VBUS as it is (04 R106). -/
theorem srcTransition_psRdy {k : Contract} (hs : Attended p s) (h : s.ports[p].slotRuns 8 = true)
    (hswap : s.ports[p].pol.swap = none) (hnext : s.ports[p].pol.next = some k) (hacc : s.ports[p].pol.accepted = true)
    (hc : s.ports[p].clear 0) (hvolt : k.volt = s.ports[p].target) :
    MovesPort (.tsrcTransitionExpiry p) s p fun t => Fired 8 s.ports[p] t ∧ (t.pth = s.ports[p].pth ∧
      Port.sends 0 (ctrlMsg s.ports[p] 0 6) .psRdy t) := by
  refine expiry_sends (k := 8) (f := polSrcTransition p) (v := id) rfl hs h
    (Eq.trans ?_ (sendPsRdy_eq (clear_fired 8 hc) rfl)) rfl hs.2.2.2 (stillShows_of_pd rfl rfl) ⟨rfl, sent_sends _ _⟩
  have hnext' : (slotFired 8 s.ports[p]).pol.next = some k := hnext
  have hacc' : (slotFired 8 s.ports[p]).pol.accepted = true := hacc
  have hsame : changesVbus (slotFired 8 s.ports[p]) k = false := decide_eq_false (fun hne => hne hvolt)
  rw [polSrcTransition_noSwap (by rw [modPort_port]; exact hswap), runTransition, modPort_port, hnext']
  dsimp only
  rw [hacc', hsame]
  rfl

/-- tSrcTransition of a port under an explicit contract (04 R106). -/
theorem srcTransition_idle (hs : Attended p s) (h : s.ports[p].slotRuns 8 = true) (hswap : s.ports[p].pol.swap = none)
    (hnext : s.ports[p].pol.next = none) :
    Moves (.tsrcTransitionExpiry p) s fun t => Fired 8 s.ports[p] t.ports[p] ∧
      (t = { s with ports := t.ports } ∧ t.ports[p].pth = s.ports[p].pth) ∧
      ∀ r : PortId, r ≠ p → t.ports[r] = s.ports[r] := by
  refine expiry_reaches (k := 8) (f := polSrcTransition p) (t := modPort p (slotFired 8) s) rfl hs h ?_ rfl
    (fun r hr => modPort_other _ _ _ r hr) ?_ ?_ ⟨rfl, ?_⟩
  · rw [polSrcTransition_noSwap (by rw [modPort_port]; exact hswap), runTransition_none (by rw [modPort_port]; exact hnext)]
  all_goals rw [modPort_port]
  · exact attended_settled hs 8
  · exact stillShows_of_pd rfl rfl
  · rfl

/-! ## Soft_Reset of a sink (04 R98) -/

/-- tEnterEPR of a sink (04 R112 item 3). -/
theorem enterEpr_softResets (hs : Attended p s) (h : s.ports[p].slotRuns 22 = true) (hsnk : s.ports[p].isSource = false)
    (hq : s.ports[p].quiet 0) : MovesPort (.tenterEprExpiry p) s p fun t => Fired 22 s.ports[p] t ∧
      (Port.sends 0 (ctrlMsg s.ports[p] 0 13) .softReset t ∧ t.idsReset 0) := by
  obtain ⟨-, hw, -, hdisc⟩ := id hs
  have hsnk' : (slotFired 22 s.ports[p]).isSource = false := hsnk
  have hnext : s.ports[p].pol.next = none := hq.2.2.2.1
  have hsends : Port.sends 0 (ctrlMsg s.ports[p] 0 13) .softReset (softAsked (slotFired 22 s.ports[p])) :=
    softAsked_sends (slotFired 22 s.ports[p])
  obtain ⟨ctl, cfg, stat, e⟩ := softLeft_eq (slotFired 22 s.ports[p])
  refine expiry_sends (k := 22) (f := polEnterEpr p) (u := softAsked) (v := softLeft) rfl hs h ?_ rfl ?_ ?_
    ⟨hsends, softAsked_idsReset (slotFired 22 s.ports[p])⟩
  · refine (if_neg ?_).trans (softReset_asked (noWaits_modPort _ hw) ?_ (clear_fired 22 (clear_of_quiet hq)))
    · rw [modPort_port, hsnk']
      exact Bool.false_ne_true
    · rw [modPort_port]
      exact hnext
  · rw [e]
    exact hdisc
  · rw [e]
    exact stillShows_of_pd rfl rfl

end

end Sys2Proof.Machine

/-! SUPPORT. The expiries that change the port's ledger entry with it, and the partner that never answered: step S2 of a
PR_Swap, the contract given up at a Hard Reset, the grant that EPR mode had held, NOPD
(04 R99, R106, R107, R108, R111, R112, Table PDE-10). -/

namespace Sys2Proof.Machine
open Sys2Proof

section
variable {p : PortId} {s : State}

theorem modCad_cadp (p : PortId) (f : CadPort → CadPort) (s : State) : (modCad p f s).cadp[p] = f s.cadp[p] :=
  vset_self _ _ p

theorem modCad_modPort (p : PortId) (f : CadPort → CadPort) (g : Port → Port) (s : State) :
    modCad p f (modPort p g s) = modPort p g (modCad p f s) := rfl

/-- An expiry that changes the port as `u` says and its ledger entry as `g` says. -/
theorem expiry_reachesCad {i : Instr} {k : Fin 26} {f : State → State} {u : Port → Port} {g : CadPort → CadPort}
    {R : State → Prop} (hx : IsExpiry i p k f s) (hs : Attended p s) (h : s.ports[p].slotRuns k = true)
    (hf : f (modPort p (slotFired k) s) = modPort p u (modCad p g (modPort p (slotFired k) s)))
    (hset : (u (slotFired k s.ports[p])).settled)
    (hshow : StillShows (slotFired k s.ports[p]) (u (slotFired k s.ports[p])))
    (hR : ∀ t : State, t.ports[p] = u (slotFired k s.ports[p]) → t.cadp[p] = g s.cadp[p] → R t) :
    Moves i s fun t => Fired k s.ports[p] t.ports[p] ∧ R t ∧ ∀ r : PortId, r ≠ p → t.ports[r] = s.ports[r] := by
  rw [modCad_modPort, modPort_modPort] at hf
  have hport : (modPort p (fun q => u (slotFired k q)) (modCad p g s)).ports[p] = u (slotFired k s.ports[p]) :=
    modPort_port p (fun q => u (slotFired k q)) (modCad p g s)
  refine expiry_reaches hx hs h hf rfl (fun r hr => modPort_other _ _ (modCad p g s) r hr) ?_ ?_
    (hR _ hport (modCad_cadp p g s)) <;> rw [hport]
  · exact hset
  · exact hshow

/-! ## Step S2 of a PR_Swap (04 Table PDE-7) -/

/-- The port at step S2, with its supply off and its ledger entry released. -/
def atS2 (queue held : List EvtEntry) (seq : Nat) (w : Swap) (q : Port) : Port :=
  setCadLim 0 (setCeil 50 { lostContract queue held seq (sinkOn (cenOff (gateOff q))) with
    pol.swap := some { w with step := .s2 } })

/-- A ledger entry released by the caddy. -/
def releasedCad (c : CadPort) : CadPort :=
  { c with
    relAmt := c.hold, req := none, stand := none, upg := none, subs := [], contract := none,
    floor := 0, planned := false, target := 0, wait5Age := 0,
    regs.phold := c.regs.phold |> F.CAD_PHOLD.SHED.clr |> F.CAD_PHOLD.SETTLED.clr
      |> F.CAD_PHOLD.LIMITED.clr |> F.CAD_PHOLD.WAIT5.clr }

theorem caddyRelease_eq (p : PortId) (s : State) :
    caddyRelease p s = modPort p (fun q => setCadLim 0 (setCeil 50 q)) (modCad p releasedCad s) := rfl

theorem swapS2_eq (p : PortId) (w : Swap) (s : State) : ∃ queue held seq, swapS2 p w s =
    modPort p (atS2 queue held seq w) (modCad p (fun c => releasedCad { c with contract := none }) s) := by
  obtain ⟨queue, held, seq, h⟩ := loseContract_eq p 7 0 (modPort p (fun q => sinkOn (cenOff (gateOff q))) s)
  refine ⟨queue, held, seq, ?_⟩
  rw [swapS2, h, modCad_modPort, modPort_modPort, caddyRelease_eq]
  unfold modPol
  rw [modPort_modPort, modCad_modPort, modPort_modPort, modCad_modCad]
  rfl

theorem atS2_down (queue held : List EvtEntry) (seq : Nat) (w : Swap) (q : Port) : let t := atS2 queue held seq w q
    t.gateOn = false ∧ F.PTH_CTL.CEN_EN.on t.pth.ctl = false ∧ F.PTH_STAT.DIS_ON.on t.pth.stat = true := by
  refine ⟨?_, ?_, on_set F.PTH_STAT.DIS_ON (by decide) (by decide) _⟩
  · have hstat : (atS2 queue held seq w q).pth.stat = F.PTH_STAT.DIS_ON.set (gateOff q).pth.stat := rfl
    rw [Port.gateOn, hstat, on_set_apart _ _ (by decide)]
    simp only [gateOff]
    rw [on_clr_apart _ _ (by decide), on_clr_apart _ _ (by decide), on_clr_apart _ _ (by decide),
      on_clr_apart _ _ (by decide), on_clr]
  · have hctl : (atS2 queue held seq w q).pth.ctl = F.PTH_CTL.DIS_EN.set (F.PTH_CTL.CEN_EN.clr (gateOff q).pth.ctl) := rfl
    rw [hctl, on_set_apart _ _ (by decide), on_clr]

/-- tSrcTransition at step S1 of a PR_Swap (04 R106). -/
theorem srcTransition_swaps {w : Swap} (hs : Attended p s) (h : s.ports[p].slotRuns 8 = true)
    (hswap : s.ports[p].pol.swap = some w) (hstep : w.step = .s1) :
    Moves (.tsrcTransitionExpiry p) s fun t => Fired 8 s.ports[p] t.ports[p] ∧
      (t.ports[p].gateOn = false ∧ F.PTH_CTL.CEN_EN.on t.ports[p].pth.ctl = false ∧
        F.PTH_STAT.DIS_ON.on t.ports[p].pth.stat = true ∧ t.ports[p].pol.swap = some { w with step := .s2 } ∧
        t.ports[p].pol.contract = none ∧ t.cadp[p].relAmt = s.cadp[p].hold) ∧
      ∀ r : PortId, r ≠ p → t.ports[r] = s.ports[r] := by
  obtain ⟨queue, held, seq, e⟩ := swapS2_eq p w (modPort p (slotFired 8) s)
  have hrow : polSrcTransition p (modPort p (slotFired 8) s) = swapS2 p w (modPort p (slotFired 8) s) := by
    have hswap' : (slotFired 8 s.ports[p]).pol.swap = some w := hswap
    rw [polSrcTransition, modPort_port, hswap']
    exact if_pos hstep
  refine expiry_reachesCad (k := 8) (f := polSrcTransition p) rfl hs h (hrow.trans e) ⟨hs.2.2.2, .inl hs.2.2.1⟩
    (stillShows_of_pd rfl rfl) fun t ht hc => ?_
  rw [ht, hc]
  obtain ⟨hgate, hcen, hdis⟩ := atS2_down queue held seq w (slotFired 8 s.ports[p])
  exact ⟨hgate, hcen, hdis, rfl, rfl, rfl⟩

/-! ## A contract given up at a Hard Reset (04 R108, R111) -/

/-- The port that has lost its contract and asks for a Hard Reset. -/
def lostAsked (now : Nat) (queue held : List EvtEntry) (seq : Nat) (q : Port) : Port :=
  hardAsked now (lostContract queue held seq q)

theorem hardResetFor_eq (cause : Nat) (hcount : s.ports[p].pol.hrCount < 2) : ∃ queue held seq g,
    (s.ports[p].pol.contract.isSome = true → s.ports[p].isSource = true → ∀ c : CadPort, (g c).subs = c.subs ++ [none]) ∧
      hardResetFor p cause s = modPort p (lostAsked s.time queue held seq) (modCad p g s) := by
  obtain ⟨queue, held, seq, e⟩ := loseContract_eq p cause 0 s
  have hsrc : (loseContract p cause 0 s).ports[p].isSource = s.ports[p].isSource := by
    rw [e, modPort_port]
    rfl
  have hasks : ∀ g, engineHardReset p (modPort p (lostContract queue held seq) (modCad p g s)) =
      modPort p (lostAsked s.time queue held seq) (modCad p g s) := by
    intro g
    refine (engineHardReset_asks ?_).trans (modPort_modPort _ _ _ _)
    rw [modPort_port]
    exact hcount
  unfold hardResetFor
  dsimp only
  rw [hsrc, e]
  split
  · refine ⟨queue, held, seq, fun c => { c with contract := none, subs := c.subs ++ [none] }, fun _ _ _ => rfl, ?_⟩
    rw [submitWithdraw, modCad_modPort, modCad_modCad]
    exact hasks _
  · next hnot =>
    exact ⟨queue, held, seq, _, fun hhad hs => absurd (Bool.and_eq_true_iff.mpr ⟨hhad, hs⟩) hnot, hasks _⟩

theorem expiry_resetsFor {i : Instr} {k : Fin 26} {f : State → State} {cause : Nat} (hx : IsExpiry i p k f s)
    (hs : Attended p s) (h : s.ports[p].slotRuns k = true) (hcount : s.ports[p].pol.hrCount < 2)
    (hf : f (modPort p (slotFired k) s) = hardResetFor p cause (modPort p (slotFired k) s)) :
    Moves i s fun t => Fired k s.ports[p] t.ports[p] ∧
      (t.ports[p].phw.hrWait = true ∧ t.ports[p].slotRuns 4 = true ∧ t.ports[p].pol.contract = none ∧
        (s.ports[p].pol.contract.isSome = true → s.ports[p].isSource = true →
          t.cadp[p].subs = s.cadp[p].subs ++ [none])) ∧
      ∀ r : PortId, r ≠ p → t.ports[r] = s.ports[r] := by
  obtain ⟨queue, held, seq, g, hsubs, e⟩ := hardResetFor_eq (p := p) (s := modPort p (slotFired k) s) cause
    (by rw [modPort_port]; exact hcount)
  rw [modPort_port] at hsubs
  refine expiry_reachesCad hx hs h (hf.trans e) (attended_settled hs k) (stillShows_of_pd rfl rfl) fun t ht hc => ?_
  rw [ht, hc]
  exact ⟨rfl, slotRuns_startSlot_self _ 4 _, rfl, fun hhad hsrc => hsubs hhad hsrc _⟩

/-- tSourceEPRKeepAlive (04 R111). -/
theorem eprKeepalive_resets (hs : Attended p s) (h : s.ports[p].slotRuns 20 = true) (hcount : s.ports[p].pol.hrCount < 2)
    (he : F.PD_PHYCFG.EPR.on s.ports[p].pd.phycfg = true) :
    Moves (.tsourceEprKeepaliveExpiry p) s fun t => Fired 20 s.ports[p] t.ports[p] ∧
      (t.ports[p].phw.hrWait = true ∧ t.ports[p].slotRuns 4 = true ∧ t.ports[p].pol.contract = none) ∧
      ∀ r : PortId, r ≠ p → t.ports[r] = s.ports[r] := by
  obtain ⟨t, hx, hfired, ⟨hwait, h4, hcon, -⟩, hothers⟩ :=
    expiry_resetsFor (i := .tsourceEprKeepaliveExpiry p) (k := 20) (f := polEprLost p) (cause := 6) rfl hs h hcount
      (if_pos (by rw [modPort_port]; exact he))
  exact ⟨t, hx, hfired, ⟨hwait, h4, hcon⟩, hothers⟩

/-- tPPSTimeout (04 R108). -/
theorem ppsTimeout_resets {k : Contract} (hs : Attended p s) (h : s.ports[p].slotRuns 23 = true)
    (hcount : s.ports[p].pol.hrCount < 2) (hk : s.ports[p].pol.contract = some k) (hkind : k.kind = 1)
    (hsrc : s.ports[p].isSource = true) :
    Moves (.tppsTimeoutExpiry p) s fun t => Fired 23 s.ports[p] t.ports[p] ∧
      (t.ports[p].phw.hrWait = true ∧ t.ports[p].slotRuns 4 = true ∧ t.ports[p].pol.contract = none ∧
        t.cadp[p].subs = s.cadp[p].subs ++ [none]) ∧
      ∀ r : PortId, r ≠ p → t.ports[r] = s.ports[r] := by
  have hrow : polPpsTimeout p (modPort p (slotFired 23) s) = hardResetFor p 5 (modPort p (slotFired 23) s) := by
    have hk' : (slotFired 23 s.ports[p]).pol.contract = some k := hk
    have hsrc' : (slotFired 23 s.ports[p]).isSource = true := hsrc
    rw [polPpsTimeout, modPort_port, hk']
    dsimp only
    rw [hkind, hsrc']
    rfl
  obtain ⟨t, hx, hfired, ⟨hwait, h4, hcon, hsubs⟩, hothers⟩ :=
    expiry_resetsFor (i := .tppsTimeoutExpiry p) (k := 23) (f := polPpsTimeout p) rfl hs h hcount hrow
  exact ⟨t, hx, hfired, ⟨hwait, h4, hcon, hsubs (by rw [hk]; rfl) hsrc⟩, hothers⟩

/-! ## The grant that EPR mode had held (04 R112) -/

/-- The grant is due no longer. -/
def heldReleased (q : Port) : Port := stopSlot 22 { q with pol.doneHeld := false }

theorem releaseHeld_eq {k : Contract} (hheld : s.ports[p].pol.doneHeld = true) (hk : s.ports[p].pol.contract = some k) :
    releaseHeld p s = modPort p heldReleased (modCad p (fun c => { c with subs := c.subs ++ [some (k.v100, k.pout)] }) s) := by
  rw [releaseHeld, hheld, hk]
  refine Eq.trans ?_ (modPort_modPort p (fun q => { q with pol.doneHeld := false }) (stopSlot 22) _)
  rfl

/-- tEnterEPR of a source (04 R112 item 3). -/
theorem enterEpr_releases {k : Contract} (hs : Attended p s) (h : s.ports[p].slotRuns 22 = true)
    (hsrc : s.ports[p].isSource = true) (hheld : s.ports[p].pol.doneHeld = true) (hk : s.ports[p].pol.contract = some k) :
    Moves (.tenterEprExpiry p) s fun t => Fired 22 s.ports[p] t.ports[p] ∧
      (t.ports[p].pol.doneHeld = false ∧ t.cadp[p].subs = s.cadp[p].subs ++ [some (k.v100, k.pout)]) ∧
      ∀ r : PortId, r ≠ p → t.ports[r] = s.ports[r] := by
  have hrow : polEnterEpr p (modPort p (slotFired 22) s) = releaseHeld p (modPort p (slotFired 22) s) :=
    if_pos (by rw [modPort_port]; exact hsrc)
  have hrel := releaseHeld_eq (p := p) (s := modPort p (slotFired 22) s) (k := k)
    (by rw [modPort_port]; exact hheld) (by rw [modPort_port]; exact hk)
  refine expiry_reachesCad (k := 22) rfl hs h (hrow.trans hrel) (attended_settled hs 22) (stillShows_of_pd rfl rfl)
    fun t ht hc => ?_
  rw [ht, hc]
  exact ⟨rfl, rfl⟩

/-! ## A partner that never answered (04 R99, R107) -/

/-- A silent partner is shown. -/
def noPartner (q : Port) : Port := { q with core.state := F.PRT_STATE.NOPD.set q.core.state }

theorem noResponse_asks (hs : Attended p s) (h : s.ports[p].slotRuns 24 = true) (hatt : s.ports[p].attached = true)
    (hcount : s.ports[p].pol.hrCount < 2) :
    MovesPort (.tnoResponseExpiry p) s p fun t => Fired 24 s.ports[p] t ∧ AsksReset s.ports[p] t := by
  refine expiry_asksReset (k := 24) (f := polNoResponse p) rfl hs h hcount ?_
  have hatt' : (slotFired 24 s.ports[p]).attached = true := hatt
  have hcount' : (slotFired 24 s.ports[p]).pol.hrCount < 2 := hcount
  unfold polNoResponse
  dsimp only
  rw [modPort_port, hatt', if_pos hcount']
  rfl

theorem polNoResponse_silent (hatt : s.ports[p].attached = true) (hcount : 2 ≤ s.ports[p].pol.hrCount)
    (hspoke : s.ports[p].pol.spoke = false) (hfeed : s.ports[p].isSource = true ∨ isFeedPort s p = false) :
    polNoResponse p s = modPort p noPartner s := by
  have hstays : (if s.ports[p].isSource || !s.ports[p].strained 5 then modPort p noPartner s
      else sinkPathOn p (modPort p noPartner s)) = modPort p noPartner s := by
    split
    · rfl
    · next hnot =>
      rcases hfeed with hsrc | hno
      · exact absurd (by rw [hsrc]; rfl) hnot
      · have hno' : isFeedPort (modPort p noPartner s) p = false := hno
        exact if_neg (by rw [hno']; exact Bool.false_ne_true)
  unfold polNoResponse
  dsimp only
  rw [hatt, if_neg (Nat.not_lt.mpr hcount), hspoke]
  exact hstays

theorem noPartner_st (q : Port) : (noPartner q).st = q.st :=
  congrArg PortSt.ofCode (get_set_apart _ _ (by decide) _)

/-- tNoResponse after the Hard Resets (04 R107). -/
theorem noResponse_shows (hs : Attended p s) (h : s.ports[p].slotRuns 24 = true) (hatt : s.ports[p].attached = true)
    (hcount : 2 ≤ s.ports[p].pol.hrCount) (hspoke : s.ports[p].pol.spoke = false)
    (hfeed : s.ports[p].isSource = true ∨ isFeedPort s p = false) :
    MovesPort (.tnoResponseExpiry p) s p fun t => Fired 24 s.ports[p] t ∧
      (F.PRT_STATE.NOPD.on t.core.state = true ∧ t.st = s.ports[p].st ∧ t.pth = s.ports[p].pth ∧ t.pol = s.ports[p].pol) := by
  refine expiry_moves (k := 24) (f := polNoResponse p) (u := noPartner) rfl hs h ?_ (attended_settled hs 24)
    (stillShows_of_pd rfl rfl) ⟨on_set F.PRT_STATE.NOPD (by decide) (by decide) _, noPartner_st _, rfl, rfl⟩
  refine polNoResponse_silent ?_ ?_ ?_ ?_
  · rw [modPort_port]
    exact hatt
  · rw [modPort_port]
    exact hcount
  · rw [modPort_port]
    exact hspoke
  · rw [modPort_port]
    exact hfeed

end

end Sys2Proof.Machine

/-! SUPPORT. The expiries of a Hard Reset on the source's side: VBUS and VCONN off, and vSafe5V again
(04 R99, 05 R130, Table PDE-10). -/

namespace Sys2Proof.Machine
open Sys2Proof

section
variable {p : PortId} {s : State} {q : Port}

/-! ## tPSHardReset: VBUS to vSafe0V, VCONN off (04 R99 step 2) -/

theorem enableCtx_off_stillShows (c : Fin 3) (q : Port) : StillShows q (enableCtx c false q) := by
  have hevt := (txAborted_abortTx c q).evt
  obtain ⟨ctx, run, evt, cfg, ow, tr, e⟩ := enableCtx_off_eq c q
  exact ⟨by rw [e], fun n hn => hevt n hn⟩

theorem cablesDropped_stillShows (q : Port) : StillShows q (cablesDropped q) :=
  (enableCtx_off_stillShows 1 q).trans (enableCtx_off_stillShows 2 (enableCtx 1 false q))

/-- VBUS is driven to vSafe0V, and VCONN is open. -/
def supplyOff (q : Port) : Port := { powerDown q with pol := { q.pol with hr := .discharge } }

theorem supplyOff_isDown (q : Port) : (supplyOff q).isDown := powerDown_isDown q

theorem powerDown_pd (q : Port) : (powerDown q).pd = q.pd := by
  rw [powerDown, vconnOpen_eq]
  rfl

theorem polPsHardReset_eq (hw : noWaits s p) (hhr : s.ports[p].pol.hr = .psHardReset) :
    polPsHardReset p s = modPort p (fun q => cablesDropped (supplyOff q)) s := by
  have hoff : (modPort p supplyOff s).ports[p].vconnOn = false := by
    rw [modPort_port]
    exact vconnOpen_vconnOn _
  refine (if_pos hhr).trans ?_
  exact (cableCtxs_gone (noWaits_modPort supplyOff hw) hoff).trans (modPort_modPort _ _ _ _)

theorem psHardReset_drives (hs : Attended p s) (h : s.ports[p].slotRuns 9 = true)
    (hhr : s.ports[p].pol.hr = .psHardReset) :
    MovesPort (.tpsHardResetExpiry p) s p fun t => Fired 9 s.ports[p] t ∧ (t.isDown ∧ t.st = s.ports[p].st ∧
      t.ctxOn 1 = false ∧ t.ctxOn 2 = false ∧ t.pol = { s.ports[p].pol with
        hr := .discharge
        txNow := (s.ports[p].pol.txNow.set 1 none).set 2 none }) := by
  obtain ⟨-, hw, htxq, hdisc⟩ := id hs
  have hgone := cablesDropped_gone (supplyOff (slotFired 9 s.ports[p]))
  have hpol : (cablesDropped (supplyOff (slotFired 9 s.ports[p]))).pol = { s.ports[p].pol with
      hr := .discharge
      txNow := (s.ports[p].pol.txNow.set 1 none).set 2 none } := by
    obtain ⟨ctx, run, evt, cfg, ow, tr, e⟩ := hgone.rest
    have hfilter : s.ports[p].pol.txq.filter (fun r => r.ctx == 0) = s.ports[p].pol.txq := by rw [htxq]; rfl
    rw [e]
    exact congrArg (fun l => { s.ports[p].pol with
      hr := .discharge, txq := l, txNow := (s.ports[p].pol.txNow.set 1 none).set 2 none }) hfilter
  refine expiry_moves (k := 9) (f := polPsHardReset p) (u := fun q => cablesDropped (supplyOff q)) rfl hs h ?_ ?_ ?_ ?_
  · exact polPsHardReset_eq (noWaits_modPort _ hw) (by rw [modPort_port]; exact hhr)
  · refine ⟨?_, .inl ?_⟩ <;> rw [hpol]
    · exact hdisc
    · exact htxq
  · refine (stillShows_of_pd ?_ ?_).trans (cablesDropped_stillShows (supplyOff (slotFired 9 s.ports[p])))
    · exact congrArg PdRegs.tmrstat (powerDown_pd (slotFired 9 s.ports[p]))
    · exact congrArg PdRegs.evt (powerDown_pd (slotFired 9 s.ports[p]))
  · refine ⟨?_, ?_, hgone.ctx1, hgone.ctx2, hpol⟩
    · have hdown := supplyOff_isDown (slotFired 9 s.ports[p])
      obtain ⟨ctx, run, evt, cfg, ow, tr, e⟩ := hgone.rest
      rw [e]
      exact hdown
    · refine st_of_core ?_
      obtain ⟨ctx, run, evt, cfg, ow, tr, e⟩ := hgone.rest
      rw [e]
      exact powerDown_core (slotFired 9 s.ports[p])

/-! ## tSrcRecover: vSafe5V again (04 R99 step 3) -/

theorem polSrcRecover_eq (hhr : s.ports[p].pol.hr = .recover) (hatt : s.ports[p].attached = true)
    (hcable : s.ports[p].cableSeen = false) (hfloor : (s.cadp[p]).floor ≠ 0) : polSrcRecover p s = raise5 p s := by
  unfold polSrcRecover
  dsimp only
  rw [if_pos (by rw [hhr, hatt]; rfl), hcable]
  simp only [Bool.false_eq_true, if_false]
  exact if_neg hfloor

/-- The converter on at 5 V. -/
def convert5 (q : Port) : Port :=
  sinkOff { q with
    pth.ctl := F.PTH_CTL.CEN_EN.set q.pth.ctl, hw.cvWait := true, pth.steep := F.PTH_STEEP.TARGET.put 250 q.pth.steep }

/-- The gate ramps to 5 V. -/
def raised5 (now : Nat) (q : Port) : Port := startGateRamp now (pathThresholds false (convert5 q))

theorem raise5_allowed (h : 50 ≤ F.PTH_CEIL.CEIL.get s.ports[p].pth.ceil) : raise5 p s = modPort p (raised5 s.time) s :=
  if_neg (by rw [targetRefused, decide_eq_true_eq]; omega)

theorem raise5_refused (h : F.PTH_CEIL.CEIL.get s.ports[p].pth.ceil < 50) : raise5 p s = refuseTarget p 250 s :=
  if_pos (by rw [targetRefused, decide_eq_true_eq]; omega)

theorem raised5_drives (now : Nat) (q : Port) : let t := raised5 now q
    F.PTH_CTL.CEN_EN.on t.pth.ctl = true ∧ F.PTH_STAT.DIS_ON.on t.pth.stat = false ∧ t.gateOn = true ∧ t.target = 250 := by
  have hctl : (raised5 now q).pth.ctl = F.PTH_CTL.PATH_EN.set (F.PTH_CTL.DIS_EN.clr (F.PTH_CTL.CEN_EN.set q.pth.ctl)) := rfl
  have hstat : (raised5 now q).pth.stat = F.PTH_STAT.CNV.clr (F.PTH_STAT.AT_TARGET.clr (F.PTH_STAT.GATE_ON.set
      (F.PTH_STAT.LIN.set (F.PTH_STAT.DIS_ON.clr q.pth.stat)))) := rfl
  have hsteep : (raised5 now q).pth.steep = F.PTH_STEEP.TARGET.put 250 q.pth.steep := rfl
  dsimp only
  rw [Port.gateOn, Port.target, hctl, hstat, hsteep]
  refine ⟨?_, ?_, ?_, get_put F.PTH_STEEP.TARGET (by decide) _ _⟩
  · rw [on_set_apart _ _ (by decide), on_clr_apart _ _ (by decide)]
    exact on_set _ (by decide) (by decide) _
  · rw [on_clr_apart _ _ (by decide), on_clr_apart _ _ (by decide), on_set_apart _ _ (by decide),
      on_set_apart _ _ (by decide), on_clr]
  · rw [on_clr_apart _ _ (by decide), on_clr_apart _ _ (by decide)]
    exact on_set _ (by decide) (by decide) _

theorem srcRecover_fired (hhr : s.ports[p].pol.hr = .recover) (hatt : s.ports[p].attached = true)
    (hcable : s.ports[p].cableSeen = false) (hfloor : (s.cadp[p]).floor ≠ 0) :
    polSrcRecover p (modPort p (slotFired 10) s) = raise5 p (modPort p (slotFired 10) s) := by
  refine polSrcRecover_eq ?_ ?_ ?_ hfloor <;> rw [modPort_port]
  · exact hhr
  · exact hatt
  · exact hcable

theorem srcRecover_raises (hs : Attended p s) (h : s.ports[p].slotRuns 10 = true) (hhr : s.ports[p].pol.hr = .recover)
    (hatt : s.ports[p].attached = true) (hcable : s.ports[p].cableSeen = false) (hfloor : (s.cadp[p]).floor ≠ 0)
    (hceil : 50 ≤ F.PTH_CEIL.CEIL.get s.ports[p].pth.ceil) :
    MovesPort (.tsrcRecoverExpiry p) s p fun t => Fired 10 s.ports[p] t ∧
      (F.PTH_CTL.CEN_EN.on t.pth.ctl = true ∧ F.PTH_STAT.DIS_ON.on t.pth.stat = false ∧ t.gateOn = true ∧
        t.target = 250 ∧ t.st = s.ports[p].st ∧ t.pol = s.ports[p].pol) := by
  obtain ⟨hcen, hdis, hgate, htarget⟩ := raised5_drives s.time (slotFired 10 s.ports[p])
  refine expiry_moves (k := 10) (f := polSrcRecover p) (u := raised5 s.time) rfl hs h
    ((srcRecover_fired hhr hatt hcable hfloor).trans (raise5_allowed ?_)) ⟨hs.2.2.2, .inl hs.2.2.1⟩
    (stillShows_of_pd rfl rfl) ⟨hcen, hdis, hgate, htarget, rfl, rfl⟩
  rw [modPort_port]
  exact hceil

theorem srcRecover_refused (hs : Attended p s) (h : s.ports[p].slotRuns 10 = true) (hhr : s.ports[p].pol.hr = .recover)
    (hatt : s.ports[p].attached = true) (hcable : s.ports[p].cableSeen = false) (hfloor : (s.cadp[p]).floor ≠ 0)
    (hceil : F.PTH_CEIL.CEIL.get s.ports[p].pth.ceil < 50) :
    MovesPort (.tsrcRecoverExpiry p) s p fun t => Fired 10 s.ports[p] t ∧
      (F.PTH_EVT.CEIL_REF.on t.pth.evt = true ∧ t.pth.ctl = s.ports[p].pth.ctl ∧ t.pth.stat = s.ports[p].pth.stat ∧
        t.target = s.ports[p].target ∧ t.st = s.ports[p].st) := by
  obtain ⟨queue, held, seq, e⟩ := refuseTarget_eq p 250 (modPort p (slotFired 10) s)
  refine expiry_moves (k := 10) (f := polSrcRecover p) rfl hs h
    ((srcRecover_fired hhr hatt hcable hfloor).trans ((raise5_refused ?_).trans e)) ⟨hs.2.2.2, .inl hs.2.2.1⟩
    (stillShows_of_pd rfl rfl) ⟨on_set F.PTH_EVT.CEIL_REF (by decide) (by decide) _, rfl, rfl, rfl, rfl⟩
  rw [modPort_port]
  exact hceil

end

end Sys2Proof.Machine

/-! SUPPORT. Error recovery begun by a PR_Swap that fails, and its end in DETACHED (04 R99, R116, 03 R64, Table PDE-10). -/

namespace Sys2Proof.Machine
open Sys2Proof

section
variable {p : PortId} {s : State} {q : Port}

/-! ## What the detach of the contexts leaves shown -/

theorem hardResetCtxs_stillShows (q : Port) : StillShows q (hardResetCtxs q) := by
  refine ⟨?_, (hardResetCtxs_cleared q).evt⟩
  obtain ⟨ctl, cfg, stat, ha⟩ := amsRestore_eq (ctxsReset q)
  obtain ⟨ctx, run, evt, ow, tr, h⟩ := ctxsReset_eq q
  have hform : hardResetCtxs q = releaseRx 0xF { amsRestore (ctxsReset q) with phw.hwq := [], phw.bistData := false } := rfl
  rw [hform, ha, h]
  rfl

/-- The three contexts off. -/
def ctxsOff (q : Port) : Port := enableCtx 2 false (enableCtx 1 false (enableCtx 0 false q))

theorem ctxsOff_stillShows (q : Port) : StillShows q (ctxsOff q) :=
  ((enableCtx_off_stillShows 0 q).trans (enableCtx_off_stillShows 1 (enableCtx 0 false q))).trans
    (enableCtx_off_stillShows 2 _)

theorem ctxsOff_en (q : Port) (c : Fin 3) : F.CTX_CTL.EN.on (ctxsOff q).ctx[c].ctl = false := by
  rcases (by decide : ∀ c : Fin 3, c = 0 ∨ c = 1 ∨ c = 2) c with rfl | rfl | rfl
  · exact enableCtx_off_en (.inr (enableCtx_off_en (.inr (enableCtx_off_en (.inl rfl)))))
  · exact enableCtx_off_en (.inr (enableCtx_off_en (.inl rfl)))
  · exact enableCtx_off_en (.inl rfl)

theorem detachCtxs_stillShows (q : Port) : StillShows q (detachCtxs q) :=
  ((hardResetCtxs_stillShows q).trans (ctxsOff_stillShows (hardResetCtxs q))).trans (stillShows_of_pd rfl rfl)

theorem detachCtxs_ctxOn (q : Port) (c : Fin 3) : (detachCtxs q).ctxOn c = false := by
  have hen : F.CTX_CTL.EN.on (detachCtxs q).ctx[c].ctl = false := ctxsOff_en (hardResetCtxs q) c
  rw [Port.ctxOn, hen, Bool.false_and]

/-! ## Error recovery begins (04 R116) -/

theorem setSt_eq (t : PortSt) (q : Port) : q.setSt t = { q with core := (q.setSt t).core } := by
  unfold Port.setSt
  split <;> rfl

/-- A port in BINDING_OFF, with its power down and its contract lost. -/
def boundOff (queue held : List EvtEntry) (seq : Nat) (q : Port) : Port :=
  lostContract queue held seq ((powerDown q).setSt .bindingOff)

/-- A port in error recovery. -/
def recovering (queue held : List EvtEntry) (seq : Nat) (q : Port) : Port :=
  let t := detachCtxs (boundOff queue held seq q)
  { t with pol := { clearAttachment t.pol with detachCause := some 2, detachAt := none, errRecovery := true } }

theorem resetContexts_eq (hw : noWaits s p) : resetContexts p s =
    modPort p (fun q => { detachCtxs q with pol := clearAttachment (detachCtxs q).pol }) s := by
  have hcancel : cancelPort p s = s :=
    completeAll_none hw (fun w h => by simp only [Bool.and_eq_true, beq_iff_eq] at h; exact h.1.1) _
  have hhard : cancelHard p s = s :=
    completeAll_none hw (fun w h => by simp only [Bool.and_eq_true, beq_iff_eq] at h; exact h.1) _
  rw [resetContexts, hcancel, hhard]

theorem errorRecovery_eq (hw : noWaits s p) : ∃ queue held seq, errorRecovery p s =
    modPort p (recovering queue held seq) (modCad p (fun c => { c with contract := none }) s) := by
  obtain ⟨queue, held, seq, e⟩ := loseContract_eq p 8 0 (modPort p (fun q => (powerDown q).setSt .bindingOff) s)
  have hw' : noWaits (modPort p (boundOff queue held seq) (modCad p (fun c => { c with contract := none }) s)) p := hw
  have hbound : loseContract p 8 0 (modPort p (fun q => (powerDown q).setSt .bindingOff) s) =
      modPort p (boundOff queue held seq) (modCad p (fun c => { c with contract := none }) s) := by
    rw [e, modCad_modPort, modPort_modPort]
    rfl
  have hbind : bindOff p 2 8 s = modPol p (fun l => { l with detachCause := some 2, detachAt := none })
      (resetContexts p (loseContract p 8 0 (modPort p (fun q => (powerDown q).setSt .bindingOff) s))) := rfl
  refine ⟨queue, held, seq, ?_⟩
  rw [errorRecovery, hbind, hbound, resetContexts_eq hw']
  unfold modPol
  rw [modPort_modPort, modPort_modPort, modPort_modPort]
  rfl

theorem boundOff_isDown (queue held : List EvtEntry) (seq : Nat) (q : Port) : (boundOff queue held seq q).isDown := by
  have hdown := powerDown_isDown q
  rw [boundOff, setSt_eq]
  exact hdown

theorem boundOff_stillShows (queue held : List EvtEntry) (seq : Nat) (q : Port) :
    StillShows q (boundOff queue held seq q) := by
  have hpd : (boundOff queue held seq q).pd = q.pd := by
    rw [boundOff, setSt_eq]
    exact powerDown_pd q
  exact stillShows_of_pd (congrArg PdRegs.tmrstat hpd) (congrArg PdRegs.evt hpd)

theorem boundOff_st (queue held : List EvtEntry) (seq : Nat) (h : q.st ≠ .fenced) :
    (boundOff queue held seq q).st = .bindingOff := by
  have hst : ((powerDown q).setSt .bindingOff).st = .bindingOff :=
    setSt_st (by rwa [st_of_core (powerDown_core q)]) .bindingOff
  exact hst

/-- The port recovers: its power is down, and nothing of its attachment is left. -/
abbrev Recovers (t : Port) : Prop :=
  t.isDown ∧ t.st = .bindingOff ∧ t.pol.errRecovery = true ∧ t.pol.contract = none ∧ ∀ c : Fin 3, t.ctxOn c = false

theorem recovering_recovers (queue held : List EvtEntry) (seq : Nat) (h : q.st ≠ .fenced) :
    Recovers (recovering queue held seq q) := by
  have hbeyond := detachCtxs_beyondPd (boundOff queue held seq q)
  have hdown : (detachCtxs (boundOff queue held seq q)).isDown := isDown_of_beyondPd hbeyond (boundOff_isDown queue held seq q)
  have hst : (detachCtxs (boundOff queue held seq q)).st = .bindingOff :=
    (st_of_core (eq_of_beyondPd hbeyond).1).trans (boundOff_st queue held seq h)
  exact ⟨hdown, hst, rfl, rfl, detachCtxs_ctxOn (boundOff queue held seq q)⟩

theorem recovering_stillShows (queue held : List EvtEntry) (seq : Nat) (q : Port) :
    StillShows q (recovering queue held seq q) :=
  ((boundOff_stillShows queue held seq q).trans (detachCtxs_stillShows _)).trans (stillShows_of_pd rfl rfl)

/-- tPSSourceOn and tPSSourceOff during a PR_Swap (04 R116). -/
theorem swapLost_recovers {i : Instr} {k : Fin 26} (hx : IsExpiry i p k (polSwapLost p) s) (hs : Attended p s)
    (h : s.ports[p].slotRuns k = true) (hswap : s.ports[p].pol.swap ≠ none) (hst : s.ports[p].st ≠ .fenced) :
    Moves i s fun t => Fired k s.ports[p] t.ports[p] ∧ Recovers t.ports[p] ∧
      ∀ r : PortId, r ≠ p → t.ports[r] = s.ports[r] := by
  obtain ⟨-, hw, -, -⟩ := id hs
  obtain ⟨queue, held, seq, e⟩ := errorRecovery_eq (p := p) (s := modPort p (slotFired k) s) (noWaits_modPort _ hw)
  have hrow : polSwapLost p (modPort p (slotFired k) s) = errorRecovery p (modPort p (slotFired k) s) := by
    refine if_pos ?_
    rw [modPort_port]
    exact Option.isSome_iff_ne_none.mpr hswap
  refine expiry_reachesCad hx hs h (hrow.trans e) ⟨rfl, .inl rfl⟩ (recovering_stillShows _ _ _ _) fun t ht _ => ?_
  rw [ht]
  exact recovering_recovers queue held seq hst

/-! ## Error recovery ends in DETACHED (04 R99, 03 R64) -/

theorem writeCcCtl_stillShows (v : Word) (q : Port) : StillShows q (writeCcCtl v q) := by
  have hload : ∀ (lo hi : Fin 8) (t : Option (Nat × Nat)) (u : Port), (loadPin lo hi t u).pd = u.pd := by
    intro lo hi t u
    cases t <;> rfl
  have hrelease : ∀ u : Port, StillShows u (releaseWaiting u) := fun u =>
    stillShows_of_pd (releaseWaiting_keeps (fun t => t.pd.tmrstat) (fun _ _ _ _ => rfl) u)
      (releaseWaiting_keeps (fun t => t.pd.evt) (fun _ _ _ _ => rfl) u)
  have hsync : ∀ u : Port, StillShows u (syncTxOk u) := by
    intro u
    unfold syncTxOk
    dsimp only
    split
    · exact (stillShows_of_pd rfl rfl).trans (hrelease _)
    · exact stillShows_of_pd rfl rfl
  unfold writeCcCtl
  dsimp only
  refine StillShows.trans ?_ (hsync _)
  split
  · refine stillShows_of_pd ?_ ?_ <;> rw [hload, hload]
  · exact stillShows_of_pd rfl rfl

theorem toDetached_keeps (q : Port) : (toDetached 0 q).pd = q.pd ∧ (toDetached 0 q).pol = q.pol := by
  unfold toDetached Port.setTc Port.setSt
  split <;> exact ⟨rfl, rfl⟩

theorem enteredDetached_stillShows (lvl : Nat) (q : Port) : StillShows q (enteredDetached 0 lvl q) := by
  obtain ⟨hpd, -⟩ := toDetached_keeps q
  have hdet : StillShows q (toDetached 0 q) :=
    stillShows_of_pd (congrArg PdRegs.tmrstat hpd) (congrArg PdRegs.evt hpd)
  have hterms : StillShows (toDetached 0 q) (roleTerms 0 (toDetached 0 q)) := writeCcCtl_stillShows _ _
  have hrp : StillShows (roleTerms 0 (toDetached 0 q)) (setRp lvl (roleTerms 0 (toDetached 0 q))) :=
    writeCcCtl_stillShows _ _
  exact ((hdet.trans hterms).trans hrp).trans (stillShows_of_pd rfl rfl)

theorem enteredDetached_settled (lvl : Nat) (hdisc : q.pol.discDue = false) (htxq : q.pol.txq = []) :
    (enteredDetached 0 lvl q).settled := by
  have hterms : (roleTerms 0 (toDetached 0 q)).pol = (toDetached 0 q).pol := writeCcCtl_pol _ _
  have hpol : (setRp lvl (roleTerms 0 (toDetached 0 q))).pol = q.pol :=
    (writeCcCtl_pol _ _).trans (hterms.trans (toDetached_keeps q).2)
  refine ⟨?_, .inl ?_⟩
  · exact (congrArg Policy.discDue hpol).trans hdisc
  · exact (congrArg Policy.txq hpol).trans htxq

/-- The ceiling of a released port. -/
def ceilDown (q : Port) : Port := setCadLim 0 (setCeil 50 q)

theorem ceilDown_stillShows (q : Port) : StillShows q (ceilDown q) := stillShows_of_pd rfl rfl

theorem ceilDown_settled (h : q.settled) : (ceilDown q).settled := h

/-- Without a partner on either pin there is no attach pattern. -/
theorem pattern_none (h1 : q.dec1 = 0) (h2 : q.dec2 = 0) : q.pattern = none := by
  unfold Port.pattern
  rw [h1, h2]
  split <;> rfl

theorem enteredDetached_open (lvl : Nat) (h1 : q.dec1 = 0) (h2 : q.dec2 = 0) :
    (enteredDetached 0 lvl q).pattern = none := by
  refine pattern_none ?_ ?_
  · rw [Port.dec1, enteredDetached_stat]
    simp (disch := decide) only [get_clr_apart]
    exact h1
  · rw [Port.dec2, enteredDetached_stat]
    simp (disch := decide) only [get_clr_apart]
    exact h2

/-- A source port with open pins and no configuration waiting enters DETACHED and stays there. -/
theorem enterDetached_open (h1 : s.ports[p].pol.cfgLater = none) (h2 : s.ports[p].pol.captLater = none)
    (hrole : roleOf s p = 0) (hdec1 : s.ports[p].dec1 = 0) (hdec2 : s.ports[p].dec2 = 0) :
    enterDetached p s = releasedDetached p s := by
  have hp : (releasedDetached p s).ports[p].pattern = none := by
    rw [releasedDetached_port, hrole]
    exact enteredDetached_open _ hdec1 hdec2
  rw [enterDetached_eq, modFront_applyLater_of_none h1 h2, hp]
  rfl

/-- No command waits for the port's parking. -/
theorem completeParked_none (hw : noWaits s p) : completeParked p s = s := by
  have hnil : (s.host.waits.filter fun w => w.port == p.val && w.kind == .parked) = [] := by
    rw [List.filter_eq_nil_iff]
    intro w hmem hport
    simp only [Bool.and_eq_true, beq_iff_eq] at hport
    exact hw w hmem hport.1
  rw [completeParked, hnil]
  rfl

/-- No slot runs, and the detach has been posted. -/
def recovered (queue held : List EvtEntry) (seq : Nat) (q : Port) : Port :=
  stopAllSlots { q with pol.queue := queue, pol.held := held, pol.seq := seq }

theorem endBindOff_eq (hkept : s.ports[p].pol.kept = none) : ∃ queue held seq, endBindOff p s =
    completeParked p (enterDetached p (modPort p (recovered queue held seq) s)) := by
  obtain ⟨queue, held, seq, e⟩ : ∃ queue held seq, (match s.ports[p].pol.detachCause with
      | some c => postKept p c .detached s
      | none => s) = modPort p (fun q => { q with pol.queue := queue, pol.held := held, pol.seq := seq }) s := by
    split
    · exact postPortAt_eq _ p .detach _ s
    · exact ⟨_, _, _, (modPort_eq_self rfl).symm⟩
  refine ⟨queue, held, seq, ?_⟩
  have hform : endBindOff p s = completeParked p (enterDetached p (modPort p stopAllSlots
      (match s.ports[p].pol.detachCause with
        | some c => postKept p c .detached s
        | none => s))) := by
    unfold endBindOff
    dsimp only
    rw [hkept]
    rfl
  rw [hform, e, modPort_modPort]
  rfl

theorem roleOf_modPort {f : Port → Port} (h : (f s.ports[p]).core = s.ports[p].core) :
    roleOf (modPort p f s) p = roleOf s p := by
  rw [roleOf, modPort_port, h]
  rfl

/-- tErrorRecovery (04 R99). -/
theorem errorRecovery_ends (hs : Attended p s) (h : s.ports[p].slotRuns 25 = true)
    (herr : s.ports[p].pol.errRecovery = true) (hst : s.ports[p].st = .bindingOff) (hkept : s.ports[p].pol.kept = none)
    (h1 : s.ports[p].pol.cfgLater = none) (h2 : s.ports[p].pol.captLater = none) (hrole : roleOf s p = 0)
    (hdec1 : s.ports[p].dec1 = 0) (hdec2 : s.ports[p].dec2 = 0) :
    Moves (.terrorRecoveryExpiry p) s fun t => Fired 25 s.ports[p] t.ports[p] ∧
      (t.ports[p].st = .detached ∧ t.ports[p].tc = 1 ∧ t.ports[p].termsAre 1 ∧ t.ports[p].pol.errRecovery = false) ∧
      ∀ r : PortId, r ≠ p → t.ports[r] = s.ports[r] := by
  obtain ⟨-, hw, htxq, hdisc⟩ := id hs
  obtain ⟨queue, held, seq, e⟩ := endBindOff_eq (p := p) (s := modPort p (slotFired 25) s) (by rw [modPort_port]; exact hkept)
  let u := fun q => recovered queue held seq (slotFired 25 q)
  have hport : (modPort p u s).ports[p] = u s.ports[p] := modPort_port p u s
  have hrole' : roleOf (modPort p u s) p = 0 := (roleOf_modPort rfl).trans hrole
  have hrow : polErrorRecovery p (modPort p (slotFired 25) s) = endBindOff p (modPort p (slotFired 25) s) := by
    refine if_pos ?_
    have herr' : (slotFired 25 s.ports[p]).pol.errRecovery = true := herr
    have hst' : (slotFired 25 s.ports[p]).st = .bindingOff := hst
    rw [modPort_port, herr', hst']
    rfl
  have hreleased : polErrorRecovery p (modPort p (slotFired 25) s) = releasedDetached p (modPort p u s) := by
    rw [hrow, e, modPort_modPort, enterDetached_open (s := modPort p u s) (by rw [hport]; exact h1) (by rw [hport]; exact h2)
      hrole' (by rw [hport]; exact hdec1) (by rw [hport]; exact hdec2)]
    exact completeParked_none hw
  have hdet : (releasedDetached p (modPort p u s)).ports[p] =
      ceilDown (enteredDetached 0 (askedLevel s.cadp[p]) (u s.ports[p])) := by
    rw [releasedDetached_port, hrole', hport]
    rfl
  obtain ⟨hst', htc, -, hterms, -⟩ :=
    releasedDetached_source (p := p) (s := modPort p u s) (by rw [hport]; exact fun hf => by cases hst.symm.trans hf) hrole'
  refine expiry_reaches (k := 25) rfl hs h hreleased rfl (fun r hr => ?_) ?_ ?_ ⟨hst', htc, hterms, ?_⟩
  · exact ((atPort_releasedDetached p (modPort p u s)).others r hr).1.trans (modPort_other p u s r hr)
  all_goals rw [hdet]
  · exact ceilDown_settled (enteredDetached_settled _ hdisc htxq)
  · have hrec : StillShows (slotFired 25 s.ports[p]) (u s.ports[p]) := stillShows_of_pd rfl rfl
    exact (hrec.trans (enteredDetached_stillShows (askedLevel s.cadp[p]) (u s.ports[p]))).trans (ceilDown_stillShows _)
  · rfl

end

end Sys2Proof.Machine

/-! O55, settled: the expiry of an engine timer slot (04 R122, R123, Table PDE-10). -/

namespace Sys2Proof.Machine
open Sys2Proof

section
variable {p : PortId} {s : State} {i : Instr} {k : Fin 26} {f : State → State}

/-- The engine slots of Table PDE-10 with the commands of their expiries. -/
def engineExpiries (p : PortId) : List (Fin 26 × Instr) :=
  [(6, .tsenderResponseExpiry p), (7, .ttypecSendSourceCapExpiry p), (8, .tsrcTransitionExpiry p),
    (9, .tpsHardResetExpiry p), (10, .tsrcRecoverExpiry p), (11, .tpsSourceOnExpiry p), (12, .tpsSourceOffExpiry p),
    (13, .tpsTransitionExpiry p), (14, .tswapSourceStartExpiry p), (15, .tvdmSenderResponseExpiry p),
    (16, .hostVdmBudgetExpiry p), (17, .tdiscoverIdentityExpiry p), (18, .tvconnStableExpiry p),
    (19, .tvconnSourceTimeoutExpiry p), (20, .tsourceEprKeepaliveExpiry p), (21, .tsinkEprKeepaliveExpiry p),
    (22, .tenterEprExpiry p), (23, .tppsTimeoutExpiry p), (24, .tnoResponseExpiry p), (25, .terrorRecoveryExpiry p)]

/-- Each of them is the expiry of its slot. -/
theorem engineExpiries_expire {x : Fin 26 × Instr} (hx : x ∈ engineExpiries p) (s : State) :
    ∃ f, IsExpiry x.2 p x.1 f s := by
  unfold engineExpiries at hx
  fin_cases hx <;> exact ⟨_, rfl⟩

end

/-- Settles O55, slot by slot: each expiry is one of a slot that does not run, of an engine that does not act, or of an
engine that acts as its row of the table says. -/
theorem engineTimersExpire : Obligations.EngineTimersExpire := by
  unfold Obligations.EngineTimersExpire
  intro p s
  dsimp only
  refine ⟨fun x hx => ?_, ?_, ?_, ?_, ?_, ?_, ?_, ?_, ?_, ?_, ?_, ?_, ?_, ?_, ?_, ?_, ?_, ?_, ?_, ?_, ?_⟩
  · obtain ⟨f, hf⟩ := engineExpiries_expire (p := p) hx s
    exact ⟨expiry_off hf, expiry_waits hf⟩
  · exact fun hs h6 haw _ hres => getRevision_ends hs h6 haw hres
  · exact fun hs h7 hatt hsrc hq hcon hhr hnopd he => sendCap_moves hs h7 hatt hsrc hq hcon hhr hnopd he
  · exact fun w hs h8 hswap hstep => srcTransition_swaps hs h8 hswap hstep
  · exact fun k hs h8 hq _ _ => srcTransition_idle hs h8 hq.2.2.2.2.1 hq.2.2.2.1
  · exact fun k hs h8 hswap hnext hacc hphy hon hor hvolt =>
      srcTransition_psRdy hs h8 hswap hnext hacc ⟨hphy, hs.2.2.1, hon, hor⟩ hvolt
  · exact fun hs h9 hhr _ => psHardReset_drives hs h9 hhr
  · exact fun hs h10 hhr hatt hcable _ hfloor =>
      ⟨srcRecover_raises hs h10 hhr hatt hcable hfloor, srcRecover_refused hs h10 hhr hatt hcable hfloor⟩
  · exact fun hs hswap hst => ⟨fun h11 => swapLost_recovers rfl hs h11 hswap hst,
      fun h12 => swapLost_recovers rfl hs h12 hswap hst, fun h19 => vconnTimeout_asks hs h19 hswap⟩
  · exact fun hs hsnk hcount => ⟨fun h13 => sinkReset_asks rfl hs h13 hsnk hcount,
      fun h21 => sinkReset_asks rfl hs h21 hsnk hcount⟩
  · exact fun hs h14 hsrc hatt hq he => swapStart_moves hs h14 hsrc hatt hq he
  · exact fun hs h15 haw _ => discIdentity_ends hs h15 haw
  · exact fun n hs h16 hvdm hq => budget_answersBusy hs h16 hvdm hq
  · exact fun hs h17 _ hcable hv => ⟨discover_assumes hs h17 hcable hv, discover_repeats hs h17 hcable hv⟩
  · exact fun w hs h18 hswap hstep hphy hon hor =>
      vconnStable_psRdy hs h18 hswap hstep ⟨hphy, hs.2.2.1, hon, hor⟩
  · exact fun hs h18 _ hatt hv hdfp hcable hcapt h17 hq hams =>
      vconnStable_discovers hs h18 hatt hv hdfp hcable hcapt h17 hq hams
  · exact fun hs hcount => ⟨fun h20 he => eprKeepalive_resets hs h20 hcount he,
      fun k h23 hk hkind hsrc => ppsTimeout_resets hs h23 hcount hk hkind hsrc⟩
  · exact fun hs h22 hsnk hq => enterEpr_softResets hs h22 hsnk hq
  · exact fun k hs h22 hsrc hheld hk => enterEpr_releases hs h22 hsrc hheld hk
  · exact fun hs h24 hatt => ⟨noResponse_asks hs h24 hatt, noResponse_shows hs h24 hatt⟩
  · exact fun hs h25 herr hst hkept h1 h2 hrole hdec1 hdec2 =>
      errorRecovery_ends hs h25 herr hst hkept h1 h2 hrole hdec1 hdec2

end Sys2Proof.Machine

/-! SUPPORT. The gate ramp, the converter ramp and the FBS trim of one port (05 R127 to R133): what each command writes
of the path registers, and what it leaves. -/

namespace Sys2Proof.Machine
open Sys2Proof

/-! ## The FBS code (05 R128) -/

/-- A code is kept within the signed range of its field. -/
theorem clampCode_range (n : Int) : -4096 ≤ clampInt (-4096) 4095 n ∧ clampInt (-4096) 4095 n ≤ 4095 := by
  unfold clampInt
  omega

theorem clampCode_eq (n : Int) : clampInt (-4096) 4095 n = min 4095 (max (-4096) n) := by
  unfold clampInt
  omega

theorem getInt_putInt_clampCode (n : Int) (w : Word) :
    F.PTH_FBS.CODE.getInt (F.PTH_FBS.CODE.putInt (clampInt (-4096) 4095 n) w) = clampInt (-4096) 4095 n :=
  getInt_putInt_code _ (clampCode_range n).1 (clampCode_range n).2 w

section
variable (q : Port) (mv : Nat)

/-- The port's FBS code is the one for a voltage in 20 mV, without trim. -/
abbrev Port.fbsAt (q : Port) (r : Nat) (t : Port) : Prop :=
  F.PTH_FBS.CODE.getInt t.pth.fbs = fbsCode q (20 * r) ∧ t.hw.trim = 0

theorem setFbs_code : F.PTH_FBS.CODE.getInt (setFbs mv q).pth.fbs = fbsCode q mv :=
  getInt_putInt_clampCode _ 0

end

/-- The path commands leave a port's state, protocol and retries alone. -/
abbrev Port.RampKeeps (q t : Port) : Prop :=
  t.core = q.core ∧ t.pd = q.pd ∧ t.phw = q.phw ∧ t.pth.retry = q.pth.retry

section
variable {p : PortId} {s : State}

/-! ## The gate ramp (05 R127, R130) -/

theorem gateRampStart_none (h : frontDrives s p = false ∨ F.PTH_CTL.PATH_EN.on s.ports[p].pth.ctl = true) :
    exec (.gateRampStart p) s = .next s := by
  refine congrArg Host.Outcome.next (if_neg ?_)
  rcases h with h | h <;> simp [h, -Fin.getElem_fin]

theorem startGateRamp_starts (now : Nat) (q : Port) : let t := startGateRamp now q
    q.RampKeeps t ∧ t.pol = q.pol ∧ F.PTH_CTL.PATH_EN.on t.pth.ctl = true ∧ t.gateOn = true ∧
      F.PTH_STAT.LIN.on t.pth.stat = true ∧ F.PTH_STAT.CNV.on t.pth.stat = false ∧ t.atTarget = false ∧
      F.PTH_REF.REF.get t.pth.ref = 0 ∧ t.target = q.target ∧ q.fbsAt q.target t ∧ t.hw.rampAt = now ∧
      t.hw.rate = min 100 (max 1 (F.PTH_STEEP.RATE.get q.pth.steep)) := by
  have hstat : (startGateRamp now q).pth.stat = F.PTH_STAT.CNV.clr (F.PTH_STAT.AT_TARGET.clr (F.PTH_STAT.GATE_ON.set
      (F.PTH_STAT.LIN.set q.pth.stat))) := rfl
  have href : F.PTH_REF.REF.get 0 = 0 := by decide
  have hrate : rampRate q = min 100 (max 1 (F.PTH_STEEP.RATE.get q.pth.steep)) := by
    unfold rampRate clampNat
    omega
  refine ⟨⟨rfl, rfl, rfl, rfl⟩, rfl, on_set _ (by decide) (by decide) _, ?_, ?_, ?_, ?_, href, rfl,
    ⟨setFbs_code q _, rfl⟩, rfl, hrate⟩
  all_goals
    simp only [Port.gateOn, Port.atTarget, hstat]
    simp (disch := decide) only [on_clr_apart, on_set_apart, on_set, on_clr]

theorem exec_gateRampStart (hd : frontDrives s p = true) (hoff : F.PTH_CTL.PATH_EN.on s.ports[p].pth.ctl = false) :
    exec (.gateRampStart p) s = .next (modPort p (startGateRamp s.time) s) :=
  congrArg Host.Outcome.next (if_pos (by simp [hd, hoff, -Fin.getElem_fin]))

/-! ## TARGET (05 R130, R131) -/

theorem targetWrite_discarded (h : frontWrites s p = false) (n : Nat) : exec (.targetWrite p n) s = .next s :=
  congrArg Host.Outcome.next (if_neg (by rw [h]; decide))

theorem exec_targetWrite_refused (h : frontWrites s p = true) {n : Nat}
    (hr : F.PTH_CEIL.CEIL.get s.ports[p].pth.ceil * 100 < n % 4096 * 20) :
    exec (.targetWrite p n) s = .next (refuseTarget p (n % 4096) s) :=
  congrArg Host.Outcome.next ((if_pos h).trans (if_pos (by rw [targetRefused, decide_eq_true_eq]; exact hr)))

theorem exec_targetWrite_accepted (h : frontWrites s p = true) {n : Nat}
    (ha : n % 4096 * 20 ≤ F.PTH_CEIL.CEIL.get s.ports[p].pth.ceil * 100) :
    exec (.targetWrite p n) s = .next (modPort p (acceptTarget s.time (n % 4096)) s) :=
  congrArg Host.Outcome.next
    ((if_pos h).trans (if_neg (by rw [targetRefused, decide_eq_true_eq]; exact Nat.not_lt.mpr ha)))

/-- An event of the port enters its queue while there is room and nothing older waits (08 R232, R236). -/
theorem postPort_queued {ev : PortEvt} (hen : srcEnabled s (12 * p.val + ev.num) = true)
    (hheld : s.ports[p].pol.held = []) (hroom : s.ports[p].pol.queue.length < 32) (d : Word) :
    (postPort p ev d s).ports[p].pol.queue = s.ports[p].pol.queue ++
      [⟨s.time, 12 * p.val + ev.num, s.ports[p].pol.seq, d⟩] := by
  unfold postPort postPortAt
  dsimp only
  rw [if_pos hen, modPol, modPort_port]
  dsimp only
  rw [if_pos (by simp [hheld, hroom, -Fin.getElem_fin])]

theorem targetWrite_refuses {n : Nat} (hx : exec (.targetWrite p n) s = .next (refuseTarget p (n % 4096) s)) :
    MovesPort (.targetWrite p n) s p fun t => s.ports[p].RampKeeps t ∧ t.target = s.ports[p].target ∧
      t.pth.stat = s.ports[p].pth.stat ∧ F.PTH_EVT.CEIL_REF.on t.pth.evt = true ∧
      (srcEnabled s (12 * p.val + 9) = true → s.ports[p].pol.held = [] → s.ports[p].pol.queue.length < 32 →
        t.pol.queue = s.ports[p].pol.queue ++
          [⟨s.time, 12 * p.val + 9, s.ports[p].pol.seq, BitVec.ofNat 32 (1 + 65536 * (n % 4096))⟩]) := by
  obtain ⟨queue, held, seq, e⟩ := refuseTarget_eq p (n % 4096) s
  have hq : (refuseTarget p (n % 4096) s).ports[p].pol.queue = queue := by rw [e, modPort_port]
  refine movesPort_of_modPort (hx.trans (congrArg _ e))
    ⟨⟨rfl, rfl, rfl, rfl⟩, rfl, rfl, on_set _ (by decide) (by decide) _, fun hen hheld hroom => ?_⟩
  have hflag := modPort_port p (fun q => { q with pth.evt := F.PTH_EVT.CEIL_REF.set q.pth.evt }) s
  have hpost := postPort_queued (ev := .gateFault) (p := p)
    (s := modPort p (fun q => { q with pth.evt := F.PTH_EVT.CEIL_REF.set q.pth.evt }) s) hen
    (by rw [hflag]; exact hheld) (by rw [hflag]; exact hroom) (BitVec.ofNat 32 (1 + 65536 * (n % 4096 % 4096)))
  rw [hflag, Nat.mod_mod] at hpost
  refine hq.symm.trans (Eq.trans ?_ hpost)
  rw [refuseTarget, Nat.mod_mod]

/-- A port that is neither at its target nor in a ramp takes a new target alone. -/
theorem acceptTarget_still (now n : Nat) {q : Port} (hr : q.ramping = false) (ha : q.atTarget = false) :
    acceptTarget now n q = slot7Threshold (q.gateOn && decide (n < refNow now q))
      { q with pth.steep := F.PTH_STEEP.TARGET.put n q.pth.steep } := by
  have hstill : (q.atTarget || q.ramping) = false := by rw [hr, ha]; rfl
  unfold acceptTarget
  dsimp only
  rw [hstill]
  rfl

/-- A ramp toward a new target, from the present reference. -/
def rampTo (now n : Nat) (q : Port) : Port :=
  let lin := F.PTH_STAT.LIN.on q.pth.stat
  let falling := q.gateOn && decide (n < refNow now q)
  let u := slot7Threshold falling { q with pth.steep := F.PTH_STEEP.TARGET.put n q.pth.steep }
  { setFbs (20 * (if lin then n else refNow now q)) u with
    pth.ref := F.PTH_REF.REF.put (refNow now q) 0
    pth.stat := F.PTH_STAT.AT_TARGET.clr
      (if lin then F.PTH_STAT.LIN.set q.pth.stat else F.PTH_STAT.CNV.set q.pth.stat)
    hw.rampAt := now, hw.rate := rampRate u, hw.ovHold := if falling then some (ovThreshold now q) else none }

theorem acceptTarget_moving (now n : Nat) {q : Port} (h : q.ramping = true ∨ q.atTarget = true) :
    acceptTarget now n q = rampTo now n q := by
  have hmoving : (q.atTarget || q.ramping) = true := by rcases h with h | h <;> simp [h]
  unfold acceptTarget
  dsimp only
  rw [hmoving]
  rfl

theorem rampTo_ramps (now n : Nat) (q : Port) : let t := rampTo now n q
    t.atTarget = false ∧ t.ramping = true ∧ t.hw.rampAt = now ∧ F.PTH_REF.REF.get t.pth.ref = refNow now q % 4096 ∧
      q.fbsAt (if F.PTH_STAT.LIN.on q.pth.stat then n else refNow now q) t ∧
      F.PTH_STAT.LIN.on t.pth.stat = F.PTH_STAT.LIN.on q.pth.stat ∧ t.gateOn = q.gateOn := by
  have hstat : (rampTo now n q).pth.stat = F.PTH_STAT.AT_TARGET.clr (if F.PTH_STAT.LIN.on q.pth.stat then
      F.PTH_STAT.LIN.set q.pth.stat else F.PTH_STAT.CNV.set q.pth.stat) := rfl
  refine ⟨?_, ?_, rfl, get_put F.PTH_REF.REF (by decide) _ _, ⟨setFbs_code q _, rfl⟩, ?_, ?_⟩
  all_goals
    simp only [Port.atTarget, Port.ramping, Port.gateOn, hstat]
    cases hlin : F.PTH_STAT.LIN.on q.pth.stat
  all_goals simp (disch := decide) [hlin, on_clr_apart, on_set_apart, on_set]

/-- What a target written and accepted leaves. -/
theorem acceptTarget_keeps (now n : Nat) (q : Port) : let t := acceptTarget now n q
    q.RampKeeps t ∧ t.pol = q.pol ∧ t.target = n % 4096 ∧ t.pth.evt = q.pth.evt := by
  by_cases h : q.ramping = true ∨ q.atTarget = true
  · rw [acceptTarget_moving now n h]
    exact ⟨⟨rfl, rfl, rfl, rfl⟩, rfl, get_put F.PTH_STEEP.TARGET (by decide) _ _, rfl⟩
  · rw [not_or, Bool.not_eq_true, Bool.not_eq_true] at h
    rw [acceptTarget_still now n h.1 h.2]
    exact ⟨⟨rfl, rfl, rfl, rfl⟩, rfl, get_put F.PTH_STEEP.TARGET (by decide) _ _, rfl⟩

theorem acceptTarget_gateOn (now n : Nat) (q : Port) : (acceptTarget now n q).gateOn = q.gateOn := by
  by_cases h : q.ramping = true ∨ q.atTarget = true
  · rw [acceptTarget_moving now n h]
    obtain ⟨-, -, -, -, -, -, hgate⟩ := rampTo_ramps now n q
    exact hgate
  · rw [not_or, Bool.not_eq_true, Bool.not_eq_true] at h
    rw [acceptTarget_still now n h.1 h.2]
    rfl

/-! ## CEN_EN (05 R127, R129) -/

theorem cenEnWrite_discarded (h : frontDrives s p = false) (b : Bool) : exec (.cenEnWrite p b) s = .next s :=
  congrArg Host.Outcome.next (if_neg (by rw [h]; decide))

theorem exec_cenEnWrite (h : frontDrives s p = true) (b : Bool) :
    exec (.cenEnWrite p b) s = .next (modPort p (writeCen b) s) := congrArg Host.Outcome.next (if_pos h)

/-! ## The end of a ramp (05 R132) -/

theorem rampComplete_iff : rampComplete s p = true ↔ s.ports[p].ramping = true ∧
    refNow s.time s.ports[p] = s.ports[p].target ∧ (adcFailed s p = true →
      s.ports[p].strained 7 = !decide (s.ports[p].target < F.PTH_REF.REF.get s.ports[p].pth.ref)) := by
  simp only [rampComplete, Bool.and_eq_true, beq_iff_eq, Bool.or_eq_true, Bool.not_eq_true', and_assoc,
    ← Bool.not_eq_true, imp_iff_not_or]

theorem rampDone_none (h : ¬rampComplete s p = true) : exec (.rampDone p) s = .next s :=
  congrArg Host.Outcome.next (if_neg h)

theorem exec_rampDone (h : rampComplete s p = true) : exec (.rampDone p) s =
    .next (atPolicy p (.rampDone p) (polRampDone p) (modPort p rampEnd s)) := congrArg Host.Outcome.next (if_pos h)

/-- The port at its target, with its ramp ended. -/
abbrev Port.RampEnded (q t : Port) : Prop :=
  t.atTarget = true ∧ t.ramping = false ∧ F.PTH_STAT.LIMIT.on t.pth.stat = false ∧
    F.PTH_REF.REF.get t.pth.ref = q.target ∧ F.PTH_EVT.RAMP_DONE.on t.pth.evt = true ∧ t.target = q.target ∧
    (q.hw.rampDis = true → F.PTH_STAT.DIS_ON.on t.pth.stat = false) ∧ t.hw.ovHold = none ∧ t.st = q.st ∧
    q.fbsAt q.target t

/-- PTH_STAT at the end of a ramp: the sink of a falling ramp is off. -/
theorem rampEnd_stat (q : Port) : (rampEnd q).pth.stat = F.PTH_STAT.AT_TARGET.set (F.PTH_STAT.LIMIT.clr
    (F.PTH_STAT.CNV.clr (F.PTH_STAT.LIN.clr
      (if q.hw.rampDis = true then F.PTH_STAT.DIS_ON.clr q.pth.stat else q.pth.stat)))) := by
  unfold rampEnd
  split <;> rfl

/-- Beside the path registers the end of a ramp leaves the port as it was. -/
theorem rampEnd_keeps (q : Port) : (rampEnd q).core = q.core ∧ (rampEnd q).pd = q.pd ∧ (rampEnd q).phw = q.phw ∧
    (rampEnd q).pol = q.pol ∧ (rampEnd q).ctx = q.ctx ∧ (rampEnd q).cc = q.cc ∧ (rampEnd q).target = q.target := by
  unfold rampEnd
  split <;> exact ⟨rfl, rfl, rfl, rfl, rfl, rfl, rfl⟩

theorem rampEnd_ended (q : Port) : q.RampEnded (rampEnd q) := by
  obtain ⟨hcore, -, -, -, -, -, htarget⟩ := rampEnd_keeps q
  have hstat := rampEnd_stat q
  have href : (rampEnd q).pth.ref = F.PTH_REF.REF.put q.target 0 := by unfold rampEnd; split <;> rfl
  have hfbs : (rampEnd q).pth.fbs = (setFbs (20 * q.target) q).pth.fbs := by unfold rampEnd; split <;> rfl
  refine ⟨?_, ?_, ?_, ?_, ?_, htarget, fun hdis => ?_, rfl, st_of_core hcore, ?_, rfl⟩
  · rw [Port.atTarget, hstat]
    exact on_set _ (by decide) (by decide) _
  · simp (disch := decide) [Port.ramping, hstat, on_set_apart, on_clr_apart]
  · simp (disch := decide) [hstat, on_set_apart]
  · rw [href, get_put _ (by decide)]
    exact Nat.mod_eq_of_lt (get_lt F.PTH_STEEP.TARGET _)
  · exact on_set _ (by decide) (by decide) _
  · rw [hstat, if_pos hdis]
    simp (disch := decide) only [on_set_apart, on_clr_apart, on_clr]
  · rw [hfbs]
    exact setFbs_code q _

/-- The end of a ramp rests on the path, the state and the path's hardware. -/
theorem rampEnded_congr {q t u : Port} (hpth : u.pth = t.pth) (hhw : u.hw = t.hw) (hcore : u.core = t.core)
    (h : q.RampEnded t) : q.RampEnded u := by
  simp only [Port.RampEnded, Port.atTarget, Port.ramping, Port.target, Port.fbsAt, hpth, hhw, st_of_core hcore] at h ⊢
  exact h

theorem rampDone_waits (h : rampComplete s p = true) (hn : ¬Acts s p) :
    MovesPort (.rampDone p) s p fun t => s.ports[p].RampEnded t ∧ Port.keeps (.rampDone p) s.ports[p] t := by
  have hx := exec_rampDone h
  obtain ⟨-, -, -, hpol, -⟩ := rampEnd_keeps s.ports[p]
  rw [atPolicy_modPort_waits hpol hn] at hx
  exact movesPort_of_modPort hx ⟨rampEnded_congr rfl rfl rfl (rampEnd_ended _), keeps_waiting _ hpol⟩

/-- The engine at AT_TARGET of a port that is no attached source writes slot 6's threshold alone (05 R129). -/
theorem polRampDone_sink (h : s.ports[p].attached = false ∨ s.ports[p].isSource = false) :
    polRampDone p s = modPort p slot6Threshold s := by
  have hp := modPort_port p slot6Threshold s
  unfold polRampDone
  dsimp only
  rw [hp]
  refine if_pos ?_
  have hsame : (slot6Threshold s.ports[p]).attached = s.ports[p].attached ∧
      (slot6Threshold s.ports[p]).isSource = s.ports[p].isSource := ⟨rfl, rfl⟩
  rw [hsame.1, hsame.2]
  rcases h with h | h <;> simp [h, -Fin.getElem_fin]

/-- Slot 6's threshold is 90 % of the target, in steps of 60 mV. -/
theorem slot6Threshold_thr (q : Port) : F.CMP_CFG.THR.get (slot6Threshold q).cc.cfg[6] = q.target * 18 / 60 % 1024 := by
  have hcfg : (slot6Threshold q).cc.cfg[6] = F.CMP_CFG.THR.put (q.target * 20 * 90 / 100 / 60) q.cc.cfg[6] :=
    vset_self q.cc.cfg _ (6 : Fin 8)
  have hthr : q.target * 20 * 90 / 100 = q.target * 18 := by omega
  rw [hcfg, get_put _ (by decide), hthr]
  rfl

theorem rampDone_sink (h : rampComplete s p = true) (ha : Acts s p)
    (hsink : s.ports[p].attached = false ∨ s.ports[p].isSource = false) :
    MovesPort (.rampDone p) s p fun t => s.ports[p].RampEnded t ∧ t.pol = s.ports[p].pol ∧
      F.CMP_CFG.THR.get t.cc.cfg[6] = s.ports[p].target * 18 / 60 % 1024 := by
  have hx := exec_rampDone h
  obtain ⟨hcore, hpd, -, hpol, -, -, htarget⟩ := rampEnd_keeps s.ports[p]
  have hsink' : (rampEnd s.ports[p]).attached = false ∨ (rampEnd s.ports[p]).isSource = false := by
    simpa only [Port.attached, st_of_core hcore, Port.isSource, hpd] using hsink
  rw [atPolicy_modPort_acts hpol ha, polRampDone_sink (by rwa [modPort_port]), modPort_modPort] at hx
  refine movesPort_of_modPort hx ⟨rampEnded_congr rfl rfl rfl (rampEnd_ended _), hpol, ?_⟩
  rw [slot6Threshold_thr, htarget]

/-- A source at vSafe5V without a contract begins to negotiate (03 Table ATT-7). -/
theorem polRampDone_source (hatt : s.ports[p].attached = true) (hsrc : s.ports[p].isSource = true)
    (hcon : s.ports[p].pol.contract = none) (hhr : s.ports[p].pol.hr = .none) (hnext : s.ports[p].pol.next = none)
    (hswap : s.ports[p].pol.swap = none) (hnopd : F.PRT_STATE.NOPD.on s.ports[p].core.state = false) :
    polRampDone p s = sendCaps p false (modPort p slot6Threshold s) := by
  have hatt' : (slot6Threshold s.ports[p]).attached = true := hatt
  have hsrc' : (slot6Threshold s.ports[p]).isSource = true := hsrc
  have hpol' : (slot6Threshold s.ports[p]).pol = s.ports[p].pol := rfl
  have hcore' : (slot6Threshold s.ports[p]).core = s.ports[p].core := rfl
  unfold polRampDone
  dsimp only
  rw [modPort_port, hatt', hsrc', hpol', hcore', hcon, hhr, hnext, hswap, hnopd]
  rfl

/-- Beside the path and slot 6's threshold the end of a ramp at the engine leaves the port as it was. -/
theorem rampEnd_offersAs (q : Port) : OffersAs q (slot6Threshold (rampEnd q)) := by
  obtain ⟨hcore, hpd, -, hpol, hctx, -, -⟩ := rampEnd_keeps q
  exact ⟨hcore, congrArg PdRegs.rev hpd, congrArg (fun v : Vector CtxRegs 3 => revCode v[(0 : Fin 3)]) hctx,
    congrArg Policy.caps hpol, congrArg Policy.only5 hpol, congrArg Policy.prearmed hpol, congrArg Policy.contract hpol,
    congrArg Policy.cable hpol, congrArg Policy.capLimit hpol, congrArg Policy.advUnchunk hpol,
    congrArg Policy.level hpol⟩

theorem rampEnd_sameVoice (q : Port) : SameVoice 0 q (slot6Threshold (rampEnd q)) := by
  obtain ⟨-, hpd, -, -, hctx, -, -⟩ := rampEnd_keeps q
  exact ⟨congrArg PdRegs.phycfg hpd, congrArg (fun v : Vector CtxRegs 3 => v[(0 : Fin 3)].ctl) hctx⟩

theorem rampEnd_clear {q : Port} (h : q.clear 0) : (slot6Threshold (rampEnd q)).clear 0 := by
  obtain ⟨hcore, -, -, hpol, hctx, -, -⟩ := rampEnd_keeps q
  obtain ⟨hphy, htxq, hon, hor⟩ := h
  have hheld : (slot6Threshold (rampEnd q)).phyHeld = q.phyHeld :=
    phyHeld_of_txstat fun d => congrArg (fun v : Vector CtxRegs 3 => v[d].txstat) hctx
  have horient : (slot6Threshold (rampEnd q)).orient = q.orient := orient_of_core hcore
  exact ⟨hheld.trans hphy, (congrArg Policy.txq hpol).trans htxq, (rampEnd_sameVoice q).ctxOn.trans hon,
    by rwa [horient]⟩

theorem rampDone_offers (h : rampComplete s p = true) (ha : Acts s p) (hatt : s.ports[p].attached = true)
    (hsrc : s.ports[p].isSource = true) (hcon : s.ports[p].pol.contract = none) (hhr : s.ports[p].pol.hr = .none)
    (hq : Port.quiet 0 s.ports[p]) (he : F.PD_PHYCFG.EPR.on s.ports[p].pd.phycfg = false)
    (hnopd : F.PRT_STATE.NOPD.on s.ports[p].core.state = false) :
    MovesPort (.rampDone p) s p fun t => s.ports[p].RampEnded t ∧
      Port.sends 0 (dataMsg s.ports[p] 0 1 ((sprOffers s p).take 7)) .srcCaps t := by
  have hx := exec_rampDone h
  obtain ⟨hcore, hpd, -, hpol, hctx, -, -⟩ := rampEnd_keeps s.ports[p]
  obtain ⟨-, -, -, hnext, hswap, -⟩ := id hq
  have hend := modPort_port p rampEnd s
  have hport := modPort_port p (fun q => slot6Threshold (rampEnd q)) s
  have hpol' : polRampDone p (modPort p rampEnd s) =
      sendCaps p false (modPort p (fun q => slot6Threshold (rampEnd q)) s) := by
    rw [polRampDone_source, modPort_modPort] <;> rw [hend]
    · simpa only [Port.attached, st_of_core hcore] using hatt
    · simpa only [Port.isSource, hpd] using hsrc
    · rwa [hpol]
    · rwa [hpol]
    · rwa [hpol]
    · rwa [hpol]
    · rwa [hcore]
  have he' : F.PD_PHYCFG.EPR.on (slot6Threshold (rampEnd s.ports[p])).pd.phycfg = false :=
    (congrArg (fun d : PdRegs => F.PD_PHYCFG.EPR.on d.phycfg) hpd).trans he
  rw [atPolicy_modPort_acts hpol ha, hpol', sendCaps_spr (by rwa [hport])
    (by rw [hport]; exact rampEnd_clear (clear_of_quiet hq)), modPort_modPort,
    sprOffers_modPort (f := fun q => slot6Threshold (rampEnd q)) (rampEnd_offersAs _)] at hx
  refine movesPort_of_modPort hx ⟨rampEnded_congr rfl rfl rfl (rampEnd_ended _), ?_⟩
  rw [← (rampEnd_sameVoice s.ports[p]).dataMsg]
  exact sent_sends _ _

/-! ## The sink of a falling ramp (05 R133) -/

/-- The sink helps a falling ramp. -/
def helpFall (q : Port) : Port := { sinkOn q with hw.rampDis := true }

theorem exec_fallingRampDischarge (h : s.ports[p].ramping = true ∧
    s.ports[p].target < F.PTH_REF.REF.get s.ports[p].pth.ref ∧ F.PTH_STAT.DIS_ON.on s.ports[p].pth.stat = false) :
    exec (.fallingRampDischarge p true) s = .next (modPort p helpFall s) := by
  obtain ⟨hr, hf, hd⟩ := h
  refine congrArg Host.Outcome.next ((if_pos rfl).trans (if_pos ?_))
  simp [hr, hf, hd, -Fin.getElem_fin]

theorem fallingRampDischarge_none (h : ¬(s.ports[p].ramping = true ∧
    s.ports[p].target < F.PTH_REF.REF.get s.ports[p].pth.ref ∧ F.PTH_STAT.DIS_ON.on s.ports[p].pth.stat = false)) :
    exec (.fallingRampDischarge p true) s = .next s := by
  refine congrArg Host.Outcome.next ((if_pos rfl).trans (if_neg ?_))
  simpa [-Fin.getElem_fin, and_assoc] using h

/-- A command without an effect moves the port to itself. -/
theorem movesPort_same {i : Instr} {R : Port → Prop} (h : exec i s = .next s) (hR : R s.ports[p]) :
    MovesPort i s p R := ⟨s, h, rfl, fun _ _ => rfl, hR⟩

theorem fallingRampDischarge_helps : MovesPort (.fallingRampDischarge p true) s p fun t =>
    s.ports[p].RampKeeps t ∧ t.pol = s.ports[p].pol ∧
      if s.ports[p].ramping = true ∧ s.ports[p].target < F.PTH_REF.REF.get s.ports[p].pth.ref ∧
          F.PTH_STAT.DIS_ON.on s.ports[p].pth.stat = false then
        F.PTH_STAT.DIS_ON.on t.pth.stat = true ∧ F.PTH_CTL.DIS_EN.on t.pth.ctl = true ∧ t.hw.rampDis = true
      else t = s.ports[p] := by
  split
  · next h =>
    exact movesPort_of_modPort (exec_fallingRampDischarge h) ⟨⟨rfl, rfl, rfl, rfl⟩, rfl,
      on_set _ (by decide) (by decide) _, on_set _ (by decide) (by decide) _, rfl⟩
  · next h => exact movesPort_same (fallingRampDischarge_none h) ⟨⟨rfl, rfl, rfl, rfl⟩, rfl, rfl⟩

theorem fallingRampDischarge_ends : MovesPort (.fallingRampDischarge p false) s p fun t =>
    s.ports[p].RampKeeps t ∧ t.pol = s.ports[p].pol ∧
      if s.ports[p].hw.rampDis = true then
        F.PTH_STAT.DIS_ON.on t.pth.stat = false ∧ F.PTH_CTL.DIS_EN.on t.pth.ctl = false ∧ t.hw.rampDis = false
      else t = s.ports[p] := by
  have hform : exec (.fallingRampDischarge p false) s =
      .next (if s.ports[p].hw.rampDis = true then modPort p sinkOff s else s) := rfl
  split
  · next h =>
    exact movesPort_of_modPort (hform.trans (congrArg _ (if_pos h)))
      ⟨⟨rfl, rfl, rfl, rfl⟩, rfl, on_clr _ _, on_clr _ _, rfl⟩
  · next h => exact movesPort_same (hform.trans (congrArg _ (if_neg h))) ⟨⟨rfl, rfl, rfl, rfl⟩, rfl, rfl⟩

/-! ## The FBS trim (05 R128) -/

/-- The trim acts: enabled, at the target, out of ride-through, with the port's ADC. -/
abbrev TrimWorks (s : State) (p : PortId) : Prop :=
  F.PTH_CTL.TRIM_EN.on s.ports[p].pth.ctl = true ∧ s.ports[p].atTarget = true ∧ s.ports[p].hw.ride = none ∧
    adcFailed s p = false

theorem trimWorks_iff : (F.PTH_CTL.TRIM_EN.on s.ports[p].pth.ctl && s.ports[p].atTarget && s.ports[p].hw.ride.isNone &&
    !adcFailed s p) = true ↔ TrimWorks s p := by
  simp only [Bool.and_eq_true, Option.isNone_iff_eq_none, Bool.not_eq_true', and_assoc]

theorem fbsTrimStep_none (h : ¬TrimWorks s p) (v : Nat) : exec (.fbsTrimStep p v) s = .next s :=
  congrArg Host.Outcome.next (if_neg (mt trimWorks_iff.mp h))

theorem trimStep_eq (n : Int) (target v : Nat) : trimStep n target v =
    if target + 20 < v then min 64 (n + 1) else if v + 20 < target then max (-64) (n - 1) else n := rfl

theorem fbsTrimStep_steps (h : TrimWorks s p) (v : Nat) : MovesPort (.fbsTrimStep p v) s p fun t =>
    s.ports[p].RampKeeps t ∧ t.pol = s.ports[p].pol ∧ t.pth.stat = s.ports[p].pth.stat ∧
      t.hw.trim = (if 20 * s.ports[p].target + 20 < v then min 64 (s.ports[p].hw.trim + 1)
        else if v + 20 < 20 * s.ports[p].target then max (-64) (s.ports[p].hw.trim - 1) else s.ports[p].hw.trim) ∧
      F.PTH_FBS.CODE.getInt t.pth.fbs = min 4095 (max (-4096)
        (F.PTH_FBS.CODE.getInt s.ports[p].pth.fbs + (t.hw.trim - s.ports[p].hw.trim))) := by
  exact movesPort_of_modPort (congrArg Host.Outcome.next (if_pos (trimWorks_iff.mpr h)))
    ⟨⟨rfl, rfl, rfl, rfl⟩, rfl, rfl, trimStep_eq _ _ _,
      (getInt_putInt_clampCode _ 0).trans (clampCode_eq _)⟩

end

/-- Settles O47, command by command: each writes its registers, or is discarded, or has no effect. -/
theorem rampsFollowTarget : Obligations.RampsFollowTarget := by
  intro p s q writes drives complete fbsAt rest ended
  have hcomplete : complete ↔ rampComplete s p = true := rampComplete_iff.symm
  refine ⟨fun hw n => ?_, fun hd => ?_, fun hon => gateRampStart_none (.inr hon), fun hd hoff => ?_, fun n hw hc => ?_,
    fun n hw hc => ?_, fun hd => ?_, fun hc => rampDone_none (mt hcomplete.mpr hc),
    fun hc hn => rampDone_waits (hcomplete.mp hc) hn, fun hc ha hsink => rampDone_sink (hcomplete.mp hc) ha hsink,
    fun hc ha hatt hsrc hcon hhr hq he hnopd => rampDone_offers (hcomplete.mp hc) ha hatt hsrc hcon hhr hq he hnopd,
    fallingRampDischarge_helps, fallingRampDischarge_ends,
    fun v => ⟨fun h => fbsTrimStep_none h v, fun h => fbsTrimStep_steps h v⟩⟩
  · exact targetWrite_discarded (Bool.not_eq_true _ ▸ hw) n
  · rw [Bool.not_eq_true] at hd
    exact ⟨gateRampStart_none (.inl hd), cenEnWrite_discarded hd⟩
  · exact movesPort_of_modPort (exec_gateRampStart hd hoff) (startGateRamp_starts s.time q)
  · exact targetWrite_refuses (exec_targetWrite_refused hw hc)
  · obtain ⟨hrest, hpol, htarget, hevt⟩ := acceptTarget_keeps s.time (n % 4096) q
    rw [Nat.mod_mod] at htarget
    refine movesPort_of_modPort (exec_targetWrite_accepted hw hc) ⟨hrest, hpol, htarget,
      acceptTarget_gateOn _ _ q, hevt, fun hr ha => ?_, fun hmoves => ?_⟩
    · rw [acceptTarget_still _ _ hr ha]
      exact ⟨rfl, rfl⟩
    · rw [acceptTarget_moving _ _ hmoves]
      obtain ⟨hat, hramp, hstart, href, hfbs, hlin, -⟩ := rampTo_ramps s.time (n % 4096) q
      exact ⟨hat, hramp, hstart, href, hfbs, hlin⟩
  · refine ⟨movesPort_of_modPort (exec_cenEnWrite hd true) ⟨⟨rfl, rfl, rfl, rfl⟩, rfl, rfl,
        on_set _ (by decide) (by decide) _, fun hoff => ?_⟩,
      movesPort_of_modPort (exec_cenEnWrite hd false) ⟨⟨rfl, rfl, rfl, rfl⟩, rfl, rfl, on_clr _ _, rfl⟩⟩
    exact if_neg (by rw [hoff]; decide)

end Sys2Proof.Machine

/-! SUPPORT. A cause that qualifies on a port (05 R137 to R140, 12 R322): the ride-through that it ends, the trip with
what the front die, the caddy and the engine do, and the flag where no trip follows. -/

namespace Sys2Proof.Machine
open Sys2Proof

/-! ## Causes (05 Table PTH-3) -/

theorem cause_get_put (c : Cause) (w : Word) : F.PTH_STAT.CAUSE.get (F.PTH_STAT.CAUSE.put c.code w) = c.code := by
  rw [get_put _ (by decide)]
  cases c <;> rfl

theorem analogue_iff (c : Cause) : c.analogue = true ↔ c ∈ [Cause.fast, .vbusOv, .cvOv, .rev] := by
  cases c <;> decide

/-- The ports that a cause trips (05 R139, R140). -/
abbrev Port.tripsOn (now : Nat) (c : Cause) (q : Port) : Prop :=
  q.st ≠ .fenced ∧ (c = .pass ∨ (q.st = .bindingOff ∧ q.hw.detAt = some now) ∨
    (q.st ∉ [PortSt.bindingOff, .tripped, .retryWait] ∧
      (q.attached = true ∨ q.gateOn = true ∨ F.PTH_CTL.CEN_EN.on q.pth.ctl = true)))

theorem trips_iff (now : Nat) (c : Cause) (q : Port) : trips now c q = true ↔ q.tripsOn now c := by
  unfold trips Port.pathUp Port.tripsOn
  generalize q.attached = att
  cases q.st <;> simp [or_assoc]

/-! ## The hardware's part of a trip (05 R139) -/

/-- A port that a cause has tripped at a time, with its ceiling taken back. -/
structure Port.Tripped (t : Port) (now : Nat) (c : Cause) (q : Port) : Prop where
  down : t.isDown
  st : t.st = if c.fences then .fenced else .tripped
  flag : t.pth.evt = setBit (c.code - 1) q.pth.evt
  cause : F.PTH_STAT.CAUSE.get t.pth.stat = c.code
  heat : t.hw.heat = 0
  tripAt : t.hw.tripAt = some now
  ceil : F.PTH_CEIL.CEIL.get t.pth.ceil = 50
  lim : F.PTH_RATING.CAD_LIM.get t.pth.rating = 0
  hwState : F.PRT_EVT.HW_STATE.on t.core.evt = true

section
variable {now : Nat} {c : Cause} {q t u : Port}

theorem tripped_of_beyondPd (h : u.beyondPd = t.beyondPd) (ht : t.Tripped now c q) : u.Tripped now c q := by
  obtain ⟨hcore, hpth, hhw, -, -, -⟩ := eq_of_beyondPd h
  obtain ⟨down, st, flag, cause, heat, tripAt, ceil, lim, hwState⟩ := ht
  exact ⟨isDown_of_beyondPd h down, (st_of_core hcore).trans st, by rwa [hpth], by rwa [hpth], by rwa [hhw],
    by rwa [hhw], by rwa [hpth], by rwa [hpth], by rwa [hcore]⟩

/-- The port with its power down and the state of a trip; the detach-hold clock of a fenced port stops (05 R150). -/
def tripDown (c : Cause) (q : Port) : Port :=
  let t := (powerDown q).hwSt (if c.fences then .fenced else .tripped)
  if c.fences then stopAbs t else t

theorem tripPort_eq (now : Nat) (c : Cause) (q : Port) : tripPort now c q = flagCause c { tripDown c q with
    pth.stat := F.PTH_STAT.CAUSE.put c.code (tripDown c q).pth.stat
    hw.heat := 0, hw.tripAt := some now, hw.detAt := none } := rfl

theorem tripDown_keeps (c : Cause) (q : Port) :
    (tripDown c q).core = ((powerDown q).hwSt (if c.fences then .fenced else .tripped)).core ∧
      (tripDown c q).pth.ctl = (powerDown q).pth.ctl ∧ (tripDown c q).pth.stat = (powerDown q).pth.stat ∧
      (tripDown c q).pth.evt = q.pth.evt ∧ (tripDown c q).cc = (powerDown q).cc := by
  have hevt : (powerDown q).pth.evt = q.pth.evt := (congrArg PathRegs.evt (powerDown_pth q)).trans rfl
  unfold tripDown
  rw [hwSt_eq]
  dsimp only
  split <;> exact ⟨rfl, rfl, rfl, hevt, rfl⟩

theorem tripPort_tripped (h : q.st ≠ .fenced) : (ceilDown (tripPort now c q)).Tripped now c q := by
  obtain ⟨hcore, hctl, hstat, hevt, hcc⟩ := tripDown_keeps c q
  have hform := tripPort_eq now c q
  have hst : (powerDown q).st ≠ .fenced := by rwa [st_of_core (powerDown_core q)]
  have tcore : (ceilDown (tripPort now c q)).core =
      ((powerDown q).hwSt (if c.fences then .fenced else .tripped)).core := by
    rw [hform]
    exact hcore
  have tstat : (ceilDown (tripPort now c q)).pth.stat = F.PTH_STAT.CAUSE.put c.code (powerDown q).pth.stat := by
    rw [hform, ← hstat]
    rfl
  have tctl : (ceilDown (tripPort now c q)).pth.ctl = (powerDown q).pth.ctl := by
    rw [hform]
    exact hctl
  have tcc : (ceilDown (tripPort now c q)).cc = (powerDown q).cc := by
    rw [hform]
    exact hcc
  refine ⟨?_, ?_, ?_, ?_, rfl, rfl, ?_, ?_, ?_⟩
  · have hdown := powerDown_isDown q
    simp (disch := decide) only [Port.isDown, Port.vconnOn, tctl, tstat, tcc, on_put_apart] at hdown ⊢
    exact hdown
  · exact (st_of_core tcore).trans (hwSt_st hst _)
  · rw [hform]
    exact congrArg (setBit (c.code - 1)) hevt
  · rw [tstat, cause_get_put]
  · exact get_put F.PTH_CEIL.CEIL (by decide) 50 _
  · exact get_put F.PTH_RATING.CAD_LIM (by decide) 0 _
  · rw [tcore]
    exact hwSt_hwState _ _

/-- The port that a trip leaves, before its contexts are reset: its ceiling and its contract are gone. -/
def tripLeft (queue held : List EvtEntry) (seq now : Nat) (c : Cause) (q : Port) : Port :=
  lostContract queue held seq (ceilDown (tripPort now c q))

theorem tripLeft_tripped (queue held : List EvtEntry) (seq : Nat) (h : q.st ≠ .fenced) :
    (tripLeft queue held seq now c q).Tripped now c q :=
  tripped_of_beyondPd (t := ceilDown (tripPort now c q)) rfl (tripPort_tripped h)

/-! ## Causes of one sample (05 R140) -/

theorem joinTrip_flags (h : ¬(q.st = .tripped ∧ q.hw.tripAt = some now ∧ c.code < F.PTH_STAT.CAUSE.get q.pth.stat)) :
    joinTrip now c q = flagCause c q := by
  refine if_neg ?_
  simp only [Bool.and_eq_true, decide_eq_true_eq, and_assoc]
  exact h

/-- The lower of two causes of one sample stands, and a gate fault fences the port. -/
theorem joinTrip_lower (hst : q.st = .tripped) (hat : q.hw.tripAt = some now)
    (hlow : c.code < F.PTH_STAT.CAUSE.get q.pth.stat) : let t := joinTrip now c q
    t.pth.evt = setBit (c.code - 1) q.pth.evt ∧ F.PTH_STAT.CAUSE.get t.pth.stat = c.code ∧
      t.st = (if c.fences then .fenced else .tripped) ∧ t.pol = q.pol ∧ t.cc = q.cc ∧ t.pd = q.pd ∧
      t.pth.ctl = q.pth.ctl := by
  have hst' : (flagCause c q).st ≠ .fenced := by
    have hsame : (flagCause c q).st = q.st := rfl
    rw [hsame, hst]
    decide
  have hform : joinTrip now c q =
      (let u := if c.fences then stopAbs ((flagCause c q).hwSt .fenced) else flagCause c q
      { u with pth.stat := F.PTH_STAT.CAUSE.put c.code u.pth.stat }) := by
    refine if_pos ?_
    simp only [Bool.and_eq_true, decide_eq_true_eq]
    exact ⟨⟨hst, hat⟩, hlow⟩
  dsimp only at hform ⊢
  rw [hform]
  by_cases hf : c.fences = true
  · simp only [hf, if_true]
    refine ⟨?_, cause_get_put c _, (hwSt_st hst' .fenced), ?_, ?_, ?_, ?_⟩ <;> rw [hwSt_eq] <;> rfl
  · simp only [hf]
    exact ⟨rfl, cause_get_put c _, hst, rfl, rfl, rfl, rfl⟩

theorem safeOff_keeps (q : Port) : (safeOff q).pol = q.pol ∧ (safeOff q).pth.evt = q.pth.evt := by
  unfold safeOff
  dsimp only
  split <;> rw [vconnOpen_eq] <;> exact ⟨rfl, rfl⟩

end

section
variable {p : PortId} {s : State} {c : Cause}

/-! ## What qualifies on a port -/

theorem trip_ride_analogue (hr : s.ports[p].hw.ride ≠ none) (hc : c.analogue = true) :
    trip p c s = modPort p (fun q => flagCause c (safeOff q)) s :=
  (if_pos (Option.isSome_iff_ne_none.mpr hr)).trans (if_pos hc)

theorem trip_ride_other (hr : s.ports[p].hw.ride ≠ none) (hc : ¬c.analogue = true) : trip p c s = s :=
  (if_pos (Option.isSome_iff_ne_none.mpr hr)).trans (if_neg hc)

theorem trip_joins (hr : s.ports[p].hw.ride = none) (ht : ¬s.ports[p].tripsOn s.time c) :
    trip p c s = modPort p (joinTrip s.time c) s :=
  (if_neg (by simp [hr, -Fin.getElem_fin])).trans (if_neg (mt (trips_iff _ _ _).mp ht))

/-- The event of a cause changes the port's event queue alone. -/
theorem tripEvent_eq (p : PortId) (c : Cause) (q : Port) (s : State) : ∃ queue held seq, tripEvent p c q s =
    modPort p (fun q => { q with pol.queue := queue, pol.held := held, pol.seq := seq }) s := by
  unfold tripEvent
  dsimp only
  split <;> exact postPort_eq p _ _ s

/-- A trip changes the port and its ledger entry, and then the engine resets the port's contexts. -/
theorem trip_trips (hr : s.ports[p].hw.ride = none) (ht : s.ports[p].tripsOn s.time c) : ∃ queue held seq,
    trip p c s = resetContexts p (modPort p (tripLeft queue held seq s.time c) (modCad p releasedCad s)) := by
  have hform : trip p c s = resetContexts p (loseContract p (if c.fences then 9 else 0) (if c.fences then 0 else c.code)
      (tripEvent p c s.ports[p] (caddyRelease p (modPort p (tripPort s.time c) s)))) :=
    (if_neg (by simp [hr, -Fin.getElem_fin])).trans (if_pos ((trips_iff _ _ _).mpr ht))
  obtain ⟨queue, held, seq, e⟩ := tripEvent_eq p c s.ports[p] (caddyRelease p (modPort p (tripPort s.time c) s))
  rw [e] at hform
  obtain ⟨queue', held', seq', e'⟩ := loseContract_eq p (if c.fences then 9 else 0) (if c.fences then 0 else c.code)
    (modPort p (fun q => { q with pol.queue := queue, pol.held := held, pol.seq := seq })
      (caddyRelease p (modPort p (tripPort s.time c) s)))
  refine ⟨queue', held', seq', hform.trans (congrArg (resetContexts p) ?_)⟩
  rw [e', caddyRelease_eq]
  simp only [modCad_modPort, modPort_modPort, modCad_modCad]
  rfl

/-! ## The contexts reset (04 R101) -/

/-- The port as the reset of its contexts leaves it. -/
def contextsReset (q : Port) : Port := { detachCtxs q with pol := clearAttachment (detachCtxs q).pol }

/-- The commands that wait on the port are cancelled, then its contexts reset. -/
theorem resetContexts_cancels (p : PortId) (s : State) :
    ∃ u, OnlyPort p s.ports[p] s u ∧ resetContexts p s = modPort p contextsReset u := by
  have hport : OnlyPort p s.ports[p] s (cancelPort p s) := completeAll_onlyPort (fun w hw => by simp_all) _ s
  have hhard : OnlyPort p (cancelPort p s).ports[p] (cancelPort p s) (cancelHard p (cancelPort p s)) :=
    completeAll_onlyPort (fun w hw => by simp_all) _ _
  exact ⟨_, onlyPort_trans hport hhard, rfl⟩

theorem resetContexts_cadp (p : PortId) (s : State) : (resetContexts p s).cadp = s.cadp := by
  obtain ⟨u, ⟨hrest, -, -, -, -⟩, e⟩ := resetContexts_cancels p s
  have hcadp := congrArg State.cadp hrest
  rw [e]
  exact hcadp

theorem resetContexts_port (p : PortId) (s : State) : (resetContexts p s).ports[p].pol.contract = none ∧
    ∀ k : Fin 3, (resetContexts p s).ports[p].ctxOn k = false := by
  obtain ⟨u, -, e⟩ := resetContexts_cancels p s
  rw [e, modPort_port]
  exact ⟨rfl, detachCtxs_ctxOn _⟩

/-! ## A trip (05 R139) -/

/-- What a trip leaves: the port tripped without contract and contexts, its holding released, the others as they were,
and nothing of the host's where no command waits for the port. -/
structure TripDone (p : PortId) (c : Cause) (s t : State) : Prop where
  port : t.ports[p].Tripped s.time c s.ports[p]
  contract : t.ports[p].pol.contract = none
  ctxOn : ∀ k : Fin 3, t.ports[p].ctxOn k = false
  others : ∀ r : PortId, r ≠ p → t.ports[r] = s.ports[r] ∧ t.cadp[r] = s.cadp[r]
  relAmt : t.cadp[p].relAmt = s.cadp[p].hold
  hold : t.cadp[p].hold = s.cadp[p].hold
  rest : noWaits s p → { t with ports := s.ports, cadp := s.cadp } = s

theorem releasedCad_hold (l : CadPort) : (releasedCad l).hold = l.hold := by
  simp (disch := decide) only [CadPort.hold, releasedCad, get_clr_apart]

/-- The reset of the contexts ends a trip. -/
theorem tripDone_resetContexts {u : State} (hport : u.ports[p].Tripped s.time c s.ports[p])
    (hcad : u.cadp[p] = releasedCad s.cadp[p])
    (hothers : ∀ r : PortId, r ≠ p → u.ports[r] = s.ports[r] ∧ u.cadp[r] = s.cadp[r])
    (hrest : { u with ports := s.ports, cadp := s.cadp } = s) : TripDone p c s (resetContexts p u) := by
  have hpd : PdOnly p u (resetContexts p u) := pdOnly_resetContexts
  have hcadp := resetContexts_cadp p u
  obtain ⟨hcontract, hctx⟩ := resetContexts_port p u
  refine ⟨tripped_of_beyondPd hpd.port hport, hcontract, hctx, fun r hne => ⟨?_, ?_⟩, ?_, ?_, fun hw => ?_⟩
  · exact (hpd.others r hne).trans (hothers r hne).1
  · rw [hcadp]
    exact (hothers r hne).2
  · rw [hcadp, hcad]
    rfl
  · rw [hcadp, hcad]
    exact releasedCad_hold _
  · have hhost := congrArg State.host hrest
    dsimp only at hhost
    have hw' : noWaits u p := by rwa [noWaits, hhost]
    rw [resetContexts_eq hw']
    exact hrest

theorem trip_done (hr : s.ports[p].hw.ride = none) (ht : s.ports[p].tripsOn s.time c) :
    TripDone p c s (trip p c s) := by
  obtain ⟨queue, held, seq, e⟩ := trip_trips hr ht
  rw [e]
  refine tripDone_resetContexts ?_ (modCad_cadp p releasedCad s)
    (fun r hne => ⟨modPort_other p _ (modCad p releasedCad s) r hne, modCad_other p releasedCad s r hne⟩) rfl
  rw [modPort_port]
  exact tripLeft_tripped queue held seq ht.1

/-! ## Monitors (05 Table PTH-3) -/

/-- The converter-ready timeout under way, or not. -/
def cvWaits (b : Bool) (q : Port) : Port := { q with hw.cvWait := b }

/-- A monitor's command: its cause qualifies on the port where its condition holds; the timeout of the converter then
runs no more (05 R129). Else an overvoltage of VBUS sets its flag, and the others do nothing (05 R138). -/
structure IsMonitor (p : PortId) (s : State) (i : Instr) (c : Cause) (armed : Bool) : Prop where
  acts : armed = true → ∃ b, exec i s = .next (trip p c (modPort p (cvWaits b) s))
  rests : armed = false → c ≠ .vbusOv → exec i s = .next s
  flags : armed = false → c = .vbusOv → exec i s = .next (modPort p (flagCause .vbusOv) s)

/-- A command of which the cause qualifies under a condition. -/
theorem isMonitor_of_exec {i : Instr} {armed : Bool} (b : Bool) (hc : c ≠ .vbusOv)
    (hx : exec i s = .next (if armed = true then trip p c (modPort p (cvWaits b) s) else s)) :
    IsMonitor p s i c armed :=
  ⟨fun h => ⟨b, hx.trans (congrArg _ (if_pos h))⟩, fun h _ => hx.trans (congrArg _ (if_neg (by rw [h]; decide))),
    fun _ h => absurd h hc⟩

theorem cvWaits_same (p : PortId) (s : State) : modPort p (cvWaits s.ports[p].hw.cvWait) s = s := modPort_eq_self rfl

/-- The monitors of Table PTH-3 with their causes and conditions; in the sample of another cause's trip those of the
conditions that the trip ends still count (05 R140). -/
def monitors (p : PortId) (s : State) : List (Instr × Cause × Bool) :=
  let q := s.ports[p]
  let same : Bool := trippedNow s p
  [(.passShortDetected p, .pass, !q.gateOn), (.gateFaultDetected p, .gate, F.PTH_STAT.LIN.on q.pth.stat || same),
    (.vbusOvDetected p, .vbusOv, q.gateOn), (.cvOvDetected p, .cvOv, true), (.fastTrip p, .fast, true),
    (.reverseCurrentDetected p, .rev, true),
    (.rampTrackFault p, .ramp, (q.ramping && decide (F.PTH_REF.REF.get q.pth.ref < q.target)) || same),
    (.curveTrip p, .curve, decide (1 ≤ q.hw.heat) || same), (.fallbackTrip p, .fallback, adcFailed s p),
    (.cvTmo p, .cvTmo, (q.hw.cvWait && !q.strained 6) || same), (.enhFault p, .enh, q.atTarget || same)]

theorem isMonitor_passShort (p : PortId) (s : State) :
    IsMonitor p s (.passShortDetected p) .pass !s.ports[p].gateOn := by
  refine isMonitor_of_exec s.ports[p].hw.cvWait (by decide) ?_
  have hx : exec (.passShortDetected p) s = .next (if s.ports[p].gateOn = true then s else trip p .pass s) := rfl
  rw [hx, cvWaits_same]
  cases s.ports[p].gateOn <;> rfl

theorem isMonitor_vbusOv (p : PortId) (s : State) : IsMonitor p s (.vbusOvDetected p) .vbusOv s.ports[p].gateOn := by
  have hx : exec (.vbusOvDetected p) s =
      .next (if s.ports[p].gateOn = true then trip p .vbusOv s else modPort p (flagCause .vbusOv) s) := rfl
  refine ⟨fun h => ⟨s.ports[p].hw.cvWait, ?_⟩, fun _ h => absurd rfl h, fun h _ => ?_⟩
  · rw [hx, if_pos h, cvWaits_same]
  · rw [hx, h]
    rfl

/-- A monitor whose command leaves the converter-ready timeout alone. -/
theorem isMonitor_plain {i : Instr} {armed : Bool} (hc : c ≠ .vbusOv)
    (hx : exec i s = .next (if armed = true then trip p c s else s)) : IsMonitor p s i c armed :=
  isMonitor_of_exec s.ports[p].hw.cvWait hc (by rw [hx, cvWaits_same])

theorem monitors_isMonitor {x : Instr × Cause × Bool} (hx : x ∈ monitors p s) : IsMonitor p s x.1 x.2.1 x.2.2 := by
  revert x
  simp only [monitors, List.forall_mem_cons]
  exact ⟨isMonitor_passShort p s, isMonitor_plain (by decide) rfl, isMonitor_vbusOv p s,
    isMonitor_plain (by decide) rfl, isMonitor_plain (by decide) rfl, isMonitor_plain (by decide) rfl,
    isMonitor_plain (by decide) rfl, isMonitor_plain (by decide) rfl, isMonitor_plain (by decide) rfl,
    isMonitor_of_exec false (by decide) rfl, isMonitor_plain (by decide) rfl, fun _ h => absurd h List.not_mem_nil⟩

variable {i : Instr} {armed : Bool}

theorem IsMonitor.trips (h : IsMonitor p s i c armed) (ha : armed = true) (hr : s.ports[p].hw.ride = none)
    (ht : s.ports[p].tripsOn s.time c) : Moves i s fun t => ∃ b, TripDone p c (modPort p (cvWaits b) s) t := by
  obtain ⟨b, hx⟩ := h.acts ha
  refine ⟨_, hx, b, trip_done ?_ ?_⟩ <;> rw [modPort_port]
  · exact hr
  · exact ht

theorem IsMonitor.joins (h : IsMonitor p s i c armed) (ha : armed = true) (hr : s.ports[p].hw.ride = none)
    (ht : ¬s.ports[p].tripsOn s.time c) :
    ∃ b, exec i s = .next (modPort p (fun q => joinTrip s.time c (cvWaits b q)) s) := by
  obtain ⟨b, hx⟩ := h.acts ha
  rw [trip_joins (by rw [modPort_port]; exact hr) (by rw [modPort_port]; exact ht), modPort_modPort] at hx
  exact ⟨b, hx⟩

theorem IsMonitor.rides (h : IsMonitor p s i c armed) (ha : armed = true) (hr : s.ports[p].hw.ride ≠ none) :
    (c.analogue = true → ∃ b, exec i s = .next (modPort p (fun q => flagCause c (safeOff (cvWaits b q))) s)) ∧
      (¬c.analogue = true → ∃ b, exec i s = .next (modPort p (cvWaits b) s)) := by
  obtain ⟨b, hx⟩ := h.acts ha
  have hr' : (modPort p (cvWaits b) s).ports[p].hw.ride ≠ none := by rwa [modPort_port]
  refine ⟨fun hc => ⟨b, ?_⟩, fun hc => ⟨b, ?_⟩⟩
  · rw [hx, trip_ride_analogue hr' hc, modPort_modPort]
  · rw [hx, trip_ride_other hr' hc]

end

/-- Settles O48: each command is a monitor of its cause, and a cause that qualifies ends a ride-through, trips the port,
or joins the sample's other causes. -/
theorem monitorsTripThePath : Obligations.MonitorsTripThePath := by
  intro p s q same x hx i c fences trips flagged tripped
  have hm : IsMonitor p s i c x.2.2 := monitors_isMonitor hx
  have hsame : same = true ↔ q.st = .tripped ∧ q.hw.tripAt = some s.time := by
    simp only [same, trippedNow, Bool.and_eq_true, beq_iff_eq, q]
  refine ⟨fun ha hr => ⟨fun ht => ?_, fun ht hjoin => ?_, fun ht hs hlow => ?_⟩,
    fun ha hr => ⟨fun hc => ?_, fun hc => ?_⟩, hm.rests, hm.flags⟩
  · obtain ⟨t, hexec, b, hdone⟩ := hm.trips ha hr ht
    obtain ⟨hport, hcontract, hctx, hothers, hrel, hhold, hrest⟩ := hdone
    rw [modPort_port] at hport
    obtain ⟨down, st, flag, cause, heat, tripAt, ceil, lim, hwState⟩ := hport
    refine ⟨t, hexec, ⟨down, st, flag, cause, heat, tripAt, hcontract, ceil, lim, hwState, hctx⟩, fun r hne => ?_, hrel,
      hhold, fun hw => ?_⟩
    · rw [← modPort_other p (cvWaits b) s r hne]
      exact hothers r hne
    · exact congrArg (fun v : State => { v with ports := s.ports }) (hrest hw)
  · obtain ⟨b, hexec⟩ := hm.joins ha hr ht
    have hflags : joinTrip s.time c (cvWaits b q) = flagCause c (cvWaits b q) := by
      refine joinTrip_flags ?_
      rintro ⟨hst, hat, hlow⟩
      exact absurd hlow (Nat.not_lt.mpr (hjoin (hsame.mpr ⟨hst, hat⟩)))
    refine movesPort_of_modPort hexec ?_
    rw [hflags]
    exact ⟨rfl, rfl⟩
  · obtain ⟨b, hexec⟩ := hm.joins ha hr ht
    obtain ⟨hst, hat⟩ := hsame.mp hs
    exact movesPort_of_modPort hexec (joinTrip_lower (q := cvWaits b q) hst hat hlow)
  · obtain ⟨b, hexec⟩ := (hm.rides ha hr).1 ((analogue_iff c).mpr hc)
    obtain ⟨hride, hgate, hcen, hvconn, hcore⟩ := safeOff_safe (cvWaits b q)
    obtain ⟨hpol, hevt⟩ := safeOff_keeps (cvWaits b q)
    exact movesPort_of_modPort hexec ⟨hride, hgate, hcen, hvconn, congrArg (setBit (c.code - 1)) hevt, st_of_core hcore,
      hpol⟩
  · obtain ⟨b, hexec⟩ := (hm.rides ha hr).2 (mt (analogue_iff c).mp hc)
    exact movesPort_of_modPort hexec rfl

end Sys2Proof.Machine

/-! SUPPORT. The breaker integrator at the sample that brings its heat to 1 (05 R141, Table PTH-3): the sample heats the
port, and the CURVE cause then trips it. -/

namespace Sys2Proof.Machine
open Sys2Proof

/-- The heat of a port after an IBUS sample. -/
def heated (ma : Nat) (q : Port) : Port := { q with hw.heat := heatStep q ma }

theorem curveIntegratorSample_trips {p : PortId} {s : State} {i : Nat}
    (hlin : F.PTH_STAT.LIN.on s.ports[p].pth.stat = false) (hadc : adcFailed s p = false)
    (hride : s.ports[p].hw.ride = none) (hheat : 1 ≤ heatStep s.ports[p] i) :
    exec (.curveIntegratorSample p i) s = .next (trip p .curve (modPort p (heated i) s)) := by
  have hruns : ¬(F.PTH_STAT.LIN.on s.ports[p].pth.stat || adcFailed s p || s.ports[p].hw.ride.isSome) = true := by
    simp [hlin, hadc, hride, -Fin.getElem_fin]
  refine congrArg Host.Outcome.next ((if_neg hruns).trans (if_pos ?_))
  have hport := modPort_port p (heated i) s
  exact hport ▸ hheat

/-- Port 0 in CONTRACTED with the reset curve, one sample of 24 A before the heat of 1. -/
def nearTrip : State := modPort 0 (fun q => { q.setSt .contracted with hw.heat := 24 / 25 }) State.reset

theorem nearTrip_port : nearTrip.ports[(0 : PortId)] = { Port.reset.setSt .contracted with hw.heat := 24 / 25 } := by
  decide +kernel

/-- A sample of 24 A, 8 times the rating, heats it to 1. -/
theorem nearTrip_heat : 1 ≤ heatStep nearTrip.ports[(0 : PortId)] 24000 := by
  rw [nearTrip_port]
  decide +kernel

/-- That sample leaves the port in TRIPPED. -/
theorem nearTrip_trips : ∃ t, exec (.curveIntegratorSample 0 24000) nearTrip = .next t ∧
    t.ports[(0 : PortId)].st = .tripped := by
  have hport := modPort_port 0 (heated 24000) nearTrip
  refine ⟨_, curveIntegratorSample_trips (by decide +kernel) (by decide +kernel) (by decide +kernel) nearTrip_heat,
    (trip_done ?_ ?_).port.st⟩ <;> rw [hport, nearTrip_port]
  · rfl
  · decide +kernel

/-- Refutes O49: the statement says of every sample at or above the curve's last point that the port differs in its
heat alone, but the sample that brings the heat to 1 trips the port (05 R141, Table PTH-3). So it is with `nearTrip`, a
port in CONTRACTED at a heat of 24/25: a sample of 24 A, 8 times its rating, adds 16/200 and leaves it in TRIPPED. -/
theorem not_curveDischargeAndRetries : ¬ Obligations.CurveDischargeAndRetries := by
  intro h
  obtain ⟨hcurve, -⟩ := h 0 nearTrip
  obtain ⟨-, hruns⟩ := hcurve 24000
  obtain ⟨-, hheats⟩ := hruns (by decide +kernel) (by decide +kernel) (by decide +kernel)
  obtain ⟨t, hx, -, -, hport⟩ := hheats (512, 200) resetCurve.dropLast (by rw [nearTrip_port]; rfl) (by decide)
    (by decide +kernel)
  obtain ⟨u, hu, hst⟩ := nearTrip_trips
  have htu : t = u := Host.Outcome.next.inj (hx.symm.trans hu)
  have hsame : u.ports[(0 : PortId)].st = nearTrip.ports[(0 : PortId)].st := by rw [← htu, hport]; rfl
  have hcontracted : nearTrip.ports[(0 : PortId)].st = .contracted := by decide +kernel
  rw [hst, hcontracted] at hsame
  exact absurd hsame (by decide)

end Sys2Proof.Machine

/-! SUPPORT. The resolution of a row's requests against its headroom (06 R171): what one request takes, and what the row
takes in all. -/

namespace Sys2Proof.Machine
open Sys2Proof

/-- What a resolved request is given beyond the holding of its snapshot. -/
def grownBy (x : RowReq × RowOutcome) : Nat := match x.2 with
  | .grant => x.1.units - x.1.hold
  | .partialGrant n => n
  | .deny => 0

section
variable {high blocked : Bool} {q : RowReq} {h : Nat} (l : List RowReq)

/-! ## The first request of a row -/

theorem resolve_covered (hq : q.units ≤ q.hold) :
    resolve high (q :: l) h blocked = (q, .grant) :: resolve high l h blocked := if_pos hq

theorem resolve_blocked (hq : q.hold < q.units) (hb : (high || blocked) = true) :
    resolve high (q :: l) h blocked = (q, .deny) :: resolve high l h blocked :=
  (if_neg (Nat.not_le.mpr hq)).trans (if_pos hb)

theorem resolve_granted (hq : q.hold < q.units) (hb : (high || blocked) = false) (hh : q.units - q.hold ≤ h) :
    resolve high (q :: l) h blocked = (q, .grant) :: resolve high l (h - (q.units - q.hold)) blocked :=
  (if_neg (Nat.not_le.mpr hq)).trans ((if_neg (by rw [hb]; decide)).trans (if_pos hh))

theorem resolve_partial (hq : q.hold < q.units) (hb : (high || blocked) = false) (hh : h < q.units - q.hold)
    (hp : q.pmin ≤ h) : resolve high (q :: l) h blocked = (q, .partialGrant h) :: resolve high l 0 true :=
  (if_neg (Nat.not_le.mpr hq)).trans
    ((if_neg (by rw [hb]; decide)).trans ((if_neg (Nat.not_le.mpr hh)).trans (if_pos hp)))

theorem resolve_denied (hq : q.hold < q.units) (hb : (high || blocked) = false) (hh : h < q.units - q.hold)
    (hp : h < q.pmin) : resolve high (q :: l) h blocked = (q, .deny) :: resolve high l h true :=
  (if_neg (Nat.not_le.mpr hq)).trans
    ((if_neg (by rw [hb]; decide)).trans ((if_neg (Nat.not_le.mpr hh)).trans (if_neg (Nat.not_le.mpr hp))))

variable (high blocked q h)

/-- The first request takes what it is given from the headroom that the others see, and nothing while an upper limit or
an earlier denial blocks; in part it is given at least its minimum and less than it lacks. -/
theorem resolve_cons : ∃ o h' blocked', resolve high (q :: l) h blocked = (q, o) :: resolve high l h' blocked' ∧
    grownBy (q, o) + h' ≤ h ∧
    (high = true ∨ blocked = true → grownBy (q, o) = 0 ∧ (high = true ∨ blocked' = true)) ∧
    ∀ n, o = .partialGrant n → q.pmin ≤ n ∧ n < q.units - q.hold := by
  by_cases hq : q.units ≤ q.hold
  · have hzero : grownBy (q, .grant) = 0 := Nat.sub_eq_zero_of_le hq
    exact ⟨_, _, _, resolve_covered l hq, by omega, fun hb => ⟨hzero, hb⟩, by simp⟩
  rw [Nat.not_le] at hq
  cases hb : high || blocked
  case true => exact ⟨_, _, _, resolve_blocked l hq hb, by simp [grownBy], fun hb => ⟨rfl, hb⟩, by simp⟩
  have hopen : ¬(high = true ∨ blocked = true) := by simpa using hb
  by_cases hh : q.units - q.hold ≤ h
  · exact ⟨_, _, _, resolve_granted l hq hb hh, by simp only [grownBy]; omega, fun hb => absurd hb hopen, by simp⟩
  rw [Nat.not_le] at hh
  by_cases hp : q.pmin ≤ h
  · exact ⟨_, _, _, resolve_partial l hq hb hh hp, by simp [grownBy], fun hb => absurd hb hopen, by
      rintro n ⟨rfl⟩; exact ⟨hp, hh⟩⟩
  · exact ⟨_, _, _, resolve_denied l hq hb hh (Nat.not_le.mp hp), by simp [grownBy], fun hb => absurd hb hopen, by simp⟩

/-! ## A whole row -/

/-- The row gives no more than its headroom, and nothing while it is blocked. -/
theorem resolve_grownBy : ((resolve high l h blocked).map grownBy).sum ≤ h ∧
    (high = true ∨ blocked = true → ((resolve high l h blocked).map grownBy).sum = 0) := by
  induction l generalizing h blocked with
  | nil => simp [resolve]
  | cons q l ih =>
    obtain ⟨o, h', blocked', e, htakes, hblocks, -⟩ := resolve_cons high blocked q h l
    obtain ⟨hsum, hnone⟩ := ih blocked' h'
    rw [e, List.map_cons, List.sum_cons]
    refine ⟨by omega, fun hb => ?_⟩
    obtain ⟨hzero, hb'⟩ := hblocks hb
    rw [hzero, hnone hb']

/-- Every request is resolved, in its order. -/
theorem resolve_fst : (resolve high l h blocked).map Prod.fst = l := by
  induction l generalizing h blocked with
  | nil => rfl
  | cons q l ih =>
    obtain ⟨o, h', blocked', e, -⟩ := resolve_cons high blocked q h l
    rw [e, List.map_cons, ih]

theorem partialGrant_bounds {x : RowReq × RowOutcome} (hx : x ∈ resolve high l h blocked) {n : Nat}
    (hn : x.2 = .partialGrant n) : x.1.pmin ≤ n ∧ n < x.1.units - x.1.hold := by
  induction l generalizing h blocked with
  | nil => cases hx
  | cons q l ih =>
    obtain ⟨o, h', blocked', e, -, -, hpart⟩ := resolve_cons high blocked q h l
    rw [e] at hx
    rcases List.mem_cons.mp hx with rfl | hx
    · exact hpart n hn
    · exact ih blocked' h' hx

end

/-- Settles O45, by induction on the row's requests: each takes from the headroom what it is given, and a partial grant or
a denial blocks those after it. -/
theorem rowGrantsStayInHeadroom : Obligations.RowGrantsStayInHeadroom := by
  unfold Obligations.RowGrantsStayInHeadroom
  intro grown high blocked l h
  obtain ⟨hsum, hnone⟩ := resolve_grownBy high blocked h l
  exact ⟨hsum, hnone, resolve_fst high blocked h l, fun x hx n hn => partialGrant_bounds high blocked h l hx hn⟩

end Sys2Proof.Machine

/-! SUPPORT. The deadline of a shed cycle (06 R181 to R183): the one victim that has not settled is limited to its target
or bound off. -/

namespace Sys2Proof.Machine
open Sys2Proof

/-! ## The one port of a kind -/

theorem filterMap_of_only {α β : Type} {f : α → Option β} {p : α} {x : β} (hp : f p = some x)
    (hothers : ∀ r, r ≠ p → f r = none) {l : List α} (hl : l.Nodup) (hmem : p ∈ l) : l.filterMap f = [x] := by
  induction l with
  | nil => cases hmem
  | cons a l ih =>
    obtain ⟨hnot, hl⟩ := List.nodup_cons.mp hl
    by_cases ha : a = p
    · subst ha
      have hrest : l.filterMap f = [] :=
        List.filterMap_eq_nil_iff.mpr fun r hr => hothers r (ne_of_mem_of_not_mem hr hnot)
      rw [List.filterMap_cons_some hp, hrest]
    · rw [List.filterMap_cons_none (hothers a ha), ih hl (List.mem_of_ne_of_mem (Ne.symm ha) hmem)]

theorem allPorts_filterMap_of_only {α : Type} {f : PortId → Option α} {p : PortId} {x : α} (hp : f p = some x)
    (hothers : ∀ r, r ≠ p → f r = none) : allPorts.filterMap f = [x] :=
  filterMap_of_only hp hothers (List.nodup_finRange 96) (List.mem_finRange p)

theorem allPorts_filter_of_only {f : PortId → Bool} {p : PortId} (hp : f p = true)
    (hothers : ∀ r, r ≠ p → f r = false) : allPorts.filter f = [p] := by
  rw [← List.filterMap_eq_filter]
  exact allPorts_filterMap_of_only (if_pos hp) fun r hr => if_neg (by simp [hothers r hr])

theorem allPorts_filter_of_none {f : PortId → Bool} (h : ∀ p, f p = false) : allPorts.filter f = [] :=
  List.filter_eq_nil_iff.mpr fun p _ => by simp [h p]

/-! ## The caddy's event -/

/-- The caddy's event reaches the host side, or waits for RUN. -/
theorem postCaddy_eq (s : State) : ∃ h b, postCaddy s = { s with host := h, boot := b } := postCp_eq 1154 _ s

theorem postCaddy_ite_eq (c : Prop) [Decidable c] (s : State) :
    ∃ h b, (if c then postCaddy s else s) = { s with host := h, boot := b } := by
  split
  · exact postCaddy_eq s
  · exact ⟨_, _, rfl⟩

/-- A command that ends with the caddy's event. -/
theorem moves_of_postCaddy {i : Instr} {s u : State} {P : State → Prop} (hx : exec i s = .next (postCaddy u))
    (hP : ∀ h b, P { u with host := h, boot := b }) : Moves i s P := by
  obtain ⟨h, b, e⟩ := postCaddy_eq u
  exact ⟨_, hx.trans (congrArg _ e), hP h b⟩

/-! ## A bind-off (05 R151) -/

section
variable {p : PortId} {s : State}

/-- A bind-off changes the port and its ledger entry, then resets the port's contexts. -/
theorem bindOff_eq (p : PortId) (cause lost : Nat) (s : State) : ∃ queue held seq f, bindOff p cause lost s =
    modPol p f (resetContexts p (modPort p (boundOff queue held seq)
      (modCad p (fun c => { c with contract := none }) s))) := by
  obtain ⟨queue, held, seq, e⟩ := loseContract_eq p lost 0 (modPort p (fun q => (powerDown q).setSt .bindingOff) s)
  have hbound : loseContract p lost 0 (modPort p (fun q => (powerDown q).setSt .bindingOff) s) =
      modPort p (boundOff queue held seq) (modCad p (fun c => { c with contract := none }) s) := by
    rw [e, modCad_modPort, modPort_modPort]
    rfl
  obtain ⟨f, hform⟩ : ∃ f, bindOff p cause lost s = modPol p f (resetContexts p
    (loseContract p lost 0 (modPort p (fun q => (powerDown q).setSt .bindingOff) s))) := by
    unfold bindOff
    exact ⟨_, rfl⟩
  exact ⟨queue, held, seq, f, hform.trans (by rw [hbound])⟩

/-- What a bind-off leaves of the ports and the caddy. -/
structure BoundOff (p : PortId) (s t : State) : Prop where
  down : t.ports[p].isDown
  st : t.ports[p].st = .bindingOff
  ledger : t.cadp[p] = { s.cadp[p] with contract := none }
  cad : t.cad = s.cad
  others : ∀ r : PortId, r ≠ p → t.cadp[r] = s.cadp[r] ∧ t.ports[r] = s.ports[r]

theorem resetContexts_cad (p : PortId) (s : State) : (resetContexts p s).cad = s.cad := by
  obtain ⟨u, ⟨hrest, -, -, -, -⟩, e⟩ := resetContexts_cancels p s
  have hcad := congrArg State.cad hrest
  rw [e]
  exact hcad

theorem bindOff_boundOff (cause lost : Nat) (hst : s.ports[p].st ≠ .fenced) :
    BoundOff p s (bindOff p cause lost s) := by
  obtain ⟨queue, held, seq, f, e⟩ := bindOff_eq p cause lost s
  rw [e]
  generalize hu : modPort p (boundOff queue held seq) (modCad p (fun c => { c with contract := none }) s) = u
  have hport : u.ports[p] = boundOff queue held seq s.ports[p] := by rw [← hu]; exact modPort_port p _ _
  have hcadp : u.cadp = (modCad p (fun c => { c with contract := none }) s).cadp := by rw [← hu]; rfl
  have hreset : PdOnly p u (modPol p f (resetContexts p u)) := pdOnly_resetContexts.trans (pdOnly_modPol f)
  have hbeyond := hreset.port
  rw [hport] at hbeyond
  have hledger : (modPol p f (resetContexts p u)).cadp = (modCad p (fun c => { c with contract := none }) s).cadp :=
    (resetContexts_cadp p u).trans hcadp
  refine ⟨isDown_of_beyondPd hbeyond (boundOff_isDown queue held seq _),
    (st_of_core (eq_of_beyondPd hbeyond).1).trans (boundOff_st queue held seq hst), ?_, ?_, fun r hr => ⟨?_, ?_⟩⟩
  · rw [hledger]
    exact modCad_cadp p _ s
  · refine (resetContexts_cad p u).trans ?_
    rw [← hu]
    rfl
  · rw [hledger]
    exact modCad_other p _ s r hr
  · rw [hreset.others r hr, ← hu]
    exact modPort_other p _ _ r hr

theorem attached_not_fenced {q : Port} (h : q.attached = true) : q.st ≠ .fenced := by
  intro hf
  simp [Port.attached, hf] at h

/-- The caddy binds off one attached port (06 R183). -/
theorem bindOffs_boundOff (h : s.ports[p].attached = true) :
    BoundOff p (cadEvt F.CAD_EVT.BINDOFF s) (bindOffs [p] s) := by
  have hform : bindOffs [p] s = bindOff p 4 1 (cadEvt F.CAD_EVT.BINDOFF s) := if_pos h
  rw [hform]
  exact bindOff_boundOff 4 1 (attached_not_fenced h)

/-! ## One victim at its deadline -/

theorem victimLim_of_contract {v w : Nat} (h : s.cadp[p].contract = some (v, w)) (hv : 0 < v) :
    victimLim s p = coverAt s v s.cadp[p].target * 10 / v := by
  have hvolt : victimVolt s p = v := by rw [victimVolt, h]
  rw [victimLim, hvolt, Nat.max_eq_right hv]

/-- The ledger entry of a victim that is limited: it is counted at its target. -/
def limitedAt (c : CadPort) : CadPort :=
  let d := c.setHold (min c.hold c.target)
  { d with regs.phold := F.CAD_PHOLD.LIMITED.set d.regs.phold }

theorem limitedAt_hold (c : CadPort) : (limitedAt c).hold = min c.hold c.target := by
  have hlt : c.hold < 65536 := get_lt F.CAD_PHOLD.HOLD _
  have hset : (limitedAt c).hold = (c.setHold (min c.hold c.target)).hold := get_set_apart _ _ (by decide) _
  rw [hset, hold_setHold]
  omega

theorem victimDeadline_limits (h : max 1 (F.CAD_SHED.LIMMIN.get s.cad.act.shed) ≤ victimLim s p) :
    let t := victimDeadline p s
    t.ports[p] = setCadLim (min 1023 (victimLim s p)) s.ports[p] ∧ t.cadp[p] = limitedAt s.cadp[p] ∧
      ∀ r : PortId, r ≠ p → t.cadp[r] = s.cadp[r] ∧ t.ports[r] = s.ports[r] := by
  have hform : victimDeadline p s =
    syncCommit (modCad p limitedAt (modPort p (setCadLim (min 1023 (victimLim s p))) s)) := if_pos h
  dsimp only
  rw [hform]
  exact ⟨modPort_port p _ s, modCad_cadp p limitedAt _,
    fun r hr => ⟨modCad_other p limitedAt _ r hr, modPort_other p _ s r hr⟩⟩

/-- The ledger entry of a victim that is to be bound off. -/
def plannedOff (c : CadPort) : CadPort :=
  { c with planned := true, regs.phold := F.CAD_PHOLD.SHED.clr c.regs.phold }

theorem victimDeadline_bindsOff (h : victimLim s p < max 1 (F.CAD_SHED.LIMMIN.get s.cad.act.shed)) :
    victimDeadline p s = bindOffs [p] (modCad p plannedOff s) := if_neg (Nat.not_le.mpr h)

/-! ## SHED_DEADLINE -/

theorem shedDeadline_noVictim (h : ∀ p : PortId, unsettled s.cadp[p] = false) : exec .shedDeadline s = .next s := by
  have hx : exec .shedDeadline s = execShedDeadline s := rfl
  rw [hx, execShedDeadline, allPorts_filter_of_none h]
  rfl

theorem shedDeadline_rests
    (h : F.CAD_STAT.PAUSED.on s.cad.regs.stat = true ∨ F.CAD_STAT.SHEDDING.on s.cad.regs.stat = false) :
    exec .shedDeadline s = .next s := by
  refine congrArg Host.Outcome.next ?_
  split
  · rfl
  · refine if_pos ?_
    rcases h with h | h <;> simp [h]

/-- The one unsettled victim's deadline is the earliest. -/
theorem shedDeadline_one (hrun : F.CAD_STAT.PAUSED.on s.cad.regs.stat = false)
    (hshed : F.CAD_STAT.SHEDDING.on s.cad.regs.stat = true) (hp : unsettled s.cadp[p] = true)
    (hothers : ∀ r : PortId, r ≠ p → unsettled s.cadp[r] = false) :
    exec .shedDeadline s = .next (postCaddy (victimDeadline p s)) := by
  have hx : exec .shedDeadline s = execShedDeadline s := rfl
  rw [hx, execShedDeadline, allPorts_filter_of_only (f := fun r => unsettled s.cadp[r]) hp hothers]
  simp [hrun, hshed, forPorts]

end

/-- Settles O46: with one unsettled victim the deadline is that victim's, and its limit decides whether it is limited or
bound off. -/
theorem shedDeadlineLimitsVictims : Obligations.ShedDeadlineLimitsVictims := by
  intro s
  refine ⟨shedDeadline_noVictim, shedDeadline_rests, ?_⟩
  intro p v w hrun hshed hp hothers hcon hv lim least
  have hx := shedDeadline_one hrun hshed hp hothers
  have hlim : victimLim s p = lim := victimLim_of_contract hcon hv
  refine ⟨fun hle => ?_, fun hlt hatt => ?_⟩
  · obtain ⟨hport, hledger, hrest⟩ := victimDeadline_limits (p := p) (s := s) (hlim.symm ▸ hle)
    rw [hlim] at hport
    refine moves_of_postCaddy hx fun h b => ?_
    dsimp only
    rw [hport, hledger]
    refine ⟨?_, rfl, limitedAt_hold _, on_set _ (by decide) (by decide) _, hrest⟩
    exact (get_put F.PTH_RATING.CAD_LIM (by decide) _ _).trans
      (Nat.mod_eq_of_lt (Nat.lt_succ_of_le (Nat.min_le_left 1023 lim)))
  · rw [victimDeadline_bindsOff (hlim.symm ▸ hlt)] at hx
    obtain ⟨hdown, hst, hledger, hcad, hrest⟩ := bindOffs_boundOff (p := p) (s := modCad p plannedOff s) hatt
    have hplanned : (cadEvt F.CAD_EVT.BINDOFF (modCad p plannedOff s)).cadp[p] = plannedOff s.cadp[p] :=
      modCad_cadp p plannedOff s
    refine moves_of_postCaddy hx fun h b => ?_
    dsimp only
    rw [hledger, hplanned, hcad]
    refine ⟨on_set _ (by decide) (by decide) _, hst, hdown, on_clr _ _, fun r hr => ?_⟩
    obtain ⟨hc, hq⟩ := hrest r hr
    exact ⟨hc.trans (modCad_other p plannedOff s r hr), hq⟩

end Sys2Proof.Machine

/-! SUPPORT. A row boundary within its budget (06 R168 to R171, R177, R179): the row's outcomes applied, the row closed,
and what the engines see of it. -/

namespace Sys2Proof.Machine
open Sys2Proof

/-! ## The sum of the holdings (06 R162) -/

theorem committed_eq_sum (s : State) : committed s = ∑ p : PortId, s.cadp[p].hold := by
  have hofFn : s.cadp.toList.map CadPort.hold = List.ofFn fun p : PortId => s.cadp[p].hold :=
    List.ext_getElem (by rw [List.length_map, Vector.length_toList, List.length_ofFn]) fun i _ _ => by
      rw [List.getElem_map, List.getElem_ofFn, Vector.getElem_toList]
      rfl
  rw [← List.sum_ofFn, ← hofFn, List.sum_eq_foldl, List.foldl_map]
  rfl

theorem committed_congr {s t : State} (h : ∀ p : PortId, t.cadp[p].hold = s.cadp[p].hold) :
    committed t = committed s := by
  rw [committed_eq_sum, committed_eq_sum]
  exact Finset.sum_congr rfl fun p _ => h p

/-- One port's holding changes the sum by what it changes itself. -/
theorem committed_of_others {s t : State} {p : PortId} (h : ∀ r : PortId, r ≠ p → t.cadp[r].hold = s.cadp[r].hold) :
    committed t + s.cadp[p].hold = committed s + t.cadp[p].hold := by
  have hrest : ∑ r ∈ Finset.univ.erase p, t.cadp[r].hold = ∑ r ∈ Finset.univ.erase p, s.cadp[r].hold :=
    Finset.sum_congr rfl fun r hr => h r (Finset.ne_of_mem_erase hr)
  rw [committed_eq_sum, committed_eq_sum, ← Finset.add_sum_erase _ _ (Finset.mem_univ p),
    ← Finset.add_sum_erase _ (fun r : PortId => s.cadp[r].hold) (Finset.mem_univ p), hrest]
  omega

/-! ## The parts of a boundary (06 R168, R171, R177, R179) -/

/-- The row's requests with their outcomes, against the snapshot. -/
def rowResolution (s : State) : List (RowReq × RowOutcome) :=
  resolve (F.CAD_STAT.OVER.on s.cad.regs.stat || !F.CAD_CTL.EN.on s.cad.act.ctl) (rowRequests s) (headroom s) false

/-- The row's outcomes applied, and their results. -/
def rowApplied (s : State) : State × List (PortId × Nat × Nat) :=
  (rowResolution s).foldl (fun (s, l) x => let (s, r) := applyOutcome x s; (s, l ++ r))
    ({ s with free := s.free + 1 }, [])

/-- The row counted, and the registers in force taken. -/
def rowCounted (s : State) : State :=
  latchCfg { s with
    cad := { s.cad with row := (s.cad.row + 1) % 18446744073709551616 }
    cadp := s.cadp.map fun c => { c with upg := c.upg.map (· - 1) } }

/-- The budget followed; a change is flagged. -/
def budgetFollowed (b : Nat) (s : State) : State :=
  { s with cad := { s.cad with regs := { s.cad.regs with
    evt := if b = F.CAD_BUDGET.VALUE.get s.cad.regs.budget then s.cad.regs.evt
      else F.CAD_EVT.BUDGET_CHG.set s.cad.regs.evt
    budget := F.CAD_BUDGET.VALUE.put b s.cad.regs.budget
    commit := F.CAD_COMMIT.VALUE.put (committed s) s.cad.regs.commit } } }

/-- The pool refilled within the budget. -/
def poolRefilled (b : Nat) (s : State) : State :=
  setPoolBal (min (F.CAD_POOL.POOLSZ.get s.cad.act.pool) (b - committed s)) s

/-- The end of a row within its budget. -/
def rowClosed (b : Nat) (s : State) : State :=
  takeSnapshot (syncCommit (poolRefilled b (budgetFollowed b (rowCounted s))))

section
variable {s u : State} {b : Nat}

theorem allFalls_none (h : ∀ p : PortId, s.cadp[p].relAmt = 0 ∧ s.cadp[p].subs = []) : allFalls s = s := by
  have hnone : (allPorts.filter fun p => s.cadp[p].relAmt != 0 || !s.cadp[p].subs.isEmpty) = [] :=
    allPorts_filter_of_none fun p => by
      obtain ⟨hrel, hsubs⟩ := h p
      rw [hrel, hsubs]
      rfl
  unfold allFalls
  rw [hnone]
  rfl

theorem serveWaiting_none (row : Nat) (h : ∀ p : PortId, F.CAD_PHOLD.WAIT5.on s.cadp[p].regs.phold = false) :
    serveWaiting row s = (s, []) := by
  have hnone : (allPorts.filter fun p => F.CAD_PHOLD.WAIT5.on s.cadp[p].regs.phold) = [] := allPorts_filter_of_none h
  unfold serveWaiting
  rw [hnone]
  rfl

theorem rowCounted_cadp (s : State) (p : PortId) : (rowCounted s).cadp[p] =
    { s.cadp[p] with upg := s.cadp[p].upg.map (· - 1), actPcfg := s.cadp[p].regs.pcfg } := by
  simp [rowCounted, latchCfg]

theorem committed_rowCounted (s : State) : committed (rowCounted s) = committed s :=
  committed_congr fun p => by rw [rowCounted_cadp]; rfl

theorem budgetFollowed_eq (b : Nat) (s : State) :
    (let t := if b = F.CAD_BUDGET.VALUE.get s.cad.regs.budget then s else cadEvt F.CAD_EVT.BUDGET_CHG s
    syncCommit { t with cad := { t.cad with regs := { t.cad.regs with
      budget := F.CAD_BUDGET.VALUE.put b t.cad.regs.budget } } }) = budgetFollowed b s := by
  unfold budgetFollowed
  by_cases h : b = F.CAD_BUDGET.VALUE.get s.cad.regs.budget
  · rw [if_pos h, if_pos h]
    rfl
  · rw [if_neg h, if_neg h]
    rfl

/-- A boundary with no fall, no shed cycle and no waiting reservation, within the budget, applies the row's outcomes and
closes the row. -/
theorem rowBoundary_closes {r : List (PortId × Nat × Nat)} (hrun : F.CAD_STAT.PAUSED.on s.cad.regs.stat = false)
    (hfalls : ∀ p : PortId, s.cadp[p].relAmt = 0 ∧ s.cadp[p].subs = []) (ha : rowApplied s = (u, r))
    (hb : budgetOf (rowCounted u) u.cad.regs = b) (hshed : F.CAD_STAT.SHEDDING.on u.cad.regs.stat = false)
    (hle : committed u ≤ b) (hw : ∀ p : PortId, F.CAD_PHOLD.WAIT5.on u.cadp[p].regs.phold = false) :
    rowBoundary s = (rowClosed b u, r, []) := by
  unfold rowBoundary
  rw [if_neg (by rw [hrun]; decide), allFalls_none hfalls]
  extract_lets ovr res fallen started row
  split
  next v r1 heq =>
  cases ha.symm.trans heq
  extract_lets +onlyGivenNames _ counted aged latched b' b0 flagged _ _ followed c shedding
  have hb' : b' = b := hb
  have hfollowed : followed = budgetFollowed b (rowCounted u) := by
    rw [← hb']
    exact budgetFollowed_eq b' latched
  have hc : c = committed u := by
    simp only [c, hfollowed]
    exact committed_rowCounted u
  have hshedding : shedding = false := by
    simp only [shedding, hfollowed]
    exact hshed
  rw [hc, hb', hshedding, if_neg (Nat.not_lt.mpr hle), if_neg (by decide), hfollowed]
  dsimp -zeta only
  extract_lets +onlyGivenNames c2 bal refilled
  have hbal : refilled = poolRefilled b (budgetFollowed b (rowCounted u)) := by
    have hc2 : ¬c2 > b := by
      have : c2 = committed u := committed_rowCounted u
      omega
    simp only [refilled, bal, if_neg hc2]
    rfl
  have hserve : serveWaiting row refilled = (refilled, []) :=
    serveWaiting_none row fun p => by
      rw [hbal]
      exact (congrArg (fun c : CadPort => F.CAD_PHOLD.WAIT5.on c.regs.phold) (rowCounted_cadp u p)).trans (hw p)
  rw [hserve, hbal]
  simp [rowClosed]

/-! ## What the row's outcomes leave -/

/-- What a boundary's own requests may have changed when it closes the row: windows, holdings and what goes with them,
and the ports that no engine serves. -/
structure RowOutcomes (s u : State) : Prop where
  cad : { u.cad with wres := s.cad.wres } = s.cad
  rest : { u with cad := s.cad, cadp := s.cadp, ports := s.ports, free := s.free } = s
  relAmt : ∀ q : PortId, u.cadp[q].relAmt = 0
  wait5 : ∀ q : PortId, F.CAD_PHOLD.WAIT5.on u.cadp[q].regs.phold = false
  pcfg : ∀ q : PortId, u.cadp[q].regs.pcfg = s.cadp[q].regs.pcfg
  ports : ∀ q : PortId, portServed s q = true → u.ports[q] = s.ports[q]

theorem RowOutcomes.regs (h : RowOutcomes s u) : u.cad.regs = s.cad.regs := (congrArg Caddy.regs h.cad :)

theorem RowOutcomes.row (h : RowOutcomes s u) : u.cad.row = s.cad.row := (congrArg Caddy.row h.cad :)

/-- Whether a port is served rests on the engines, their map and standby. -/
theorem portServed_congr {t : State} (he : t.engines = s.engines) (hs : t.saf = s.saf) (hc : t.cru = s.cru)
    (q : PortId) : portServed t q = portServed s q := by
  simp only [portServed, engineOf, engineRunning, he, hs, hc]

theorem RowOutcomes.portServed_rowClosed (h : RowOutcomes s u) (q : PortId) :
    portServed (rowClosed b u) q = portServed s q :=
  portServed_congr (congrArg State.engines h.rest) (congrArg State.saf h.rest) (congrArg State.cru h.rest) q

theorem rowClosed_cadp (b : Nat) (u : State) (p : PortId) : (rowClosed b u).cadp[p] =
    { u.cadp[p] with
      upg := u.cadp[p].upg.map (· - 1), actPcfg := u.cadp[p].regs.pcfg, snapHold := u.cadp[p].hold - u.cadp[p].relAmt
      snapClass := F.CAD_PCFG.CLASS.get u.cadp[p].regs.pcfg } := by
  have hcadp : (rowClosed b u).cadp = (rowCounted u).cadp.map fun c => { c with
    snapHold := c.hold - c.relAmt, snapClass := F.CAD_PCFG.CLASS.get c.actPcfg } := rfl
  have hp : (rowClosed b u).cadp[p] = { (rowCounted u).cadp[p] with
      snapHold := (rowCounted u).cadp[p].hold - (rowCounted u).cadp[p].relAmt
      snapClass := F.CAD_PCFG.CLASS.get (rowCounted u).cadp[p].actPcfg } := by
    simp [hcadp]
  rw [hp, rowCounted_cadp]
  rfl

theorem rowClosed_hold (b : Nat) (u : State) (p : PortId) : (rowClosed b u).cadp[p].hold = u.cadp[p].hold := by
  rw [rowClosed_cadp]
  rfl

theorem committed_rowClosed (b : Nat) (u : State) : committed (rowClosed b u) = committed u :=
  committed_congr fun p => rowClosed_hold b u p

/-! ## The end of a row (06 R168, R177, R179) -/

/-- What every boundary within its budget leaves: the row counted, the registers in force, the budget followed, the pool
refilled and the snapshot taken. -/
abbrev RowEnded (s : State) (b : Nat) (t : State) : Prop :=
  t.cad.row = (s.cad.row + 1) % 18446744073709551616 ∧ t.cad.act = s.cad.regs ∧
    F.CAD_BUDGET.VALUE.get t.cad.regs.budget = b ∧ t.cad.snapB = b ∧ t.cad.snapC = committed t ∧
    poolBal t = min (F.CAD_POOL.POOLSZ.get s.cad.regs.pool) (b - committed t) ∧ t.cad.snapW = poolBal t ∧
    ∀ r : PortId, t.cadp[r].snapHold = t.cadp[r].hold ∧ t.cadp[r].actPcfg = s.cadp[r].regs.pcfg

theorem rowClosed_ended (hu : RowOutcomes s u) (hb : b < 1048576) : RowEnded s b (rowClosed b u) := by
  have hbudget : F.CAD_BUDGET.VALUE.get (F.CAD_BUDGET.VALUE.put b u.cad.regs.budget) = b :=
    (get_put F.CAD_BUDGET.VALUE (by decide) b _).trans (Nat.mod_eq_of_lt hb)
  have hsum : committed (rowClosed b u) = committed u := committed_rowClosed b u
  have hfollowed : committed (budgetFollowed b (rowCounted u)) = committed u := committed_rowCounted u
  have hpool : F.CAD_POOL.POOLSZ.get u.cad.regs.pool < 65536 := get_lt F.CAD_POOL.POOLSZ _
  have hbal : poolBal (rowClosed b u) = min (F.CAD_POOL.POOLSZ.get u.cad.regs.pool) (b - committed u) := by
    refine (poolBal_setPoolBal ?_ (budgetFollowed b (rowCounted u))).trans ?_
    · exact lt_of_le_of_lt (Nat.min_le_left _ _) hpool
    · rw [hfollowed]
      rfl
  refine ⟨?_, hu.regs, hbudget, hbudget, ?_, ?_, rfl, fun r => ?_⟩
  · rw [← hu.row]
    rfl
  · rw [hsum]
    exact committed_rowCounted u
  · rw [hbal, hsum, hu.regs]
  · rw [rowClosed_hold, rowClosed_cadp]
    exact ⟨by simp only [hu.relAmt r, Nat.sub_zero], hu.pcfg r⟩

theorem rowClosed_budgetChg (hu : u.cad.regs = s.cad.regs) (h : b ≠ F.CAD_BUDGET.VALUE.get s.cad.regs.budget) :
    F.CAD_EVT.BUDGET_CHG.on (rowClosed b u).cad.regs.evt = true := by
  have hevt : (rowClosed b u).cad.regs.evt = F.CAD_EVT.BUDGET_CHG.set u.cad.regs.evt := if_neg (by
    rw [← hu] at h
    exact h)
  rw [hevt]
  exact on_set _ (by decide) (by decide) _

/-! ## A boundary with nothing but its own requests -/

theorem forPorts_eq_self {l : List PortId} {f : PortId → State → State} (h : ∀ p ∈ l, f p s = s) :
    forPorts l f s = s := by
  induction l with
  | nil => rfl
  | cons p l ih =>
    have hstep : forPorts (p :: l) f s = forPorts l f (f p s) := rfl
    rw [hstep, h p List.mem_cons_self, ih fun q hq => h q (List.mem_cons_of_mem p hq)]

/-- A port that presents the level asked in V5 goes on presenting it (06 R163). -/
theorem presentV5_eq_self {p : PortId} (h : F.CC_CTL.RP_LVL.get s.ports[p].cc.ctl = askedLevel s.cadp[p]) :
    presentV5 p s = s := if_neg (by simp [h, -Fin.getElem_fin])

/-- No command waits for a copy of the ledger. -/
theorem copyLedger_none
    (h : (s.host.waits.all fun w => match w.kind with | .ledger _ => false | _ => true) = true) : copyLedger s = s := by
  have hnone : ∀ w ∈ s.host.waits, ∀ n, w.kind ≠ .ledger n := fun w hw n hk => by
    have := List.all_eq_true.mp h w hw
    simp [hk] at this
  unfold copyLedger
  refine List.foldlRecOn _ _ (motive := fun t => t = s) rfl fun t ht w hw => ?_
  split
  next n hk => exact absurd hk (hnone w hw n)
  next => exact ht

/-- A result waits in the window of a port that no engine serves. -/
theorem giveResults_eq_self {l : List (PortId × Nat × Nat)} (h : ∀ x ∈ l, portServed s x.1 = false) :
    l.foldl (fun s r => giveResult r.1 r.2.1 r.2.2 s) s = s :=
  List.foldlRecOn _ _ (motive := fun t => t = s) rfl fun t ht x hx => by
    rw [ht]
    exact if_neg (by simp [h x hx])

theorem rowCalm_entry (hc : RowCalm s b) (p : PortId) : s.cadp[p].stand = none ∧ s.cadp[p].subs = [] ∧
    s.cadp[p].relAmt = 0 ∧ F.CAD_PHOLD.WAIT5.on s.cadp[p].regs.phold = false := by
  obtain ⟨-, -, -, -, -, -, -, -, hports⟩ := hc
  obtain ⟨hstand, hsubs, hrel, hwait, -⟩ := hports p
  exact ⟨hstand, hsubs, hrel, hwait⟩

theorem rowCalm_level (hc : RowCalm s b) {p : PortId} (hp : portServed s p = true) :
    F.CC_CTL.RP_LVL.get s.ports[p].cc.ctl = min 2 (F.CAD_PCFG.V5.get s.cadp[p].regs.pcfg) := by
  obtain ⟨-, -, -, -, -, -, -, -, hports⟩ := hc
  obtain ⟨-, -, -, -, hunserved | hlevel⟩ := hports p
  · exact absurd (hp.symm.trans hunserved) (by decide)
  · exact hlevel

theorem budgetOf_rowCounted (hc : RowCalm s b) (hu : u.cad.regs = s.cad.regs) :
    budgetOf (rowCounted u) u.cad.regs = b := by
  obtain ⟨-, -, -, -, -, -, hfeed, -⟩ := hc
  have hstat : (rowCounted u).cad.regs.stat = s.cad.regs.stat := congrArg CadRegs.stat hu
  unfold budgetOf
  rw [hstat, hu]
  rcases hfeed with ⟨hsrc, rfl⟩ | ⟨hsrc, rfl⟩ <;> rw [hsrc] <;> rfl

theorem rowCalm_lt (hc : RowCalm s b) : b < 1048576 := by
  obtain ⟨-, -, -, -, -, -, hfeed, -⟩ := hc
  rcases hfeed with ⟨-, rfl⟩ | ⟨-, rfl⟩ <;> exact get_lt F.CAD_LIM.LIM _

/-- Beside the row itself a boundary only posts the caddy's event, when nobody waits for the ledger, every result is for
a port without an engine, and every served port presents its level. -/
theorem boundary_of_rowBoundary {t : State} {r : List (PortId × Nat × Nat)} (hrow : rowBoundary s = (t, r, []))
    (hcopy : copyLedger t = t) (hr : ∀ x ∈ r, portServed t x.1 = false)
    (hlevel : ∀ q : PortId, portServed t q = true → F.CC_CTL.RP_LVL.get t.ports[q].cc.ctl = askedLevel t.cadp[q]) :
    ∃ h g, boundary s = { t with host := h, boot := g } := by
  obtain ⟨h, g, hpost⟩ := postCaddy_ite_eq (t.cad.regs.evt != s.cad.regs.evt) t
  have hgive := giveResults_eq_self (s := { t with host := h, boot := g }) (l := r) hr
  have hnoOffs : bindOffs [] (copyLedger t) = t := hcopy
  refine ⟨h, g, ?_⟩
  unfold boundary
  rw [hrow]
  dsimp only
  rw [hnoOffs, hpost, hgive]
  exact forPorts_eq_self fun q hq => presentV5_eq_self (hlevel q (List.mem_filter.mp hq).2)

/-- Such a boundary applies the row's outcomes, closes the row and posts the caddy's event. -/
theorem boundary_closes {r : List (PortId × Nat × Nat)} (hc : RowCalm s b) (ha : rowApplied s = (u, r))
    (hu : RowOutcomes s u) (hr : ∀ x ∈ r, portServed s x.1 = false) (hle : committed u ≤ b) :
    ∃ h g, boundary s = { rowClosed b u with host := h, boot := g } := by
  have hbudget := budgetOf_rowCounted hc hu.regs
  have hfalls : ∀ p : PortId, s.cadp[p].relAmt = 0 ∧ s.cadp[p].subs = [] := fun p => by
    obtain ⟨-, hsubs, hrel, -⟩ := rowCalm_entry hc p
    exact ⟨hrel, hsubs⟩
  have hlevel := fun q => rowCalm_level (p := q) hc
  obtain ⟨-, -, -, hrun, hshed, -, -, hwaits, -⟩ := hc
  have hrow : rowBoundary s = (rowClosed b u, r, []) :=
    rowBoundary_closes hrun hfalls ha hbudget (by rw [hu.regs]; exact hshed) hle hu.wait5
  have hhost : (rowClosed b u).host = s.host := (congrArg State.host hu.rest :)
  refine boundary_of_rowBoundary hrow (copyLedger_none (by rw [hhost]; exact hwaits))
    (fun x hx => (hu.portServed_rowClosed x.1).trans (hr x hx)) fun q hq => ?_
  have hq : portServed s q = true := (hu.portServed_rowClosed q).symm.trans hq
  have hport : (rowClosed b u).ports[q] = s.ports[q] := hu.ports q hq
  rw [hport, hlevel q hq, ← hu.pcfg q, rowClosed_cadp]
  rfl

/-! ## A row without a request -/

theorem rowRequests_none (h : ∀ p : PortId, s.cadp[p].req = none ∧ s.cadp[p].stand = none) : rowRequests s = [] := by
  refine (congrArg sortKeyed (List.filterMap_eq_nil_iff.mpr fun p _ => ?_)).trans rfl
  obtain ⟨hreq, hstand⟩ := h p
  dsimp only
  rw [hreq, hstand]

theorem rowApplied_none (h : ∀ p : PortId, s.cadp[p].req = none ∧ s.cadp[p].stand = none) :
    rowApplied s = ({ s with free := s.free + 1 }, []) := by
  unfold rowApplied rowResolution
  rw [rowRequests_none h]
  rfl

theorem rowOutcomes_none (hc : RowCalm s b) : RowOutcomes s { s with free := s.free + 1 } := by
  refine ⟨rfl, rfl, fun q => ?_, fun q => ?_, fun _ => rfl, fun _ _ => rfl⟩ <;>
    obtain ⟨-, -, hrel, hwait⟩ := rowCalm_entry hc q
  · exact hrel
  · exact hwait

/-- With nothing asked for, a boundary closes the row. -/
theorem boundary_noRequest (hc : RowCalm s b) (hnone : ∀ p : PortId, s.cadp[p].req = none) (hle : committed s ≤ b) :
    let t := boundary s
    RowEnded s b t ∧ (∀ p : PortId, t.cadp[p].hold = s.cadp[p].hold) ∧ t.cad.wres = s.cad.wres ∧ t.ports = s.ports ∧
      (b ≠ F.CAD_BUDGET.VALUE.get s.cad.regs.budget → F.CAD_EVT.BUDGET_CHG.on t.cad.regs.evt = true) := by
  have hu := rowOutcomes_none hc
  have ha : rowApplied s = ({ s with free := s.free + 1 }, []) := rowApplied_none fun p => by
    obtain ⟨hstand, -⟩ := rowCalm_entry hc p
    exact ⟨hnone p, hstand⟩
  obtain ⟨h, g, e⟩ := boundary_closes hc ha hu (fun x hx => absurd hx List.not_mem_nil) hle
  have hended := rowClosed_ended hu (rowCalm_lt hc)
  have hhold := rowClosed_hold b { s with free := s.free + 1 }
  have hwres : (rowClosed b { s with free := s.free + 1 }).cad.wres = s.cad.wres := rfl
  have hports : (rowClosed b { s with free := s.free + 1 }).ports = s.ports := rfl
  have hchg := rowClosed_budgetChg (u := { s with free := s.free + 1 }) (b := b) rfl
  dsimp only
  rw [e]
  generalize rowClosed b { s with free := s.free + 1 } = v at *
  exact ⟨hended, hhold, hwres, hports, hchg⟩

/-! ## A row with one port's request (06 R171) -/

/-- The port's collected request, as the row resolves it. -/
def rowReqOf (s : State) (p : PortId) (r : CadReq) : RowReq where
  p := p
  req := r
  standing := false
  units := unitsAt s r.volt r.pout
  hold := s.cadp[p].snapHold
  pmin := max 1 (F.CAD_PCFG.PMIN.get s.cadp[p].actPcfg)

theorem rowRequests_one {p : PortId} {r : CadReq} (hr : s.cadp[p].req = some r)
    (hothers : ∀ q : PortId, q ≠ p → s.cadp[q].req = none ∧ s.cadp[q].stand = none) :
    rowRequests s = [rowReqOf s p r] := by
  refine (congrArg sortKeyed (allPorts_filterMap_of_only (p := p)
    (x := (rankKey s.cad.row p s.cadp[p].snapClass r.age, rowReqOf s p r)) ?_ fun q hq => ?_)).trans rfl
  · dsimp only
    rw [hr]
    rfl
  · obtain ⟨hreq, hstand⟩ := hothers q hq
    dsimp only
    rw [hreq, hstand]

/-- One port's result in its window, with its ledger entry and its registers changed. -/
def resolvedAt (p : PortId) (outcome gout : Nat) (f : CadPort → CadPort) (k : Port → Port) (s : State) : State :=
  putResult p outcome gout (modCad p f (modPort p k s))

section
variable {p : PortId} {o g : Nat} {f : CadPort → CadPort} {k : Port → Port}

theorem resolvedAt_cadp : (resolvedAt p o g f k s).cadp[p] = f s.cadp[p] := modCad_cadp p f (modPort p k s)

theorem resolvedAt_other {q : PortId} (h : q ≠ p) : (resolvedAt p o g f k s).cadp[q] = s.cadp[q] :=
  modCad_other p f (modPort p k s) q h

/-- The change of a ledger entry that leaves what later rows read of it. -/
structure KeepsEntry (f : CadPort → CadPort) (c : CadPort) : Prop where
  relAmt : (f c).relAmt = c.relAmt
  wait5 : F.CAD_PHOLD.WAIT5.on (f c).regs.phold = F.CAD_PHOLD.WAIT5.on c.regs.phold
  pcfg : (f c).regs.pcfg = c.regs.pcfg
  rises : c.hold ≤ (f c).hold

theorem rowOutcomes_resolvedAt (hc : RowCalm s b) (hp : portServed s p = false) (hf : KeepsEntry f s.cadp[p]) :
    RowOutcomes s (resolvedAt p o g f k { s with free := s.free + 1 }) := by
  generalize hu : resolvedAt p o g f k { s with free := s.free + 1 } = u
  have hentry : ∀ q : PortId, u.cadp[q].relAmt = 0 ∧ F.CAD_PHOLD.WAIT5.on u.cadp[q].regs.phold = false ∧
      u.cadp[q].regs.pcfg = s.cadp[q].regs.pcfg := fun q => by
    rw [← hu]
    obtain ⟨-, -, hrel, hwait⟩ := rowCalm_entry hc q
    by_cases hqp : q = p
    · subst hqp
      rw [resolvedAt_cadp]
      exact ⟨hf.relAmt.trans hrel, hf.wait5.trans hwait, hf.pcfg⟩
    · rw [resolvedAt_other hqp]
      exact ⟨hrel, hwait, rfl⟩
  obtain ⟨hrel, hkept⟩ := forall_and.mp hentry
  obtain ⟨hwait, hpcfg⟩ := forall_and.mp hkept
  subst hu
  refine ⟨rfl, rfl, hrel, hwait, hpcfg, fun q hq => ?_⟩
  have hqp : q ≠ p := fun h => by
    rw [h, hp] at hq
    cases hq
  exact modPort_other p k { s with free := s.free + 1 } q hqp

theorem committed_resolvedAt (hf : KeepsEntry f s.cadp[p]) :
    committed (resolvedAt p o g f k s) = committed s + ((f s.cadp[p]).hold - s.cadp[p].hold) := by
  have hone := committed_of_others (s := s) (t := resolvedAt p o g f k s) (p := p) fun q hq => by
    rw [resolvedAt_other hq]
  rw [resolvedAt_cadp] at hone
  have hrises := hf.rises
  omega

/-- What a boundary leaves of the port whose request it resolved. -/
structure RequestResolved (p : PortId) (b o g : Nat) (f : CadPort → CadPort) (k : Port → Port) (s t : State) :
    Prop where
  ended : RowEnded s b t
  hold : t.cadp[p].hold = (f s.cadp[p]).hold
  req : t.cadp[p].req = (f s.cadp[p]).req
  stand : t.cadp[p].stand = (f s.cadp[p]).stand
  window : windowHolds t p o g
  ports : t.ports = (modPort p k s).ports
  others : ∀ q : PortId, q ≠ p → t.cadp[q].hold = s.cadp[q].hold

theorem RequestResolved.posted {v : State} (h : RequestResolved p b o g f k s v) (x : HostSide) (y : Boot) :
    RequestResolved p b o g f k s { v with host := x, boot := y } :=
  ⟨h.ended, h.hold, h.req, h.stand, h.window, h.ports, h.others⟩

theorem rowClosed_resolves (hc : RowCalm s b) (hp : portServed s p = false) (ho : o < 8) (hf : KeepsEntry f s.cadp[p]) :
    RequestResolved p b o g f k s (rowClosed b (resolvedAt p o g f k { s with free := s.free + 1 })) := by
  have hentry := rowClosed_cadp b (resolvedAt p o g f k { s with free := s.free + 1 }) p
  rw [resolvedAt_cadp] at hentry
  refine ⟨rowClosed_ended (rowOutcomes_resolvedAt hc hp hf) (rowCalm_lt hc), ?_, ?_, ?_,
    windowHolds_putResult p ho g _, rfl, fun q hq => ?_⟩
  · rw [hentry]
    rfl
  · rw [hentry]
  · rw [hentry]
  · rw [rowClosed_hold, resolvedAt_other hq]

theorem boundary_resolves (hc : RowCalm s b) (hp : portServed s p = false) (ho : o < 8)
    (ha : rowApplied s = (resolvedAt p o g f k { s with free := s.free + 1 }, [(p, o, g)]))
    (hf : KeepsEntry f s.cadp[p]) (hle : committed s + ((f s.cadp[p]).hold - s.cadp[p].hold) ≤ b) :
    RequestResolved p b o g f k s (boundary s) := by
  have hsum : committed (resolvedAt p o g f k { s with free := s.free + 1 }) ≤ b :=
    (committed_resolvedAt (s := { s with free := s.free + 1 }) hf).trans_le hle
  have hr : ∀ x ∈ [(p, o, g)], portServed s x.1 = false := fun x hx => by rw [List.mem_singleton.mp hx, hp]
  obtain ⟨h, g', e⟩ := boundary_closes hc ha (rowOutcomes_resolvedAt hc hp hf) hr hsum
  rw [e]
  exact (rowClosed_resolves hc hp ho hf).posted h g'

end

/-! ## The outcomes of a request (06 R171, R172, R174) -/

section
variable {q : RowReq} {c : CadPort} {units : Nat} {r : CadReq}

/-- The holding raised, and nothing asked for any more. -/
def requestMet (units : Nat) (c : CadPort) : CadPort :=
  { (c.setHold (max c.hold units)) with req := none, stand := none, upg := none }

/-- The ledger entry of a port whose request is granted. -/
def grantedCad (units : Nat) (c : CadPort) : CadPort :=
  let d := settle units (requestMet units c)
  { d with regs.phold := F.CAD_PHOLD.LIMITED.clr d.regs.phold }

/-- The registers of a port whose request is granted. -/
def grantedPort (v : Nat) (q : Port) : Port := setCadLim 0 (setCeil v q)

/-- A request that stands a row longer. -/
def CadReq.aged (r : CadReq) : CadReq := { r with age := min 255 (r.age + 1) }

/-- The ledger entry of a port whose request is denied. -/
def deniedCad (r : CadReq) (c : CadPort) : CadPort := { c with req := none, stand := some r.aged }

/-- The ledger entry of a port whose request is granted in part. -/
def partialCad (units : Nat) (r : CadReq) (c : CadPort) : CadPort := deniedCad r (c.setHold (max c.hold units))

theorem settle_eq (units : Nat) (c : CadPort) :
    settle units c = { c with regs.phold := (settle units c).regs.phold } := by
  unfold settle
  split <;> rfl

/-- What does not read SETTLED of a ledger entry reads the same of a settled victim's. -/
theorem settle_phold {α : Type} {g : Word → α} (hg : ∀ w, g (F.CAD_PHOLD.SETTLED.set w) = g w) :
    g (settle units c).regs.phold = g c.regs.phold := by
  unfold settle
  split
  · exact hg _
  · rfl

theorem setHold_max (h : units < 65536) : (c.setHold (max c.hold units)).hold = max c.hold units := by
  have hlt : c.hold < 65536 := get_lt F.CAD_PHOLD.HOLD _
  rw [hold_setHold]
  omega

theorem grantedCad_hold (h : units < 65536) : (grantedCad units c).hold = max c.hold units := by
  have hclr : (grantedCad units c).hold = F.CAD_PHOLD.HOLD.get (settle units (requestMet units c)).regs.phold :=
    get_clr_apart _ _ (by decide) _
  rw [hclr, settle_phold fun w => get_set_apart _ _ (by decide) w]
  exact setHold_max h

theorem grantedCad_keeps (h : units < 65536) (c : CadPort) : KeepsEntry (grantedCad units) c := by
  have hsettle := settle_eq units (requestMet units c)
  refine ⟨(congrArg CadPort.relAmt hsettle :), ?_, (congrArg (fun d : CadPort => d.regs.pcfg) hsettle :), ?_⟩
  · have hclr : F.CAD_PHOLD.WAIT5.on (grantedCad units c).regs.phold =
        F.CAD_PHOLD.WAIT5.on (settle units (requestMet units c)).regs.phold := on_clr_apart _ _ (by decide) _
    rw [hclr, settle_phold fun w => on_set_apart _ _ (by decide) w]
    exact on_put_apart _ _ (by decide) _ _
  · rw [grantedCad_hold h]
    exact Nat.le_max_left _ _

theorem grantedCad_req (units : Nat) (c : CadPort) : (grantedCad units c).req = none :=
  (congrArg CadPort.req (settle_eq units (requestMet units c)) :)

theorem partialCad_hold (h : units < 65536) : (partialCad units r c).hold = max c.hold units := setHold_max h

theorem partialCad_keeps (h : units < 65536) (r : CadReq) (c : CadPort) : KeepsEntry (partialCad units r) c := by
  refine ⟨rfl, on_put_apart _ _ (by decide) _ _, rfl, ?_⟩
  rw [partialCad_hold h]
  exact Nat.le_max_left _ _

theorem deniedCad_keeps (r : CadReq) (c : CadPort) : KeepsEntry (deniedCad r) c := ⟨rfl, rfl, rfl, Nat.le_refl _⟩

/-- A collected request that is granted. -/
theorem applyOutcome_grant (h : q.standing = false) (s : State) :
    let g := coverAt s q.req.volt (grantedCad q.units s.cadp[q.p]).hold
    applyOutcome (q, .grant) s =
      (resolvedAt q.p 1 g (grantedCad q.units) (grantedPort q.req.volt) s, [(q.p, 1, g)]) := by
  obtain ⟨t, hform, ht⟩ : ∃ t, applyOutcome (q, .grant) s =
        (let g := coverAt t q.req.volt t.cadp[q.p].hold
        (putResult q.p 1 g t, [(q.p, 1, g)])) ∧
      t = modCad q.p (grantedCad q.units) (modPort q.p (grantedPort q.req.volt) s) := by
    refine ⟨_, if_neg (by rw [h]; decide), ?_⟩
    unfold raiseTo
    rw [modCad_modCad, modCad_modPort, modCad_modCad, ← modCad_modPort]
    rfl
  have hentry := modCad_cadp q.p (grantedCad q.units) (modPort q.p (grantedPort q.req.volt) s)
  rw [hform, ht]
  dsimp only
  rw [hentry]
  rfl

/-- A collected request that is granted in part. -/
theorem applyOutcome_partial (h : q.standing = false) (n : Nat) (s : State) :
    let g := coverAt s q.req.volt (partialCad (q.hold + n) q.req s.cadp[q.p]).hold
    applyOutcome (q, .partialGrant n) s =
      (resolvedAt q.p 2 g (partialCad (q.hold + n) q.req) id s, [(q.p, 2, g)]) := by
  have hstate : modCad q.p (deniedCad q.req) (raiseTo q.p (q.hold + n) s) =
      modCad q.p (partialCad (q.hold + n) q.req) (modPort q.p id s) := by
    unfold raiseTo
    rw [modCad_modCad, modPort_eq_self (f := id) rfl]
    rfl
  have hentry := modCad_cadp q.p (partialCad (q.hold + n) q.req) (modPort q.p id s)
  have hform : applyOutcome (q, .partialGrant n) s =
      (let t := modCad q.p (deniedCad q.req) (raiseTo q.p (q.hold + n) s)
      let g := coverAt t q.req.volt t.cadp[q.p].hold
      (putResult q.p 2 g t, [(q.p, 2, g)])) := if_neg (by simp [h])
  rw [hform, hstate]
  dsimp only
  rw [hentry]
  rfl

/-- A collected request that is denied. -/
theorem applyOutcome_deny (h : q.standing = false) (s : State) :
    let g := coverAt s q.req.volt s.cadp[q.p].hold
    applyOutcome (q, .deny) s = (resolvedAt q.p 3 g (deniedCad q.req) id s, [(q.p, 3, g)]) := by
  have hentry := modCad_cadp q.p (deniedCad q.req) s
  have hform : applyOutcome (q, .deny) s =
      (let t := modCad q.p (deniedCad q.req) s
      let g := coverAt t q.req.volt t.cadp[q.p].hold
      (putResult q.p 3 g t, [(q.p, 3, g)])) := if_neg (by rw [h]; decide)
  unfold resolvedAt
  rw [hform, modPort_eq_self (f := id) rfl]
  dsimp only
  rw [hentry]
  rfl

end

/-! ## A boundary that resolves one request -/

/-- With rising table entries the units and the covered power rest on the table in force alone (06 R160). -/
theorem coverAt_free (h : effRising s.cad.act.eff = true) (n v units : Nat) :
    coverAt { s with free := n } v units = coverAt s v units := by
  simp only [coverAt, effFor, h, if_true]

/-- One port without an engine asks for power, in a calm row that grants (06 R171). -/
structure OneRequest (p : PortId) (r : CadReq) (b : Nat) (s : State) : Prop where
  calm : RowCalm s b
  en : F.CAD_CTL.EN.on s.cad.act.ctl = true
  unserved : portServed s p = false
  req : s.cadp[p].req = some r
  others : ∀ q : PortId, q ≠ p → s.cadp[q].req = none
  rising : effRising s.cad.act.eff = true

section
variable {p : PortId} {r : CadReq}

theorem OneRequest.resolution (h : OneRequest p r b s) :
    rowResolution s = resolve false [rowReqOf s p r] (headroom s) false := by
  obtain ⟨-, -, -, -, -, hover, -⟩ := h.calm
  have hreqs : rowRequests s = [rowReqOf s p r] := rowRequests_one h.req fun q hq => by
    obtain ⟨hstand, -⟩ := rowCalm_entry h.calm q
    exact ⟨h.others q hq, hstand⟩
  unfold rowResolution
  rw [hreqs, hover, h.en]
  rfl

theorem rowApplied_one {x : RowReq × RowOutcome} (h : rowResolution s = [x]) :
    rowApplied s = applyOutcome x { s with free := s.free + 1 } := by
  unfold rowApplied
  rw [h]
  rfl

/-- What the request lacks beyond the holding of the snapshot. -/
abbrev rowLacks (s : State) (p : PortId) (r : CadReq) : Nat := unitsAt s r.volt r.pout - s.cadp[p].snapHold

theorem OneRequest.grants (h : OneRequest p r b s) (hl : rowLacks s p r ≤ headroom s)
    (hu : unitsAt s r.volt r.pout < 65536) (hle : committed s + (unitsAt s r.volt r.pout - s.cadp[p].hold) ≤ b) :
    RequestResolved p b 1 (coverAt s r.volt (max s.cadp[p].hold (unitsAt s r.volt r.pout)))
      (grantedCad (unitsAt s r.volt r.pout)) (grantedPort r.volt) s (boundary s) := by
  have hres : rowResolution s = [(rowReqOf s p r, .grant)] := by
    rw [h.resolution]
    by_cases hq : (rowReqOf s p r).units ≤ (rowReqOf s p r).hold
    · exact resolve_covered [] hq
    · exact resolve_granted [] (Nat.not_le.mp hq) rfl hl
  have ha := (rowApplied_one hres).trans (applyOutcome_grant rfl { s with free := s.free + 1 })
  have hhold : (grantedCad (unitsAt s r.volt r.pout) s.cadp[p]).hold = max s.cadp[p].hold (unitsAt s r.volt r.pout) :=
    grantedCad_hold hu
  have hg : coverAt { s with free := s.free + 1 } r.volt (grantedCad (unitsAt s r.volt r.pout) s.cadp[p]).hold =
      coverAt s r.volt (max s.cadp[p].hold (unitsAt s r.volt r.pout)) := by
    rw [coverAt_free h.rising, hhold]
  rw [← hg]
  exact boundary_resolves h.calm h.unserved (by decide) ha (grantedCad_keeps hu _) (by rw [hhold]; omega)

theorem OneRequest.grantsInPart (h : OneRequest p r b s) (hl : headroom s < rowLacks s p r)
    (hmin : max 1 (F.CAD_PCFG.PMIN.get s.cadp[p].actPcfg) ≤ headroom s) (hu : unitsAt s r.volt r.pout < 65536)
    (hle : committed s + (s.cadp[p].snapHold + headroom s - s.cadp[p].hold) ≤ b) :
    RequestResolved p b 2 (coverAt s r.volt (max s.cadp[p].hold (s.cadp[p].snapHold + headroom s)))
      (partialCad (s.cadp[p].snapHold + headroom s) r) id s (boundary s) := by
  have hlt : s.cadp[p].snapHold + headroom s < 65536 := by
    unfold rowLacks at hl
    omega
  have hres : rowResolution s = [(rowReqOf s p r, .partialGrant (headroom s))] := by
    rw [h.resolution]
    exact resolve_partial [] (Nat.lt_of_sub_pos (Nat.zero_lt_of_lt hl)) rfl hl hmin
  have ha := (rowApplied_one hres).trans (applyOutcome_partial rfl (headroom s) { s with free := s.free + 1 })
  have hhold : (partialCad (s.cadp[p].snapHold + headroom s) r s.cadp[p]).hold =
      max s.cadp[p].hold (s.cadp[p].snapHold + headroom s) := partialCad_hold hlt
  have hg : coverAt { s with free := s.free + 1 } r.volt
      (partialCad (s.cadp[p].snapHold + headroom s) r s.cadp[p]).hold =
        coverAt s r.volt (max s.cadp[p].hold (s.cadp[p].snapHold + headroom s)) := by
    rw [coverAt_free h.rising, hhold]
  rw [← hg]
  exact boundary_resolves h.calm h.unserved (by decide) ha (partialCad_keeps hlt r _) (by rw [hhold]; omega)

theorem OneRequest.denies (h : OneRequest p r b s) (hl : headroom s < rowLacks s p r)
    (hmin : headroom s < max 1 (F.CAD_PCFG.PMIN.get s.cadp[p].actPcfg)) (hle : committed s ≤ b) :
    RequestResolved p b 3 (coverAt s r.volt s.cadp[p].hold) (deniedCad r) id s (boundary s) := by
  have hres : rowResolution s = [(rowReqOf s p r, .deny)] := by
    rw [h.resolution]
    exact resolve_denied [] (Nat.lt_of_sub_pos (Nat.zero_lt_of_lt hl)) rfl hl hmin
  have ha := (rowApplied_one hres).trans (applyOutcome_deny rfl { s with free := s.free + 1 })
  have hg := coverAt_free h.rising (s.free + 1) r.volt s.cadp[p].hold
  have hsame : (deniedCad r s.cadp[p]).hold = s.cadp[p].hold := rfl
  rw [← hg]
  exact boundary_resolves h.calm h.unserved (by decide) ha (deniedCad_keeps r _) (by rw [hsame]; omega)

end

theorem grantedPort_limits {v : Nat} (hv : v < 1024) (q : Port) :
    F.PTH_CEIL.CEIL.get (grantedPort v q).pth.ceil = v ∧ F.PTH_RATING.CAD_LIM.get (grantedPort v q).pth.rating = 0 :=
  ⟨(get_put F.PTH_CEIL.CEIL (by decide) v _).trans (Nat.mod_eq_of_lt hv), get_put F.PTH_RATING.CAD_LIM (by decide) 0 _⟩

/-! ## The commands (06 R168 to R170) -/

/-- Rows stand: the control die in reset, in standby, or rows paused (06 R170, 10 R294). -/
abbrev RowsStand (s : State) : Prop :=
  hwUp s = false ∨ s.cru.standby = true ∨ F.CAD_STAT.PAUSED.on s.cad.regs.stat = true

theorem rowsRun_of_not (h : ¬RowsStand s) :
    hwUp s = true ∧ s.cru.standby = false ∧ F.CAD_STAT.PAUSED.on s.cad.regs.stat = false := by
  simpa [RowsStand] using h

theorem rowsRun_of_calm (h : RowCalm s b) : ¬RowsStand s := by
  obtain ⟨hup, hstandby, -, hrun, -⟩ := h
  simp [RowsStand, hup, hstandby, hrun]

/-- The loss of ROW_SYNC noted or over (06 R169). -/
def synced (lost : Bool) (s : State) : State := { s with cad := { s.cad with syncLost := lost } }

theorem rowBoundary_stands (h : RowsStand s) : exec .rowBoundary s = .next s := by
  refine congrArg Host.Outcome.next (if_neg ?_)
  rcases h with h | h | h <;> simp [h]

theorem syncLost_stands (h : RowsStand s) : exec .syncLost s = .next s := by
  refine congrArg Host.Outcome.next (if_neg ?_)
  rcases h with h | h | h <;> simp [h]

theorem rowSyncEdge_stands (h : RowsStand s) (rise : Bool) (n : Nat) : exec (.rowSyncEdge rise n) s = .next s := by
  refine congrArg Host.Outcome.next (if_pos ?_)
  rcases h with h | h | h <;> simp [h]

theorem rowBoundary_follows (hs : F.CAD_ROWCFG.SYNC_EN.on s.cad.act.rowcfg = true) (hl : s.cad.syncLost = false) :
    exec .rowBoundary s = .next s :=
  congrArg Host.Outcome.next (if_neg (by simp [hs, hl]))

/-- A boundary of LEN. -/
theorem rowBoundary_acts (h : ¬RowsStand s)
    (hs : F.CAD_ROWCFG.SYNC_EN.on s.cad.act.rowcfg = false ∨ s.cad.syncLost = true) : exec .rowBoundary s =
      .next (boundary (synced (F.CAD_ROWCFG.SYNC_EN.on s.cad.act.rowcfg && s.cad.syncLost) s)) := by
  obtain ⟨hup, hstandby, hrun⟩ := rowsRun_of_not h
  exact congrArg Host.Outcome.next (if_pos (by rcases hs with hs | hs <;> simp [hup, hstandby, hrun, hs]))

theorem rowBoundary_free (h : ¬RowsStand s) (hs : F.CAD_ROWCFG.SYNC_EN.on s.cad.act.rowcfg = false) :
    exec .rowBoundary s = .next (boundary (synced false s)) := by
  rw [rowBoundary_acts h (.inl hs), hs]
  rfl

theorem rowBoundary_lost (h : ¬RowsStand s) (hs : F.CAD_ROWCFG.SYNC_EN.on s.cad.act.rowcfg = true)
    (hl : s.cad.syncLost = true) : exec .rowBoundary s = .next (boundary s) := by
  have hsame : synced true s = s := by
    rw [← hl]
    rfl
  rw [rowBoundary_acts h (.inr hl), hs, hl, Bool.and_self, hsame]

theorem rowSyncEdge_other {rise : Bool} (h : F.CAD_ROWCFG.SYNC_EN.on s.cad.act.rowcfg = false ∨
    F.CAD_ROWCFG.SYNC_EDGE.on s.cad.act.rowcfg = rise) (n : Nat) : exec (.rowSyncEdge rise n) s = .next s := by
  refine congrArg Host.Outcome.next (if_pos ?_)
  rcases h with h | h <;> simp [h]

/-- An edge of the row's polarity while rows run. -/
theorem rowSyncEdge_acts {rise : Bool} (h : ¬RowsStand s) (hs : F.CAD_ROWCFG.SYNC_EN.on s.cad.act.rowcfg = true)
    (he : F.CAD_ROWCFG.SYNC_EDGE.on s.cad.act.rowcfg = !rise) (n : Nat) : exec (.rowSyncEdge rise n) s =
      .next (if n < 250 then postCaddy (cadEvt F.CAD_EVT.SYNC_EARLY s) else boundary (synced false s)) := by
  obtain ⟨hup, hstandby, hrun⟩ := rowsRun_of_not h
  exact congrArg Host.Outcome.next (if_neg (by simp [hup, hstandby, hrun, hs, he]))

theorem rowSyncEdge_early {rise : Bool} (h : ¬RowsStand s) (hs : F.CAD_ROWCFG.SYNC_EN.on s.cad.act.rowcfg = true)
    (he : F.CAD_ROWCFG.SYNC_EDGE.on s.cad.act.rowcfg = !rise) {n : Nat} (hn : n < 250) :
    Moves (.rowSyncEdge rise n) s fun t => F.CAD_EVT.SYNC_EARLY.on t.cad.regs.evt = true ∧
      t.cad.row = s.cad.row ∧ t.cadp = s.cadp ∧ t.ports = s.ports := by
  have hx := rowSyncEdge_acts h hs he n
  rw [if_pos hn] at hx
  exact moves_of_postCaddy hx fun _ _ => ⟨on_set _ (by decide) (by decide) _, rfl, rfl, rfl⟩

theorem syncLost_idle (hs : F.CAD_ROWCFG.SYNC_EN.on s.cad.act.rowcfg = false) : exec .syncLost s = .next s :=
  congrArg Host.Outcome.next (if_neg (by simp [hs]))

theorem syncLost_acts (h : ¬RowsStand s) (hs : F.CAD_ROWCFG.SYNC_EN.on s.cad.act.rowcfg = true) :
    exec .syncLost s = .next (boundary (postCaddy (cadEvt F.CAD_EVT.SYNC_LOST (synced true s)))) := by
  obtain ⟨hup, hstandby, hrun⟩ := rowsRun_of_not h
  exact congrArg Host.Outcome.next (if_pos (by simp [hup, hstandby, hrun, hs]))

theorem rowBoundary_calm (h : RowCalm s b) : exec .rowBoundary s = .next (boundary (synced false s)) := by
  have hrun := rowsRun_of_calm h
  obtain ⟨-, -, hsync, -⟩ := h
  exact rowBoundary_free hrun hsync

end

/-- Settles O44: a boundary of either kind is the same function of the state, which closes the row and, with one
request, grants it, grants it in part or denies it by the headroom. -/
theorem rowBoundariesResolveRequests : Obligations.RowBoundariesResolveRequests := by
  intro s sync paused lost rowEnd
  refine ⟨fun h => ⟨rowBoundary_stands h, syncLost_stands h, rowSyncEdge_stands h⟩,
    fun h => ⟨fun hs hl => rowBoundary_follows hs hl, fun hs => rowBoundary_free h hs,
      fun hs hl => rowBoundary_lost h hs hl⟩, ?_, ?_, ?_, ?_, fun hs => syncLost_idle hs⟩
  · intro b hc hnone hle
    exact ⟨_, rowBoundary_calm hc, boundary_noRequest (s := synced false s) hc hnone hle⟩
  · intro b p r hreq hc hen hserved hothers hrising hvolt c u lacks least
    have hone : OneRequest p r b (synced false s) := ⟨hc, hen, hserved, hreq, hothers, hrising⟩
    refine ⟨fun hl hu hle => ?_, fun hl hmin hu hle => ?_, fun hl hmin hle => ?_⟩ <;>
      refine ⟨_, rowBoundary_calm hc, ?_⟩
    · obtain ⟨hended, hhold, hnone, -, hwindow, hports, hrest⟩ := hone.grants hl hu hle
      generalize boundary (synced false s) = t at *
      have hport : t.ports[p] = grantedPort r.volt s.ports[p] := by rw [hports]; exact modPort_port p _ _
      refine ⟨hended, hhold.trans (grantedCad_hold hu), hnone.trans (grantedCad_req u c), hwindow, ?_, ?_,
        fun q hq => ⟨hrest q hq, ?_⟩⟩
      · rw [hport]
        exact (grantedPort_limits hvolt _).1
      · rw [hport]
        exact (grantedPort_limits hvolt _).2
      · rw [hports]
        exact modPort_other p _ _ q hq
    · obtain ⟨hended, hhold, hnone, hstand, hwindow, hports, -⟩ := hone.grantsInPart hl hmin hu hle
      generalize boundary (synced false s) = t at *
      have hlt : c.snapHold + headroom s < 65536 := by omega
      have hheld : t.cadp[p].hold = max c.hold (c.snapHold + headroom s) := hhold.trans (partialCad_hold hlt)
      refine ⟨hended, hheld, hnone, hstand, ?_, hports.trans ?_⟩
      · rw [hheld]
        exact hwindow
      · rw [modPort_eq_self rfl]
        rfl
    · obtain ⟨hended, hhold, hnone, hstand, hwindow, hports, -⟩ := hone.denies hl hmin hle
      generalize boundary (synced false s) = t at *
      refine ⟨hended, hhold, hnone, hstand, hwindow, hports.trans ?_⟩
      rw [modPort_eq_self rfl]
      rfl
  · intro rise n
    refine ⟨fun h => rowSyncEdge_other h n, fun h hs he => ⟨fun hn => rowSyncEdge_early h hs he hn, fun hn => ?_⟩⟩
    rw [rowSyncEdge_acts h hs he, if_neg (Nat.not_lt.mpr hn)]
    rfl
  · intro h hs noted
    obtain ⟨x, y, e⟩ := postCaddy_eq noted
    refine ⟨?_, syncLost_acts h hs⟩
    rw [e]

end Sys2Proof.Machine

/-! SUPPORT. The frame boundary that begins streaming (07 R202): its TIME marker comes first, and the ABSENT markers of the
ADCs that failed during the ending frame follow it at the same boundary. -/

namespace Sys2Proof.Machine
open Sys2Proof

theorem packBits_length (n : Nat) (l : List Bool) : (packBits n l).length = n := by
  induction n generalizing l with
  | zero => rfl
  | succ n ih => simp [packBits, ih]

theorem timeMarker_length (t : Nat) : (timeMarker t).length = 9 := packBits_length _ _

theorem absentMarker_length (a t : Nat) : (absentMarker a t).length = 10 := packBits_length _ _

section
variable {s : State}

/-! ## The ring (07 R199, R204) -/

theorem telWoff_ringBytes (l : List Byte) (s : State) : telWoff (ringBytes l s) = (telWoff s + l.length) % ringSize := by
  refine (get_put F.TEL_WOFF.OFFSET rfl _ _).trans (Nat.mod_eq_of_lt ?_)
  exact Nat.mod_lt _ (by decide)

/-- A marker that fits before the ring's end is written as it is. -/
theorem record_fits {l : List Byte} (t : Nat) (hdrop : F.TEL_STAT.DROPPING.on s.tel.stat = false)
    (hend : telWoff s + l.length ≤ ringSize) (hfree : l.length ≤ telFree s) : record t false l s = ringBytes l s := by
  have hput : putRecord l s = some (ringBytes l s) := by simp [putRecord, Nat.not_lt.mpr hend, hfree]
  simp [record, hdrop, hput]

/-- A boundary at which no block is in progress writes none. -/
theorem telWoff_writeBlocks_idle (t : Nat) (l : List (Fin 297)) (h : ∀ ch : Fin 297, s.codec.chans[ch].block = none) :
    telWoff (writeBlocks t l s) = telWoff s := by
  have hput : putBlocks t l s = s := by
    unfold putBlocks
    refine List.foldl_fixed' (fun ch => ?_) l
    simp only [h]
  simp [writeBlocks, hput, telWoff]

/-! ## The boundary (07 R202) -/

theorem exec_frameBoundary (hup : hwUp s = true) (hstandby : s.cru.standby = false) :
    exec .frameBoundary s = .next (frameBoundary s) :=
  congrArg Host.Outcome.next (if_pos (by rw [hup, hstandby]; rfl))

/-- The frame that a boundary begins. -/
def nextFrame (s : State) : Nat := max (s.codec.frame + 1) (s.time / 512)

/-- The state in which the boundary that begins streaming writes its first record. -/
def streamBegun (s : State) : State :=
  { s with
    time := max s.time (512 * nextFrame s)
    tel := { s.tel with stat := F.TEL_STAT.RUN.set s.tel.stat }
    codec := { s.codec with frame := nextFrame s } }

theorem streamBegun_dropping (s : State) :
    F.TEL_STAT.DROPPING.on (streamBegun s).tel.stat = F.TEL_STAT.DROPPING.on s.tel.stat :=
  on_set_apart _ _ rfl _

/-- After the TIME marker. -/
def timeMarked (s : State) : State := ringBytes (timeMarker (512 * nextFrame s)) (streamBegun s)

/-- After the ABSENT markers of the ADCs that failed. -/
def absentMarked (s : State) : State :=
  s.codec.failed.foldl (fun u x => record (512 * nextFrame s) false (absentMarker x.1 x.2) u) (timeMarked s)

/-- No ADC failure waits for its marker. -/
def failuresMarked (s : State) : State := { s with codec := { s.codec with failed := [] } }

theorem timeMarked_dropping (s : State) :
    F.TEL_STAT.DROPPING.on (timeMarked s).tel.stat = F.TEL_STAT.DROPPING.on s.tel.stat :=
  streamBegun_dropping s

theorem telWoff_timeMarked (s : State) : telWoff (timeMarked s) = (telWoff s + 9) % ringSize := by
  rw [timeMarked, telWoff_ringBytes, timeMarker_length]
  rfl

/-- With room for the TIME marker the boundary that begins streaming writes it, then the ABSENT markers, then the blocks. -/
theorem frameBoundary_starts (hen : F.TEL_CTL.EN.on s.tel.ctl = true) (hrun : F.TEL_STAT.RUN.on s.tel.stat = false)
    (hdrop : F.TEL_STAT.DROPPING.on s.tel.stat = false) (hend : telWoff s + 9 ≤ ringSize) (hfree : 9 ≤ telFree s) :
    frameBoundary s = writeBlocks (512 * nextFrame s) (endingChans s.codec.frame (nextFrame s))
      (failuresMarked (absentMarked s)) := by
  have hrestart : ringRestart (512 * nextFrame s) (streamBegun s) = streamBegun s := by
    simp [ringRestart, streamBegun_dropping, hdrop]
  have hmarker : record (512 * nextFrame s) false (timeMarker (512 * nextFrame s)) (streamBegun s) = timeMarked s := by
    refine record_fits _ ((streamBegun_dropping s).trans hdrop) ?_ ?_ <;> rw [timeMarker_length]
    · exact hend
    · exact hfree
  have hbegins : (F.TEL_CTL.EN.on s.tel.ctl && !F.TEL_STAT.RUN.on s.tel.stat) = true := by rw [hen, hrun]; rfl
  unfold frameBoundary
  extract_lets f0 f t _ advanced was en _ begun dropping restarted resumed timed absents _ ended
  have hbegun : begun = streamBegun s := if_pos hbegins
  have hrestarted : restarted = streamBegun s := (congrArg (ringRestart t) hbegun).trans hrestart
  have htimed : timed = timeMarked s := (if_pos (Bool.or_eq_true_iff.mpr (.inl hbegins))).trans
    ((congrArg (record t false (timeMarker t)) hrestarted).trans hmarker)
  have habsents : absents = absentMarked s := (if_pos (Bool.or_eq_true_iff.mpr (.inr hen))).trans (by rw [htimed]; rfl)
  have hended : ended = writeBlocks t (endingChans f0 f) (failuresMarked (absentMarked s)) :=
    congrArg (fun u => writeBlocks t (endingChans f0 f) (failuresMarked u)) habsents
  have hgoes : ¬(was && !en) = true := by simp [was, advanced, hrun]
  exact (if_neg hgoes).trans hended

/-! ## The ring after that boundary -/

/-- With no block in progress, the records of that boundary are its markers. -/
theorem telWoff_frameBoundary_starts (hen : F.TEL_CTL.EN.on s.tel.ctl = true)
    (hrun : F.TEL_STAT.RUN.on s.tel.stat = false) (hdrop : F.TEL_STAT.DROPPING.on s.tel.stat = false)
    (hidle : ∀ ch : Fin 297, s.codec.chans[ch].block = none) {a u : Nat} (hfailed : s.codec.failed = [(a, u)])
    (hend : telWoff s + 19 ≤ ringSize) (hfree : 19 ≤ telFree s) :
    telWoff (frameBoundary s) = (telWoff s + 19) % ringSize := by
  have hroom : telWoff s + 9 < ringSize := by omega
  have hwoff : telWoff (timeMarked s) = telWoff s + 9 := (telWoff_timeMarked s).trans (Nat.mod_eq_of_lt hroom)
  have hfits : 10 ≤ telFree (timeMarked s) := by
    have hroff : telRoff (timeMarked s) = telRoff s := rfl
    rw [telFree] at hfree ⊢
    rw [hroff, hwoff]
    simp only [ringSize] at *
    omega
  have habsent : absentMarked s = ringBytes (absentMarker a u) (timeMarked s) := by
    rw [absentMarked, hfailed]
    refine record_fits _ ((timeMarked_dropping s).trans hdrop) ?_ ?_ <;> rw [absentMarker_length]
    · omega
    · exact hfits
  have hchans : (failuresMarked (absentMarked s)).codec.chans = s.codec.chans := by rw [habsent]; rfl
  calc telWoff (frameBoundary s)
      = telWoff (writeBlocks _ _ (failuresMarked (absentMarked s))) :=
        congrArg telWoff (frameBoundary_starts hen hrun hdrop (by omega) (by omega))
    _ = telWoff (failuresMarked (absentMarked s)) := telWoff_writeBlocks_idle _ _ (hchans ▸ hidle)
    _ = telWoff (absentMarked s) := rfl
    _ = (telWoff s + 19) % ringSize := by rw [habsent, telWoff_ringBytes, hwoff, absentMarker_length]

end

/-- A running device at time 0 whose streaming is enabled and begins at the next boundary. -/
def startsNext : State :=
  { State.reset with
    boot := { Boot.reset with phase := .running }
    tel := { TelRegs.reset with ctl := F.TEL_CTL.EN.mask } }

/-- The same after ADC 0 has failed. -/
def failedBeforeStart : State :=
  match exec (.adcFailure 0) startsNext with
  | .next t => t
  | _ => startsNext

theorem failedBeforeStart_reached : exec (.adcFailure 0) startsNext = .next failedBeforeStart := rfl

/-- It meets what the statement asks before the boundary that begins streaming, and one ADC failure waits for its marker. -/
theorem failedBeforeStart_meets :
    hwUp failedBeforeStart = true ∧ failedBeforeStart.cru.standby = false ∧
      F.TEL_CTL.EN.on failedBeforeStart.tel.ctl = true ∧ F.TEL_STAT.RUN.on failedBeforeStart.tel.stat = false ∧
      F.TEL_STAT.DROPPING.on failedBeforeStart.tel.stat = false ∧ telWoff failedBeforeStart = 0 ∧
      19 ≤ telFree failedBeforeStart ∧ (∀ ch : Fin 297, failedBeforeStart.codec.chans[ch].block = none) ∧
      failedBeforeStart.codec.failed = [(0, 0)] := by
  decide +kernel

/-- Refutes O40: the boundary that begins streaming does not always write the TIME marker alone. The statement says so
wherever no block is in progress, but an ADC that failed during the ending frame has its ABSENT marker written after it
(07 R202): with `failedBeforeStart` TEL_WOFF moves from 0 to 19, the TIME marker's 9 bytes and the ABSENT marker's 10,
where the statement gives 9. -/
theorem not_telemetrySamplesAndFrames : ¬ Obligations.TelemetrySamplesAndFrames := by
  unfold Obligations.TelemetrySamplesAndFrames
  intro h
  obtain ⟨hup, hstandby, hen, hrun, hdrop, hwoff, hfree, hidle, hfailed⟩ := failedBeforeStart_meets
  obtain ⟨-, -, -, hboundary, -⟩ := h failedBeforeStart
  obtain ⟨-, hstarts⟩ := hboundary hup hstandby
  obtain ⟨t, ht, hnine, -⟩ := hstarts hen hrun hdrop (by omega) (by omega) hidle
  have hnineteen := telWoff_frameBoundary_starts hen hrun hdrop hidle hfailed (by rw [hwoff]; decide) hfree
  have htu : t = frameBoundary failedBeforeStart :=
    Host.Outcome.next.inj (ht.symm.trans (exec_frameBoundary hup hstandby))
  rw [htu, hnineteen, hwoff] at hnine
  exact absurd hnine (by decide)

end Sys2Proof.Machine

/-! SUPPORT. The session commands (08 R225, R226, 09 Table CMD-3): the version and the number that HELLO finds, and the
completion of a command that changes nothing but the session. -/

namespace Sys2Proof.Machine
open Sys2Proof

/-! ## What a completion shows of its result (08 Table HST-6) -/

/-- The two low bytes depend on the low half word alone. -/
theorem bytes2_mod (n : Nat) : bytes2 (n % 65536) = bytes2 n := by
  have hlow : BitVec.ofNat 8 (n % 65536) = BitVec.ofNat 8 n := by
    apply BitVec.eq_of_toNat_eq
    simp only [BitVec.toNat_ofNat]
    omega
  have hhigh : BitVec.ofNat 8 (n % 65536 / 256) = BitVec.ofNat 8 (n / 256) := by
    apply BitVec.eq_of_toNat_eq
    simp only [BitVec.toNat_ofNat]
    omega
  rw [bytes2, bytes2, hlow, hhigh]

theorem padTo_padTo (n : Nat) (l : List Byte) : padTo n (padTo n l) = padTo n l := by
  conv_lhs => rw [padTo, List.take_append_of_le_length (length_padTo n l).ge, List.take_of_length_le (length_padTo n l).le]

theorem padTo_take (n : Nat) (l : List Byte) : padTo n (l.take n) = padTo n l := by
  unfold padTo
  rw [List.take_append, List.take_append, List.take_take, Nat.min_self, List.take_replicate, List.take_replicate,
    List.length_take]
  congr 2
  omega

/-- An entry shows 16 bytes of its result. -/
theorem cplBytes_congr (s : State) (tag opc port : Nat) (st : Status) {r r' : List Byte} (h : padTo 16 r = padTo 16 r') :
    cplBytes s tag opc port st r = cplBytes s tag opc port st r' := by
  rw [cplBytes, cplBytes, h]

theorem complete_congr (tag opc port : Nat) (st : Status) {r r' : List Byte} (h : padTo 16 r = padTo 16 r') (s : State) :
    complete tag opc port st r s = complete tag opc port st r' s := by
  rw [complete, complete, putCpl, putCpl, cplBytes_congr _ _ _ _ _ h]

/-! ## HID_SESSION (08 R225) -/

/-- HID_SESSION with a value. -/
def withSession (w : Word) (s : State) : State := { s with host := { s.host with session := w } }

/-- The number of the session that a HELLO leaves. -/
def nextNumber (old : Word) (cur : Nat) : Nat :=
  let n := old.toNat % 65536
  if cur = 0 then n else if n = 65535 then 1 else n + 1

theorem nextSession_eq (old : Word) (cur : Nat) :
    nextSession old cur = BitVec.ofNat 32 (65536 * cur + nextNumber old cur) := by
  by_cases h : cur = 0
  · simp [nextSession, nextNumber, h]
  · simp [nextSession, nextNumber, h]

/-- The low half of HID_SESSION is the session's number. -/
theorem bytes2_nextSession (old : Word) (cur : Nat) :
    bytes2 (nextSession old cur).toNat = bytes2 (nextNumber old cur) := by
  rw [nextSession_eq, BitVec.toNat_ofNat, ← bytes2_mod, ← bytes2_mod (nextNumber old cur)]
  congr 1
  omega

/-- A version that lies in both ranges and that no other one there exceeds is the one the device selects; with none in
both, 0. -/
theorem commonVersion_eq {s : State} {lo hi cur : Nat}
    (hin : cur ≠ 0 → lo ≤ cur ∧ cur ≤ hi ∧ (protoWord s).toNat % 65536 ≤ cur ∧ cur ≤ (protoWord s).toNat / 65536)
    (hmax : ∀ v, lo ≤ v ∧ v ≤ hi ∧ (protoWord s).toNat % 65536 ≤ v ∧ v ≤ (protoWord s).toNat / 65536 → v ≤ cur) :
    commonVersion s lo hi = cur := by
  unfold commonVersion
  dsimp only
  generalize (protoWord s).toNat % 65536 = dlo at hin hmax ⊢
  generalize (protoWord s).toNat / 65536 = dhi at hin hmax ⊢
  split
  next h =>
    have hle := hmax (min hi dhi) (by omega)
    by_cases hz : cur = 0
    · omega
    · have hboth := hin hz
      omega
  next h =>
    by_contra hz
    have hboth := hin (Ne.symm hz)
    omega

/-! ## Completion of a system command -/

section
variable {i : Instr} {h : Hdr} {opc : Nat} {s : State}

/-- A command of the system part that changes the session at most and completes. -/
theorem replies_done {r : List Byte} {w : Word} (hp : h.port = 255)
    (hx : exec i s = .next (done h opc r (withSession w s))) :
    Replies i s h opc .ok r (OnlyHost (withSession w s)) :=
  ⟨_, hx, answered_system h opc .ok r (withSession w s) (by rw [hp, portOf_255])⟩

/-- A command of the system part that only completes. -/
theorem replies_report {r : List Byte} (hp : h.port = 255) (hx : exec i s = .next (done h opc r s)) :
    Replies i s h opc .ok r (OnlyHost s) :=
  replies_done (w := s.host.session) hp hx

/-! ## The commands (09 Table CMD-3) -/

theorem hello_replies {lo hi cur : Nat} (hk : Ready h 0x001 (h.fence || sessionOpen s) s) (hp : h.port = 255)
    (hlo : lo < 65536) (hhi : hi < 65536) (hcur : commonVersion s lo hi = cur) :
    Replies (.hello h lo hi) s h 0x001 .ok
      (bytes2 cur ++ bytes2 (nextNumber s.host.session cur) ++ wordBytes (protoWord s))
      (OnlyHost (withSession (nextSession s.host.session cur) s)) := by
  have hbad : (h.port != 255 || decide (65536 ≤ lo) || decide (65536 ≤ hi)) = false := by
    simp [hp, hlo, hhi]
  refine replies_done hp ?_
  calc exec (.hello h lo hi) s
      = command h 0x001 (h.fence || sessionOpen s) true
          (h.port != 255 || decide (65536 ≤ lo) || decide (65536 ≤ hi)) (hello h lo hi) s := rfl
    _ = .next (hello h lo hi s) := by rw [hbad, command_ready hk]
    _ = _ := by rw [← bytes2_nextSession, ← hcur]; rfl

theorem goodbye_replies (hk : Ready h 0x002 true s) (ho : sessionOpen s = true) (hp : h.port = 255) :
    Replies (.goodbye h) s h 0x002 .ok [] (OnlyHost (withSession (nextSession s.host.session 0) s)) := by
  refine replies_done hp ?_
  rw [show exec (.goodbye h) s = execGoodbye h s from rfl, execGoodbye, bne_eq_false_iff_eq.mpr hp, command_taken hk ho]
  rfl

theorem identify_replies (hk : Ready h 0x003 h.fence s) (hp : h.port = 255) :
    Replies (.identify h) s h 0x003 .ok (identifyResult s) (OnlyHost s) := by
  refine replies_report hp ?_
  rw [show exec (.identify h) s = execIdentify h s from rfl, execIdentify, bne_eq_false_iff_eq.mpr hp, command_ready hk]

theorem echo_replies {payload : List Byte} (hk : Ready h 0x004 h.fence s) (hp : h.port = 255)
    (hlen : payload.length ≤ 56) :
    Replies (.echo h payload) s h 0x004 .ok (payload.take 16) (OnlyHost s) := by
  have hbad : (h.port != 255 || decide (56 < payload.length)) = false := by simp [hp, hlen]
  have hpad : padTo 16 (padTo 16 payload) = padTo 16 (payload.take 16) := by rw [padTo_padTo, padTo_take]
  refine replies_report hp ?_
  rw [show exec (.echo h payload) s = execEcho h payload s from rfl, execEcho, hbad, command_ready hk]
  exact congrArg _ (complete_congr h.tag 0x004 h.port .ok hpad s)

theorem timeSync_replies {consumed : Nat} (hk : TakenSys h 0x005 s) (hc : consumed ≤ s.time) :
    Replies (.timeSync h consumed) s h 0x005 .ok (bytes8 consumed ++ bytes8 s.time) (OnlyHost s) := by
  refine replies_report hk.2 ?_
  rw [show exec (.timeSync h consumed) s = execTimeSync h consumed s from rfl, execTimeSync, sysCommand_taken hk,
    Nat.min_eq_left hc]

end

/-! ## The obligation -/

/-- Settles O9: HELLO by the version that both ranges hold, GOODBYE by the session it closes, and the commands that only
report by their result. -/
theorem sessionCommandsAnswer : Obligations.SessionCommandsAnswer := by
  unfold Obligations.SessionCommandsAnswer
  refine ⟨fun h lo hi cur s hk hp hlo hhi => ?_, fun h s hk ho hp => ?_, fun h s hk hp => ?_,
    fun h payload s hk hp hlen => echo_replies hk hp hlen, fun h consumed s hk hc => timeSync_replies hk hc⟩
  · intro dlo dhi both hin hmax old number
    have hello := hello_replies hk hp hlo hhi (commonVersion_eq hin hmax)
    rwa [nextSession_eq] at hello
  · exact goodbye_replies hk ho hp
  · have identify := identify_replies hk hp
    rwa [identifyResult, ← List.countP_eq_length_filter] at identify

end Sys2Proof.Machine

/-! SUPPORT. A host command before it is carried out (08 R219, R223, R226): every one goes through `command`, which makes it
wait, stops at a host error or refuses it without a session. -/

namespace Sys2Proof.Machine
open Sys2Proof

/-- The commands that the device carries out without a session (08 R226): HELLO, IDENTIFY, ECHO and SYS_HEALTH. -/
def sessionless : List Nat := [0x001, 0x003, 0x004, 0x802]

/-- The outcome is that of `command`, which acts with FENCE when the entry carries it, and without a session only where
the opcode is sessionless. -/
def ViaCommand (h : Hdr) (opc : Nat) (s : State) (o : Host.Outcome State Fault Refusal) : Prop :=
  ∃ (fence anySession bad : Bool) (f : State → State), o = command h opc fence anySession bad f s ∧
    (h.fence = true → fence = true) ∧ (anySession = true → opc ∈ sessionless)

section
variable {h : Hdr} {opc : Nat} {s : State} {o : Host.Outcome State Fault Refusal}

theorem viaCommand_session (bad : Bool) (f : State → State) :
    ViaCommand h opc s (command h opc h.fence false bad f s) :=
  ⟨h.fence, false, bad, f, rfl, id, by simp⟩

theorem viaCommand_sysCommand (bad : Bool) (f : State → State) : ViaCommand h opc s (sysCommand h opc bad f s) :=
  viaCommand_session _ f

theorem viaCommand_portCommand (bad : Bool) (f : PortId → State → State) :
    ViaCommand h opc s (portCommand h opc bad f s) := by
  unfold portCommand
  split
  · exact viaCommand_session _ _
  · exact viaCommand_session _ _

theorem viaCommand_sessionless (fence bad : Bool) (hf : h.fence = true → fence = true) (ho : opc ∈ sessionless)
    (f : State → State) : ViaCommand h opc s (command h opc fence true bad f s) :=
  ⟨fence, true, bad, f, rfl, hf, fun _ => ho⟩

theorem viaCommand_msgSend (sopt msg : Nat) (data : List Byte) (rboff : Nat) :
    ViaCommand h 0x203 s (execMsgSend h sopt msg data rboff s) := by
  unfold execMsgSend
  split
  · exact viaCommand_portCommand _ _
  · exact viaCommand_portCommand _ _

/-- Every host command of 09 Table CMD-2. -/
theorem exec_viaCommand {i : Instr} (hi : hostOpc? i = some (h, opc)) : ViaCommand h opc s (exec i s) := by
  cases i with
  | hello | identify | echo | sysHealth =>
    cases hi
    unfold exec
    exact viaCommand_sessionless _ _ (by simp +contextual) (by decide) _
  | goodbye =>
    cases hi
    unfold exec
    exact ⟨true, false, _, _, rfl, fun _ => rfl, by simp⟩
  | msgSend =>
    cases hi
    unfold exec
    exact viaCommand_msgSend _ _ _ _
  | portConfig | portEnable | portDisable | portStatus | portSwap | portCaps | portHardReset | portClearRetry | portCaptive
  | vdmSend | vdmRespond | authChallenge | discover | pathCurve | pathLimits | pathStatus =>
    cases hi
    unfold exec
    exact viaCommand_portCommand _ _
  | caddyClass | caddyStatus | telConfig | telSnapshot =>
    cases hi
    unfold exec
    exact viaCommand_session _ _
  | timeSync | caddyFeeds | caddyRow | caddyShed | feedPriority | telStart | telStop | evtRoute | evtMask | updFromCard
  | updBegin | updBlock | updEnd | updActivate | updState | updAbort | sysRestart | sysSettingsSave | sysSettingsDefault
  | sysLogRead | sysPerf | otpRead | otpProgram | otpMarginScan | otpLock | busXfer =>
    cases hi
    unfold exec
    exact viaCommand_sysCommand _ _
  | _ => cases hi

/-! ## What `command` does -/

theorem command_unserved (hs : hostServed s = false) (fence any bad : Bool) (f : State → State) :
    command h opc fence any bad f s = .next s := by
  simp [command, hs]

theorem command_blocked {fence : Bool} (hb : blocked h opc fence s = true) (any bad : Bool) (f : State → State) :
    command h opc fence any bad f s = .next s := by
  simp [command, hb]

theorem command_tagTaken {fence : Bool} (hs : hostServed s = true) (hb : blocked h opc fence s = false)
    (ht : tagFree h opc s = false) (any bad : Bool) (f : State → State) :
    command h opc fence any bad f s = .fault .hostError := by
  simp [command, hs, hb, ht]

theorem command_bad {fence : Bool} (hk : Ready h opc fence s) (any : Bool) (f : State → State) :
    command h opc fence any true f s = .fault .hostError := by
  obtain ⟨hs, hb, -⟩ := hk
  simp [command, hs, hb]

theorem command_locked {fence : Bool} (hk : Ready h opc fence s) (ho : sessionOpen s = false) (f : State → State) :
    command h opc fence false false f s = .next (complete h.tag opc h.port .locked [] s) := by
  obtain ⟨hs, hb, ht⟩ := hk
  simp [command, hs, hb, ht, ho]

/-- What makes a command wait makes one with FENCE wait. -/
theorem blocked_fence {fence : Bool} (hf : h.fence = true → fence = true) (hb : blocked h opc h.fence s = true) :
    blocked h opc fence s = true := by
  cases fence with
  | true =>
    simp only [blocked, Bool.or_eq_true, List.any_eq_true] at hb ⊢
    refine hb.imp ?_ ?_
    · rintro ⟨c, hc, -⟩
      exact ⟨c, hc, by simp⟩
    · rintro ⟨w, hw, -⟩
      exact ⟨w, hw, by simp⟩
  | false =>
    have hoff : h.fence = false := by simpa using hf
    rwa [hoff] at hb

/-- What does not make a command with FENCE wait makes none wait. -/
theorem not_blocked_of_fence (hb : blocked h opc true s = false) (fence : Bool) : blocked h opc fence s = false := by
  cases fence with
  | true => exact hb
  | false =>
    simp only [blocked, Bool.or_eq_false_iff, List.any_eq_false] at hb ⊢
    obtain ⟨hconsumed, hwaits⟩ := hb
    exact ⟨fun c hc => by simpa using hconsumed c hc, fun w hw => by simpa using hwaits w hw⟩

/-! ## The refusal (08 R226) -/

/-- A completion changes the host side and the event queue of the command's port, if it names one. -/
theorem completed_locked (h : Hdr) (opc : Nat) (s : State) :
    Answered h opc .locked [] s (complete h.tag opc h.port .locked [] s) ∧
      { complete h.tag opc h.port .locked [] s with host := s.host, ports := s.ports } = s ∧
      ∀ p : PortId, (complete h.tag opc h.port .locked [] s).ports[p].noQueue = s.ports[p].noQueue := by
  cases hp : portOf h.port with
  | none =>
    obtain ⟨hans, honly⟩ := answered_system h opc .locked [] s hp
    refine ⟨hans, ?_⟩
    rw [eq_of_onlyHost honly]
    exact ⟨rfl, fun _ => rfl⟩
  | some p =>
    obtain ⟨hans, hrest, -, -, hothers, hport⟩ := answered_port h opc .locked [] s p hp
    refine ⟨hans, hrest, fun r => ?_⟩
    by_cases hr : r = p
    · rw [hr]
      exact hport
    · rw [hothers r hr]

/-- Without a session a command that needs one is a host error or is refused. -/
theorem viaCommand_locked {i : Instr} (hv : ViaCommand h opc s (exec i s)) (hk : Ready h opc true s)
    (ho : sessionOpen s = false) (hopc : opc ∉ sessionless) :
    exec i s = .fault .hostError ∨
      Replies i s h opc .locked [] fun t => { t with host := s.host, ports := s.ports } = s ∧
        ∀ p : PortId, t.ports[p].noQueue = s.ports[p].noQueue := by
  obtain ⟨fence, anySession, bad, f, hx, -, hany⟩ := hv
  have hneeds : anySession = false := by
    by_contra hne
    exact hopc (hany (by simpa using hne))
  obtain ⟨hs, hb, ht⟩ := hk
  have hready : Ready h opc fence s := ⟨hs, not_blocked_of_fence hb fence, ht⟩
  rw [hneeds] at hx
  cases bad with
  | true => exact .inl (hx.trans (command_bad hready _ _))
  | false => exact .inr ⟨_, hx.trans (command_locked hready ho _), completed_locked h opc s⟩

end

/-! ## The obligation -/

/-- Settles O10: every host command is a use of `command`, whose cases are the statement's. -/
theorem hostCommandsWaitAndNeedASession : Obligations.HostCommandsWaitAndNeedASession := by
  unfold Obligations.HostCommandsWaitAndNeedASession
  intro i h opc s hi
  have hv : ViaCommand h opc s (exec i s) := exec_viaCommand hi
  obtain ⟨fence, anySession, bad, f, hx, hf, -⟩ := id hv
  refine ⟨fun hs => ?_, fun _ hb => ?_, fun hs hb ht => ?_, fun hk ho hopc => viaCommand_locked hv hk ho hopc⟩
  · rw [hx, command_unserved hs]
  · rw [hx, command_blocked (blocked_fence hf hb)]
  · rw [hx, command_tagTaken hs (not_blocked_of_fence hb fence) ht]

end Sys2Proof.Machine

/-! SUPPORT. The event ring and the round of the fabric (08 R231 to R238): what an entry put into the ring leaves, what an
event that finds it full leaves, and which port the next transfer takes. -/

namespace Sys2Proof.Machine
open Sys2Proof

/-! ## Indices (08 R216) -/

section
variable (v : Nat) (s : State)

@[simp] theorem evtTail_setVector : evtTail (setVector v s) = evtTail s := by
  unfold setVector evtTail
  dsimp only
  split <;> rfl

@[simp] theorem evtHead_setVector : evtHead (setVector v s) = evtHead s := by
  unfold setVector evtHead
  dsimp only
  split <;> rfl

@[simp] theorem evtLost_setVector : (setVector v s).host.db.evtLost = s.host.db.evtLost := by
  unfold setVector
  dsimp only
  split <;> rfl

end

/-! ## An entry put into the ring (08 R217, R233) -/

section
variable (e : EvtEntry) (s : State)

/-- The entry stands whole at the tail. -/
theorem winRead_ringPut : winRead (ringPut e s) (0x30000 + 16 * (evtTail s % 4096)) 16 = evtBytes s e :=
  winRead_winWrite (0x30000 + 16 * (evtTail s % 4096)) (evtBytes s e) s

theorem evtTail_ringPut : evtTail (ringPut e s) = (evtTail s + 1) % 8192 := by
  unfold ringPut
  dsimp only
  rw [evtTail_setVector]
  refine (get_put F.DB_EVT_TAIL.INDEX rfl _ _).trans (Nat.mod_eq_of_lt ?_)
  exact Nat.mod_lt _ (by decide)

@[simp] theorem evtHead_ringPut : evtHead (ringPut e s) = evtHead s := evtHead_setVector _ _

@[simp] theorem evtLost_ringPut : (ringPut e s).host.db.evtLost = s.host.db.evtLost := evtLost_setVector _ _

end

/-! ## An event that reaches the ring (08 R235) -/

section
variable {s : State}

theorem ringEvent_put (ho : s.host.overflow = none) (hu : evtUsed s < 4096) (e : EvtEntry) :
    ringEvent e s = ringPut e s := by
  simp [ringEvent, ho, hu]

/-- An event lost, and counted. -/
def eventLost (s : State) : State :=
  { s with host := { s.host with
      overflow := some (s.host.overflow.getD 0 + 1)
      db := { s.host.db with evtLost := s.host.db.evtLost + 1 } } }

theorem ringEvent_lost (h : s.host.overflow ≠ none ∨ 4096 ≤ evtUsed s) (e : EvtEntry) :
    ringEvent e s = eventLost s := by
  have hfull : ¬(s.host.overflow.isNone && decide (evtUsed s < 4096)) = true := by
    rw [Bool.and_eq_true, Option.isNone_iff_eq_none, decide_eq_true_eq]
    rintro ⟨hnone, hlt⟩
    exact h.elim (· hnone) (by omega)
  exact if_neg hfull

theorem ports_ringEvent (e : EvtEntry) : (ringEvent e s).ports = s.ports := by
  rw [eq_of_onlyHost (ringEvent_host e s).2.2.2]

/-! ## From the context to the queue (08 R236) -/

/-- A port's held events moved into its queue. -/
def queueFilled (q : Port) : Port :=
  { q with pol := { q.pol with
      queue := q.pol.queue ++ q.pol.held.take (32 - q.pol.queue.length)
      held := q.pol.held.drop (32 - q.pol.queue.length) } }

theorem queueFilled_order (q : Port) :
    (queueFilled q).pol.queue ++ (queueFilled q).pol.held = q.pol.queue ++ q.pol.held := by
  simp [queueFilled]

theorem queueFilled_length (q : Port) : (queueFilled q).pol.queue.length ≤ max 32 q.pol.queue.length := by
  simp only [queueFilled, List.length_append, List.length_take]
  omega

/-- A queue with room has no event waiting behind it. -/
theorem queueFilled_room (q : Port) (h : (queueFilled q).pol.queue.length < 32) : (queueFilled q).pol.held = [] := by
  simp only [queueFilled, List.length_append, List.length_take] at h
  exact List.drop_eq_nil_of_le (by omega)

theorem eventQueueSpace_unserved {p : PortId} (h : portServed s p = false) : exec (.eventQueueSpace p) s = .next s := by
  show Host.Outcome.next (if portServed s p then fillQueue p s else s) = _
  rw [h]
  rfl

theorem eventQueueSpace_moves {p : PortId} (h : portServed s p = true) :
    MovesPort (.eventQueueSpace p) s p fun t => t = queueFilled s.ports[p] := by
  refine movesPort_of_modPort (f := queueFilled) ?_ rfl
  show Host.Outcome.next (if portServed s p then fillQueue p s else s) = _
  rw [h]
  rfl

/-! ## The round of the engines (08 R237) -/

/-- The engine at place `i` of the round. -/
def roundEng (s : State) (i : Nat) : EngId := ⟨(s.host.fabNext + i) % 13, Nat.mod_lt _ (by omega)⟩

theorem engRound_eq (s : State) : engRound s = (List.range 13).map (roundEng s) := rfl

/-- The first engine of the round with a pending transfer. -/
theorem find_engRound {d : Nat} (hd : d < 13) (hbefore : ∀ i < d, pendingPorts s (roundEng s i) = [])
    (hat : pendingPorts s (roundEng s d) ≠ []) :
    (engRound s).find? (fun e => !(pendingPorts s e).isEmpty) = some (roundEng s d) := by
  rw [engRound_eq, List.find?_map, List.find?_range_eq_some.mpr ⟨?_, ?_, ?_⟩, Option.map_some]
  · simpa using hat
  · exact List.mem_range.mpr hd
  · intro i hi
    simpa using hbefore i hi

theorem grantRobin_idle (h : ∀ e : EngId, pendingPorts s e = []) : grantRobin s = s := by
  have hnone : (engRound s).find? (fun e => !(pendingPorts s e).isEmpty) = none :=
    List.find?_eq_none.mpr fun e _ => by simp [h e]
  rw [grantRobin, hnone]

/-- A port's oldest event leaves its queue, and the round robins of its engine and of the fabric move on. -/
def eventTaken (e : EngId) (p : PortId) (q : List EvtEntry) (s : State) : State :=
  modPol p (fun l => { l with queue := q })
    { s with host := { s.host with engNext := s.host.engNext.set e ((p.val + 1) % 8) } }

theorem grantRobin_eq {d : Nat} {p : PortId} {l : List PortId} {x : EvtEntry} {q : List EvtEntry} (hd : d < 13)
    (hbefore : ∀ i < d, pendingPorts s (roundEng s i) = []) (hat : pendingPorts s (roundEng s d) = p :: l)
    (hq : s.ports[p].pol.queue = x :: q) :
    grantRobin s = setNext ((roundEng s d).val + 1) (ringEvent x (eventTaken (roundEng s d) p q s)) := by
  have hfind := find_engRound hd hbefore (by rw [hat]; exact List.cons_ne_nil p l)
  have hone : grantOne (roundEng s d) s = ringEvent x (eventTaken (roundEng s d) p q s) := by
    rw [grantOne, hat]
    dsimp only [transferOne]
    rw [hq]
    rfl
  rw [grantRobin, hfind]
  dsimp only
  rw [hone]

theorem exec_fabricTransferGrant (hu : cpUp s = true) (hw : s.host.weighted = false) :
    exec .fabricTransferGrant s = .next (grantRobin s) := by
  show Host.Outcome.next (if cpUp s then (if s.host.weighted then grantWeighted s else grantRobin s) else s) = _
  rw [hu, hw]
  rfl

theorem fabricTransferGrant_idle
    (h : cpUp s = false ∨ (s.host.weighted = false ∧ ∀ e : EngId, pendingPorts s e = [])) :
    exec .fabricTransferGrant s = .next s := by
  cases hu : cpUp s with
  | false =>
    show Host.Outcome.next (if cpUp s then (if s.host.weighted then grantWeighted s else grantRobin s) else s) = _
    rw [hu]
    rfl
  | true =>
    obtain hdown | ⟨hw, hidle⟩ := h
    · rw [hu] at hdown
      cases hdown
    · rw [exec_fabricTransferGrant hu hw, grantRobin_idle hidle]

/-! ## What a grant leaves -/

theorem ports_eventTaken (e : EngId) (p : PortId) (q : List EvtEntry) (s : State) :
    (eventTaken e p q s).ports[p] = { s.ports[p] with pol := { s.ports[p].pol with queue := q } } ∧
      ∀ r : PortId, r ≠ p → (eventTaken e p q s).ports[r] = s.ports[r] :=
  ⟨modPort_port _ _ _, fun r hr => modPort_other _ _ _ r hr⟩

/-- A grant changes the host side and takes the event from the port's queue. -/
theorem granted_frame (n : Nat) (e : EngId) (p : PortId) (x : EvtEntry) (q : List EvtEntry) (s : State) :
    let t := setNext n (ringEvent x (eventTaken e p q s))
    { t with host := s.host, ports := s.ports } = s ∧ t.ports = (eventTaken e p q s).ports ∧ t.host.fabNext = n % 13 := by
  refine ⟨?_, ports_ringEvent x, rfl⟩
  rw [eq_of_onlyHost (ringEvent_host x (eventTaken e p q s)).2.2.2]
  rfl

end

/-! ## The obligation -/

/-- Settles O24: the queue takes what it has room for, and a grant is the transfer of the first pending port of the first
engine of the round, whose event the ring takes or loses. -/
theorem eventsReachTheRingInOrder : Obligations.EventsReachTheRingInOrder := by
  unfold Obligations.EventsReachTheRingInOrder
  refine ⟨fun p s => ⟨eventQueueSpace_unserved, fun hserved => ?_⟩, fun s => ⟨fabricTransferGrant_idle, ?_⟩⟩
  · refine (eventQueueSpace_moves hserved).imp fun t ht => ?_
    rw [ht]
    exact ⟨rfl, queueFilled_order _, queueFilled_length _, queueFilled_room _⟩
  · intro hu hw d hd p l x q e hbefore hat hq
    obtain ⟨hframe, hports, hfab⟩ := granted_frame ((roundEng s d).val + 1) (roundEng s d) p x q s
    obtain ⟨hp, hr⟩ := ports_eventTaken (roundEng s d) p q s
    refine ⟨_, (exec_fabricTransferGrant hu hw).trans (congrArg _ (grantRobin_eq hd hbefore hat hq)), hframe, ?_, ?_,
      hfab, fun ho hroom => ?_, fun hfull => ?_⟩
    · rw [hports, hp]
    · intro r hne
      rw [hports, hr r hne]
    · rw [ringEvent_put (s := eventTaken (roundEng s d) p q s) ho hroom]
      exact ⟨winRead_ringPut x _, evtTail_ringPut x _, evtLost_ringPut x _⟩
    · rw [ringEvent_lost (s := eventTaken (roundEng s d) p q s) hfull]
      exact ⟨rfl, rfl, rfl, rfl⟩

end Sys2Proof.Machine

/-! SUPPORT. Doorbell writes and alert hold-offs (08 R217, R219, R233 to R235): each doorbell's index, what its write moves,
and the vectors that a write clears. -/

namespace Sys2Proof.Machine
open Sys2Proof

/-! ## The doorbells -/

section
variable {s : State} {v : Word}

/-- A doorbell that takes no writes discards them (08 R214, R228). -/
theorem doorbell_down (h : doorbellsUp s = false) (off : Nat) (v : Word) : doorbell off v s = some s := by
  simp [doorbell, h]

theorem exec_dbCmdTailWrite (h : doorbellsUp s = true) (v : Word) :
    exec (.dbCmdTailWrite v) s = orError (writeCmdTail v s) := by
  show orError (doorbell 0x1000 v s) = _
  simp [doorbell, h]

theorem exec_dbCplHeadWrite (h : doorbellsUp s = true) (v : Word) :
    exec (.dbCplHeadWrite v) s = orError (writeCplHead v s) := by
  show orError (doorbell 0x100C v s) = _
  simp [doorbell, h]

theorem exec_dbEvtHeadWrite (h : doorbellsUp s = true) (v : Word) :
    exec (.dbEvtHeadWrite v) s = orError (writeEvtHead v s) := by
  show orError (doorbell 0x1014 v s) = _
  simp [doorbell, h]

theorem exec_dbTelRoffWrite (h : doorbellsUp s = true) (v : Word) :
    exec (.dbTelRoffWrite v) s = orError (writeTelRoff v s) := by
  show orError (doorbell 0x1020 v s) = _
  simp [doorbell, h]

theorem exec_dbVpendClear (h : doorbellsUp s = true) (hi : Bool) (v : Word) :
    exec (.dbVpendClear hi v) s = .next (clearVectors hi v s) := by
  show orError (doorbell (if hi then 0x1034 else 0x1030) v s) = _
  cases hi <;> simp [doorbell, h, orError]

theorem doorbells_down (h : doorbellsUp s = false) (v : Word) :
    ∀ i ∈ [Instr.dbCmdTailWrite v, .dbCplHeadWrite v, .dbEvtHeadWrite v, .dbTelRoffWrite v, .dbVpendClear false v,
      .dbVpendClear true v], exec i s = .next s := by
  have hdown (off : Nat) : orError (doorbell off v s) = .next s := by rw [doorbell_down h]; rfl
  simp only [List.forall_mem_cons]
  exact ⟨hdown 0x1000, hdown 0x100C, hdown 0x1014, hdown 0x1020, hdown 0x1030, hdown 0x1034, by simp⟩

/-- A field that begins at bit 0 holds the low bits. -/
theorem get_low {f : Fld} (h : f.lo = 0) (w : Word) : f.get w = w.toNat % 2 ^ f.width := by
  rw [Fld.get, h, Nat.pow_zero, Nat.div_one]

/-- An index written whole reads back. -/
theorem get_put_low {f : Fld} (hlo : f.lo = 0) (hf : f.fits = true) (v old : Word) :
    f.get (f.put (f.get v) old) = v.toNat % 2 ^ f.width := by
  rw [get_put f hf, get_low hlo, Nat.mod_mod]

/-! ## DB_CMD_TAIL (08 R217, R219) -/

/-- The tail moved and, when it has moved, the doorbell line raised. -/
def tailMoved (v : Word) (s : State) : State :=
  let s1 := modDb (fun d => { d with cmdTail := F.DB_CMD_TAIL.INDEX.put (F.DB_CMD_TAIL.INDEX.get v) 0 }) s
  if F.DB_CMD_TAIL.INDEX.get v = cmdTail s then s1
  else modCore pairCore (fun k => { k with latched := setBit 0 k.latched }) s1

theorem tailMoved_eq (v : Word) (s : State) :
    tailMoved v s =
      { s with
        cores := (tailMoved v s).cores
        host := { s.host with db := { s.host.db with
          cmdTail := F.DB_CMD_TAIL.INDEX.put (F.DB_CMD_TAIL.INDEX.get v) 0 } } } := by
  unfold tailMoved
  dsimp only
  split <;> rfl

@[simp] theorem host_tailMoved (v : Word) (s : State) :
    (tailMoved v s).host = { s.host with db := { s.host.db with
      cmdTail := F.DB_CMD_TAIL.INDEX.put (F.DB_CMD_TAIL.INDEX.get v) 0 } } := by
  rw [tailMoved_eq]

theorem cmdTail_tailMoved (v : Word) (s : State) : cmdTail (tailMoved v s) = v.toNat % 1024 := by
  rw [cmdTail, host_tailMoved]
  exact get_put_low rfl rfl v 0

theorem cmdHead_tailMoved (v : Word) (s : State) : cmdHead (tailMoved v s) = cmdHead s := by
  rw [cmdHead, host_tailMoved]
  rfl

theorem hostServed_tailMoved (v : Word) (s : State) : hostServed (tailMoved v s) = hostServed s := by
  rw [tailMoved_eq]
  rfl

theorem latched_tailMoved (h : v.toNat % 1024 ≠ cmdTail s) :
    (tailMoved v s).cores[pairCore].latched = setBit 0 s.cores[pairCore].latched := by
  have hne : ¬F.DB_CMD_TAIL.INDEX.get v = cmdTail s := by
    rw [get_low rfl]
    exact h
  unfold tailMoved
  dsimp only
  rw [if_neg hne, Fin.getElem_fin, modCore_self]
  rfl

theorem entryAt_tailMoved (v : Word) (s : State) (slot : Nat) : entryAt (tailMoved v s) slot = entryAt s slot := by
  unfold entryAt winRead
  rw [host_tailMoved]

/-- The entries that a write of the tail adds. -/
def newEntries (v : Word) (s : State) : Nat := (v.toNat % 1024 + 1024 - cmdHead s) % 1024

theorem writeCmdTail_eq (v : Word) (s : State) :
    writeCmdTail v s = if 512 < newEntries v s || 512 < outstanding s (newEntries v s) then none
      else some (if hostServed (tailMoved v s) then consumeRing (tailMoved v s) else tailMoved v s) := by
  have hn : (F.DB_CMD_TAIL.INDEX.get v + 1024 - cmdHead s) % 1024 = newEntries v s := by
    rw [get_low rfl]
    rfl
  rw [writeCmdTail, hn]
  rfl

theorem writeCmdTail_taken (hn : newEntries v s ≤ 512) (ho : outstanding s (newEntries v s) ≤ 512) :
    writeCmdTail v s =
      some (if hostServed (tailMoved v s) then consumeRing (tailMoved v s) else tailMoved v s) := by
  rw [writeCmdTail_eq, if_neg (by simp [hn, ho])]

theorem writeCmdTail_none (h : ¬(newEntries v s ≤ 512 ∧ outstanding s (newEntries v s) ≤ 512)) :
    writeCmdTail v s = none := by
  rw [writeCmdTail_eq, if_pos]
  rw [Bool.or_eq_true, decide_eq_true_eq, decide_eq_true_eq]
  omega

theorem cmdTail_consumeRing (s : State) : cmdTail (consumeRing s) = cmdTail s := rfl

theorem cmdHead_consumeRing (s : State) : cmdHead (consumeRing s) = cmdTail s := by
  refine (get_put F.DB_CMD_HEAD.INDEX rfl _ _).trans (Nat.mod_eq_of_lt ?_)
  exact get_lt _ _

/-- The entries taken up are those between the head and the new tail, oldest first. -/
theorem consumed_tailMoved (v : Word) (s : State) :
    (consumeRing (tailMoved v s)).host.consumed =
      s.host.consumed ++ (List.range (newEntries v s)).map fun i => entryAt s ((cmdHead s + i) % 512) := by
  have hn : (cmdTail (tailMoved v s) + 1024 - cmdHead (tailMoved v s)) % 1024 = newEntries v s := by
    rw [cmdTail_tailMoved, cmdHead_tailMoved]
    rfl
  simp only [consumeRing, hn]
  simp only [entryAt_tailMoved, cmdHead_tailMoved, host_tailMoved]

theorem dbCmdTailWrite_taken (hup : doorbellsUp s = true) (hn : newEntries v s ≤ 512)
    (ho : outstanding s (newEntries v s) ≤ 512) :
    ∃ t, exec (.dbCmdTailWrite v) s = .next t ∧ cmdTail t = v.toNat % 1024 ∧
      (v.toNat % 1024 ≠ cmdTail s → t.cores[pairCore].latched = setBit 0 s.cores[pairCore].latched) ∧
      t.host.waits = s.host.waits ∧ t.host.window = s.host.window ∧
      (hostServed s = true → cmdHead t = v.toNat % 1024 ∧
        t.host.consumed = s.host.consumed ++
          (List.range (newEntries v s)).map fun i => entryAt s ((cmdHead s + i) % 512)) ∧
      (hostServed s = false → cmdHead t = cmdHead s ∧ t.host.consumed = s.host.consumed) := by
  have hx : exec (.dbCmdTailWrite v) s =
      .next (if hostServed s then consumeRing (tailMoved v s) else tailMoved v s) := by
    rw [exec_dbCmdTailWrite hup, writeCmdTail_taken hn ho, hostServed_tailMoved]
    rfl
  have htail := cmdTail_tailMoved v s
  have hhost := host_tailMoved v s
  cases hs : hostServed s with
  | true =>
    rw [hs, if_pos rfl] at hx
    exact ⟨_, hx, (cmdTail_consumeRing _).trans htail, latched_tailMoved, (congrArg HostSide.waits hhost :),
      (congrArg HostSide.window hhost :), fun _ => ⟨(cmdHead_consumeRing _).trans htail, consumed_tailMoved v s⟩, nofun⟩
  | false =>
    rw [hs, if_neg nofun] at hx
    exact ⟨_, hx, htail, latched_tailMoved, (congrArg HostSide.waits hhost :), (congrArg HostSide.window hhost :), nofun,
      fun _ => ⟨cmdHead_tailMoved v s, (congrArg HostSide.consumed hhost :)⟩⟩

theorem dbCmdTailWrite_error (hup : doorbellsUp s = true)
    (h : ¬(newEntries v s ≤ 512 ∧ outstanding s (newEntries v s) ≤ 512)) :
    exec (.dbCmdTailWrite v) s = .fault .hostError := by
  rw [exec_dbCmdTailWrite hup, writeCmdTail_none h]
  rfl

/-! ## DB_CPL_HEAD (08 R217) -/

theorem dbCplHeadWrite_taken (hup : doorbellsUp s = true)
    (h : (v.toNat % 1024 + 1024 - cplHead s) % 1024 ≤ (cplTail s + 1024 - cplHead s) % 1024) :
    ∃ t, exec (.dbCplHeadWrite v) s = .next t ∧ OnlyHost s t ∧ cplHead t = v.toNat % 1024 ∧ cplTail t = cplTail s ∧
      t.host.window = s.host.window := by
  rw [exec_dbCplHeadWrite hup, writeCplHead, get_low rfl]
  exact ⟨_, congrArg orError (if_pos h), ⟨rfl, rfl, rfl⟩,
    (get_put F.DB_CPL_HEAD.INDEX rfl _ _).trans (Nat.mod_mod _ _), rfl, rfl⟩

theorem dbCplHeadWrite_error (hup : doorbellsUp s = true)
    (h : ¬(v.toNat % 1024 + 1024 - cplHead s) % 1024 ≤ (cplTail s + 1024 - cplHead s) % 1024) :
    exec (.dbCplHeadWrite v) s = .fault .hostError := by
  rw [exec_dbCplHeadWrite hup, writeCplHead, get_low rfl]
  exact congrArg orError (if_neg h)

/-! ## DB_EVT_HEAD (08 R217, R235) -/

theorem winRead_add (s : State) (a m n : Nat) : winRead s a (m + n) = winRead s a m ++ winRead s (a + m) n := by
  induction m generalizing a with
  | zero => simp [winRead, cgetN]
  | succ m ih =>
    rw [Nat.add_right_comm]
    have := ih (a + 1)
    simp only [winRead, cgetN, List.cons_append] at this ⊢
    rw [this, Nat.add_right_comm a 1 m, Nat.add_assoc a m 1]

theorem length_winRead (s : State) (a n : Nat) : (winRead s a n).length = n := by
  induction n generalizing a with
  | zero => rfl
  | succ n ih => exact congrArg (· + 1) (ih (a + 1))

/-- Bytes read on their own are those read within a longer range. -/
theorem winRead_within (s : State) (a : Nat) {k n m : Nat} (h : k + n ≤ m) :
    winRead s (a + k) n = ((winRead s a m).drop k).take n := by
  obtain ⟨r, rfl⟩ := Nat.exists_eq_add_of_le h
  rw [Nat.add_assoc k n r, winRead_add, winRead_add, List.drop_left' (length_winRead s a k),
    List.take_left' (length_winRead s _ n)]

theorem wordBytes_ofNat (n : Nat) : wordBytes (BitVec.ofNat 32 n) = bytes4 n := by
  have hbyte (k : Nat) (hk : k ≤ 24) :
      (BitVec.ofNat 32 n).extractLsb' k 8 = BitVec.ofNat 8 (n / 2 ^ k) := by
    apply BitVec.eq_of_getLsbD_eq
    intro i hi
    rw [BitVec.getLsbD_extractLsb', BitVec.getLsbD_ofNat, BitVec.getLsbD_ofNat, Nat.testBit_div_two_pow, Nat.add_comm i k]
    simp [hi, show k + i < 32 by omega]
  simp only [wordBytes, bytes4, bytes2, hbyte _ (by decide : 0 ≤ 24), hbyte _ (by decide : 8 ≤ 24),
    hbyte _ (by decide : 16 ≤ 24), hbyte _ (by decide : 24 ≤ 24), Nat.div_div_eq_div_mul]
  simp

/-- The source and the DATA of an entry in the ring (08 Table HST-9). -/
theorem winRead_ringPut_fields (e : EvtEntry) (s : State) :
    winRead (ringPut e s) (0x30000 + 16 * (evtTail s % 4096) + 8) 2 = bytes2 (e.src % 2048) ∧
      winRead (ringPut e s) (0x30000 + 16 * (evtTail s % 4096) + 12) 4 = wordBytes e.data := by
  constructor
  · rw [winRead_within _ _ (by decide : 8 + 2 ≤ 16), winRead_ringPut]
    rfl
  · rw [winRead_within _ _ (by decide : 12 + 4 ≤ 16), winRead_ringPut]
    rfl

theorem ringResume_none (h : s.host.overflow = none) : ringResume s = s := by
  rw [ringResume, h]

/-- The entry that ends an overflow. -/
def overflowEntry (n : Nat) (s : State) : EvtEntry :=
  { time := s.time, src := 1152, seq := s.host.sysSeq % 256, data := BitVec.ofNat 32 n }

/-- The overflow over. -/
def overflowOver (s : State) : State :=
  { s with host := { s.host with overflow := none, sysSeq := (s.host.sysSeq + 1) % 256 } }

theorem ringResume_ends {n : Nat} (h : s.host.overflow = some n) (hfree : 64 ≤ 4096 - evtUsed s) :
    ringResume s = ringPut (overflowEntry n s) (overflowOver s) := by
  rw [ringResume, h]
  exact if_pos hfree

theorem ringResume_lasts {n : Nat} (h : s.host.overflow = some n) (hfree : 4096 - evtUsed s < 64) : ringResume s = s := by
  rw [ringResume, h]
  exact if_neg (by omega)

theorem ringResume_host (s : State) : OnlyHost s (ringResume s) ∧ evtHead (ringResume s) = evtHead s := by
  cases h : s.host.overflow with
  | none =>
    rw [ringResume_none h]
    exact ⟨⟨rfl, rfl, rfl⟩, rfl⟩
  | some n =>
    by_cases hfree : 64 ≤ 4096 - evtUsed s
    · rw [ringResume_ends h hfree]
      obtain ⟨-, -, -, honly⟩ := ringPut_host (overflowEntry n s) (overflowOver s)
      refine ⟨onlyHost_trans ?_ honly, evtHead_ringPut _ _⟩
      exact ⟨rfl, rfl, rfl⟩
    · rw [ringResume_lasts h (by omega)]
      exact ⟨⟨rfl, rfl, rfl⟩, rfl⟩

/-- DB_EVT_HEAD moved. -/
def evtHeadMoved (v : Word) (s : State) : State :=
  modDb (fun d => { d with evtHead := F.DB_EVT_HEAD.INDEX.put (v.toNat % 8192) 0 }) s

theorem evtHead_evtHeadMoved (v : Word) (s : State) : evtHead (evtHeadMoved v s) = v.toNat % 8192 :=
  (get_put F.DB_EVT_HEAD.INDEX rfl _ _).trans (Nat.mod_mod _ _)

theorem evtUsed_evtHeadMoved (v : Word) (s : State) :
    evtUsed (evtHeadMoved v s) = (evtTail s + 8192 - v.toNat % 8192) % 8192 := by
  rw [evtUsed, evtHead_evtHeadMoved]
  rfl

theorem dbEvtHeadWrite_taken (hup : doorbellsUp s = true)
    (h : (v.toNat % 8192 + 8192 - evtHead s) % 8192 ≤ evtUsed s) :
    exec (.dbEvtHeadWrite v) s = .next (ringResume (evtHeadMoved v s)) := by
  rw [exec_dbEvtHeadWrite hup, writeEvtHead, get_low rfl]
  exact congrArg orError (if_pos h)

theorem dbEvtHeadWrite_error (hup : doorbellsUp s = true)
    (h : ¬(v.toNat % 8192 + 8192 - evtHead s) % 8192 ≤ evtUsed s) :
    exec (.dbEvtHeadWrite v) s = .fault .hostError := by
  rw [exec_dbEvtHeadWrite hup, writeEvtHead, get_low rfl]
  exact congrArg orError (if_neg h)

/-- An overflow ends with its entry when 64 entries are free, and lasts until then. -/
theorem evtHeadMoved_overflow {n : Nat} (h : s.host.overflow = some n) :
    let t := ringResume (evtHeadMoved v s)
    let free := 4096 - (evtTail s + 8192 - v.toNat % 8192) % 8192
    (64 ≤ free → t.host.overflow = none ∧ evtTail t = (evtTail s + 1) % 8192 ∧
      winRead t (0x30000 + 16 * (evtTail s % 4096) + 8) 2 = bytes2 1152 ∧
      winRead t (0x30000 + 16 * (evtTail s % 4096) + 12) 4 = bytes4 n) ∧
    (free < 64 → t.host.overflow = some n ∧ evtTail t = evtTail s) := by
  have hover : (evtHeadMoved v s).host.overflow = some n := h
  intro t free
  constructor
  · intro hfree
    have ht : t = ringPut (overflowEntry n (evtHeadMoved v s)) (overflowOver (evtHeadMoved v s)) :=
      ringResume_ends hover (by rw [evtUsed_evtHeadMoved]; exact hfree)
    obtain ⟨hsrc, hdata⟩ := winRead_ringPut_fields (overflowEntry n (evtHeadMoved v s)) (overflowOver (evtHeadMoved v s))
    rw [ht]
    exact ⟨rfl, evtTail_ringPut _ _, hsrc, hdata.trans (wordBytes_ofNat n)⟩
  · intro hfree
    have ht : t = evtHeadMoved v s := ringResume_lasts hover (by rw [evtUsed_evtHeadMoved]; exact hfree)
    rw [ht]
    exact ⟨h, rfl⟩

/-! ## DB_TEL_ROFF (07 R205) -/

theorem dbTelRoffWrite_taken (hup : doorbellsUp s = true) (h : onRecord s (v.toNat % 524288) = true) :
    ∃ t, exec (.dbTelRoffWrite v) s = .next t ∧ { t with tel := s.tel } = s ∧ telRoff t = v.toNat % 524288 ∧
      telWoff t = telWoff s := by
  rw [exec_dbTelRoffWrite hup, writeTelRoff, get_low rfl]
  exact ⟨_, congrArg orError (if_pos h), rfl, (get_put F.TEL_ROFF.OFFSET rfl _ _).trans (Nat.mod_mod _ _), rfl⟩

theorem dbTelRoffWrite_error (hup : doorbellsUp s = true) (h : ¬onRecord s (v.toNat % 524288) = true) :
    exec (.dbTelRoffWrite v) s = .fault .hostError := by
  rw [exec_dbTelRoffWrite hup, writeTelRoff, get_low rfl]
  exact congrArg orError (if_neg h)

/-! ## DB_VPENDLO and DB_VPENDHI (08 R233) -/

/-- A write of DB_VPENDHI, or of DB_VPENDLO, names a vector. -/
abbrev VectorNamed (hi : Bool) (v : Word) (k : Nat) : Prop := (32 ≤ k) = (hi = true) ∧ bitOf v (k % 32) = true

theorem bitOf_cleared (w v : Word) (n : Nat) (hn : n < 32) : bitOf (w &&& ~~~v) n = (bitOf w n && !bitOf v n) := by
  simp [bitOf, hn]

theorem vecPending_clearVectors (hi : Bool) (v : Word) (s : State) (k : Fin 64) :
    vecPending (clearVectors hi v s) k.val = (vecPending s k.val && !decide (VectorNamed hi v k.val)) := by
  by_cases hk : k.val < 32
  · have hmod : k.val % 32 = k.val := Nat.mod_eq_of_lt hk
    cases hi <;> simp [vecPending, clearVectors, modDb, VectorNamed, hk, hmod, bitOf_cleared]
  · have hmod : k.val % 32 = k.val - 32 := by omega
    have hlt : k.val - 32 < 32 := by omega
    have hge : 32 ≤ k.val := by omega
    cases hi <;> simp [vecPending, clearVectors, modDb, VectorNamed, hk, hge, hmod, bitOf_cleared _ _ _ hlt]

theorem mem_ripe_clearVectors (hi : Bool) (v : Word) (s : State) (k : Fin 64) :
    k.val ∈ (clearVectors hi v s).host.ripe ↔ k.val ∈ s.host.ripe ∧ ¬VectorNamed hi v k.val := by
  have hlt := k.isLt
  by_cases hk : k.val < 32
  · have hmod : k.val % 32 = k.val := Nat.mod_eq_of_lt hk
    have hge : ¬32 ≤ k.val := by omega
    cases hi <;> simp [clearVectors, modDb, VectorNamed, hk, hge, hmod]
  · have hmod : k.val % 32 = k.val - 32 := by omega
    have hge : 32 ≤ k.val := by omega
    have hnot : ¬64 ≤ k.val := by omega
    cases hi <;> simp [clearVectors, modDb, VectorNamed, hk, hge, hmod, hnot]

theorem clearVectors_host (hi : Bool) (v : Word) (s : State) : OnlyHost s (clearVectors hi v s) := ⟨rfl, rfl, rfl⟩

/-! ## ALERT_HOLDOFF_EXPIRY (08 R234) -/

/-- A vector that has been pending for its hold-off drives its pin where it is enabled. -/
theorem alertLow_of_ripe {k : Nat} (hr : k ∈ s.host.ripe) (hp : vecPending s k = true) (he : vecEnabled s k = true) :
    alertLow s (k / 16) = true :=
  List.any_eq_true.mpr ⟨k, hr, by simp [hp, he]⟩

theorem alertHoldoffExpiry_moves (k : Fin 64) (s : State) :
    ∃ t, exec (.alertHoldoffExpiry k) s = .next t ∧ OnlyHost s t ∧
      (vecPending s k.val = true → vecEnabled s k.val = true → alertLow t (k.val / 16) = true) ∧
      (vecPending s k.val = false → t = s) := by
  have hx : exec (.alertHoldoffExpiry k) s = .next (if vecPending s k.val && !s.host.ripe.contains k.val then
      { s with host := { s.host with ripe := k.val :: s.host.ripe } } else s) := rfl
  refine ⟨_, hx, ?_⟩
  by_cases hp : vecPending s k.val = true
  · by_cases hr : k.val ∈ s.host.ripe
    · rw [if_neg (by simp [hr])]
      exact ⟨⟨rfl, rfl, rfl⟩, alertLow_of_ripe hr, fun _ => rfl⟩
    · rw [if_pos (by simp [hp, hr])]
      refine ⟨⟨rfl, rfl, rfl⟩, fun _ he => ?_, fun hn => absurd (hp.symm.trans hn) nofun⟩
      exact alertLow_of_ripe (s := { s with host := { s.host with ripe := k.val :: s.host.ripe } })
        List.mem_cons_self hp he
  · rw [if_neg (by simp [hp])]
    exact ⟨⟨rfl, rfl, rfl⟩, fun h => absurd h hp, fun _ => rfl⟩

end

/-! ## The obligation -/

/-- Settles O22, doorbell by doorbell: within its ring the index moves, beyond it the write is a host error. -/
theorem doorbellsMoveForward : Obligations.DoorbellsMoveForward := by
  unfold Obligations.DoorbellsMoveForward
  refine fun s v => ⟨fun hdown => doorbells_down hdown v, fun hup => ⟨?_, ?_, ?_, ?_, fun hi => ?_⟩,
    fun k => alertHoldoffExpiry_moves k s⟩
  · intro n
    split
    next h => exact dbCmdTailWrite_taken hup h.1 h.2
    next h => exact dbCmdTailWrite_error hup h
  · split
    next h => exact dbCplHeadWrite_taken hup h
    next h => exact dbCplHeadWrite_error hup h
  · split
    next h =>
      obtain ⟨honly, hhead⟩ := ringResume_host (evtHeadMoved v s)
      refine ⟨_, dbEvtHeadWrite_taken hup h, onlyHost_trans ?_ honly, hhead.trans (evtHead_evtHeadMoved v s),
        fun n hn => evtHeadMoved_overflow hn⟩
      exact ⟨rfl, rfl, rfl⟩
    next h => exact dbEvtHeadWrite_error hup h
  · split
    next h => exact dbTelRoffWrite_taken hup h
    next h => exact dbTelRoffWrite_error hup h
  · refine ⟨_, exec_dbVpendClear hup hi v, clearVectors_host hi v s, fun k => ?_⟩
    intro hit
    have hpend := vecPending_clearVectors hi v s k
    have hripe := mem_ripe_clearVectors hi v s k
    refine ⟨fun h => ?_, fun h => ?_⟩
    · exact ⟨by simpa [show VectorNamed hi v k.val from h] using hpend, fun hm => (hripe.mp hm).2 h⟩
    · exact ⟨by simpa [show ¬VectorNamed hi v k.val from h] using hpend, hripe.trans (and_iff_left h)⟩

end Sys2Proof.Machine
